-- ==== Sys2Proof/Word.lean ====
section
/-! DEFINITION. The word and byte types of the FN9648 (00 R14: memory, control space and Tabbin are little-endian,
addresses are byte addresses of 32 bits). -/

namespace Sys2Proof

/-- A 32-bit register word (02 R37). -/
abbrev Word := BitVec 32

/-- One byte of memory. -/
abbrev Byte := BitVec 8

/-- Bits `hi..lo` of a word as a number (00 R14: `[msb:lsb]`, bit 0 the least significant). -/
def Word.field (w : Word) (hi lo : Nat) : Nat :=
  (w.toNat >>> lo) % 2 ^ (hi + 1 - lo)

/-- Bit `i` of a word. -/
def Word.bit (w : Word) (i : Nat) : Bool := w.getLsbD i

/-- The word with bits `hi..lo` replaced by `v` modulo the field's width. -/
def Word.setField (w : Word) (hi lo v : Nat) : Word :=
  let m := (2 ^ (hi + 1 - lo) - 1) <<< lo
  (w &&& BitVec.ofNat 32 (2 ^ 32 - 1 - m % 2 ^ 32)) ||| BitVec.ofNat 32 ((v % 2 ^ (hi + 1 - lo)) <<< lo)

/-- The word with bit `i` set or cleared. -/
def Word.setBit (w : Word) (i : Nat) (b : Bool) : Word := w.setField i i (if b then 1 else 0)

/-- The word holding the integer `x` modulo 2^32. -/
def Word.ofInt (x : Int) : Word := BitVec.ofInt 32 x

end Sys2Proof
end

