-- ==== Sys2Proof/Config.lean ====
section
/-! DEFINITION. What an implementation fixes and the free values: values the manual does not give. Each is a constant
without a body, so nothing can be proved about the number it stands for. -/

namespace Sys2Proof.Config

/-- The true random number generator of Heartwood (13 R441, R461, R464): the n-th value it delivers. Free value, log entry 3. -/
opaque trng : Nat → Nat

/-- The claim code's ten ASCII digits (13 R442: derived from DUS at manufacture, printed on a card). Free value, log entry 4. -/
opaque claimDigits : List Nat

/-- The device's unique identifier (19 R603: OTP value). Free value, log entry 4. -/
opaque uid : BitVec 64

/-- RELEASE, TWINLEVEL, SVN and the SHA-256 of the firmware in slot k at manufacture (13 R445, R448). Log entry 4. -/
opaque firmware : Nat → Nat × Nat × Nat × Nat

/-- SHA-384 hash numbers of Melfer's public keys that may sign firmware (13 R443: OTP). Log entry 4. -/
opaque melferKeys : List Nat

/-- The public key of KA, KE and KT as numbers (13 R441: generated from the TRNG). Log entry 4. -/
opaque publicKey : Nat → Nat

/-- A ciphertext with its tag, made by Heartwood (KEYSET of 06 R223): a number for a key, a nonce, the additional data and a plain
value. The manual names AES-256-GCM; the number itself is left free. Log entry 5. -/
opaque sealed : Nat → Nat → Nat → Nat → Nat

/-- A signature made by Heartwood over bytes (quotes, 13 R451). The manual names ECDSA P-384; its nonce is random. Log entry 5. -/
opaque sign : Nat → List Nat → List Nat

/-- A byte of the device state area of MRAM for the headers of the snapshot copies (15 R521 gives no place within the area). Log entry 197. -/
opaque stateAreaByte : Nat → List Nat → BitVec 8

/-- DUS, fused at manufacture, readable only by Heartwood's core (13 R441). Log entry 203. -/
opaque dus : Nat

/-- The private keys generated at manufacture: 0 KA, 1 KE (13 R441). Log entry 203. -/
opaque madeKey : Nat → Nat

/-- HKDF-SHA-384 over secrets with an info string (13 R441): keys that never leave Heartwood. Log entry 203. -/
opaque hkdf384 : List Nat → String → Nat

/-- The shared secret of X25519 from one's own secret and the partner's share, and the share of a secret (13 R452). Log entry 203. -/
opaque x25519 : Nat → Nat → Nat

/-- The public share of an X25519 secret (13 R452). Log entry 203. -/
opaque x25519Share : Nat → Nat

/-- Content of a RING response buffer byte between issue and completion (02 R74: undefined). Log entry 6. -/
opaque bufferByte : Nat → BitVec 8

/-- Cycles that the dispatcher of a pair takes before a segment, of the 4,000 reserved for it (03 R92). Free value, log entry 189. -/
opaque dispatchCycles : Nat → Nat

/-- The 64-bit signature over all Layer 0 counters (07 R242): the manual does not give its function. Free value, log entry 190. -/
opaque counterSig : List Nat → Nat

/-- A free word for results the manual does not state. Log entry 6. -/
opaque freeWord : Nat → BitVec 32

/-- A free integer for results the manual does not state. Log entry 6. -/
opaque freeInt : Nat → Int

end Sys2Proof.Config
end

