-- ==== Sys2Proof/Machine/Map.lean ====
section
/-! DEFINITION. Sparse tables: association lists with strictly rising keys in which no entry equals what an unlisted key
reads as. One form serves memory, the control-space registers and every indexed unit (log entry 1). -/

namespace Sys2Proof.Machine

/-- A sparse table from numbers to values of α. -/
abbrev FMap (α : Type) := List (Nat × α)

/-- What key `k` holds; an unlisted key reads `d k`. -/
def FMap.get {α : Type} (d : Nat → α) (m : FMap α) (k : Nat) : α :=
  match m with
  | [] => d k
  | (j, v) :: rest => if j = k then v else if k < j then d k else FMap.get d rest k

/-- The table with key `k` removed; what follows it keeps only keys above `k`, as the canonical form has it. -/
def FMap.del {α : Type} (m : FMap α) (k : Nat) : FMap α :=
  match m with
  | [] => []
  | (j, v) :: rest => if j = k then rest.filter (fun p => decide (k < p.1)) else if k < j then (j, v) :: rest else (j, v) :: FMap.del rest k

/-- The table with an entry for key `k` placed in order. -/
def FMap.put {α : Type} (m : FMap α) (k : Nat) (x : α) : FMap α :=
  match m with
  | [] => [(k, x)]
  | (j, v) :: rest =>
    if j = k then (k, x) :: rest else if k < j then (k, x) :: (j, v) :: rest else (j, v) :: FMap.put rest k x

/-- The table after writing `x` at `k`: an entry equal to what an unlisted key reads as is not kept. -/
def FMap.set {α : Type} [DecidableEq α] (d : Nat → α) (m : FMap α) (k : Nat) (x : α) : FMap α :=
  if x = d k then FMap.del m k else FMap.put m k x

/-- The table with the value at `k` changed by `f`. -/
def FMap.upd {α : Type} [DecidableEq α] (d : Nat → α) (m : FMap α) (k : Nat) (f : α → α) : FMap α :=
  FMap.set d m k (f (FMap.get d m k))

/-- Keys strictly rising from above `lo`, and no entry equal to the default. -/
def FMap.wfFrom {α : Type} [DecidableEq α] (d : Nat → α) (lo : Nat) (m : FMap α) : Bool :=
  match m with
  | [] => true
  | (j, v) :: rest => decide (lo ≤ j) && decide (v ≠ d j) && FMap.wfFrom d (j + 1) rest

/-- The canonical form. -/
def FMap.wf {α : Type} [DecidableEq α] (d : Nat → α) (m : FMap α) : Bool := FMap.wfFrom d 0 m

/-- The first element that satisfies `p`, with its index. -/
def findIdxFrom {α : Type} (p : α → Bool) (i : Nat) (l : List α) : Option (Nat × α) :=
  match l with
  | [] => none
  | x :: rest => if p x then some (i, x) else findIdxFrom p (i + 1) rest

/-- A list with element `i` replaced by `f` of it; an index past the end changes nothing. -/
def updAt {α : Type} (l : List α) (i : Nat) (f : α → α) : List α :=
  match l, i with
  | [], _ => []
  | x :: rest, 0 => f x :: rest
  | x :: rest, i + 1 => x :: updAt rest i f

/-- Numbers `a, a+1, …` of length `n`. -/
def span (a n : Nat) : List Nat := (List.range n).map (a + ·)

/-- Fold an endomorphism over a list, left to right. -/
def foldOver {α σ : Type} (l : List α) (f : α → σ → σ) (s : σ) : σ := l.foldl (fun s x => f x s) s

/-- The bits of `m` that are set, below `n`, in rising order. -/
def bitsOf (n m : Nat) : List Nat := (List.range n).filter (fun i => m.testBit i)

/-- A mask with the bits of the list set. -/
def maskOf (l : List Nat) : Nat := l.foldl (fun m i => m ||| (1 <<< i)) 0

/-- `b` as a number. -/
def b2n (b : Bool) : Nat := if b then 1 else 0

end Sys2Proof.Machine
end

