-- ==== Sys2Proof/Machine/Flags.lean ====
section
/-! DEFINITION. Rounding and saturation of the fixed-point arithmetic (02 R42-R45, 08 R266-R267). Every operation works on
exact integers and narrows at the end. -/

namespace Sys2Proof.Machine

/-- `rnd(p, s)` of 02 R43: `p / 2^s` rounded half to even. For s = 0 it is `p`. -/
def rnd (p : Int) (s : Nat) : Int :=
  if s = 0 then p else
  let q := p / (2 ^ s : Int)
  let r := p - q * 2 ^ s
  let h : Int := 2 ^ (s - 1)
  if r > h ∨ (r = h ∧ q % 2 ≠ 0) then q + 1 else q

/-- Half-even rounding of the exact quotient `n / d`, for d ≠ 0. -/
def rndDiv (n d : Int) : Int :=
  let (n, d) := if d < 0 then (-n, -d) else (n, d)
  let q := n / d
  let r2 := 2 * (n - q * d)
  if r2 > d ∨ (r2 = d ∧ q % 2 ≠ 0) then q + 1 else q

/-- Largest value of a signed format of `b` bits. -/
def smax (b : Nat) : Int := 2 ^ (b - 1) - 1

/-- Smallest value of a signed format of `b` bits. -/
def smin (b : Nat) : Int := -(2 ^ (b - 1) : Int)

/-- The value of `sat(x)` of 02 R43. -/
def satVal (x : Int) : Int :=
  if x > smax 32 then smax 32 else if x < smin 32 then smin 32 else x

/-- Whether `sat(x)` clamps, which sets sat_ind (02 R44). -/
def satClamps (x : Int) : Bool := decide (x > smax 32) || decide (x < smin 32)

/-- Clamp between two bounds. -/
def clampI (lo hi x : Int) : Int := if x < lo then lo else if x > hi then hi else x

/-- 08 R267: exact quotient `n / d`, rounded half to even and saturated to 32 bits signed; division by zero yields the largest
magnitude signed as the dividend, and 0 for a zero dividend. -/
def qdiv (n d : Int) : Int :=
  if d = 0 then (if n > 0 then smax 32 else if n < 0 then smin 32 else 0) else satVal (rndDiv n d)

/-- Product of two fixed-point numbers narrowed by `s` bits and saturated (08 R267). -/
def qmul (a b : Int) (s : Nat) : Int := satVal (rnd (a * b) s)

/-- Saturating sum (08 R267). -/
def qadd (a b : Int) : Int := satVal (a + b)

/-- The signed value of the low 16 bits. -/
def sext16 (n : Nat) : Int := if n % 65536 < 32768 then (n % 65536 : Nat) else ((n % 65536 : Nat) : Int) - 65536

/-- The signed value of the low `b` bits. -/
def sextB (b n : Nat) : Int := if n % 2 ^ b < 2 ^ (b - 1) then (n % 2 ^ b : Nat) else ((n % 2 ^ b : Nat) : Int) - 2 ^ b

/-- An integer as a number modulo 2^b. -/
def toU (b : Nat) (x : Int) : Nat := (x % (2 ^ b : Int)).toNat

/-- Scan number `now` is `due` or a later one; scan numbers wrap at 2^32 (01 R18). -/
def reached (now due : Nat) : Bool := decide ((now + 2 ^ 32 - due) % 2 ^ 32 < 2 ^ 31)

/-- Saturating increment of a 32-bit counter (15 R528-R529). -/
def satInc (w : BitVec 32) : BitVec 32 := if w = 0xFFFFFFFF#32 then w else w + 1#32

end Sys2Proof.Machine
end

