-- ==== Sys2Proof/Parts.lean ====
section
/-! DEFINITION. The plain data that commands and state share: frames, signed images as the device holds them, and what one twin sends
the other in a resynchronisation (12 R430). -/

namespace Sys2Proof

/-- A CAN frame as received (14 R473-R474). -/
structure CanFrame where
  ide : Bool
  fdf : Bool
  brs : Bool
  esi : Bool
  rtr : Bool
  ident : Nat
  dlc : Nat
  data : List Word
  t : Nat
deriving DecidableEq, Repr

/-- A PCS request (14 R482): SEQ, direction, withdraw, PREQ, duration, and whether a reserved bit or byte is set. -/
structure PcsReq where
  seq : Nat
  discharge : Bool
  withdraw : Bool
  preq : Nat
  dur : Nat
  reserved : Bool
deriving DecidableEq, Repr

end Sys2Proof

namespace Sys2Proof.Machine
open Sys2Proof

/-- A window of a task (02 R46). -/
structure Win where
  base : Nat := 0
  len : Nat := 0
  r : Bool := false
  w : Bool := false
  priv : Bool := false
deriving DecidableEq, Repr

/-- A declared output range (03 R95). -/
structure OutRange where
  cls : Nat
  first : Nat
  last : Nat
deriving DecidableEq, Repr

/-- A task-table entry (03 R95). `span` is the entry point and length of the task's code in words. -/
structure TaskEnt where
  en : Bool := false
  cls : Nat := 0
  splitOk : Bool := false
  fact : Nat := 0
  migr : Bool := false
  segs : Nat := 0
  fzones : Nat := 0
  period : Nat := 0
  offset : Nat := 0
  sdivm1 : Nat := 0
  sphase : Nat := 0
  entry : Nat := 0
  codeLen : Nat := 0
  budgets : List Nat := []
  tags : Nat := 0
  ports : Nat := 0
  outs : List OutRange := []
  wins : List Win := []
deriving DecidableEq, Repr

/-- A program set (03 R102): version, level, period T, task table by entry, code of both pairs, initial data and its place,
and whether each pair has a verified migration (02 R80). -/
structure Prog where
  ver : Nat := 0
  level : Nat := 1
  t : Nat := 10
  tasks : FMap TaskEnt := []
  code0 : List Nat := []
  code1 : List Nat := []
  data : List Nat := []
  dest : Nat := 0
  migrates : List Nat := []
deriving DecidableEq, Repr

/-- An envelope check record (07 R238). -/
structure EnvRec where
  thr : Int := 0
  hyst : Nat := 0
  en : Bool := false
  invact : Bool := false
  blockScope : Bool := false
  cap : Nat := 1
  lim : Nat := 1
  icond : Int := 0
deriving DecidableEq, Repr

/-- A chemistry set (08 R280). Grids are flat lists, entry (i, k) at 16 i + k. -/
structure Chem where
  setid : Nat := 0
  qnom : Int := 0
  eta : Int := 0
  gamma : Int := 0
  taxis : List Int := []
  qz : Int := 0
  qv : Int := 0
  qh : Int := 0
  rv : Int := 0
  pz0 : Int := 0
  pv0 : Int := 0
  ph0 : Int := 0
  gate : Int := 0
  zmin : Int := 0
  zmax : Int := 0
  qzfault : Int := 0
  nrejmax : Nat := 1
  ocv : List Int := []
  rser : List Int := []
  ra : List Int := []
  ca : List Int := []
  rb : List Int := []
  cb : List Int := []
  m : List Int := []
deriving DecidableEq, Repr

/-- A cell slot (08 R275-R276, 09 R313). -/
structure Slot where
  z : Int := 0
  va : Int := 0
  vb : Int := 0
  h : Int := 0
  p : List Int := []
  fq : Int := 0
  fr : Int := 0
  qeff : Int := 0
  vhat : Int := 0
  innov : Int := 0
  icell : Int := 0
  set : Nat := 0
  tcell : Int := 0
  lims : List Int := []
  flags : Word := 0
  scan : Nat := 0
  hf0 : Int := 0
  hf1 : Int := 0
  hf2 : Word := 0
deriving DecidableEq, Repr

/-- What the device keeps per string (09 R310-R312, R317, R327): coulomb counters of 1 µC in the two directions, their values
at the last HEALTH run, ZC, capture state and marks. -/
structure StrSt where
  qch : Int := 0
  qds : Int := 0
  qch0 : Int := 0
  qds0 : Int := 0
  lastI : Int := 0
  zc : Int := 0
  zcOk : Bool := false
  capdis : Bool := false
  armed : Bool := false
  frozen : Bool := false
  reading : Bool := false
  rot : Nat := 0
  capT : Option Nat := none
  capScan : Nat := 0
  frz : Nat := 0
  derated : Bool := false
  limZero : Nat := 0
  initEvt : Bool := false
  ibad : Bool := false
  bleedOff : Bool := false
  discon : Bool := false
deriving DecidableEq, Repr

/-- A PCS request in force (09 R329): PREQ in W, end of its duration in device time (none: continuous), scan from which it
applies. -/
structure PcsForce where
  preq : Nat
  until_ : Option Nat
  fromScan : Nat
deriving DecidableEq, Repr

/-- A block report record (09 R332). -/
structure BlkRec where
  scan : Nat := 0
  flags : Nat := 0
  socf : Int := 0
  socm : Int := 0
  socr : Int := 0
  zmean : Int := 0
  qdis : Int := 0
  qchg : Int := 0
  edis : Nat := 0
  echg : Nat := 0
  ilim : List Nat := []
  plim : List Nat := []
  icg : Nat := 0
  idg : Nat := 0
  pcg : Nat := 0
  pdg : Nat := 0
  remC : Nat := 0
  remD : Nat := 0
  sohq : Int := 0
  sohr : Int := 0
  counts : Nat := 0
deriving DecidableEq, Repr

/-- A string report record (09 R333). -/
structure StrRep where
  scan : Nat := 0
  flags : Nat := 0
  zs : Int := 0
  zc : Int := 0
  qdis : Int := 0
  qchg : Int := 0
  lims : List Nat := []
  fq : Int := 0
  fr : Int := 0
  cap : Nat := 0
deriving DecidableEq, Repr

/-- Reporting and grants (09). `pcsQ` holds accepted PCS requests with the scan from which they apply (R331). -/
structure RepSt where
  str : FMap StrSt := []
  socm : Int := 0
  socmOn : Bool := false
  restT : Option Nat := none
  tracking : Bool := false
  relFrel : Option Nat := none
  relUntil : Nat := 0
  chg : Option PcsForce := none
  dis : Option PcsForce := none
  pcsQ : List (Nat × PcsReq) := []
  blk0 : BlkRec := {}
  blk1 : BlkRec := {}
  blk2 : BlkRec := {}
  str0 : FMap StrRep := []
  str1 : FMap StrRep := []
  str2 : FMap StrRep := []
  openZero : Bool := false
  cutC : Bool := false
  cutD : Bool := false
  noString : Bool := false
  socEnd : Nat := 3
  partner : List Nat := []
  healthLim : FMap Nat := []
deriving DecidableEq, Repr

/-- The running block sequence (10 R345-R356): code (0 none), step, tag, source, FSP session and SEQ of the requester, request
those that re-targeted it, ramp reference (in 1/50,000 of q16) and rate (q16 per second), ramp time in ms, entry times, whether it
stops after step 4, holds there, or waits for the current, what a shutdown leads to, and whether its step S3 waits for the negative contact. -/
structure BlkSeq where
  code : Nat := 0
  step : Nat := 0
  tag : Nat := 0
  src : Nat := 0
  alsoTag : List (Nat × Nat × Nat) := []
  r : Int := 0
  s : Int := 0
  rampMs : Nat := 0
  stepT : Nat := 0
  pre : Bool := false
  hold : Bool := false
  shutVaux : Bool := false
  shutStore : Bool := false
  shutReset : Bool := false
  waiting : Bool := false
  finish : Bool := false
  negWait : Bool := false
deriving DecidableEq, Repr

/-- A string sequence (10 R360-R361). -/
structure StrSeq where
  code : Nat := 0
  step : Nat := 0
  tag : Nat := 0
  src : Nat := 0
  stepT : Nat := 0
  sent : Option Nat := none
deriving DecidableEq, Repr

/-- Configuration of a control loop (10 R362). -/
structure LoopCfg where
  en : Bool := false
  per : Nat := 1
  ph : Nat := 0
  src : Nat := 9
  sink : Nat := 0
  sinkIx : Nat := 0
  fpwm : Nat := 1
  b0 : Int := 0
  b1 : Int := 0
  b2 : Int := 0
  a1 : Int := 0
  a2 : Int := 0
  umin : Int := 0
  umax : Int := 0
  felim : Int := 0
  fehyst : Int := 0
  fetime : Nat := 1
  feact : Nat := 0
deriving DecidableEq, Repr

/-- A loop of the pre-charge cascade (10 R352): every 20 µs, whatever the topology says of its period. -/
def LoopCfg.cascade (c : LoopCfg) : LoopCfg := { c with en := true, per := 2, ph := c.ph % 2 }

/-- A session (13 R457, 14 R488-R495). `owner` marks a session of R607, `unclaimed` one of an unclaimed device, `tried`
that it has made its CLAIM (R442); `recs` counts records under the present keys and `rekey` tells that the device asks for a KeyUpdate (R458). -/
structure Session where
  slot : Nat := 0
  owner : Bool := false
  unclaimed : Bool := false
  ownAddr : Bool := false
  ver : Nat := 0
  e : Nat := 1
  statuses : List (Nat × Nat) := []
  seqOut : Nat := 1
  subs : FMap Nat := []
  due : FMap Nat := []
  notify : Bool := false
  streamQ : List (Nat × List Nat) := []
  gap : FMap Nat := []
  notifyQ : List (Nat × Nat × Nat) := []
  notifyDrop : Nat := 0
  idle : Nat := 0
  sent : List (List Nat) := []
  dropT : Option Nat := none
  keyGen : Nat := 0
  secret : Nat := 0
  acked : Nat × Nat := (0, 0)
  recs : Nat := 0
  rekey : Bool := false
  tried : Bool := false
deriving DecidableEq, Repr

/-- A CAN message object (14 R473, R476-R477). kind 0 unused, 1 transmit, 2 receive; `ident` is the configured identifier and `rid`
that of the frame shown. -/
structure CanObj where
  kind : Nat := 0
  ide : Bool := false
  fdf : Bool := false
  brs : Bool := false
  ident : Nat := 0
  rid : Nat := 0
  mask : Nat := 0
  tstamp : Nat := 0
  mtch : Nat := 0
  txs : Nat := 0
  esi : Bool := false
  rtr : Bool := false
  dlc : Nat := 0
  data : List Word := []
  staged : List Word := []
  pend : Option (Nat × List Word) := none
  reqT : Nat := 0
  unread : Bool := false
  lock : Option Nat := none
  shadow : Option CanFrame := none
deriving DecidableEq, Repr

/-- A CAN controller beyond its registers (14 R473-R480). Filters: (IDE, identifier, mask, action 0, 1 or 2 reject).
`waiting` holds frames until tasks may see them, `seen` those a twin without authority received itself (R475). -/
structure CanSt where
  objs : FMap CanObj := []
  filters : List (Bool × Nat × Nat × Nat) := []
  dflt : Nat := 2
  fifo0 : List CanFrame := []
  fifo1 : List CanFrame := []
  match0 : List Nat := []
  match1 : List Nat := []
  lock0 : Option Nat := none
  lock1 : Option Nat := none
  waiting : List (CanFrame × Nat) := []
  seen : List (CanFrame × Nat) := []
  ropMode : Bool := false
deriving DecidableEq, Repr

/-- What the topology gives a ring (04 R151). -/
structure RingCfg where
  en : Bool := false
  lm1 : Nat := 0
  vcap : Nat := 3
  zones : Nat := 0
  envSet : Nat := 0
  chemSet : Nat := 0
deriving DecidableEq, Repr

/-- Reporting parameters of a chemistry set (09 R303). -/
structure SetRep where
  vchmax : Int := 0
  vdsmin : Int := 0
  vshut : Int := 0
  icmax : List Int := []
  idmax : List Int := []
  zlo : Int := 0
  zhi : Int := 1073741824
deriving DecidableEq, Repr

/-- A topology in force (13 R447, 14 R470): the parameters of the tables those rules name. `tempProfiles` assigns a profile to TEMP input i of
ring n, hop h at 8 × (64 n + h − 1) + i − 1. Times in ms unless the table's unit
says otherwise, currents in the table's unit. -/
structure Topo where
  ver : Nat := 0
  twin : Bool := false
  rings : FMap RingCfg := []
  blkCur : Nat := 0
  partners : List (Nat × Nat) := []
  plausLim : Int := 0
  fullScale : List Int := []
  calVar : Int := 0
  isoCycle : Nat := 4
  hvUse : List Bool := []
  ntcUse : List Bool := []
  diodeUse : List Bool := []
  profiles : List (List Int) := []
  tempProfiles : FMap Nat := []
  scale : List (Int × Int) := []
  ntcProfile : List Nat := []
  cellTemp : List (Nat × Nat) := []
  balmode : Nat := 0
  rbal : Nat := 50
  rsh : Nat := 0
  qdead : Nat := 10
  balper : Nat := 60
  tbal : Nat := 55
  lossto : Nat := 500
  inen : Word := 0x00FFFFFF
  aaf : Word := 1
  diagcfg : Word := 0x1E000064
  blkz : Nat := 1
  safez : Nat := 0
  gzone : Nat := 0
  isotrip : Bool := false
  gmarg : Nat := 0
  gabs : Nat := 1
  ghyst : Nat := 0
  glim : Nat := 1
  gcap : Nat := 1
  ggrace : Nat := 1000
  cntRc : List (Nat × Bool) := []
  routes : List (Nat × Nat) := []
  fres : Nat := 100
  ksh : Nat := 90
  irest : Nat := 20
  sets : List SetRep := []
  dzcd : Int := 53687091
  pzobs : Int := 27487791
  dzobs : Int := 322122547
  agemax : Nat := 48
  gq : Nat := 4
  gqr : Nat := 1
  gr : Nat := 10
  gri : Nat := 2
  irmin : Nat := 30
  impint : Nat := 1440
  imparm : Nat := 30
  resmax : Nat := 5
  pcen : Bool := true
  vbusmin : Nat := 50
  tpull : Nat := 100
  econ : Nat := 50
  tclose : Nat := 100
  topen : Nat := 100
  iopen : Nat := 5
  isopen : Nat := 4
  tiopen : Nat := 1000
  tramp : Nat := 2000
  tlink : Nat := 10
  thold : Nat := 60
  clink : Nat := 0
  ipcmax : Nat := 20
  dmax : Nat := 95
  fpwm : Nat := 125
  deadt : Nat := 150
  tspre : Nat := 200
  vsmatch : Nat := 10
  tvsd : Nat := 100
  loops : List LoopCfg := []
  lswCfg : List Word := []
  lhMap : List (Option Nat) := []
  lhWdt : Nat := 20
  twinLims : List Int := []
  twatch : Nat := 30
  cans : List CanSt := []
  canNbt : List Word := []
  canDbt : List Word := []
  canRop : List Bool := []
  dispCtl : Nat := 0
  pbase : Nat := 0
  pmax : Nat := 2
  pdiv : Nat := 1
  pto : Nat := 1000
  pform : Nat := 0
  fspmax : Nat := 3
  forms : List Nat := []
deriving DecidableEq, Repr

/-- Images in force, and accepted images that wait for their switch-over scan (13 R444, 03 R104). `vers` and `signers` hold the version
and the signing key of the image of kind k that MRAM holds in force (key k) and of the one pending (key 4 + k). `bounds` is the verifier's last report of
end bounds: entry, segment, cycles (03 R94). `digs` holds the SHA-256 of the image of kind k in force in MRAM (13 R451). -/
structure ImgSt where
  prog : Option Prog := none
  topo : Option Topo := none
  pendProg : Option (Prog × List Nat × Nat) := none
  pendEnv : Option (List (List EnvRec) × Nat × List Nat × Nat) := none
  pendChem : Option (List Chem × Nat × List Nat × Nat) := none
  pendTopo : Option (Topo × List Nat × Nat) := none
  bootProg : Option Prog := none
  bootEnv : Option (List (List EnvRec) × Nat) := none
  bootChem : Option (List Chem × Nat) := none
  bootTopo : Option Topo := none
  vers : FMap Nat := []
  signers : FMap Nat := []
  digs : FMap (List Nat) := []
  bounds : List (Nat × Nat × Nat) := []
deriving DecidableEq, Repr

end Sys2Proof.Machine
end

