-- ==== Sys2Proof/Syntax.lean ====
section
/-! DEFINITION. The commands of the FN9648: one constructor per row of the opcode table, with the row's operands. An operand
carries what reaches the device from outside (a time, a sample, a frame's content, a request); what the device holds itself
is never an operand (log entry 2). -/

namespace Sys2Proof

/-- A general register number g0-g31 (02 R37). -/
abbrev Reg := Fin 32

/-- A core that executes Tabbin: the two Keeper pairs, and the second cores while a pair is split (02 R86, 12 R409). -/
inductive Core
  | k0 | k1 | k0b | k1b
deriving DecidableEq, Repr

/-- A master with its own 64-bit captures (19 R604). -/
inductive Master
  | k0 | k1 | fsp | hwd
deriving DecidableEq, Repr

/-- A main contactor (10 R340). -/
inductive Contactor
  | pos | neg
deriving DecidableEq, Repr

/-- The two forms of TRIP (02 R66): a constant zone mask, or the mask in a register. -/
inductive TripForm
  | const (mask : BitVec 8)
  | reg (gd : Reg)
deriving DecidableEq, Repr

/-- One module's slot as it arrived by +1,165 µs (04 R127): position, which end delivered it (05 R181 DELIV: 0 end A, 1 end B,
2 both), whether its SCRC was correct at this device and at the partner, and its content. -/
structure SlotIn where
  port : Nat
  hop : Nat
  src : Nat
  ok : Bool
  okPartner : Bool
  cells : List Nat
  temps : List Nat
  status : BitVec 64
  cfgtag : Word
deriving DecidableEq, Repr

/-- A string's head block as it arrived (04 R129). -/
structure HeadIn where
  port : Nat
  ok : Bool
  istr : Int
  ctfb : Nat
  hstat : Nat
  lastSeq : Nat
  karem : Nat
deriving DecidableEq, Repr

/-- The results of the own channels of a scan (05 R171, R183): 30 values, the channels whose input exceeds its range, and the
channels with a sensor fault. -/
structure OwnIn where
  vals : List Int
  overRange : List Nat
  faults : List Nat
deriving DecidableEq, Repr

/-- A module's identity as ENUM returns it (04 R135), with its ASYM and SETCNT2 words (05 R160). -/
structure ModId where
  vendor : Nat
  part : Nat
  kind : Nat
  vermask : Nat
  fwd : Nat
  uid : Nat
  asym : Int
  setcnt2 : Nat
deriving DecidableEq, Repr

/-- What the partner twin sends at a digest comparison (12 R416-R419, 13 R463): its digest, its eight section hashes, its block digest, and its limits for CONSERVATIVE mode (07 R256). -/
structure Partner where
  digest : List Nat
  hashes : List (List Nat)
  blockDigest : List Nat
  limits : List Nat
deriving DecidableEq, Repr

/-- A partner's identity at pairing (12 R429): SYS.UNITMAP, firmware TWINLEVEL, claimed end, attestation outcome, KA hash number
the outcome of an offered image (0 none offered, 1 accepted, 2 refused), and the X25519 share it signs (13 R452). -/
structure PairInfo where
  unitmap : Word
  twinLevel : Nat
  endB : Bool
  attested : Bool
  kaHash : Nat
  image : Nat
  inAuthority : Bool
  share : Nat
deriving DecidableEq, Repr

/-- An FSP request (14 R488, R490): the session that carries it, its SEQ and LEN, and the bytes of the message, which its session's window
holds (13 R456). -/
structure Req where
  sess : Nat
  seq : Nat
  len : Nat
  msg : List Nat := []
deriving DecidableEq, Repr

/-- Where a request comes from (05 R187, 10 R344-R346): a task, or an FSP request. -/
inductive ReqSrc
  | task
  | fsp (req : Req)
deriving DecidableEq, Repr

/-- A TLS handshake as the client offers it (13 R458-R459), in the code points of RFC 8446: versions, cipher suites, key exchange groups, the
signature schemes it accepts and the one its CertificateVerify uses; the SHA-256 of the client's SubjectPublicKeyInfo, whether
CertificateVerify and Finished verify, whether it came on an own address, and the Ethernet port. -/
structure Handshake where
  versions : List Nat
  suites : List Nat
  groups : List Nat
  schemes : List Nat
  scheme : Nat
  port : Nat
  keyHash : Nat
  verifyOk : Bool
  finishedOk : Bool
  ownAddress : Bool
deriving DecidableEq, Repr

/-- The content of a tenant slot (13 R453). -/
structure TenantSlot where
  keyh : Nat
  role : Nat
  cap : Nat
  rate : Nat
  burst : Nat
  emerg : Bool
  notify : Nat
  nbef : Nat
  naft : Nat
deriving DecidableEq, Repr

/-- An Owner record waiting for its boundary (13 R446). -/
inductive OwnAct
  | ownerKey (slot key : Nat)
  | roleKey (role slot key : Nat)
  | tenant (slot : Nat) (c : Option TenantSlot)
  | accept (ring hop uid : Nat) (tkey : Option Nat)
  | floor (kind floor : Nat)
  | twinPair (a b : Nat)
  | ktRotate
  | release
deriving DecidableEq, Repr

/-- An FSP operation that takes effect at its stamped boundary (14 R491, 10 R346). -/
inductive FspAct
  | dlimit (limit : Nat) (value : Option Nat)
  | reserve (frel : Option Nat) (dur : Nat)
  | weld
  | loopClr (n : Nat)
  | unlock (mask : Nat)
  | rearm (e : Nat)
  | baltest (ring hop : Nat)
  | cal (mask : Nat)
  | storage
  | resync
  | reset
  | handover
deriving DecidableEq, Repr

/-- An Owner record (13 R446): the session that carries it, the four words of its header, its length in bytes with the signature, and the hash
of the key under which the signature verifies, 0 for none. -/
structure OwnRec where
  sess : Nat
  head : List Nat
  length : Nat
  sigKey : Nat
deriving DecidableEq, Repr

/-- A message over Mooring (12 R411, R416, R430). -/
inductive Mooring
  /-- The next instant as the authority placed it, and whether its scan is free-running (05 R166-R167). -/
  | instantAt (t : Nat) (free : Bool)
  /-- The authority's stretch begins or ends (05 R166, R170): the nominal instant and the OFFSET that go with it. -/
  | stretch (on : Bool) (nextN off : Nat)
  /-- A ring's state with its reached counts (04 R140). -/
  | ringState (ring st reachA reachB : Nat)
  /-- Discovery of hops for the partner to repeat from its end (04 R145 step 3). -/
  | discover (ring first last : Nat)
  /-- The loop count C0 of the sender's RANGE (05 R161). -/
  | loopCount (ring c0 : Nat)
  /-- A transaction, or the part of it in the partner's half (04 R141). -/
  | txn (ring tag code first last : Nat) (req : List Nat) (recLen : Nat)
  /-- Its records: hop, delivery code, bytes (04 R141). -/
  | txnRecs (ring tag : Nat) (recs : List (Nat × Nat × List Nat))
  /-- A transaction that has ended at the end that launched it, with its records: the frame passed the other twin, which holds the same
  transaction or takes part in what the device does with it (01 R33, 04 R141, 06 R221). -/
  | passed (ring tag code first last : Nat) (req : List Nat) (recLen : Nat) (recs : List (Nat × Nat × List Nat))
  /-- A module's new key and its generation, under KP (06 R223, 13 R461). -/
  | hopKey (ring hop gen key : Nat)
  /-- An accepted image with the switch-over scan it may take (03 R104). -/
  | image (kind : Nat) (hash : List Nat) (scan : Nat)
  /-- Slots whose SCRC failed (05 R185). -/
  | badSlots (l : List (Nat × Nat))
  /-- Slots and head blocks of the sender's half of BROKEN rings (04 R140-R141). -/
  | halfSlots (l : List SlotIn) (heads : List HeadIn)
  /-- Load switch flag copies (11 R388). -/
  | flags (l : List (Nat × Nat))
  /-- VWARN (16 R543). -/
  | warning (v : Bool)
  /-- Events collected for the Keeper pairs' views (15 R525). -/
  | events (k0 k1 : List Nat)
  /-- Own-channel values and codes with the coulomb count (05 R183). -/
  | ownSamples (vals : List Int) (codes : List Nat) (qcnt : Int)
  /-- A CAN frame that the authority received (14 R475). -/
  | canFrame (c : Nat) (f : CanFrame)
  /-- A frame request that the authority's controller completed, and when it had won arbitration (14 R475, R480). -/
  | canSent (c obj start : Nat)
  /-- CAN.STAT of a controller of the authority (14 R475). -/
  | canStat (c : Nat) (v : Word)
  /-- The authority's controller discarded a profile frame (14 R475, R481). -/
  | canLost (c : Nat)
  /-- The dispatch profile's version, CNT and last SEQ after a good frame from the PCS (14 R483). -/
  | profile (ver cnt : Nat) (last : Option Nat)
  /-- The authority's UTC offset with ETH.PTP's bits (14 R487). -/
  | utc (off : Int) (utcOffset : Nat) (sync ok : Bool)
  /-- Grant inputs for CONSERVATIVE mode (07 R256). -/
  | grantInputs (l : List Nat)
  /-- The sender's own ARINGS (15 R514). -/
  | aringsValue (n : Nat)
  /-- Whether the sender's scan job runs at half clock (08 R285). -/
  | halving (b : Bool)
  /-- A stamped change of the device's state (16 R548): its boundary's scan, and the state it enters. -/
  | opState (scan base : Nat)
  /-- A stamped trip release request (07 R252). -/
  | tripRel (mask scan : Nat)
  /-- A session with its traffic secrets and sequence numbers, or its end (13 R460). -/
  | session (n : Nat) (x : Option Machine.Session)
  /-- The partner has taken a session up to these read and write sequence numbers (13 R460). -/
  | sessionAck (n e out : Nat)
  /-- The nonce over which the partner is to send its quote at pairing (13 R452). -/
  | pairNonce (nonce : Nat)
  /-- A quote over that nonce with its signature, and the sender's X25519 share signed by KA (13 R452). -/
  | pairQuote (quote sig : List Nat) (share : Nat) (shareSig : List Nat)
  /-- An image that the authority's Heartwood received, with the key that signs it: the partner judges it too (03 R104, 13 R450). -/
  | imageFwd (bytes : List Nat) (key : Nat)
  /-- The mirror is to reset into its new firmware (13 R450). -/
  | resetMirror
  | bulkZones (zones : Nat)
  /-- The bytes of a range of memory: those listed, and 0 elsewhere in it. -/
  | bulkMem (addr len : Nat) (cells : Machine.FMap Byte)
  | bulkOut (cls idx : Nat) (val : Word)
  | bulkCount (key cnt : Nat)
  | bulkCell (j : Nat) (x : Machine.Slot)
  /-- The scan number of the last instant (01 R18). -/
  | bulkScan (n : Nat)
  /-- A register of the block's agreed state. -/
  | bulkReg (a : Nat) (v : Word)
  /-- Layer 2 limits (07 R244), the grant-excess element's counter and activity, and the active elements of Layer 0. -/
  | bulkProt (limits : Machine.FMap Nat) (gx : Nat) (gxOn : Bool) (active : Machine.FMap Bool)
  /-- Images and topology (12 R430) with their hashes by kind. -/
  | bulkImages (i : Machine.ImgSt) (hashes : List (List Nat))
  /-- Block and string sequences, and the agreed holds (10 R342). -/
  | bulkSeq (b : Machine.BlkSeq) (strs : Machine.FMap Machine.StrSeq) (pos neg : Bool)
  /-- Reporting state. -/
  | bulkReport (r : Machine.RepSt)
  /-- Bleed timers. -/
  | bulkTimers (t : Machine.FMap (List Nat))
  /-- A hop's identity state and commissioned UID, its configuration-tag state and its barred cells with their failed tests. -/
  | bulkHop (ring hop st uid : Nat) (stale : Bool) (fails barred : Nat) (btf : List Nat)
  | pcs (dr : PcsReq) (scan : Nat)
  | seqReq (tgt word scan : Nat)
  | fspAct (scan : Nat) (a : FspAct)
  | ownAct (scan : Nat) (r : OwnRec) (a : OwnAct)
  /-- The scan at whose tick 0 a pair splits or joins (12 R407). -/
  | pairAt (p : Nat) (join : Bool) (scan : Nat)
  /-- The sender holds authority or not, and drives GRAFT_OUT or not (12 R411, R423, R434, R437). -/
  | authority (auth graftOut : Bool)
deriving DecidableEq, Repr

/-- Priority class of a message (12 R411): instants and Graft signalling, agreement data, resynchronisation bulk. -/
def Mooring.cls (m : Mooring) : Nat :=
  match m with
  | .instantAt _ _ => 1
  | .authority _ _ => 1
  | .bulkZones _ => 3
  | .bulkMem _ _ _ => 3
  | .bulkOut _ _ _ => 3
  | .bulkCount _ _ => 3
  | .bulkCell _ _ => 3
  | .bulkScan _ => 3
  | .bulkReg _ _ => 3
  | .bulkProt _ _ _ _ => 3
  | .bulkImages _ _ => 3
  | .bulkSeq _ _ _ _ => 3
  | .bulkReport _ => 3
  | .bulkTimers _ => 3
  | .bulkHop _ _ _ _ _ _ _ _ => 3
  | _ => 2

/-- What an Ethernet frame is (14 R484). -/
inductive EthKind
  | arp | icmp4Echo | icmp6 | dhcpLease | ptp | tcpOpen | tcpClose | other
deriving DecidableEq, Repr

/-- The commands, one per row of the opcode table. -/
inductive Instr
  /-- PCS_SYNC_EDGE (R165): A qualifying PCS_SYNC rising edge inside the capture window places the next sampling instant at the edge plus OFFSET. -/
  | pcsSyncEdge (t : Nat)
  /-- CAPTURE_WINDOW_CLOSE (R19): The capture window closes without an edge, so the next instant falls at the nominal instant N. -/
  | captureWindowClose
  /-- QUIET_LAUNCH (R120): Every port launches the H code group at −52 µs, or at N − 52 µs. -/
  | quietLaunch
  /-- SYNC_LAUNCH (R120): Every fitted port launches the S code group at exactly −32 µs. -/
  | syncLaunch
  /-- SAMPLING_INSTANT (R22): The own channels sample at t = 0, the next nominal instant is computed and the scan number advances. -/
  | samplingInstant
  /-- SCAN_FRAME_LAUNCH (R126): The scan frame leaves end A of every port at +60 µs. `hdrBad` names the (port, hop) at which its
  header arrives with a wrong HCRC, `cut` the (port, number of modules) that a frame passes which is lost on its way. -/
  | scanFrameLaunch (hdrBad : List (Nat × Nat)) (cut : List (Nat × Nat))
  /-- SCAN_FRAME_RETURN (R140): The returning scan frame is received and the port judges the ring state from the returned HOP. -/
  | scanFrameReturn (port : Nat) (reachA : Nat) (reachB : Nat)
  /-- SLOT_CUTOFF (R185): At +1,165 µs slot and head block delivery is settled and the cell table values take their validity codes. -/
  | slotCutoff (slots : List SlotIn) (heads : List HeadIn)
  /-- L0_VERDICT (R240): The Layer 0 compare unit evaluates every element of the scan and presents all verdicts to the trip logic together. -/
  | l0Verdict
  /-- L0_SELFTEST_END (R242): The compare channel self-test ends, and on a pass the counters are merged and L0FAULT cleared. -/
  | l0SelftestEnd (passA : Bool) (passB : Bool)
  /-- ZONE_LINE_LOW (R249): A zone line seen low for 10 µs while not driven latches the zone with source EXT. -/
  | zoneLineLow (z : Nat)
  /-- READBACK_FAULT (R249): A driven zone line read high for 20 µs sets RBFAULT and raises event 172. -/
  | readbackFault (z : Nat)
  /-- TRIP_RELEASE_EVAL (R252): A pending release request is judged at the +1,170 µs boundary and the line check starts. -/
  | tripReleaseEval
  /-- RELEASE_LINE_CHECK_END (R252): The 20 µs line check ends and the release is granted or refused with NOTCLEAR. -/
  | releaseLineCheckEnd (high : Nat) (partner : Bool)
  /-- TICK_BOUNDARY (R23): A tick ends and the next begins at its fixed time. -/
  | tickBoundary
  /-- ACTIVATION_START (R88): A task whose timing fields match the scan and tick starts an activation with cleared registers. -/
  | activationStart (c : Core) (task : Nat)
  /-- SEGMENT_RESUME (R78): A suspended activation resumes at the start of the tick its WAITT named. -/
  | segmentResume (c : Core) (task : Nat)
  /-- DEADLINE_MISS (R106): A tick ends before a segment reached WAITT or COMMIT, ending the activation as a miss. -/
  | deadlineMiss (c : Core) (task : Nat)
  /-- ADD (R55): gd := ga + gb modulo 2^32. -/
  | add (c : Core) (gd : Reg) (ga : Reg) (gb : Reg)
  /-- SUB (R55): gd := ga − gb modulo 2^32. -/
  | sub (c : Core) (gd : Reg) (ga : Reg) (gb : Reg)
  /-- AND (R55): Bitwise and of ga and gb. -/
  | and (c : Core) (gd : Reg) (ga : Reg) (gb : Reg)
  /-- OR (R55): Bitwise or of ga and gb. -/
  | or (c : Core) (gd : Reg) (ga : Reg) (gb : Reg)
  /-- XOR (R55): Bitwise exclusive or of ga and gb. -/
  | xor (c : Core) (gd : Reg) (ga : Reg) (gb : Reg)
  /-- SLL (R55): Shift ga left by gb[4:0]. -/
  | sll (c : Core) (gd : Reg) (ga : Reg) (gb : Reg)
  /-- SRL (R55): Logical right shift of ga by gb[4:0]. -/
  | srl (c : Core) (gd : Reg) (ga : Reg) (gb : Reg)
  /-- SRA (R55): Arithmetic right shift of ga by gb[4:0]. -/
  | sra (c : Core) (gd : Reg) (ga : Reg) (gb : Reg)
  /-- SLT (R55): Set gd to 1 if ga < gb signed. -/
  | slt (c : Core) (gd : Reg) (ga : Reg) (gb : Reg)
  /-- SLTU (R55): Set gd to 1 if ga < gb unsigned. -/
  | sltu (c : Core) (gd : Reg) (ga : Reg) (gb : Reg)
  /-- MIN (R55): Signed minimum of ga and gb. -/
  | min (c : Core) (gd : Reg) (ga : Reg) (gb : Reg)
  /-- MAX (R55): Signed maximum of ga and gb. -/
  | max (c : Core) (gd : Reg) (ga : Reg) (gb : Reg)
  /-- MINU (R55): Unsigned minimum of ga and gb. -/
  | minu (c : Core) (gd : Reg) (ga : Reg) (gb : Reg)
  /-- MAXU (R55): Unsigned maximum of ga and gb. -/
  | maxu (c : Core) (gd : Reg) (ga : Reg) (gb : Reg)
  /-- CSEL (R55): gd := ga if gd is non-zero, else gb. -/
  | csel (c : Core) (gd : Reg) (ga : Reg) (gb : Reg)
  /-- MUL (R55): Low 32 bits of ga × gb. -/
  | mul (c : Core) (gd : Reg) (ga : Reg) (gb : Reg)
  /-- MULH (R55): High 32 bits of the signed 64-bit product. -/
  | mulh (c : Core) (gd : Reg) (ga : Reg) (gb : Reg)
  /-- MULHU (R55): High 32 bits of the unsigned 64-bit product. -/
  | mulhu (c : Core) (gd : Reg) (ga : Reg) (gb : Reg)
  /-- DIV (R45): Signed quotient truncating toward zero, with defined results for zero and overflow. -/
  | div (c : Core) (gd : Reg) (ga : Reg) (gb : Reg)
  /-- DIVU (R45): Unsigned quotient, 0xFFFF_FFFF on division by zero. -/
  | divu (c : Core) (gd : Reg) (ga : Reg) (gb : Reg)
  /-- REM (R45): Signed remainder with the sign of ga. -/
  | rem (c : Core) (gd : Reg) (ga : Reg) (gb : Reg)
  /-- REMU (R45): Unsigned remainder, the dividend on division by zero. -/
  | remu (c : Core) (gd : Reg) (ga : Reg) (gb : Reg)
  /-- CLZ (R55): Count of leading zeros of ga. -/
  | clz (c : Core) (gd : Reg) (ga : Reg)
  /-- SADD (R56): Saturating addition. -/
  | sadd (c : Core) (gd : Reg) (ga : Reg) (gb : Reg)
  /-- SSUB (R56): Saturating subtraction. -/
  | ssub (c : Core) (gd : Reg) (ga : Reg) (gb : Reg)
  /-- SNEG (R56): Saturating negation of ga. -/
  | sneg (c : Core) (gd : Reg) (ga : Reg)
  /-- SABS (R56): Saturating absolute value of ga. -/
  | sabs (c : Core) (gd : Reg) (ga : Reg)
  /-- QMUL16 (R56): q16 × q16 product rounded and saturated. -/
  | qmul16 (c : Core) (gd : Reg) (ga : Reg) (gb : Reg)
  /-- QMUL31 (R56): q31 × q31 product rounded and saturated. -/
  | qmul31 (c : Core) (gd : Reg) (ga : Reg) (gb : Reg)
  /-- QMULM (R56): q16 × q31 product to q16, rounded and saturated. -/
  | qmulm (c : Core) (gd : Reg) (ga : Reg) (gb : Reg)
  /-- QMAC16 (R56): Saturating q16 multiply-accumulate into gd. -/
  | qmac16 (c : Core) (gd : Reg) (ga : Reg) (gb : Reg)
  /-- QDIV16 (R56): q16 division rounded half-to-even, with defined division-by-zero results. -/
  | qdiv16 (c : Core) (gd : Reg) (ga : Reg) (gb : Reg)
  /-- QSHL (R56): Saturating left shift of ga by gb[4:0]. -/
  | qshl (c : Core) (gd : Reg) (ga : Reg) (gb : Reg)
  /-- QSHR (R56): Rounding right shift of ga by gb[4:0]. -/
  | qshr (c : Core) (gd : Reg) (ga : Reg) (gb : Reg)
  /-- Q16TO31 (R56): Convert q16 to q31 with saturation. -/
  | q16to31 (c : Core) (gd : Reg) (ga : Reg)
  /-- Q31TO16 (R56): Convert q31 to q16 with rounding. -/
  | q31to16 (c : Core) (gd : Reg) (ga : Reg)
  /-- ADDI (R54): gd := ga + sext(imm). -/
  | addi (c : Core) (gd : Reg) (ga : Reg) (imm : BitVec 16)
  /-- ANDI (R54): gd := ga and zext(imm). -/
  | andi (c : Core) (gd : Reg) (ga : Reg) (imm : BitVec 16)
  /-- ORI (R54): gd := ga or zext(imm). -/
  | ori (c : Core) (gd : Reg) (ga : Reg) (imm : BitVec 16)
  /-- XORI (R54): gd := ga xor zext(imm). -/
  | xori (c : Core) (gd : Reg) (ga : Reg) (imm : BitVec 16)
  /-- LUI (R54): gd := imm × 2^16. -/
  | lui (c : Core) (gd : Reg) (imm : BitVec 16)
  /-- SLTI (R54): Set gd to 1 if ga < sext(imm) signed. -/
  | slti (c : Core) (gd : Reg) (ga : Reg) (imm : BitVec 16)
  /-- SLTIU (R54): Set gd to 1 if ga < sext(imm) unsigned. -/
  | sltiu (c : Core) (gd : Reg) (ga : Reg) (imm : BitVec 16)
  /-- SLLI (R54): Shift ga left by imm[4:0]. -/
  | slli (c : Core) (gd : Reg) (ga : Reg) (sh : Fin 32)
  /-- SRLI (R54): Logical right shift by imm[4:0]. -/
  | srli (c : Core) (gd : Reg) (ga : Reg) (sh : Fin 32)
  /-- SRAI (R54): Arithmetic right shift by imm[4:0]. -/
  | srai (c : Core) (gd : Reg) (ga : Reg) (sh : Fin 32)
  /-- LW (R47): Load a word from a NEAR window in 4 cycles. -/
  | lw (c : Core) (gd : Reg) (ga : Reg) (imm : BitVec 16)
  /-- LH (R47): Load a sign-extended halfword from a NEAR window. -/
  | lh (c : Core) (gd : Reg) (ga : Reg) (imm : BitVec 16)
  /-- LHU (R47): Load a zero-extended halfword from a NEAR window. -/
  | lhu (c : Core) (gd : Reg) (ga : Reg) (imm : BitVec 16)
  /-- LB (R47): Load a sign-extended byte from a NEAR window. -/
  | lb (c : Core) (gd : Reg) (ga : Reg) (imm : BitVec 16)
  /-- LBU (R47): Load a zero-extended byte from a NEAR window. -/
  | lbu (c : Core) (gd : Reg) (ga : Reg) (imm : BitVec 16)
  /-- SW (R47): Store a word to a NEAR window. -/
  | sw (c : Core) (gs : Reg) (ga : Reg) (imm : BitVec 16)
  /-- SH (R47): Store gs[15:0] to a NEAR window. -/
  | sh (c : Core) (gs : Reg) (ga : Reg) (imm : BitVec 16)
  /-- SB (R47): Store gs[7:0] to a NEAR window. -/
  | sb (c : Core) (gs : Reg) (ga : Reg) (imm : BitVec 16)
  /-- LWX (R50): Load a word from a FAR window in 24 cycles, trapping ABSENT on absent control space. -/
  | lwx (c : Core) (gd : Reg) (ga : Reg) (imm : BitVec 16)
  /-- SWX (R50): Store a word to a FAR window in 24 cycles, trapping ABSENT on absent control space. -/
  | swx (c : Core) (gs : Reg) (ga : Reg) (imm : BitVec 16)
  /-- BEQ (R54): Branch forward if ga = gb. -/
  | beq (c : Core) (ga : Reg) (gb : Reg) (off : BitVec 16)
  /-- BNE (R54): Branch forward if ga ≠ gb. -/
  | bne (c : Core) (ga : Reg) (gb : Reg) (off : BitVec 16)
  /-- BLT (R54): Branch forward if ga < gb signed. -/
  | blt (c : Core) (ga : Reg) (gb : Reg) (off : BitVec 16)
  /-- BGE (R54): Branch forward if ga ≥ gb signed. -/
  | bge (c : Core) (ga : Reg) (gb : Reg) (off : BitVec 16)
  /-- BLTU (R54): Branch forward if ga < gb unsigned. -/
  | bltu (c : Core) (ga : Reg) (gb : Reg) (off : BitVec 16)
  /-- BGEU (R54): Branch forward if ga ≥ gb unsigned. -/
  | bgeu (c : Core) (ga : Reg) (gb : Reg) (off : BitVec 16)
  /-- J (R54): Jump forward. -/
  | j (c : Core) (off : BitVec 26)
  /-- JAL (R41): Write g31, push the return address and loop depth, and jump. -/
  | jal (c : Core) (off : BitVec 26)
  /-- RET (R59): Pop the return stack, restore the loop depth and jump, trapping ILLEGAL on an empty stack. -/
  | ret (c : Core)
  /-- LOOP (R57): Repeat the following body min(max(gc,0), bound) times. -/
  | loop (c : Core) (gc : Reg) (bound : Nat) (len : Nat)
  /-- MFS (R60): Read a special value such as time, scan, tick, role or mode. -/
  | mfs (c : Core) (gd : Reg) (idx : Nat)
  /-- OUT (R61): Stage gs for the output of a constant class and index. -/
  | out (c : Core) (gs : Reg) (cls : Nat) (idx : Nat)
  /-- OUTX (R63): Stage gs for the output whose index is taken from a register at run time. -/
  | outx (c : Core) (gs : Reg) (gi : Reg) (cls : Nat)
  /-- TRIP (R66): Present a trip request for a zone mask and reason to the trip logic without waiting for COMMIT. -/
  | trip (c : Core) (form : TripForm) (reason : Nat) (shadowOk : Bool)
  /-- CHK (R70): Evaluate n check elements with the leaky dwell rule and count the active ones. -/
  | chk (c : Core) (gd : Reg) (ga : Reg) (gb : Reg) (n : Nat)
  /-- WAITT (R78): Suspend the activation until k ticks later. -/
  | waitt (c : Core) (k : Nat)
  /-- COMMIT (R79): End the activation and mark its staged outputs for publication at the end of the tick. -/
  | commit (c : Core)
  /-- RING (R73): Check a descriptor and issue a ring transaction, returning a handle or a negative status. -/
  | ring (c : Core) (gd : Reg) (ga : Reg)
  /-- RSTAT (R75): Return the completion status of a ring transaction and free its tag when final. -/
  | rstat (c : Core) (gd : Reg) (ga : Reg)
  /-- EST (R76): Check a descriptor and queue a Canopy job. -/
  | est (c : Core) (gd : Reg) (ga : Reg)
  /-- ESTAT (R76): Return the status of a Canopy job and free its slot when final. -/
  | estat (c : Core) (gd : Reg) (ga : Reg)
  /-- SPLIT (R80): Request that this pair become two independent cores. -/
  | split (c : Core) (gd : Reg)
  /-- JOIN (R80): Request that a split pair rejoin. -/
  | join (c : Core) (gd : Reg)
  /-- RESERVED_ENCODING (R53): Executing a reserved encoding traps ILLEGAL. -/
  | reservedEncoding (c : Core) (word : Word)
  /-- LOCKSTEP_MISMATCH (R404): A comparator group mismatch stops both cores, ends the activation and puts the pair into TEST. -/
  | lockstepMismatch (p : Nat) (group : Nat) (t : Nat)
  /-- INJECTION_TEST_END (R405): The injection test ends and the pair resumes at the next boundary or halts. -/
  | injectionTestEnd (p : Nat) (ok : Bool)
  /-- INJECTION_TEST_DAILY (R405): The 24 h injection test runs within the dispatcher reserve. -/
  | injectionTestDaily (p : Nat) (ok : Bool)
  /-- AUTO_JOIN (R410): A split pair joins without request at the next boundary after the other pair halts. -/
  | autoJoin (p : Nat)
  /-- SPLIT_EFFECT (R407): An accepted SPLIT takes effect at tick 0 of the agreed scan. -/
  | splitEffect (p : Nat)
  /-- JOIN_EFFECT (R407): An accepted JOIN takes effect at tick 0 of the agreed scan. -/
  | joinEffect (p : Nat)
  /-- CURRENT_SAMPLE (R173): A 50 µs block current sample is integrated by the coulomb counter and fed to the step detector. -/
  | currentSample (i : Int)
  /-- QUIET_TIMER_EXPIRY (R170): After 60 s of quiet current the period stretches to 20 ms. -/
  | quietTimerExpiry
  /-- OWN_RESULTS_READY (R172): The own-channel filtered results of the scan become ready. -/
  | ownResultsReady (own : OwnIn)
  /-- ISO_CYCLE_END (R175): An insulation bridge cycle completes with a result or INVALID. -/
  | isoCycleEnd (res : Option (Nat × Nat))
  /-- CAL_START (R187): A write of ACQ.CALCTL.START or an FSP CAL checks preconditions and starts a zero-current calibration run. -/
  | calStart (src : ReqSrc) (mask : Nat) (quiet : Nat) (hvSteady : Bool)
  /-- CAL_SAMPLE (R188): A 1 ms calibration sample is taken and the preconditions rechecked. -/
  | calSample (vals : List Int) (quiet : Nat) (hvSteady : Bool)
  /-- CAL_COMPUTE (R189): At +64.1 ms means and variances are judged and the run is accepted or ended CAL_DISTURBED. -/
  | calCompute
  /-- ACQ_CTL_WRITE (R168): A write of ACQ.CTL sets the period or OFFSET, or is rejected with event 135 when out of range. -/
  | acqCtlWrite (v : Word)
  /-- ACQ_FILT_WRITE (R177): A write of ACQ.FILT changes corner or range, starts settling, or is rejected for a reserved code. -/
  | acqFiltWrite (v : Word)
  /-- ACQ_STRETCH_WRITE (R170): A write of ACQ.STRETCH sets IQUIET, and clearing EN ends a stretch at the next nominal computation. -/
  | acqStretchWrite (v : Word)
  /-- ACQ_VALCFG_WRITE (R198): A write of STALEMAX sets it, and a write of 0 is rejected. -/
  | acqValcfgWrite (v : Word)
  /-- CNPY_BALEN_WRITE (R203): A write of CNPY.BALEN enables or stops bleeding of strings. -/
  | cnpyBalenWrite (k : Nat) (v : Word)
  /-- CNPY_IMPCTL_WRITE (R317): A write of CNPY.IMPCTL enables capture or, clearing EN, disarms the strings. -/
  | cnpyImpctlWrite (v : Word)
  /-- UCODE_WRITE (R538): A write of LOG.UCODEp queues a USER record. -/
  | ucodeWrite (p : Nat) (v : Word)
  /-- QCNTL_READ (R200): A read of ACQ.QCNTL captures the 64-bit coulomb count. -/
  | qcntlRead (m : Master)
  /-- TIMEL_READ (R604): A read of SYS.TIMEL captures 64 bits of device time for the reading master. -/
  | timelRead (m : Master)
  /-- UTCL_READ (R502): A read of ETH.UTCL captures the 64-bit UTC offset. -/
  | utclRead (m : Master)
  /-- RC_COUNTER_READ (R529): A read of a statistics counter with RC = 1 returns the value and clears it. -/
  | rcCounterRead (m : Master) (addr : Nat)
  /-- CAN_LOCK_READ (R476): A read of word 0 of an object or FIFO head takes the read lock. -/
  | canLockRead (p : Nat) (addr : Nat)
  /-- CAN_DATA15_READ (R476): A read of DATA15 ends the lock, moving the shadow in or advancing the FIFO. -/
  | canData15Read (p : Nat) (addr : Nat)
  /-- ABSENT_SPACE_ACCESS (R10): An access to absent control space reads zero, ignores writes and raises event 372. -/
  | absentSpaceAccess (addr : Nat) (write : Bool)
  /-- REGISTER_WRITE (R595): A write to a register with no behaviour of its own sets its RW fields and applies W1C and W1S rules. -/
  | registerWrite (addr : Nat) (v : Word)
  /-- TRANSACTION_LAUNCH (R146): A port launches a queued transaction frame once it fits before the next scan frame.
  `hdrBad` and `payBad` name the hops at which its header or its payload arrives with a wrong CRC, `cut` the number of modules
  that it passes if it is lost on its way. -/
  | transactionLaunch (port : Nat) (hdrBad : List Nat) (payBad : List Nat) (cut : Option Nat)
  /-- FRAME_RETURN (R146): A command frame returns and its records are written with delivery codes or retried. `good` names the hops
  whose record came with a correct CRC, `echo` those among them whose record echoes another hop, with that hop. -/
  | frameReturn (port : Nat) (reached : Nat) (good : List Nat) (echo : List (Nat × Nat))
  /-- FRAME_LOST (R146): A frame not returned in time is lost and retried. -/
  | frameLost (port : Nat)
  /-- PORT_LOCK_GAIN (R117): A port's receiver locks, starting discovery. -/
  | portLockGain (port : Nat)
  /-- PORT_LOCK_LOSS (R117): A port's receiver loses lock. -/
  | portLockLoss (port : Nat)
  /-- DISCOVERY_LOCK_TIMEOUT (R145): No lock within 100 ms puts the ring in DOWN. -/
  | discoveryLockTimeout (port : Nat)
  /-- KEEP_LAUNCH (R130): A KEEP frame is launched when 10 ms have passed since the last SCAN or KEEP. `hdrBad`
  names the hops at which its header arrives with a wrong HCRC, `cut` the number of modules that it passes if it is lost. -/
  | keepLaunch (port : Nat) (hdrBad : List Nat) (cut : Option Nat)
  /-- RERANGE (R162): Once per second each running ring is re-ranged and changed delays rewritten. -/
  | rerange (port : Nat)
  /-- ENUM (R135): Return each module's identity. -/
  | enumMod (port : Nat) (ids : List ModId)
  /-- RANGE (R142): Modules measure their range count for the frame's direction. -/
  | rangeMod (port : Nat) (dirB : Bool) (c0 : Nat) (counts : List Nat)
  /-- RDRANGE (R142): Read each module's RCD and RCU. -/
  | rdrange (port : Nat) (first : Nat) (last : Nat)
  /-- SETVER (R145): Select each module's Septa version. -/
  | setver (port : Nat) (first : Nat) (vers : List Nat)
  /-- SETDLY (R161): Write each module's sample delays DLYD and DLYU. -/
  | setdly (port : Nat) (first : Nat) (dlys : List (Nat × Nat))
  /-- SETTURN_RELEASE (R137): Release a module's turnaround. `locked` tells whether both its receivers are locked. -/
  | setturnRelease (port : Nat) (hop : Nat) (locked : Bool)
  /-- SETTURN_FORCE_TA (R137): Force a module into turnaround TA. -/
  | setturnForceTa (port : Nat) (hop : Nat)
  /-- SETTURN_FORCE_TB (R137): Force a module into turnaround TB. -/
  | setturnForceTb (port : Nat) (hop : Nat)
  /-- AUTHCH (R219): Challenge each module and compare its AES-CMAC response. -/
  | authch (port : Nat) (hop : Nat)
  /-- KEYSET (R223): Install a wrapped module key. -/
  | keyset (port : Nat) (hop : Nat) (tagOk : Bool)
  /-- CFGTAG (R216): Set a module's configuration tag. -/
  | cfgtag (port : Nat) (first : Nat) (last : Nat) (tag : Word)
  /-- RDREG (R136): Read module register words. -/
  | rdreg (port : Nat) (first : Nat) (last : Nat) (addr : Nat) (count : Nat)
  /-- WRREG (R136): Write module register words. -/
  | wrreg (port : Nat) (first : Nat) (last : Nat) (addr : Nat) (words : List Word)
  /-- CLRST (R134): Clear the sticky status bits named in the mask. -/
  | clrst (port : Nat) (first : Nat) (last : Nat) (mask : BitVec 64)
  /-- BAL (R204): Replace each module's bleed timers and return the remaining ones. -/
  | balMod (port : Nat) (first : Nat) (timers : List (List Nat))
  /-- BALTEST_START (R209): Start a balance-switch test on the selected cells. -/
  | baltestStart (port : Nat) (first : Nat) (entries : List Word) (shifts : List (List Int))
  /-- BALTEST_READ (R208): Read the results of the last balance-switch test. -/
  | baltestRead (port : Nat) (first : Nat) (last : Nat)
  /-- BURST_ARM (R318): Arm a module's burst capture on a reference cell. -/
  | burstArm (port : Nat) (first : Nat) (cells : List Nat)
  /-- BURST_FREEZE (R318): Freeze a module's armed burst capture around the next scan sample. -/
  | burstFreeze (port : Nat) (first : Nat) (cells : List Nat)
  /-- BURST_DISARM (R318): Stop a module's burst recording. -/
  | burstDisarm (port : Nat) (first : Nat) (last : Nat)
  /-- BURSTRD (R319): Read one block of 250 burst samples. -/
  | burstrd (port : Nat) (first : Nat) (last : Nat) (block : Nat) (samples : List (List Nat))
  /-- DIAGRD (R214): Read a module diagnostic page. -/
  | diagrd (port : Nat) (first : Nat) (last : Nat) (page : Nat) (data : List (List Nat))
  /-- HDSTAT (R134): Read the string head block. -/
  | hdstat (port : Nat) (first : Nat) (last : Nat)
  /-- HDCFG (R150): Set the head's keep-alive timeout. -/
  | hdcfg (port : Nat) (kato : Nat)
  /-- ECHO (R134): Return each module's ERRCNT word. -/
  | echoMod (port : Nat) (first : Nat) (last : Nat)
  /-- NOP (R359): Head command that does nothing and returns the head block. -/
  | headNop (port : Nat) (seq : Nat)
  /-- NEGCLOSE (R359): Head energises the negative coil. -/
  | headNegClose (port : Nat) (seq : Nat)
  /-- PRECLOSE (R359): Head energises the pre-charge coil. -/
  | headPreClose (port : Nat) (seq : Nat)
  /-- POSCLOSE (R359): Head energises the positive coil. -/
  | headPosClose (port : Nat) (seq : Nat)
  /-- PREOPEN (R359): Head de-energises the pre-charge coil. -/
  | headPreOpen (port : Nat) (seq : Nat)
  /-- HEAD_OPEN (R359): Head de-energises positive and pre-charge coils, then the negative coil 20 ms later. -/
  | headOpen (port : Nat) (seq : Nat)
  /-- OPENALL (R359): Head de-energises all three coils within 1 ms. -/
  | headOpenAll (port : Nat) (seq : Nat)
  /-- BALANCE_PLAN (R202): Every BALPER the device plans one string's bleed timers and sends them. -/
  | balancePlan
  /-- BALANCE_TEST_RUN (R210): The 24 h balance-switch test of a module runs its two passes. -/
  | balanceTestRun (port : Nat) (hop : Nat)
  /-- CFG_RETRY (R218): A failed reconfiguration is repeated, every 10 s after three failures. -/
  | cfgRetry (port : Nat) (hop : Nat)
  /-- AUTH_CHALLENGE_RUN (R221): The 24 h identity challenge of a module is issued. -/
  | authChallengeRun (port : Nat) (hop : Nat)
  /-- AUTH_RECORD_TIMEOUT (R220): No AUTHCH record delivered for 1 h makes the hop FAILED. -/
  | authRecordTimeout (port : Nat) (hop : Nat)
  /-- SCAN_JOB_END (R282): The scan job writes the string records and output signature. -/
  | scanJobEnd
  /-- SCAN_JOB_OVERRUN (R286): A scan job not ended by its bound is abandoned and event 200 raised. -/
  | scanJobOverrun
  /-- DIGEST_COMPARE (R419): The twins form and compare state digests, confirming the page or repeating the job. -/
  | digestCompare (partner : Partner)
  /-- REPEAT_JOB_END (R419): The repeated Canopy job ends and the second digest comparison is made. -/
  | repeatJobEnd (partner : Partner)
  /-- TWIN_SELFTEST_END (R421): A twin self-test ends and its result is exchanged and judged. -/
  | twinSelftestEnd (own : Bool) (partner : Bool)
  /-- EST_JOB_START (R77): A queued Canopy job starts when no scan job runs and it fits before the next. -/
  | estJobStart
  /-- EST_JOB_END (R290): A task job ends and writes its output header and results. -/
  | estJobEnd
  /-- HEALTH_JOB (R314): Once per second the health filter updates capacity and resistance factors and the coulomb SoC. -/
  | healthJob
  /-- SNAPSHOT_REFRESH (R293): One string's snapshot is written to MRAM per scan. -/
  | snapshotRefresh (ok : Bool)
  /-- IMPEDANCE_ARM (R317): A string due for capture is armed with BURST ARM. -/
  | impedanceArm (port : Nat)
  /-- ARM_TIMEOUT (R317): An arming lasting IMPARM is disarmed and re-armed with the next index. -/
  | armTimeout (port : Nat)
  /-- FIT_JOB (R322): After the burst upload the FIT job fits each reference cell. -/
  | fitJob (port : Nat)
  /-- FIT_JOB_END (R324): The FIT job writes impedance records and updates FR. -/
  | fitJobEnd (port : Nat)
  /-- SOCM_REST_EXPIRY (R308): After 10 min at rest SOCM takes SOCF. -/
  | socmRestExpiry
  /-- RESERVE_EXPIRY (R307): A reserve release ends at its expiry. -/
  | reserveExpiry
  /-- PCS_REQUEST_EXPIRY (R329): A PCS request ends when its duration elapses. -/
  | pcsRequestExpiry (discharge : Bool)
  /-- GGRACE_EXPIRY (R245): A fallen grant takes effect in the grant-excess check after GGRACE. -/
  | ggraceExpiry
  /-- NONE (R345): Sequence command code 0 that does nothing. -/
  | seqNone (tgt : Nat) (tag : Nat) (src : ReqSrc)
  /-- CLOSE (R350): Block close sequence with active pre-charge. -/
  | seqClose (arg : Nat) (tag : Nat) (src : ReqSrc)
  /-- PRELINK (R351): Close steps 1–4 then hold the link at battery voltage. -/
  | seqPrelink (arg : Nat) (tag : Nat) (src : ReqSrc)
  /-- OPEN (R355): Block open with current wait. -/
  | seqOpen (arg : Nat) (tag : Nat) (src : ReqSrc)
  /-- OPENNOW (R355): Block open without current wait. -/
  | seqOpenNow (arg : Nat) (tag : Nat) (src : ReqSrc)
  /-- SHUTDOWN (R356): Orderly shutdown sequence. -/
  | seqShutdown (arg : Nat) (tag : Nat) (src : ReqSrc)
  /-- CONNECT (R360): String connect sequence through the string head. -/
  | strConnect (n : Nat) (arg : Nat) (tag : Nat) (src : ReqSrc)
  /-- DISCONNECT (R361): String disconnect with current wait. -/
  | strDisconnect (n : Nat) (arg : Nat) (tag : Nat) (src : ReqSrc)
  /-- DISCONNOW (R361): String disconnect without current wait. -/
  | strDisconnow (n : Nat) (arg : Nat) (tag : Nat) (src : ReqSrc)
  /-- HOLD_ECONOMY (R342): After TPULL a hold output changes to economy drive. -/
  | holdEconomy (k : Contactor)
  /-- FEEDBACK_CHANGE (R343): A main contactor feedback input changes, advancing the waiting sequence step. -/
  | feedbackChange (k : Contactor) (closed : Bool)
  /-- FEEDBACK_TIMEOUT (R343): Hold and feedback disagree beyond TCLOSE or TOPEN, setting FBERR or WELD. -/
  | feedbackTimeout (k : Contactor)
  /-- GATE_FAULT (R352): PC_FLT_N falling drives both gates low and ends the sequence with GATEFLT. -/
  | gateFault (low : Bool)
  /-- LINK_MATCH (R350): The link match held for 1 ms turns MCP_HOLD on. -/
  | linkMatch
  /-- TLINK_EXPIRY (R350): A high link not fallen within TLINK ends the close with LINKHIGH. -/
  | tlinkExpiry
  /-- RAMP_TIMEOUT (R350): The match not reached in time ends the close with TIMEOUT. -/
  | rampTimeout
  /-- THOLD_EXPIRY (R351): A PRELINK hold lasting THOLD ends with TIMEOUT. -/
  | tholdExpiry
  /-- CURRENT_WAIT_END (R355): The open current wait ends by current within limit or TIOPEN. -/
  | currentWaitEnd (tgt : Nat)
  /-- TSPRE_EXPIRY (R360): The string pre-charge dwell ends and the voltage match is checked. -/
  | tspreExpiry (n : Nat)
  /-- TVSD_EXPIRY (R356): VAUX below warning for TVSD starts an orderly shutdown. -/
  | tvsdExpiry
  /-- CONTROL_LOOP_EVAL (R363): A control loop evaluates its law in its 10 µs frame and writes its sink. -/
  | controlLoopEval (n : Nat) (sample : Option Int)
  /-- CURRENT_LIMIT_EXPIRY (R382): A channel in current limit for TBLANK turns off and starts a retry pause. -/
  | currentLimitExpiry (n : Nat)
  /-- RETRY_PAUSE_END (R382): After its pause the channel turns on again if still demanded. -/
  | retryPauseEnd (n : Nat)
  /-- CONDUCTION_CLEAR (R382): 1 s of conduction without current limit returns RCNT and OC to 0. -/
  | conductionClear (n : Nat)
  /-- POWER_STAGE_OVERTEMP (R383): A channel reaching its shutdown temperature turns off and sets OT. -/
  | powerStageOvertemp (n : Nat)
  /-- POWER_STAGE_RESTART (R383): With OTM 0 a cooled channel restarts and OT clears. -/
  | powerStageRestart (n : Nat)
  /-- OPEN_LOAD_CHANGE (R384): Current below or above threshold for 10 ms sets or clears OL. -/
  | openLoadChange (n : Nat) (below : Bool)
  /-- CLAMP_PULSE (R385): An inductive clamp pulse adds to the clamp budget and may set CLAMPLOCK. -/
  | clampPulse (n : Nat) (energy : Nat) (t : Nat)
  /-- FREEWHEEL_CHECK (R386): An output below −2 V after turn-off sets CLAMPLOCK and FWFAIL. -/
  | freewheelCheck (n : Nat)
  /-- SELECT_OPEN (R387): A released member's select opens when the output falls below 1 V or after 2 ms. -/
  | selectOpen (n : Nat)
  /-- SELECT_CLOSE (R387): A waiting member's select closes 100 µs later and the high side turns on. -/
  | selectClose (n : Nat)
  /-- LH_MAP_LOAD (R390): The limp-home map is loaded into the unit within 2 ms of VAUX rising. -/
  | lhMapLoad
  /-- LH_WATCHDOG_EXPIRY (R391): The limp-home watchdog runs LHWDT without restart and the device is declared dead. -/
  | lhWatchdogExpiry
  /-- LH_IN_SAMPLE (R392): LH_IN is sampled every 1 ms with debounce and drives mapped channels. -/
  | lhInSample (v : Nat)
  /-- LH_EN_LOW (R392): LH_EN_N going low activates limp-home. -/
  | lhEnLow
  /-- LH_EN_RETURN (R393): LH_EN_N high for 10 ms returns mapped channels to their published demand. -/
  | lhEnReturn
  /-- MOORING_MESSAGE_RX (R411): A Mooring message with its scan number is received and checked. -/
  | mooringMessageRx (crcOk : Bool) (scan : Nat) (msg : Mooring)
  /-- MOORING_LANE_TRAINED (R411): Mooring lanes finish training. -/
  | mooringLaneTrained (lane : Nat) (info : PairInfo)
  /-- MOORING_LANE_LOSS (R412): A Mooring lane loses lock and traffic continues on the other. -/
  | mooringLaneLoss (lane : Nat)
  /-- MOORING_SILENT (R412): Both lanes silent for 100 µs with TWIN_ALIVE toggling makes the mirror DETACHED. -/
  | mooringSilent
  /-- ALIVE_LOSS (R426): TWIN_ALIVE_IN without edges for 100 µs leads to a Graft or a wiring fault. -/
  | aliveLoss (mooringSilent : Bool) (partnerYielded : Bool)
  /-- GRAFT_IN_HIGH (R414): GRAFT_IN high for 1 µs makes an authority give up and a mirror graft. -/
  | graftInHigh
  /-- GRAFT_COMPLETE (R427): At +250 µs the mirror enters ALONE and drives GRAFT_OUT low. -/
  | graftComplete
  /-- TIME_EXCHANGE (R415): Every 1 ms the twins exchange time and the mirror slews its device time. -/
  | timeExchange (delta : Int)
  /-- PAIRING_TIMEOUT (R429): No trained partner within 5 s makes the twin ALONE. -/
  | pairingTimeout
  /-- RESYNC_DEADLINE (R430): A joiner not MIRROR by 2 s repeats once or becomes YIELDED. -/
  | resyncDeadline
  /-- CLAIM (R442): A correct CLAIM installs Owner key 0, generates KT and makes the device CLAIMED. -/
  | claim (sess : Nat) (kind : Nat) (keyBytes : List Nat) (mac : List Nat)
  /-- SESSION_HANDSHAKE (R459): A ClientHello starts the TLS handshake that binds a session to a tenant slot. -/
  | sessionHandshake (hs : Handshake)
  /-- HANDSHAKE_TIMEOUT (R458): A handshake not complete 10 s after ClientHello fails. -/
  | handshakeTimeout
  /-- KEYUPDATE (R458): A TLS KeyUpdate renews traffic keys and they are mirrored to the partner. -/
  | keyupdate (sess : Nat)
  /-- SESSION_EXPIRY (R457): A session closes at its slot's NAFT. -/
  | sessionExpiry (slot : Nat)
  /-- FSP_HELLO (R489): The client's HELLO negotiates the FSP version. -/
  | fspHello (sess : Nat) (lo : Nat) (hi : Nat)
  /-- FSP_BYE (R488): A BYE message closes the session. -/
  | fspBye (sess : Nat) (seq : Nat)
  /-- READ (R493): Read a region of report records, control space or cell table views. -/
  | fspRead (req : Req) (addr : Nat) (len : Nat)
  /-- LOGREAD (R534): Read Growth log records with their continuations. -/
  | fspLogread (req : Req) (first : Nat) (count : Nat)
  /-- QUOTE (R451): Return an attestation quote over the nonce. -/
  | fspQuote (req : Req) (nonce : List Nat)
  /-- SUBSCRIBE (R494): Subscribe the session to report streams with a decimation. -/
  | fspSubscribe (req : Req) (mask : Nat) (dec : Nat)
  /-- NOTIFYCTL_ON (R495): Turn event notifications on for the session. -/
  | notifyctlOn (req : Req)
  /-- NOTIFYCTL_OFF (R495): Turn event notifications off for the session. -/
  | notifyctlOff (req : Req)
  /-- DISPATCH (R329): A PCS request over FSP, stamped and applied from the agreed scan. -/
  | fspDispatch (req : Req) (dr : PcsReq)
  /-- DLIMIT_SET (R244): Set a Layer 2 limit. -/
  | dlimitSet (req : Req) (limit : Nat) (value : Nat)
  /-- DLIMIT_WITHDRAW (R244): Withdraw a Layer 2 limit. -/
  | dlimitWithdraw (req : Req) (limit : Nat)
  /-- RESERVE_RELEASE (R307): Start a reserve release with floor FREL for a duration. -/
  | reserveRelease (req : Req) (frel : Nat) (dur : Nat)
  /-- RESERVE_WITHDRAW (R307): Withdraw the reserve release in force. -/
  | reserveWithdraw (req : Req)
  /-- CTLCLR_WELD (R343): Clear WELD if the feedback reads open. -/
  | ctlclrWeld (req : Req)
  /-- CTLCLR_LOOP (R372): Clear the W1C bits of a loop's status. -/
  | ctlclrLoop (req : Req) (n : Nat)
  /-- TRIPREL (R252): Request release of latched zones, judged at the next boundary. -/
  | fspTriprel (req : Req) (mask : Nat)
  /-- UNLOCK (R389): Unlock load switch channels, clearing their latches. -/
  | fspUnlock (req : Req) (mask : Nat)
  /-- REARM (R108): Re-arm a faulty task with its miss count at 0. -/
  | fspRearm (req : Req) (e : Nat)
  /-- FSP_BALTEST (R210): Request a balance-switch test of a module. -/
  | fspBaltest (req : Req) (ring : Nat) (hop : Nat)
  /-- STORAGE (R552): Request entry to STORAGE through an orderly shutdown. -/
  | fspStorage (req : Req)
  /-- TWINSVC_RESYNC (R432): Start an in-place resynchronisation of the mirror. -/
  | twinsvcResync (req : Req)
  /-- TWINSVC_RESET (R449): Reset this device after an orderly shutdown to start new firmware. -/
  | twinsvcReset (req : Req)
  /-- TWINSVC_HANDOVER (R450): Hand authority to a MIRROR partner by Graft. -/
  | twinsvcHandover (req : Req)
  /-- IMAGE_BEGIN (R491): Begin an image transfer of the given length. -/
  | imageBegin (req : Req) (len : Nat)
  /-- IMAGE_DATA (R491): Carry a chunk of image data at an offset. -/
  | imageData (req : Req) (off : Nat) (bytes : List Nat)
  /-- IMAGE_END (R444): End the transfer; Heartwood checks the image and accepts or rejects it. -/
  | imageEnd (req : Req) (sigKey : Nat)
  /-- IMAGE_TRANSFER_TIMEOUT (R491): A transfer idle for 60 s is abandoned. -/
  | imageTransferTimeout
  /-- MEMTEST_PRESERVING (R517): Queue preserving march tests of banks. -/
  | memtestPreserving (req : Req) (test : Nat) (first : Nat) (last : Nat)
  /-- MEMTEST_DESTRUCTIVE (R517): Queue destructive march tests of banks that hold no data. -/
  | memtestDestructive (req : Req) (test : Nat) (first : Nat) (last : Nat)
  /-- OWNERKEY (R446): Owner record that installs or removes an Owner key. -/
  | ownOwnerkey (r : OwnRec) (slot : Nat) (key : Nat)
  /-- ROLEKEY (R446): Owner record that installs or removes a role key. -/
  | ownRolekey (r : OwnRec) (role : Nat) (slot : Nat) (key : Nat)
  /-- TENANT (R453): Owner record that sets or clears a tenant slot. -/
  | ownTenant (r : OwnRec) (slot : Nat) (content : Option TenantSlot)
  /-- ACCEPT (R222): Owner record that sets a hop's commissioned UID and may install a module key. -/
  | ownAccept (r : OwnRec) (ring : Nat) (hop : Nat) (uid : Nat) (tkey : Option Nat)
  /-- FLOOR (R446): Owner record that lowers a kind's version floor. -/
  | ownFloor (r : OwnRec) (kind : Nat) (floor : Nat)
  /-- TWINPAIR (R452): Owner record that names the pairing partners. -/
  | ownTwinpair (r : OwnRec) (hashA : Nat) (hashB : Nat)
  /-- KTROTATE (R446): Owner record that generates a new TLS key KT. -/
  | ownKtrotate (r : OwnRec)
  /-- RELEASE (R446): Owner record that erases ownership and returns the device to UNCLAIMED. -/
  | ownRelease (r : OwnRec)
  /-- PROGRAM_SWITCHOVER (R104): An accepted program set takes effect at tick 0 of its switch-over scan. -/
  | programSwitchover
  /-- ENVELOPE_SWITCHOVER (R243): An accepted envelope takes effect, carrying the counters over. -/
  | envelopeSwitchover
  /-- CHEMISTRY_SWITCHOVER (R281): Accepted chemistry sets take effect at the switch-over scan job. -/
  | chemistrySwitchover
  /-- TOPOLOGY_SWITCHOVER (R447): An accepted topology takes effect in STANDBY with contactors open, rewriting configuration and routes. -/
  | topologySwitchover
  /-- FIRMWARE_FLOOR_RAISE (R445): After 1 h without reset the firmware floor rises to the running SVN. -/
  | firmwareFloorRaise
  /-- TRNG_HEALTH_FAIL (R464): A TRNG health test failure suspends new sessions and key operations. -/
  | trngHealthFail
  /-- HWD_TEST_END (R464): A Heartwood self-test ends, restoring or refusing service. -/
  | hwdTestEnd (ok : Bool)
  /-- HEARTWOOD_BOOT (R448): Heartwood leaves reset, derives keys, selects firmware and releases the cores. -/
  | heartwoodBoot (selfOk : Bool) (kpuf : Option Nat) (ok0 : Bool) (ok1 : Bool)
  /-- STREAM_SEND (R494): A published stream is sent to subscribed sessions. -/
  | streamSend (sess : Nat)
  /-- NOTIFY_SEND (R495): A queued event notification is sent to the session. -/
  | notifySend (sess : Nat)
  /-- CAN_FRAME_RX (R474): A received CAN frame is placed in an object, a FIFO or rejected. -/
  | canFrameRx (c : Nat) (exc : Bool) (f : CanFrame)
  /-- CAN_FRAME_SENT (R477): A CAN frame completes transmission and its TXS updates. -/
  | canFrameSent (c : Nat) (obj : Nat) (start : Nat) (delay : Nat)
  /-- CAN_BUS_OFF (R479): A controller enters bus-off and stays off the bus. -/
  | canBusOff (c : Nat)
  /-- CAN_ERROR_PASSIVE (R479): A controller enters or leaves error-passive. -/
  | canErrorPassive (c : Nat) (enter : Bool) (rec_ : Nat) (tec : Nat)
  /-- BUS_OFF_RECOVERY (R478): Controller command that starts bus-off recovery. -/
  | busOffRecovery (c : Nat)
  /-- BUS_OFF_RECOVERED (R479): After 128 recessive sequences the controller returns to error-active. -/
  | busOffRecovered (c : Nat)
  /-- RESTRICTED_ENTER (R478): Controller command that enters restricted operation. -/
  | restrictedEnter (c : Nat)
  /-- RESTRICTED_LEAVE (R478): Controller command that leaves restricted operation. -/
  | restrictedLeave (c : Nat)
  /-- PROFILE_HELLO (R483): A PCS HELLO negotiates the profile version and is answered with HELLOACK. -/
  | profileHello (mask : Nat)
  /-- HEARTBEAT (R482): A PCS heartbeat restarts the PTO timer. -/
  | heartbeat
  /-- PROFILE_REQUEST (R482): A PCS REQUEST is checked, stamped and answered with REQACK. -/
  | profileRequest (dr : PcsReq)
  /-- PROFILE_WITHDRAW (R482): A REQUEST with withdraw set ends the request in force in its direction. -/
  | profileWithdraw (dr : PcsReq)
  /-- PROFILE_REPORT_SEND (R483): GRANT, STATE and LIMITS frames are sent from +2,100 µs every PDIV-th scan. -/
  | profileReportSend
  /-- PTO_EXPIRY (R483): No PCS frame for PTO ends the requests in force. -/
  | ptoExpiry
  /-- ETH_LINK_CHANGE (R484): An Ethernet port's link goes up or down. -/
  | ethLinkChange (p : Nat) (up : Bool) (speed : Nat)
  /-- ETH_FRAME_RX (R484): An Ethernet frame is answered or discarded and counted. -/
  | ethFrameRx (p : Nat) (kind : EthKind)
  /-- PTP_SYNC_RX (R487): An 802.1AS Sync updates the UTC offset. -/
  | ptpSyncRx (gptp : Nat) (utcOffset : Nat)
  /-- UTC_TIMEOUT (R487): No Sync for 600 s clears UTCOK. -/
  | utcTimeout
  /-- ADDRESS_CONFLICT (R485): Another host using a device address raises event 356. -/
  | addressConflict (p : Nat)
  /-- ROW_REPAIR_SWITCH (R510): A failed row's copy is switched to a spare row at the next tick boundary. -/
  | rowRepairSwitch (bank : Nat) (row : Nat)
  /-- BANK_RETIRE (R511): A bank without spare rows is copied and its backing moved at the next tick boundary. -/
  | bankRetire (bank : Nat)
  /-- ARINGS_APPLY (R514): An agreed ARINGS change applies at tick 0 of the agreed scan. -/
  | aringsApply (n : Nat)
  /-- SCRUB_PASS_END (R509): A scrub pass over all banks completes. -/
  | scrubPassEnd (corrected : Nat) (uncorrectable : Nat)
  /-- PRESERVING_REDIRECT (R517): After the copy, masters are redirected to the swap bank at a tick boundary. -/
  | preservingRedirect
  /-- PRESERVING_RETURN (R517): After the copy back, masters return to the tested bank at a tick boundary. -/
  | preservingReturn
  /-- MARCH_TEST_END (R517): A requested march test ends and results are recorded. -/
  | marchTestEnd (faults : List Nat)
  /-- LOG_RECORD_WRITE (R530): The Growth log writer writes a queued record to MRAM. -/
  | logRecordWrite (fail : Option Nat)
  /-- EVENT_WINDOW_END (R530): A one-second EVENT window ends and writes its count record. -/
  | eventWindowEnd (e : Nat)
  /-- RESET_RELEASE (R540): Rails good for 2 ms release reset and the straps are sampled. -/
  | resetRelease (tws : Nat) (tmode : Bool)
  /-- BOOT_COMPLETE (R549): Start-up completes and the device leaves BOOT for STANDBY, DEGRADED or SAFE. -/
  | bootComplete
  /-- RAIL_FAULT (R540): A rail below its monitor level for 1 µs resets the device. -/
  | railFault (i : Nat)
  /-- VAUX_WARNING (R542): VAUX below 16.5 V sets VWARN, starts TVSD and puts the throttle in force. -/
  | vauxWarning (mv : Nat)
  /-- VAUX_RECOVERY (R542): VAUX above 17.0 V for 10 ms clears VWARN and releases the throttle. -/
  | vauxRecovery (mv : Nat)
  /-- VAUX_RESET (R542): VAUX below 14.0 V gives up authority, turns outputs off and resets. -/
  | vauxReset (mv : Nat)
  /-- VAON_LOST (R541): VAON absent with VAUX present sets VAONLOST. -/
  | vaonLost
  /-- CORE_DROOP (R544): A droop detector stretches the clock, and excess stretch in a tick is counted. -/
  | coreDroop (p : Nat) (cycles : Nat)
  /-- PLL_FAIL (R545): A PLL failing to lock twice resets or yields the device. -/
  | pllFail
  /-- OSC_FAIL (R545): A stopped oscillator resets or yields the device. -/
  | oscFail
  /-- WATCH_ENTRY (R549): Idle STANDBY for TWATCH enters WATCH. -/
  | watchEntry
  /-- WATCH_PLL_START (R546): In WATCH the Keeper and Canopy PLLs start at N − 700 µs. -/
  | watchPllStart
  /-- WATCH_PLL_STOP (R546): In WATCH the PLLs stop once the scan's work has finished. -/
  | watchPllStop
  /-- WAKE_BUS_WAKE (R553): WAKE_BUS above threshold for 50 ms wakes the device from STORAGE. -/
  | wakeBusWake
  /-- SERVICE_KEY_WAKE (R553): SVCKEY_N low for 100 ms wakes the device from STORAGE. -/
  | serviceKeyWake
  /-- THERMAL_SAMPLE (R555): Each 1 ms die temperature sample updates the thermal elements. -/
  | thermalSample (temps : List Int)
  /-- THERMAL_ENFORCE (R556): 500 ms after REQ with the element still active, Canopy is halved and tenant service suspended. -/
  | thermalEnforce
  /-- THERMAL_RESTART (R557): Tj below 100 °C for 5 s restarts the device from BOOT. -/
  | thermalRestart
  /-- SENSOR_DIFF (R554): Die sensors differing by more than 15 °C for 1 s raise event 9. -/
  | sensorDiff
  /-- INSTANT_LOCAL_DEADLINE (R166): At 34 µs before its own instant with no message from the authority, the other twin uses its own instant, launches H and S for its half and raises event 134. -/
  | instantLocalDeadline
  /-- L0_SELFTEST_DAILY (R242): Every 24 h the device runs the compare-unit channel self-test with crafted value words. -/
  | l0SelftestDaily (passA : Bool) (passB : Bool)
  /-- CURRENT_LIMIT_SUM_REACHED (R382): When a channel's time in current limit over a sliding 10 s window reaches 300 ms, the channel turns off and RETRYLATCH sets whatever RCNT shows. -/
  | currentLimitSumReached (n : Nat)
  /-- HOLD_CURRENT_LIMIT (R585): A main contactor hold output that stays in current limit for 20 ms turns off, leading to FBERR handling when its feedback reads open. -/
  | holdCurrentLimit (k : Contactor)
  /-- TIME_RECORD (R532): While UTCOK is 1, the device writes a TIME record of the UTC offset to the Growth log every hour. -/
  | timeRecord
  /-- VAON_RETURN (R541): VAON returns while VAUX is present, and VAONLOST clears with event 13. -/
  | vaonReturn
  /-- PTP_SYNC_LOSS (R487): 802.1AS synchronisation is lost and event 354 is raised. -/
  | ptpSyncLoss
  /-- ALIVE_RETURN (R413): TWIN_ALIVE_IN shows edges again after a loss, and TWIN.STAT.ALIVE returns to 1. -/
  | aliveReturn
deriving DecidableEq, Repr

end Sys2Proof
end

