-- ==== Sys2Proof/Decode.lean ====
section
/-! DEFINITION. Words and commands: the fields of a Tabbin word (02 R52), its level and cycles (R53-R56), and the command that it
spells. The opcode table gives bits to none of its rows; the 32-bit words that spell commands of this block are Tabbin's, and a word
outside any core is read as one of Keeper-0 (log entry 15). -/

namespace Sys2Proof.Machine

/-- The major opcode of a word (02 R52). -/
def wOp (w : Nat) : Nat := w / 2 ^ 26 % 64

/-- Field [25:21]. -/
def wA (w : Nat) : Nat := w / 2 ^ 21 % 32

/-- Field [20:16]. -/
def wB (w : Nat) : Nat := w / 2 ^ 16 % 32

/-- Field [15:11]. -/
def wC (w : Nat) : Nat := w / 2 ^ 11 % 32

/-- Field [10:0]. -/
def wFn (w : Nat) : Nat := w % 2048

/-- Field [15:0]. -/
def wImm (w : Nat) : Nat := w % 65536

/-- The functions of the ALU group (02 R55): fn, reads only ga, level, cycles. -/
def aluFns : List (Nat × Bool × Nat × Nat) :=
  (List.range 15).map (fun f => (f, false, 1, 1))
    ++ [(0x10, false, 1, 3), (0x11, false, 1, 3), (0x12, false, 1, 3), (0x14, false, 1, 34), (0x15, false, 1, 34),
        (0x16, false, 1, 34), (0x17, false, 1, 34), (0x18, true, 2, 1)]

/-- The functions of the QOP group (02 R56). -/
def qopFns : List (Nat × Bool × Nat × Nat) :=
  [(0, false, 1, 1), (1, false, 1, 1), (2, true, 1, 1), (3, true, 1, 1), (8, false, 1, 3), (9, false, 1, 3), (0xA, false, 1, 3),
   (0xB, false, 2, 3), (0xC, false, 2, 36), (0x10, false, 1, 1), (0x11, false, 1, 1), (0x18, true, 1, 1), (0x19, true, 1, 1)]

/-- A group word's function, if assigned and with its gb field 0 where the function reads only ga. -/
def groupFn (l : List (Nat × Bool × Nat × Nat)) (w : Nat) : Option (Nat × Nat) :=
  (l.find? (fun x => x.1 == wFn w && (!x.2.1 || wC w == 0))).map (fun x => (x.2.2.1, x.2.2.2))

/-- TRIP's fields that must be 0 (02 R66). -/
def tripOk (w : Nat) : Bool := (wB w == 0 && wA w == 0) || (wB w == 1 && wImm w % 256 == 0)

/-- Level and cycles of a word, none for a reserved encoding (02 R53-R56). A loop's own charge is added where it is analysed. That
imm[15:5] of SRLI and SRAI must be 0 is a DESIGN CHOICE (log entry 153): the table writes it for SLLI alone. -/
def wordInfo (w : Nat) : Option (Nat × Nat) :=
  let op := wOp w
  let z := fun (b : Bool) (l c : Nat) => if b then some (l, c) else none
  if op = 0x00 then groupFn aluFns w
  else if op = 0x01 then groupFn qopFns w
  else if op = 0x02 then z (wC w == 0 && decide (wFn w < 12)) 1 3
  else if op = 0x03 then some (1, 12 + 2 * (wFn w + 1))
  else if 0x04 ≤ op ∧ op ≤ 0x07 then some (1, 1)
  else if op = 0x08 then z (wB w == 0) 1 1
  else if op = 0x09 ∨ op = 0x0A then some (1, 1)
  else if 0x0B ≤ op ∧ op ≤ 0x0D then z (decide (wImm w < 32)) 1 1
  else if 0x10 ≤ op ∧ op ≤ 0x17 then some (1, 4)
  else if op = 0x18 ∨ op = 0x19 then some (1, 24)
  else if 0x20 ≤ op ∧ op ≤ 0x25 then some (1, 2)
  else if op = 0x28 ∨ op = 0x29 then some (1, 2)
  else if op = 0x2A then z (w % 2 ^ 26 == 0) 1 2
  else if op = 0x2B then some (1, 2)
  else if op = 0x30 then z (wB w == 0 && decide (wImm w < 10)) 1 (if wImm w = 0 then 2 else 1)
  else if op = 0x31 then z (decide (wB w < 12)) 1 2
  else if op = 0x32 then z (tripOk w) 1 2
  else if op = 0x33 then z (wA w == 0 && wB w == 0) 1 8
  else if op = 0x34 then z (w % 2 ^ 26 == 0) 1 4
  else if op = 0x35 then z (wImm w == 0) 1 12
  else if op = 0x36 then z (wImm w == 0) 1 4
  else if op = 0x37 then z (wImm w == 0) 2 12
  else if op = 0x38 then z (wImm w == 0) 2 4
  else if op = 0x39 ∨ op = 0x3A then z (w % 2 ^ 21 == 0) 2 6
  else none

end Sys2Proof.Machine

namespace Sys2Proof
open Sys2Proof.Machine

/-- A register number of a word's 5-bit field. -/
def regOf (n : Nat) : Reg := Fin.ofNat 32 n

/-- The ALU group's command for a function of 02 R55. -/
def aluInstr (c : Core) (fn : Nat) (gd ga gb : Reg) : Option Instr :=
  match fn with
  | 0x00 => some (.add c gd ga gb)
  | 0x01 => some (.sub c gd ga gb)
  | 0x02 => some (.and c gd ga gb)
  | 0x03 => some (.or c gd ga gb)
  | 0x04 => some (.xor c gd ga gb)
  | 0x05 => some (.sll c gd ga gb)
  | 0x06 => some (.srl c gd ga gb)
  | 0x07 => some (.sra c gd ga gb)
  | 0x08 => some (.slt c gd ga gb)
  | 0x09 => some (.sltu c gd ga gb)
  | 0x0A => some (.min c gd ga gb)
  | 0x0B => some (.max c gd ga gb)
  | 0x0C => some (.minu c gd ga gb)
  | 0x0D => some (.maxu c gd ga gb)
  | 0x0E => some (.csel c gd ga gb)
  | 0x10 => some (.mul c gd ga gb)
  | 0x11 => some (.mulh c gd ga gb)
  | 0x12 => some (.mulhu c gd ga gb)
  | 0x14 => some (.div c gd ga gb)
  | 0x15 => some (.divu c gd ga gb)
  | 0x16 => some (.rem c gd ga gb)
  | 0x17 => some (.remu c gd ga gb)
  | 0x18 => some (.clz c gd ga)
  | _ => none

/-- The QOP group's command for a function of 02 R56. -/
def qopInstr (c : Core) (fn : Nat) (gd ga gb : Reg) : Option Instr :=
  match fn with
  | 0x00 => some (.sadd c gd ga gb)
  | 0x01 => some (.ssub c gd ga gb)
  | 0x02 => some (.sneg c gd ga)
  | 0x03 => some (.sabs c gd ga)
  | 0x08 => some (.qmul16 c gd ga gb)
  | 0x09 => some (.qmul31 c gd ga gb)
  | 0x0A => some (.qmulm c gd ga gb)
  | 0x0B => some (.qmac16 c gd ga gb)
  | 0x0C => some (.qdiv16 c gd ga gb)
  | 0x10 => some (.qshl c gd ga gb)
  | 0x11 => some (.qshr c gd ga gb)
  | 0x18 => some (.q16to31 c gd ga)
  | 0x19 => some (.q31to16 c gd ga)
  | _ => none

/-- The commands of formats TI and TB with a 16-bit immediate or offset (02 R52, R54). -/
def immInstr (c : Core) (op : Nat) (a b : Reg) (imm : BitVec 16) (sh : Fin 32) : Option Instr :=
  match op with
  | 0x04 => some (.addi c a b imm)
  | 0x05 => some (.andi c a b imm)
  | 0x06 => some (.ori c a b imm)
  | 0x07 => some (.xori c a b imm)
  | 0x08 => some (.lui c a imm)
  | 0x09 => some (.slti c a b imm)
  | 0x0A => some (.sltiu c a b imm)
  | 0x0B => some (.slli c a b sh)
  | 0x0C => some (.srli c a b sh)
  | 0x0D => some (.srai c a b sh)
  | 0x10 => some (.lw c a b imm)
  | 0x11 => some (.lh c a b imm)
  | 0x12 => some (.lhu c a b imm)
  | 0x13 => some (.lb c a b imm)
  | 0x14 => some (.lbu c a b imm)
  | 0x15 => some (.sw c a b imm)
  | 0x16 => some (.sh c a b imm)
  | 0x17 => some (.sb c a b imm)
  | 0x18 => some (.lwx c a b imm)
  | 0x19 => some (.swx c a b imm)
  | 0x20 => some (.beq c a b imm)
  | 0x21 => some (.bne c a b imm)
  | 0x22 => some (.blt c a b imm)
  | 0x23 => some (.bge c a b imm)
  | 0x24 => some (.bltu c a b imm)
  | 0x25 => some (.bgeu c a b imm)
  | _ => none

/-- The commands of the other major opcodes (02 R54, R57, R60-R80). -/
def sysInstr (c : Core) (op w : Nat) : Option Instr :=
  let a := regOf (wA w)
  let b := regOf (wB w)
  match op with
  | 0x02 => some (.outx c a b (wFn w))
  | 0x03 => some (.chk c a b (regOf (wC w)) (wFn w + 1))
  | 0x28 => some (.j c (BitVec.ofNat 26 w))
  | 0x29 => some (.jal c (BitVec.ofNat 26 w))
  | 0x2A => some (.ret c)
  | 0x2B => some (.loop c a (w / 2 ^ 9 % 4096 + 1) (w % 512 + 1))
  | 0x30 => some (.mfs c a (wImm w))
  | 0x31 => some (.out c a (wB w) (wImm w))
  | 0x32 => some (.trip c (if wB w = 0 then .const (BitVec.ofNat 8 w) else .reg a) (wImm w / 256) true)
  | 0x33 => some (.waitt c (wImm w))
  | 0x34 => some (.commit c)
  | 0x35 => some (.ring c a b)
  | 0x36 => some (.rstat c a b)
  | 0x37 => some (.est c a b)
  | 0x38 => some (.estat c a b)
  | 0x39 => some (.split c a)
  | 0x3A => some (.join c a)
  | _ => none

/-- The command of a word that is no reserved encoding. -/
def assignedInstr (c : Core) (w : Nat) : Option Instr :=
  let a := regOf (wA w)
  let b := regOf (wB w)
  if wOp w = 0 then aluInstr c (wFn w) a b (regOf (wC w))
  else if wOp w = 1 then qopInstr c (wFn w) a b (regOf (wC w))
  else (immInstr c (wOp w) a b (BitVec.ofNat 16 w) (Fin.ofNat 32 w)).or (sysInstr c (wOp w) w)

/-- The command that a core executes for an instruction word (02 R52-R57): a reserved encoding spells RESERVED_ENCODING (R53). A TRIP
is decoded with its shadow core in agreement (07 R247). -/
def decodeTabbin (c : Core) (w : Nat) : Instr :=
  let reserved := Instr.reservedEncoding c (BitVec.ofNat 32 w)
  if (wordInfo w).isNone then reserved else (assignedInstr c w).getD reserved

/-- The command that a word of `nbits` bits spells: a Tabbin word of 32 bits, for Keeper-0 (log entry 15). -/
def decodeTableWord (nbits w : Nat) : Option Instr := if nbits = 32 ∧ w < 2 ^ 32 then some (decodeTabbin .k0 w) else none

end Sys2Proof
end

