-- ==== Sys2Proof/Machine/Hash.lean ====
section
/-! DEFINITION. The checks and hashes the manual names: CRC-16 and CRC-32C of 04 R124, SHA-256 (12 R417, 13 R451), HMAC-SHA-256
(13 R442) and AES-CMAC with AES-128 (06 R219). Bytes are numbers below 256, in transmission order. -/

namespace Sys2Proof.Machine

/-- One byte of CRC-16 with polynomial 0x1021, not reflected (04 R124). -/
def crc16Step (crc b : Nat) : Nat :=
  (List.range 8).foldl (fun c _ => if c.testBit 15 then (((c <<< 1) ^^^ 0x1021) % 65536) else (c <<< 1) % 65536)
    (crc ^^^ ((b % 256) <<< 8))

/-- CRC-16 of 04 R124. -/
def crc16 (bs : List Nat) : Nat := bs.foldl crc16Step 0xFFFF

/-- One byte of CRC-32C, reflected polynomial 0x82F63B78 (04 R124). -/
def crc32cStep (crc b : Nat) : Nat :=
  (List.range 8).foldl (fun c _ => if c.testBit 0 then (c >>> 1) ^^^ 0x82F63B78 else c >>> 1) (crc ^^^ (b % 256))

/-- CRC-32C of 04 R124. -/
def crc32c (bs : List Nat) : Nat := (bs.foldl crc32cStep 0xFFFFFFFF) ^^^ 0xFFFFFFFF

/-- `n` little-endian bytes of a number. -/
def leBytes (n v : Nat) : List Nat := (List.range n).map (fun i => (v >>> (8 * i)) % 256)

/-- The number of little-endian bytes. -/
def ofLe (bs : List Nat) : Nat := bs.foldr (fun b acc => (b % 256) + 256 * acc) 0

/-- The number of big-endian bytes. -/
def ofBe (bs : List Nat) : Nat := bs.foldl (fun acc b => acc * 256 + b % 256) 0

/-- `n` big-endian bytes of a number. -/
def beBytes (n v : Nat) : List Nat := (leBytes n v).reverse

/-- The 64 round constants of SHA-256 (12 R417), eight to a number, the first one in its highest 32 bits. -/
def shaConsts : List Nat :=
  [0x428a2f9871374491b5c0fbcfe9b5dba53956c25b59f111f1923f82a4ab1c5ed5,
   0xd807aa9812835b01243185be550c7dc372be5d7480deb1fe9bdc06a7c19bf174,
   0xe49b69c1efbe47860fc19dc6240ca1cc2de92c6f4a7484aa5cb0a9dc76f988da,
   0x983e5152a831c66db00327c8bf597fc7c6e00bf3d5a7914706ca635114292967,
   0x27b70a852e1b21384d2c6dfc53380d13650a7354766a0abb81c2c92e92722c85,
   0xa2bfe8a1a81a664bc24b8b70c76c51a3d192e819d6990624f40e3585106aa070,
   0x19a4c1161e376c082748774c34b0bcb5391c0cb34ed8aa4a5b9cca4f682e6ff3,
   0x748f82ee78a5636f84c878148cc7020890befffaa4506cebbef9a3f7c67178f2]

/-- Cut a number into `n` words of 32 bits, the highest first. -/
def words32 (n v : Nat) : List Nat := (List.range n).map (fun i => v / 2 ^ (32 * (n - 1 - i)) % 2 ^ 32)

/-- What a SHA-256 run holds between two rounds: the last four values of each of its two recurrences, newest first, and the next 16
words of the message schedule, the next one first. -/
structure ShaRun where
  up : List Nat
  lo : List Nat
  next : List Nat
deriving DecidableEq, Repr

/-- The exclusive or of a 32-bit number turned right by each of the listed amounts: the number written twice in a row is shifted. -/
def turns (x : Nat) (by_ : List Nat) : Nat := by_.foldl (fun acc n => acc ^^^ (x * (2 ^ 32 + 1)) / 2 ^ n % 2 ^ 32) 0

/-- One round with its constant: both recurrences gain a value and the schedule window moves on by one word. -/
def ShaRun.round (r : ShaRun) (k : Nat) : ShaRun :=
  match r.up, r.lo, r.next with
  | [a, b, c, d], [e, f, g, h], w :: rest =>
    let t := k + w + h + turns e [6, 11, 25] + (g ^^^ (e &&& (f ^^^ g)))
    let s := turns a [2, 13, 22] + ((a &&& b) ||| (c &&& (a ||| b)))
    let y := rest.getD 0 0
    let z := rest.getD 13 0
    let fresh := w + rest.getD 8 0 + (turns y [7, 18] ^^^ (y / 8)) + (turns z [17, 19] ^^^ (z / 1024))
    { up := [(t + s) % 2 ^ 32, a, b, c], lo := [(d + t) % 2 ^ 32, e, f, g], next := rest ++ [fresh % 2 ^ 32] }
  | _, _, _ => r

/-- Absorb one block of 64 bytes into the eight chaining words. -/
def shaAbsorb (chain block : List Nat) : List Nat :=
  let start : ShaRun := { up := chain.take 4, lo := chain.drop 4, next := words32 16 (ofBe block) }
  let r := shaConsts.foldl (fun r row => (words32 8 row).foldl ShaRun.round r) start
  List.zipWith (fun x y => (x + y) % 2 ^ 32) chain (r.up ++ r.lo)

/-- SHA-256 of a byte string, as 32 bytes: the string, the byte 0x80, zero bytes and the length in bits, taken in blocks of 64. -/
def sha256 (m : List Nat) : List Nat :=
  let blocks := (m.length + 72) / 64
  let msg := m ++ 0x80 :: List.replicate (64 * blocks - 9 - m.length) 0 ++ beBytes 8 (8 * m.length)
  let init := words32 8 0x6a09e667bb67ae853c6ef372a54ff53a510e527f9b05688c1f83d9ab5be0cd19
  ((span 0 blocks).foldl (fun c i => shaAbsorb c ((msg.drop (64 * i)).take 64)) init).flatMap (beBytes 4)

/-- HMAC-SHA-256 with a key of at most 64 bytes. -/
def hmacSha256 (key m : List Nat) : List Nat :=
  let k := key ++ List.replicate (64 - key.length) 0
  sha256 (k.map (· ^^^ 0x5c) ++ sha256 (k.map (· ^^^ 0x36) ++ m))

/-- Multiplication by x in GF(2^8) of AES. -/
def xtime (a : Nat) : Nat := let y := (a <<< 1) % 256; if a.testBit 7 then y ^^^ 0x1b else y

/-- Product in GF(2^8) of AES. -/
def gmul (a b : Nat) : Nat :=
  ((List.range 8).foldl (fun (acc : Nat × Nat) i => (if b.testBit i then acc.1 ^^^ acc.2 else acc.1, xtime acc.2)) (0, a)).1

/-- The AES substitution: the inverse in GF(2^8), then the affine map. -/
def sbox (a : Nat) : Nat :=
  let sq := fun x => gmul x x
  let a2 := sq a; let a4 := sq a2; let a8 := sq a4; let a16 := sq a8; let a32 := sq a16; let a64 := sq a32; let a128 := sq a64
  let v := gmul a2 (gmul a4 (gmul a8 (gmul a16 (gmul a32 (gmul a64 a128)))))
  let r := fun (x n : Nat) => ((x <<< n) ||| (x >>> (8 - n))) % 256
  v ^^^ r v 1 ^^^ r v 2 ^^^ r v 3 ^^^ r v 4 ^^^ 0x63

/-- Bytewise exclusive or. -/
def xorB (a b : List Nat) : List Nat := List.zipWith (· ^^^ ·) a b

/-- The next AES-128 round key. -/
def aesNextKey (k : List Nat) (rc : Nat) : List Nat :=
  let t := [sbox (k.getD 13 0) ^^^ rc, sbox (k.getD 14 0), sbox (k.getD 15 0), sbox (k.getD 12 0)]
  let w0 := xorB (k.take 4) t
  let w1 := xorB ((k.drop 4).take 4) w0
  let w2 := xorB ((k.drop 8).take 4) w1
  let w3 := xorB ((k.drop 12).take 4) w2
  w0 ++ w1 ++ w2 ++ w3

/-- ShiftRows. -/
def aesShift (s : List Nat) : List Nat := (List.range 16).map (fun i => s.getD ((i + 4 * (i % 4)) % 16) 0)

/-- MixColumns of one column. -/
def aesMixCol (c : List Nat) : List Nat :=
  (List.range 4).map (fun i =>
    gmul (c.getD i 0) 2 ^^^ gmul (c.getD ((i + 1) % 4) 0) 3 ^^^ c.getD ((i + 2) % 4) 0 ^^^ c.getD ((i + 3) % 4) 0)

/-- AES-128 of one block. -/
def aes128 (key blk : List Nat) : List Nat :=
  let r := [1, 2, 4, 8, 16, 32, 64, 128, 0x1b].foldl (fun (a : List Nat × List Nat) rc =>
    let k := aesNextKey a.2 rc
    let s := aesShift (a.1.map sbox)
    let m := (List.range 4).flatMap (fun c => aesMixCol ((s.drop (4 * c)).take 4))
    (xorB m k, k)) (xorB blk key, key)
  xorB (aesShift (r.1.map sbox)) (aesNextKey r.2 0x36)

/-- Doubling of the CMAC subkey. -/
def cmacDouble (b : List Nat) : List Nat :=
  let v := ofBe b
  beBytes 16 (((v <<< 1) % 2 ^ 128) ^^^ (if v.testBit 127 then 0x87 else 0))

/-- AES-CMAC with a 16-byte key (06 R219). -/
def aesCmac (key m : List Nat) : List Nat :=
  let k1 := cmacDouble (aes128 key (List.replicate 16 0))
  let k2 := cmacDouble k1
  let nb := if m.length = 0 then 1 else (m.length + 15) / 16
  let lastB := m.drop (16 * (nb - 1))
  let last := if lastB.length = 16 then xorB lastB k1
    else xorB (lastB ++ [0x80] ++ List.replicate (15 - lastB.length) 0) k2
  let c := (List.range (nb - 1)).foldl (fun c i => aes128 key (xorB c ((m.drop (16 * i)).take 16))) (List.replicate 16 0)
  aes128 key (xorB c last)

end Sys2Proof.Machine
end

