-- ==== Sys2Proof/Machine/State.lean ====
section
/-! DEFINITION. The state of the FN9648: every register, queue, buffer, counter, mode and pin the manual gives the block, the
ring partners the device sees over its rings, the memory, and the queue of waiting commands. Control-space registers live in
`Dev.regs`; what has structure of its own has a structure here. -/

namespace Sys2Proof.Machine
open Sys2Proof

/-- Why a command stops the machine. -/
inductive Fault
  /-- Raised by a command that names a ring port, channel, loop, string or controller number the variant does not have (00 R5):
  the event cannot happen. Safe: the machine stops where the hardware has nothing to do. -/
  | noSuchUnit
deriving DecidableEq, Repr

/-- Why a command is refused. -/
inductive Refusal
  /-- Raised by the dispatcher for a command that has no meaning yet. Safe. -/
  | notModelled (mnemonic : String)
deriving DecidableEq, Repr

/-- A staged or published output (02 R61-R62): class, index, value. -/
structure OutVal where
  cls : Nat
  idx : Nat
  val : Word
deriving DecidableEq, Repr

/-- One loop-stack entry (02 R41, R57): body start, address after the body, iterations left. -/
structure LoopEnt where
  start : Nat
  stop : Nat
  left : Nat
deriving DecidableEq, Repr

/-- What one activation holds (02 R37-R41, R44, R60-R61, R78): entry e of the task table, registers, pc, return stack of
(address, loop depth), loop stack, saturation indicator, TIME snapshot, staged outputs, segment number, cycles of the segment. -/
structure Ctx where
  task : Nat := 0
  regs : FMap Word := []
  pc : Nat := 0
  rstk : List (Nat × Nat) := []
  lstk : List LoopEnt := []
  sat : Bool := false
  snap : Nat := 0
  staged : List OutVal := []
  seg : Nat := 0
  cyc : Nat := 0
  wake : Nat := 0
deriving DecidableEq, Repr

/-- One Tabbin core: the current context, whether an activation runs in it, the suspended activations, the cycles counted since
the tick began (12 R415), and the dispatcher's list of tasks whose activation started in this tick (12 R403). -/
structure CoreSt where
  cur : Ctx := {}
  run : Bool := false
  susp : List Ctx := []
  cyc : Nat := 0
  started : List Nat := []
deriving DecidableEq, Repr

/-- One Keeper pair beyond its registers (12 R404-R410): times of its mismatches, pending SPLIT (false) or JOIN (true) and the
agreed scan, and whether a passed test lets the pair resume at the next boundary. -/
structure PairSt where
  mism : List Nat := []
  pend : Option (Bool × Nat) := none
  resume : Bool := false
deriving DecidableEq, Repr

/-- A captured pair of 32-bit halves for each master (19 R604). -/
structure Caps where
  time : Nat := 0
  qcnt : Nat := 0
  utc : Nat := 0
deriving DecidableEq, Repr

/-- Time, instants and ticks (01 R18-R27). `now` is device time in ns, `nextN` the next nominal instant, `placed` the next
instant once placed, `off` and `per` the OFFSET and period in force in ns, `free` whether the coming scan is free-running. -/
structure TimeSt where
  now : Nat := 0
  scanning : Bool := false
  inst : Nat := 0
  prevInst : Nat := 0
  nextN : Nat := 0
  placed : Option Nat := none
  off : Nat := 140000
  per : Nat := 100000000
  free : Bool := false
  instLocal : Bool := false
  msg : Bool := false
  ticks : Nat := 0
  late : Option Nat := none
  stretched : Bool := false
  stretchReq : Bool := false
  stretchEnd : Bool := false
  tick : Nat := 0
  tickStart : Nat := 0
  tickScan : Nat := 0
  ticksOn : Bool := false
  quietDone : Bool := false
  syncDone : Bool := false
  capK0 : Caps := {}
  capK1 : Caps := {}
  capF : Caps := {}
  capH : Caps := {}
deriving DecidableEq, Repr

/-- A calibration run (05 R187-R189): mask, samples per channel newest first, requester. -/
structure CalRun where
  mask : Nat
  samples : List (List Int)
  ready : Bool
deriving DecidableEq, Repr

/-- The scan header (05 R183). -/
structure Hdr where
  scan : Nat := 0
  flags : Nat := 0
  tinst : Nat := 0
  intv : Nat := 0
  own : List Int := []
  val : List Nat := []
  qcnt : Int := 0
deriving DecidableEq, Repr

/-- A module record of the cell table (05 R181); MODV, VMIN and the like are computed from it. `valid` holds 24 codes. -/
structure ModRec where
  cells : List Nat := []
  temps : List Int := []
  status : BitVec 64 := 0
  cfgtag : Word := 0
  valid : List Nat := []
  src : Nat := 0
  deliv : Nat := 3
  failed : Bool := false
  headStale : Bool := false
  age : Nat := 0
  head : List Nat := []
deriving DecidableEq, Repr

/-- One depth of the cell table views (05 R179): scan header and records by 64 × ring + hop − 1. -/
structure View where
  hdr : Hdr := {}
  recs : FMap ModRec := []
deriving DecidableEq, Repr

/-- The acquisition unit beyond its registers (05). `calReq` holds the channels of a calibration that was started and whose preconditions
are still to be checked (R188), `mine` the mirror's own results and `theirs` the primary's, while they wait for each other (12 R416), `settleNew` the SETTLING counts that begin with the next instant (R177). -/
structure AcqSt where
  coul : Int := 0
  sampleT : Nat := 0
  hist : List Int := []
  stepping : Bool := false
  stepQuiet : Nat := 0
  impStep : Bool := false
  impQuiet : Nat := 0
  quiet : Nat := 0
  offsets : List Int := [0, 0, 0, 0]
  newOffsets : Option (List Int) := none
  cal : Option CalRun := none
  calReq : Option Nat := none
  settle : FMap Nat := []
  settleNew : FMap Nat := []
  plausBad : FMap Nat := []
  plausGood : FMap Nat := []
  suspect : FMap Bool := []
  isOver : FMap Bool := []
  mine : List Int := []
  ownHv1 : Option Int := none
  theirs : List Int := []
  isoRes : Option (Nat × Nat) := none
  isoSkip : Nat := 2
  isoBad : Bool := false
  hold : Nat := 0
  lastI : Int := 0
  views : List View := []
  next : View := {}
  ageRun : FMap Bool := []
  diffRun : FMap Nat := []
  strAge : FMap Nat := []
  failedSlots : List (Nat × Nat) := []
  halfSlots : List SlotIn := []
  halfHeads : List HeadIn := []
deriving DecidableEq, Repr

/-- A response record as it lies in a module or in a response buffer (04 R133, R146): result, replay flag, data bytes, the commissioned
hop that wrote it (0: no record), and the hop that RSTATUS echoes (0: its wire hop in this port's frame). -/
structure Rec where
  res : Nat := 0
  replay : Bool := false
  data : List Nat := []
  hop : Nat := 0
  echo : Nat := 0
deriving DecidableEq, Repr

/-- A balance-switch test in a module (06 R208-R209): when it starts (none: 100 µs after the next sample), its end then, the selected
cells, and the shifts that the 16 cells will show. -/
structure BalTest where
  start : Option Nat
  dwell : Nat
  mask : Nat
  res : List Int
deriving DecidableEq, Repr

/-- A module on a ring as the device sees it over the link (04 R136-R137, 05 R160, 06 R204-R219, 09 R318). `timers` holds the bleed
timers' remaining ns at `timersT` (06 R204), `lossT` the last SCAN or KEEP frame (R206), `test` the running balance-switch test
and `btest` the results of the last completed one, `nReset` and the like the counters of page 0x03 (R214), `selfTurn` that an
automatic turnaround ends by itself (04 R137), `sent` the status of the last slot (R136). -/
structure Module where
  ident : Option ModId := none
  ver : Nat := 2
  dlyd : Nat := 0
  dlyu : Nat := 0
  rcd : Nat := 0
  rcu : Nat := 0
  turn : Nat := 0
  autoTa : Bool := false
  autoTb : Bool := false
  selfTurn : Bool := false
  tag : Word := 0
  errHdr : Nat := 0
  errPay : Nat := 0
  status : BitVec 64 := 0
  sent : BitVec 64 := 0
  lossto : Nat := 500
  inen : Word := 0x00FFFFFF
  aaf : Word := 1
  diagcfg : Word := 0x1E000064
  keygen : Nat := 0
  key : Nat := 0
  kato : Nat := 50
  settleCnt : Nat := 0
  timers : List Nat := []
  timersT : Nat := 0
  lossT : Option Nat := none
  test : Option BalTest := none
  btest : List Int := []
  nReset : Nat := 0
  nLoss : Nat := 0
  nAuth : Nat := 0
  nBal : Nat := 0
  burst : Option (Nat × Nat) := none
  burstReady : Bool := false
  frzT : Nat := 0
  hides : List (Nat × Bool) := []
  capture : FMap (List Nat) := []
  replay : List (Nat × Rec) := []
deriving DecidableEq, Repr

/-- The string head at hop 1 (04 R129, R149-R150, 10 R358-R359). Coils and contacts are bits of CTFB; `preT` is when the pre-charge coil was
energised, `negOff` when the negative coil falls after an OPEN. -/
structure Head where
  istr : Int := 0
  coilP : Bool := false
  coilN : Bool := false
  coilPre : Bool := false
  conP : Bool := false
  conN : Bool := false
  conPre : Bool := false
  hstat : Nat := 0
  kaexp : Bool := false
  lastSeq : Option Nat := none
  stored : Rec := {}
  kato : Nat := 50
  karem : Nat := 50
  kaT : Nat := 0
  kaSeen : Option Nat := none
  kaWait : Bool := false
  preT : Nat := 0
  negOff : Option Nat := none
deriving DecidableEq, Repr

/-- A frame as a port launches it (04 R121-R126, R131): TYPE, DIR, RETRY, CODE, first and last wire hop − 1, TAG, request payload,
RECLEN, SEQ, and the number of slots or records it carries. Its bytes are `Frame.bytes`. -/
structure Frame where
  type : Nat := 2
  dirB : Bool := false
  retry : Bool := false
  code : Nat := 0
  firstM1 : Nat := 0
  lastM1 : Nat := 0
  tag : Nat := 0
  req : List Nat := []
  recLen : Nat := 0
  seq : Nat := 0
  areas : Nat := 0
deriving DecidableEq, Repr

/-- A ring transaction (02 R72-R75, 04 R131, R141, R146): tag, holder (0 the device, else task entry + 1), code, hops, request
bytes, response buffer, state (0 queued, 1 in flight, 2 done, 3 failed, 4 waiting for the other end), retries made, records by hop
with delivery code. `away` holds the hops handed to the other twin, `origin` the tag at the twin that handed this one over, `others`
the other replay-class frames launched to its range since its own last frame (R147). -/
structure Txn where
  tag : Nat
  holder : Nat
  code : Nat
  first : Nat
  last : Nat
  req : List Nat := []
  bufAddr : Nat := 0
  bufLen : Nat := 0
  recLen : Nat := 4
  st : Nat := 0
  retries : Nat := 0
  lo : Nat := 1
  hi : Nat := 1
  recs : List (Nat × Nat) := []
  away : List Nat := []
  origin : Option Nat := none
  others : Nat := 0
deriving DecidableEq, Repr

/-- The device's balance-switch test of a module (06 R210): what each of its two passes still needs (0 to start, 1 started and to be
read, 2 read), its aborts, the cell voltages of the scan before it and its shifts. -/
structure BtRun where
  st0 : Nat := 0
  st1 : Nat := 0
  try0 : Nat := 0
  try1 : Nat := 0
  volt0 : List Nat := []
  volt1 : List Nat := []
  res0 : List Int := []
  res1 : List Int := []
deriving DecidableEq, Repr

/-- One ring port beyond its registers (04, 06). `cfgStep` is the step of a hop's configuration sequence (06 R217; 9: done, the next
slot decides), `newKey` generation and key of a KEYSET on its way (R223), `frame` the last frame launched, `scanOut` and `scanBack`
whether the scan frame is out and has come back, `isolated` that the ring has not been in RUN since it was ISOLATED (07 R257),
`reach` how many modules the frame out passes, `farRanged` that the other twin has ranged the ring in this discovery (04 R145 step 3), `owed` hops whose
challenge waits for their configuration tag (06 R221). Identity states (06 R220): 0 PENDING, 1 AUTH, 2 FAILED, 3 NEW, 4 ACCEPTED. -/
structure Port where
  txns : List Txn := []
  lostRun : Nat := 0
  mods : FMap Module := []
  head : Head := {}
  records : FMap Rec := []
  identity : FMap Nat := []
  uidWanted : FMap Nat := []
  authFails : FMap Nat := []
  challenge : FMap (List Nat) := []
  cfgStale : FMap Bool := []
  cfgFails : FMap Nat := []
  discHop : FMap Bool := []
  barred : FMap Nat := []
  btFail : FMap Nat := []
  diagSeen : FMap Nat := []
  lastKeep : Nat := 0
  headSeq : Nat := 0
  backlog : List Txn := []
  c0a : Nat := 0
  c0b : Nat := 0
  frame : Frame := {}
  hdrBad : List Nat := []
  payBad : List Nat := []
  isolated : Bool := false
  scanOut : Bool := false
  scanBack : Bool := false
  backT : Nat := 0
  cfgStep : FMap Nat := []
  btRun : FMap (Option BtRun) := []
  newKey : FMap (Nat × Nat) := []
  diagPend : FMap Nat := []
  diagPage : FMap (List Nat) := []
  reach : Nat := 64
  farRanged : Bool := false
  owed : FMap Bool := []
deriving DecidableEq, Repr

/-- A pending trip release (07 R252): session, SEQ, mask, scan of its boundary, zones requested since it arrived. -/
structure RelReq where
  sess : Nat
  seq : Nat
  mask : Nat
  due : Nat
  seen : Nat := 0
deriving DecidableEq, Repr

/-- Protection beyond its registers (07). Element keys: ((64 × ring + hop − 1) × 8 + kind) × 16 + input − 1. `gPend` holds the grants
that fell (end of GGRACE, charge, discharge, mA), `limits` the Layer 2 limits plus one, 0 for none. `restored` tells that start-up has
restored the latches (R248), `early` holds requests (zones, source, reason) that came before. -/
structure ProtSt where
  cntA : FMap Nat := []
  cntB : FMap Nat := []
  env : List (List EnvRec) := []
  envVer : Nat := 0
  active : FMap Bool := []
  latchT : FMap Nat := []
  reqAt : FMap Nat := []
  mramLatch : Nat := 0
  restored : Bool := false
  early : List (Nat × Nat × Nat) := []
  rels : List RelReq := []
  check : Option RelReq := none
  gxCnt : Nat := 0
  gxActive : Bool := false
  gPend : List (Nat × Nat × Nat) := []
  limits : FMap Nat := []
deriving DecidableEq, Repr

/-- A string reduction record (08 R278). -/
structure StrRec where
  scan : Nat := 0
  ncell : Nat := 0
  zmin : Int := 0
  zmax : Int := 0
  jz : Nat := 0xFFFFFFFF
  qsum : Int := 0
  qzsum : Int := 0
  lmin : List Int := []
  rej : Nat := 0
  noupd : Nat := 0
deriving DecidableEq, Repr

/-- A queued or finished Canopy task job (02 R76, 08 R288-R290): owner entry, handle, descriptor words, state (0 queued,
1 running, 2 done, 3 failed). -/
structure EstJob where
  owner : Nat
  handle : Nat
  desc : List Nat
  st : Nat := 0
deriving DecidableEq, Repr

/-- One Keeper pair's job queue: generation count and eight slots at most. -/
structure EstQ where
  gen : Nat := 0
  jobs : List EstJob := []
deriving DecidableEq, Repr

/-- A string's snapshot entry (08 R293): scan, order of writing, topology digest, CRC-32C, cells (Z, H, FQ, FR) and whether every word of
it passed its read-back. -/
structure Snap where
  scan : Nat := 0
  ord : Nat := 0
  crc : Nat := 0
  top : List Nat := []
  cells : List (Int × Int × Int × Int) := []
  ok : Bool := false
deriving DecidableEq, Repr

/-- The load step that froze the strings (09 R320-R323): its time, the mean block current before it, the step once ts + 100 µs has
passed, the string currents and the block current of the first instant at least 1 ms later, and the block current after it. -/
structure StepSt where
  t : Nat := 0
  pre : Int := 0
  di : Int := 0
  pend : Bool := false
  wait : Bool := false
  istr : FMap Int := []
  blk : Int := 0
  sum : Int := 0
  n : Nat := 0
  lo : Int := 0
  hi : Int := 0
deriving DecidableEq, Repr

/-- Canopy beyond its registers (08). `abandoned` tells that the scan's job did not end by its bound (R286). `inst` holds, per string, the instants since the last job: current in q16, dt, validity code. `rec2` and the like keep what tasks still read in ticks 0 to 3
(01 R26), `frzHop` the scan whose instant froze a hop's capture (09 R320), `tblBad` marks chemistry sets whose table memory holds an uncorrectable word (R295). -/
structure CnpySt where
  page0 : FMap Slot := []
  page1 : FMap Slot := []
  conf : Nat := 0
  job : Option Nat := none
  wrote : Bool := false
  repeated : Bool := false
  abandoned : Bool := false
  q0 : EstQ := {}
  q1 : EstQ := {}
  turn : Bool := false
  running : Option (Nat × Nat) := none
  chem : List Chem := []
  rec0 : FMap StrRec := []
  rec1 : FMap StrRec := []
  rec2 : FMap StrRec := []
  recW : FMap StrRec := []
  tblBad : FMap Bool := []
  insts : FMap (List (Int × Nat × Nat)) := []
  snapA : FMap Snap := []
  snapB : FMap Snap := []
  snapNext : Nat := 0
  snapUseB : Bool := false
  lastHealth : Nat := 0
  imp : FMap (List Nat) := []
  impWork : FMap (List Nat) := []
  sig : List Nat := []
  tfb : FMap Bool := []
  bursts : FMap (List Nat) := []
  refs : FMap (List Nat) := []
  frzHop : FMap Nat := []
  steps : FMap StepSt := []
  frzZ : FMap (Int × Int) := []
  smiss : FMap Nat := []
  tinsts : List Nat := []
  balNext : Nat := 0
  timers : FMap (List Nat) := []
deriving DecidableEq, Repr

/-- A request waiting for a tick boundary (10 R346-R347): target (0 block, n + 1 string n), command word, source (0 task,
1 FSP, 2 device), scan of its boundary. -/
structure SeqReq where
  tgt : Nat
  word : Nat
  src : Nat
  due : Nat
deriving DecidableEq, Repr

/-- A control loop's live state (10 R363-R367). -/
structure LoopSt where
  mode : Nat := 0
  sp : Int := 0
  ff : Int := 0
  e1 : Int := 0
  e2 : Int := 0
  w1 : Int := 0
  w2 : Int := 0
  missed : Bool := false
deriving DecidableEq, Repr

/-- Contactors and the control engine beyond their registers (10). `agrPos` and `agrNeg` are the holds of the agreed sequence state, which the
outputs follow but in RESYNC (12 R430). `limP` and `limN` mark holds that a current limit turned off (18 R585). -/
structure CtlSt where
  blk : BlkSeq := {}
  strs : FMap StrSeq := []
  reqs : List SeqReq := []
  loops : FMap LoopSt := []
  pwm : FMap Int := []
  duty : Int := 0
  posEco : Bool := false
  negEco : Bool := false
  posT : Nat := 0
  negT : Nat := 0
  posArc : Option Int := none
  negArc : Option Int := none
  gateLow : Bool := true
  fltN : Bool := true
  headFb : FMap Bool := []
  limP : Bool := false
  limN : Bool := false
  agrPos : Bool := false
  agrNeg : Bool := false
deriving DecidableEq, Repr

/-- A load switch channel's live state (11 R379-R387). `b` is the clamp budget in 0.2 nJ at time `bT`; a select that is closed for a
member no longer demanded waits to open. -/
structure Lsw where
  on : Bool := false
  demA : Bool := false
  demB : Bool := false
  selA : Bool := false
  selB : Bool := false
  waitA : Bool := false
  waitB : Bool := false
  firstB : Bool := false
  rcnt : Nat := 0
  oc : Bool := false
  ot : Bool := false
  otHot : Bool := false
  ol : Bool := false
  retry : Bool := false
  clamp : Bool := false
  fwfail : Bool := false
  pause : Bool := false
  lh : Bool := false
  b : Nat := 0
  bT : Nat := 0
  agr : Nat := 0
  copy : Nat := 0
  evt : Bool := false
  turnOnAt : Nat := 0
deriving DecidableEq, Repr

/-- The limp-home unit (11 R390-R393). -/
structure LhSt where
  loaded : Bool := false
  map : FMap Nat := []
  wdt : Nat := 20
  ins : Nat := 0
  insCand : FMap Nat := []
  enLow : Bool := false
  wdog : Bool := false
  inReset : Bool := true
  waiting : FMap Bool := []
deriving DecidableEq, Repr

/-- The twin unit beyond its registers (12). `moor` holds the messages sent over Mooring since the running tick began, in the order of their
priority classes, with the scan number each carries (R411, log entry 156), `rxScan` the scan number of the last good message received and `rxAgain` that one came with a failed CRC and is to come again; `partnerAuth` tells that
the partner holds authority (R434), `imgs` the partner's accepted images by kind with the switch-over scan it named (03 R104). `joining` tells the authority that its partner resynchronises (R430), `bulkSent` that the bulk state has gone out. -/
structure TwinSt where
  paired : Bool := false
  everPaired : Bool := false
  transT : List Nat := []
  matches_ : Nat := 0
  resyncTry : Nat := 0
  pubsSince : List OutVal := []
  pubsCut : List OutVal := []
  partnerFlags : FMap Nat := []
  partnerWarn : Bool := false
  partnerHalf : Bool := false
  partnerEvents0 : List Nat := []
  partnerEvents1 : List Nat := []
  selftest : Bool := false
  bdigBad : Bool := false
  arings : Nat := 48
  timeSet : Bool := false
  joining : Bool := false
  info : Option PairInfo := none
  diff : Int := 0
  bulkSent : Bool := false
  moor : List (Nat × Mooring) := []
  rxScan : Nat := 0
  rxAgain : Bool := false
  partnerAuth : Bool := false
  imgs : FMap (List Nat × Nat) := []
deriving DecidableEq, Repr

/-- An image transfer in progress (14 R491). -/
structure Transfer where
  sess : Nat
  len : Nat
  bytes : FMap Nat := []
  lastT : Nat := 0
deriving DecidableEq, Repr

/-- Firmware in one slot (13 R445): valid, RELEASE, TWINLEVEL, SVN, SHA-256. -/
structure Fw where
  valid : Bool := false
  release : Nat := 0
  twinLevel : Nat := 0
  svn : Nat := 0
  hash : List Nat := []
deriving DecidableEq, Repr

/-- Heartwood beyond its registers (13, 14). Kinds of floors: 0 envelope, 1 chemistry, 2 program set, 3 topology. `kr` and `ks` are KR and KS
in its registers, without which its sealed area is closed, `kt` KT, `kp` KP (13 R441); DUS, KA and KE are fixed at manufacture (Config).
`revoked` marks Melfer keys whose fuse is blown (13 R443), `alert` is the last TLS alert sent (13 R459). -/
structure HwdSt where
  ownerKeys : FMap Nat := []
  roleKeys : FMap Nat := []
  slots : FMap (Option TenantSlot) := []
  tokens : FMap (Nat × Nat) := []
  rateEvt : FMap Nat := []
  twinPair : Option (Nat × Nat) := none
  ktGen : Nat := 0
  kr : Option Nat := none
  ks : Option Nat := none
  kt : Nat := 0
  kp : Option Nat := none
  revoked : Nat := 0
  alert : Option Nat := none
  keys : FMap Nat := []
  gens : FMap Nat := []
  floors : FMap Nat := []
  failT : List Nat := []
  sessions : FMap (Option Session) := []
  fw : FMap Fw := []
  recovery : Bool := false
  boots : Nat := 0
  xfer : Option Transfer := none
  ownActs : List (Nat × OwnAct) := []
  fspActs : List (Nat × Nat × Nat × FspAct) := []
  seqWait : List ((Nat × Nat × Nat) × Nat × Nat) := []
  fwh : List Nat := []
  envh : List Nat := []
  chemh : List Nat := []
  progh : List Nat := []
  toph : List Nat := []
  reply : Nat × List Nat := (0, [])
deriving DecidableEq, Repr

/-- The dispatch profile (14 R481-R483). -/
structure DispSt where
  ver : Nat := 0
  cnt : Nat := 0
  lastSeq : Option Nat := none
  ptoOut : Bool := false
  lastT : Nat := 0
  scansTo : Nat := 0
  sent : List (List Nat) := []
deriving DecidableEq, Repr

/-- Ethernet beyond its registers (14 R484-R487). -/
structure EthSt where
  offset : Int := 0
  offsetOk : Bool := false
  lastSync : Nat := 0
deriving DecidableEq, Repr

/-- A physical SRAM bank (15 R504, R535): state 0 backing, 1 spare, 2 swap, 3 idle donor, 4 retired. -/
structure Bank where
  st : Nat := 0
  logical : Nat := 0
  rows : Nat := 0
deriving DecidableEq, Repr

/-- The memory unit (15 R504-R518). `poison` marks uncorrectable SRAM words by address / 8, `badCode` uncorrectable words of the instruction
caches by 65536 × pair + address / 8 (02 R39, R82), `badData` those of the data caches by 2^29 × pair + address / 8 (12 R401): write-through,
they hold nothing else that memory does not. -/
structure MemSt where
  banks : FMap Bank := []
  poison : FMap Bool := []
  badCode : FMap Bool := []
  badData : FMap Bool := []
  queue : List Nat := []
  test : Nat := 0
  destructive : Bool := false
  running : Bool := false
  redirected : Bool := false
deriving DecidableEq, Repr

/-- A Growth log record (15 R531-R532); continuations hold 22 bytes each. -/
structure LogRec where
  seq : Nat := 0
  ty : Nat := 0
  gap : Bool := false
  utc : Bool := false
  event : Nat := 0xFFFF
  time : Nat := 0
  scan : Nat := 0
  detail : List Nat := []
  conts : List (List Nat) := []
  bad : Bool := false
deriving DecidableEq, Repr

/-- An open one-second EVENT window (15 R530). -/
structure EvtWin where
  count : Nat := 0
  time : Nat := 0
  scan : Nat := 0
  inst : Nat := 0
  opened : Nat := 0
deriving DecidableEq, Repr

/-- Events and the Growth log beyond their registers (15 R523-R538). -/
structure LogSt where
  recs : List LogRec := []
  queue : List LogRec := []
  gap : Bool := false
  nextSeq : Nat := 1
  wins : FMap (Option EvtWin) := []
  set0 : List Nat := []
  set1 : List Nat := []
  col0 : List Nat := []
  col1 : List Nat := []
  tcx : List (Nat × Nat) := []
  pos : Nat := 0
  user0 : Nat := 0
  user1 : Nat := 0
  dropT : Option Nat := none
deriving DecidableEq, Repr

/-- Power and clocks beyond their registers (16). `enfHalf` is the agreed halving by thermal enforcement (R556), `noRun` marks a start whose self-tests failed (07 R242, 12 R405). -/
structure PwrSt where
  storeMark : Bool := false
  cause : Nat := 1
  rail : Nat := 0
  inReset : Bool := true
  vthrDue : Option Nat := none
  halfDue : Option Nat := none
  enfHalf : Bool := false
  stDue : Option (Nat × Nat) := none
  watchPll : Bool := true
  pwrEn : Bool := true
  cnt110 : Nat := 0
  cnt135 : Nat := 0
  act110 : Bool := false
  act135 : Bool := false
  cold : Bool := false
  noRun : Bool := false
  shut : Bool := false
deriving DecidableEq, Repr

/-- The device: everything but the memory and the queue of commands. `pubs` holds the last published value of each output by
65536 × class + index, `pubSet` the outputs ever published, `committed` what the ending tick will publish. `readData` is what
the last register read returned and `freeCnt` numbers the free values taken: both are the model's own (log entries 3, 7). -/
structure Dev where
  regs : FMap Word := []
  time : TimeSt := {}
  k0 : CoreSt := {}
  k1 : CoreSt := {}
  k0b : CoreSt := {}
  k1b : CoreSt := {}
  pair0 : PairSt := {}
  pair1 : PairSt := {}
  pubs : FMap Word := []
  pubSet : List Nat := []
  committed : List OutVal := []
  factZones0 : Nat := 0
  factZones1 : Nat := 0
  acq : AcqSt := {}
  ports : FMap Port := []
  prot : ProtSt := {}
  cnpy : CnpySt := {}
  rep : RepSt := {}
  ctl : CtlSt := {}
  lsw : FMap Lsw := []
  lh : LhSt := {}
  twin : TwinSt := {}
  hwd : HwdSt := {}
  cans : FMap CanSt := []
  disp : DispSt := {}
  eth : EthSt := {}
  ram : MemSt := {}
  log : LogSt := {}
  pwr : PwrSt := {}
  img : ImgSt := {}
  readData : Word := 0
  freeCnt : Nat := 0
deriving DecidableEq, Repr

/-- The whole machine: the device, its memory (SRAM and MRAM bytes, log entry 1) and the waiting commands, first in first out. -/
structure State where
  dev : Dev := {}
  mem : FMap Byte := []
  pending : List Instr := []
deriving DecidableEq, Repr

/-- The machine right after reset: every register at the reset value of its table, no command waiting, memory with nothing
listed, device state empty (log entries 8 and 9 name the values the manual does not give). -/
def State.reset : State := {}

end Sys2Proof.Machine

namespace Sys2Proof.Config

/-- What the records of a topology body mean, each its type and its words. The manual names the record types and their tables (13 R447, 14 R470) but not how many records a
table takes nor how lists are packed, so the reading of a body stays free. Log entry 10. -/
opaque parseTopology : List (Nat × List Nat) → Option Machine.Topo

end Sys2Proof.Config
end

