-- ==== Sys2Proof/Machine/RegMap.lean ====
section
/-! DEFINITION. The control-space register map (19 R593-R600): addresses, and for every register its reset value, the bits a
master's write sets (RW), the bits a written 1 clears (W1C) and the counter control that makes its count clear on read. -/

namespace Sys2Proof.Machine

namespace A

/-- SYS.UNITMAP (R8). -/
def sysUnitmap : Nat := 0x40000008
/-- SYS.TSTATe (R111). -/
def sysTstat (j : Nat) : Nat := 0x40000800 + 4 * j
/-- SYS.TMISSe (R112). -/
def sysTmiss (j : Nat) : Nat := 0x40000a00 + 4 * j
/-- RING.CFG (R151). -/
def ringCfg (i : Nat) : Nat := 0x40030000 + 1024 * i
/-- RING.STAT (R152). -/
def ringStat (i : Nat) : Nat := 0x40030004 + 1024 * i
/-- RING.LOOP (R153). -/
def ringLoop (i : Nat) : Nat := 0x40030008 + 1024 * i
/-- RING.TAGS (R154). -/
def ringTags (i : Nat) : Nat := 0x4003000c + 1024 * i
/-- RING.CNTCTL (R155). -/
def ringCntctl (i : Nat) : Nat := 0x40030010 + 1024 * i
/-- RING.CRCERR (R156). -/
def ringCrcerr (i : Nat) : Nat := 0x40030014 + 1024 * i
/-- RING.RETRY (R156). -/
def ringRetry (i : Nat) : Nat := 0x40030018 + 1024 * i
/-- RING.LOST (R156). -/
def ringLost (i : Nat) : Nat := 0x4003001c + 1024 * i
/-- RING.OVF (R157). -/
def ringOvf (i : Nat) : Nat := 0x40030020 + 1024 * i
/-- RING.MODVER0 (R158). -/
def ringModver0 (i : Nat) : Nat := 0x40030030 + 1024 * i
/-- RING.MODVER1 (R158). -/
def ringModver1 (i : Nat) : Nat := 0x40030034 + 1024 * i
/-- RING.DLYh (R159). -/
def ringDly (i : Nat) (j : Nat) : Nat := 0x40030100 + 1024 * i + 4 * (j - 1)
/-- ACQ.CTL (R192). -/
def acqCtl : Nat := 0x40040000
/-- ACQ.STAT (R193). -/
def acqStat : Nat := 0x40040004
/-- ACQ.SCAN (R194). -/
def acqScan : Nat := 0x40040008
/-- ACQ.STRETCH (R195). -/
def acqStretch : Nat := 0x4004000c
/-- ACQ.STEP (R196). -/
def acqStep : Nat := 0x40040010
/-- ACQ.FILT (R197). -/
def acqFilt : Nat := 0x40040014
/-- ACQ.VALCFG (R198). -/
def acqValcfg : Nat := 0x40040018
/-- ACQ.CALCTL (R199). -/
def acqCalctl : Nat := 0x40040020
/-- ACQ.CALSTAT (R199). -/
def acqCalstat : Nat := 0x40040024
/-- ACQ.QCNTL (R200). -/
def acqQcntl : Nat := 0x40040030
/-- ACQ.QCNTH (R200). -/
def acqQcnth : Nat := 0x40040034
/-- RING.AUTH0 (R225). -/
def ringAuth0 (i : Nat) : Nat := 0x40030040 + 1024 * i
/-- RING.AUTH1 (R225). -/
def ringAuth1 (i : Nat) : Nat := 0x40030044 + 1024 * i
/-- RING.CFGST0 (R226). -/
def ringCfgst0 (i : Nat) : Nat := 0x40030048 + 1024 * i
/-- RING.CFGST1 (R226). -/
def ringCfgst1 (i : Nat) : Nat := 0x4003004c + 1024 * i
/-- RING.BTF0 (R227). -/
def ringBtf0 (i : Nat) : Nat := 0x40030050 + 1024 * i
/-- RING.BTF1 (R227). -/
def ringBtf1 (i : Nat) : Nat := 0x40030054 + 1024 * i
/-- CNPY.BALEN0 (R228). -/
def cnpyBalen0 : Nat := 0x40060400
/-- CNPY.BALEN1 (R228). -/
def cnpyBalen1 : Nat := 0x40060404
/-- PROT.STAT (R259). -/
def protStat : Nat := 0x40050000
/-- PROT.SRCz (R260). -/
def protSrc (j : Nat) : Nat := 0x40050010 + 4 * j
/-- PROT.L0ACT (R261). -/
def protL0act : Nat := 0x40050030
/-- PROT.L0FIRST (R261). -/
def protL0first : Nat := 0x40050034
/-- PROT.BLKZ (R262). -/
def protBlkz : Nat := 0x40050040
/-- PROT.STRZk (R262). -/
def protStrz (j : Nat) : Nat := 0x40050050 + 4 * j
/-- PROT.LATCHES (R263). -/
def protLatches : Nat := 0x40050080
/-- PROT.OVF (R263). -/
def protOvf : Nat := 0x40050084
/-- PROT.CNTCTL (R263). -/
def protCntctl : Nat := 0x40050088
/-- CNPY.STAT (R297). -/
def cnpyStat : Nat := 0x40060000
/-- CNPY.CONF (R298). -/
def cnpyConf : Nat := 0x40060004
/-- CNPY.CHEM (R299). -/
def cnpyChem : Nat := 0x40060008
/-- CNPY.NSETS (R299). -/
def cnpyNsets : Nat := 0x4006000c
/-- CNPY.REJ (R300). -/
def cnpyRej : Nat := 0x40060010
/-- CNPY.REINIT (R300). -/
def cnpyReinit : Nat := 0x40060014
/-- CNPY.OVF (R301). -/
def cnpyOvf : Nat := 0x40060018
/-- CNPY.CNTCTL (R301). -/
def cnpyCntctl : Nat := 0x4006001c
/-- CNPY.SNAP (R302). -/
def cnpySnap : Nat := 0x40060020
/-- CNPY.IMPCTL (R336). -/
def cnpyImpctl : Nat := 0x40060040
/-- CNPY.IMPSTAT (R337). -/
def cnpyImpstat : Nat := 0x40060044
/-- CNPY.RSV (R338). -/
def cnpyRsv : Nat := 0x40060048
/-- CNPY.CAPDIS0 (R339). -/
def cnpyCapdis0 : Nat := 0x40060050
/-- CNPY.CAPDIS1 (R339). -/
def cnpyCapdis1 : Nat := 0x40060054
/-- CTL.STAT (R370). -/
def ctlStat : Nat := 0x40070000
/-- CTL.SEQRES (R371). -/
def ctlSeqres : Nat := 0x40070004
/-- CTL.SRESn (R371). -/
def ctlSres (j : Nat) : Nat := 0x40070300 + 4 * j
/-- CTL.LSTATn (R372). -/
def ctlLstat (j : Nat) : Nat := 0x40070040 + 4 * j
/-- CTL.LMISSn (R373). -/
def ctlLmiss (j : Nat) : Nat := 0x40070080 + 4 * j
/-- CTL.LOUTn (R373). -/
def ctlLout (j : Nat) : Nat := 0x400700c0 + 4 * j
/-- CTL.CNTCTL (R373). -/
def ctlCntctl : Nat := 0x40070010
/-- CTL.LCYCk (R374). -/
def ctlLcyc (j : Nat) : Nat := 0x40070100 + 8 * j
/-- CTL.LARCk (R374). -/
def ctlLarc (j : Nat) : Nat := 0x40070104 + 8 * j
/-- LSW.STAT (R395). -/
def lswStat : Nat := 0x40080000
/-- LSW.UNLOCK (R396). -/
def lswUnlock : Nat := 0x40080004
/-- LSW.LHCFG (R397). -/
def lswLhcfg : Nat := 0x40080008
/-- LSW.LHMAPk (R398). -/
def lswLhmap (j : Nat) : Nat := 0x40080010 + 4 * j
/-- LSW.CHn (R399). -/
def lswCh (j : Nat) : Nat := 0x40080100 + 4 * j
/-- LSW.CFGn (R400). -/
def lswCfg (j : Nat) : Nat := 0x40080200 + 4 * j
/-- SYS.KSTATp (R436). -/
def sysKstat (j : Nat) : Nat := 0x40000020 + 4 * j
/-- SYS.KCMPp (R436). -/
def sysKcmp (j : Nat) : Nat := 0x40000028 + 4 * j
/-- TWIN.STAT (R437). -/
def twinStat : Nat := 0x40090000
/-- TWIN.PAIR (R438). -/
def twinPair : Nat := 0x40090004
/-- TWIN.DSCAN (R439). -/
def twinDscan : Nat := 0x40090008
/-- TWIN.SECT (R439). -/
def twinSect : Nat := 0x4009000c
/-- TWIN.DIGk (R439). -/
def twinDig (j : Nat) : Nat := 0x40090010 + 4 * j
/-- TWIN.PDIGk (R439). -/
def twinPdig (j : Nat) : Nat := 0x40090030 + 4 * j
/-- TWIN.TRANS (R440). -/
def twinTrans : Nat := 0x40090050
/-- TWIN.GRAFTS (R440). -/
def twinGrafts : Nat := 0x40090054
/-- TWIN.UNAVL (R440). -/
def twinUnavl : Nat := 0x40090058
/-- TWIN.OVF (R440). -/
def twinOvf : Nat := 0x4009005c
/-- TWIN.CNTCTL (R440). -/
def twinCntctl : Nat := 0x40090060
/-- HWD.STAT (R466). -/
def hwdStat : Nat := 0x40110000
/-- HWD.RELEASE (R467). -/
def hwdRelease : Nat := 0x40110004
/-- HWD.OWNSEQ (R467). -/
def hwdOwnseq : Nat := 0x40110008
/-- HWD.BDIGk (R468). -/
def hwdBdig (j : Nat) : Nat := 0x40110010 + 4 * j
/-- HWD.REFUSE (R469). -/
def hwdRefuse : Nat := 0x40110040
/-- HWD.RATE (R469). -/
def hwdRate : Nat := 0x40110044
/-- HWD.OVF (R469). -/
def hwdOvf : Nat := 0x40110048
/-- HWD.CNTCTL (R469). -/
def hwdCntctl : Nat := 0x4011004c
/-- CAN.STAT (R497). -/
def canStat (i : Nat) : Nat := 0x400a0000 + 65536 * i
/-- CAN.NBT (R498). -/
def canNbt (i : Nat) : Nat := 0x400a0004 + 65536 * i
/-- CAN.DBT (R498). -/
def canDbt (i : Nat) : Nat := 0x400a0008 + 65536 * i
/-- CAN.FSTAT (R499). -/
def canFstat (i : Nat) : Nat := 0x400a000c + 65536 * i
/-- CAN.RXLOST (R500). -/
def canRxlost (i : Nat) : Nat := 0x400a0010 + 65536 * i
/-- CAN.MISSA (R500). -/
def canMissa (i : Nat) : Nat := 0x400a0014 + 65536 * i
/-- CAN.OVF (R500). -/
def canOvf (i : Nat) : Nat := 0x400a0018 + 65536 * i
/-- CAN.CNTCTL (R500). -/
def canCntctl (i : Nat) : Nat := 0x400a001c + 65536 * i
/-- ETH.STATp (R501). -/
def ethStat (j : Nat) : Nat := 0x400e0000 + 256 * j
/-- ETH.PTP (R502). -/
def ethPtp : Nat := 0x400e0800
/-- ETH.UTCL (R502). -/
def ethUtcl : Nat := 0x400e0804
/-- ETH.UTCH (R502). -/
def ethUtch : Nat := 0x400e0808
/-- ETH.DROP (R503). -/
def ethDrop : Nat := 0x400e0810
/-- ETH.OVF (R503). -/
def ethOvf : Nat := 0x400e0814
/-- ETH.CNTCTL (R503). -/
def ethCntctl : Nat := 0x400e0818
/-- MEM.STAT (R535). -/
def memStat : Nat := 0x40020000
/-- MEM.TSTAT (R535). -/
def memTstat : Nat := 0x40020010
/-- MEM.BANKb (R535). -/
def memBank (j : Nat) : Nat := 0x40020100 + 4 * j
/-- MEM.CECNT (R536). -/
def memCecnt : Nat := 0x40020020
/-- MEM.UECNT (R536). -/
def memUecnt : Nat := 0x40020024
/-- MEM.CONFm (R536). -/
def memConf (j : Nat) : Nat := 0x40020200 + 4 * j
/-- MEM.OVF (R536). -/
def memOvf : Nat := 0x40020240
/-- MEM.CNTCTL (R536). -/
def memCntctl : Nat := 0x40020244
/-- EVT.PENDk (R537). -/
def evtPend (j : Nat) : Nat := 0x40010000 + 4 * j
/-- EVT.KVIEWpk (R537). -/
def evtKview (i : Nat) (j : Nat) : Nat := 0x40010100 + 64 * i + 4 * j
/-- EVT.ROUTEe (R537). -/
def evtRoute (j : Nat) : Nat := 0x40010400 + 4 * j
/-- EVT.CNTe (R537). -/
def evtCnt (j : Nat) : Nat := 0x40011000 + 4 * j
/-- EVT.OVFk (R537). -/
def evtOvf (j : Nat) : Nat := 0x40011800 + 4 * j
/-- EVT.CNTCTL (R537). -/
def evtCntctl : Nat := 0x40011900
/-- LOG.HEAD (R538). -/
def logHead : Nat := 0x40120000
/-- LOG.TAIL (R538). -/
def logTail : Nat := 0x40120004
/-- LOG.DROP (R538). -/
def logDrop : Nat := 0x40120008
/-- LOG.OVF (R538). -/
def logOvf : Nat := 0x4012000c
/-- LOG.CNTCTL (R538). -/
def logCntctl : Nat := 0x40120010
/-- LOG.UDATA0p (R538). -/
def logUdata (i : Nat) (j : Nat) : Nat := 0x40120020 + 16 * i + 4 * j
/-- LOG.UCODEp (R538). -/
def logUcode (j : Nat) : Nat := 0x40120028 + 16 * j
/-- PWR.STAT (R559). -/
def pwrStat : Nat := 0x400f0000
/-- PWR.RSTCAUSE (R560). -/
def pwrRstcause : Nat := 0x400f0004
/-- PWR.DROOP (R561). -/
def pwrDroop : Nat := 0x400f0010
/-- PWR.OVF (R561). -/
def pwrOvf : Nat := 0x400f0014
/-- PWR.CNTCTL (R561). -/
def pwrCntctl : Nat := 0x400f0018
/-- THERM.STAT (R562). -/
def thermStat : Nat := 0x40100000
/-- THERM.DIEk (R562). -/
def thermDie (j : Nat) : Nat := 0x40100010 + 4 * j
/-- SYS.ID (R601). -/
def sysId : Nat := 0x40000000
/-- SYS.STRAP (R602). -/
def sysStrap : Nat := 0x40000004
/-- SYS.UIDL (R603). -/
def sysUidl : Nat := 0x40000010
/-- SYS.UIDH (R603). -/
def sysUidh : Nat := 0x40000014
/-- SYS.TIMEL (R604). -/
def sysTimel : Nat := 0x40000018
/-- SYS.TIMEH (R604). -/
def sysTimeh : Nat := 0x4000001c

end A

/-- One row of the register map: base address, an outer count and stride (ports, controllers, pairs), an inner count and stride,
reset value, RW mask, W1C mask, and the offset base of its CNTCTL register when its count may clear on read (0: none). -/
structure RegRow where
  base : Nat
  c1 : Nat
  s1 : Nat
  c2 : Nat
  s2 : Nat
  reset : Nat
  rw : Nat
  w1c : Nat
  ctl : Nat
deriving DecidableEq, Repr

/-- Register rows, part 0. -/
def regRows0 : List RegRow :=
  [⟨0x40000008, 1, 0, 1, 4, 0x1c207fb, 0x0, 0x0, 0⟩,
   ⟨0x40000800, 1, 0, 128, 4, 0x0, 0x0, 0x39000000, 0⟩,
   ⟨0x40000a00, 1, 0, 128, 4, 0x0, 0x0, 0x0, 0⟩,
   ⟨0x40030000, 48, 1024, 1, 4, 0x0, 0x0, 0x0, 0⟩,
   ⟨0x40030004, 48, 1024, 1, 4, 0x0, 0x0, 0x0, 0⟩,
   ⟨0x40030008, 48, 1024, 1, 4, 0x0, 0x0, 0x0, 0⟩,
   ⟨0x4003000c, 48, 1024, 1, 4, 0x0, 0x0, 0x0, 0⟩,
   ⟨0x40030010, 48, 1024, 1, 4, 0x0, 0x1, 0x0, 0⟩,
   ⟨0x40030014, 48, 1024, 1, 4, 0x0, 0x0, 0x0, 0x40030010⟩,
   ⟨0x40030018, 48, 1024, 1, 4, 0x0, 0x0, 0x0, 0x40030010⟩,
   ⟨0x4003001c, 48, 1024, 1, 4, 0x0, 0x0, 0x0, 0x40030010⟩,
   ⟨0x40030020, 48, 1024, 1, 4, 0x0, 0x0, 0x7, 0⟩,
   ⟨0x40030030, 48, 1024, 1, 4, 0x0, 0x0, 0x0, 0⟩,
   ⟨0x40030034, 48, 1024, 1, 4, 0x0, 0x0, 0x0, 0⟩,
   ⟨0x40030100, 48, 1024, 64, 4, 0x0, 0x0, 0x0, 0⟩,
   ⟨0x40040000, 1, 0, 1, 4, 0xa036b0, 0xfff0ffff, 0x0, 0⟩,
   ⟨0x40040004, 1, 0, 1, 4, 0x0, 0x0, 0x0, 0⟩,
   ⟨0x40040008, 1, 0, 1, 4, 0x0, 0x0, 0x0, 0⟩]

/-- Register rows, part 1. -/
def regRows1 : List RegRow :=
  [⟨0x4004000c, 1, 0, 1, 4, 0x80000014, 0x8000ffff, 0x0, 0⟩,
   ⟨0x40040010, 1, 0, 1, 4, 0x32, 0xffff, 0x0, 0⟩,
   ⟨0x40040014, 1, 0, 1, 4, 0x2222, 0x77ff, 0x0, 0⟩,
   ⟨0x40040018, 1, 0, 1, 4, 0x2, 0x7, 0x0, 0⟩,
   ⟨0x40040020, 1, 0, 1, 4, 0xf0, 0xf0, 0x0, 0⟩,
   ⟨0x40040024, 1, 0, 1, 4, 0x0, 0x0, 0x0, 0⟩,
   ⟨0x40040030, 1, 0, 1, 4, 0x0, 0x0, 0x0, 0⟩,
   ⟨0x40040034, 1, 0, 1, 4, 0x0, 0x0, 0x0, 0⟩,
   ⟨0x40030040, 48, 1024, 1, 4, 0x0, 0x0, 0x0, 0⟩,
   ⟨0x40030044, 48, 1024, 1, 4, 0x0, 0x0, 0x0, 0⟩,
   ⟨0x40030048, 48, 1024, 1, 4, 0x0, 0x0, 0x0, 0⟩,
   ⟨0x4003004c, 48, 1024, 1, 4, 0x0, 0x0, 0x0, 0⟩,
   ⟨0x40030050, 48, 1024, 1, 4, 0x0, 0x0, 0x0, 0⟩,
   ⟨0x40030054, 48, 1024, 1, 4, 0x0, 0x0, 0x0, 0⟩,
   ⟨0x40060400, 1, 0, 1, 4, 0xffffffff, 0xffffffff, 0x0, 0⟩,
   ⟨0x40060404, 1, 0, 1, 4, 0xffff, 0xffff, 0x0, 0⟩,
   ⟨0x40050000, 1, 0, 1, 4, 0x0, 0x0, 0x0, 0⟩,
   ⟨0x40050010, 1, 0, 8, 4, 0x0, 0x0, 0x0, 0⟩]

/-- Register rows, part 2. -/
def regRows2 : List RegRow :=
  [⟨0x40050030, 1, 0, 1, 4, 0x0, 0x0, 0x0, 0⟩,
   ⟨0x40050034, 1, 0, 1, 4, 0x0, 0x0, 0x0, 0⟩,
   ⟨0x40050040, 1, 0, 1, 4, 0x1, 0x0, 0x0, 0⟩,
   ⟨0x40050050, 1, 0, 12, 4, 0x0, 0x0, 0x0, 0⟩,
   ⟨0x40050080, 1, 0, 1, 4, 0x0, 0x0, 0x0, 0x40050088⟩,
   ⟨0x40050084, 1, 0, 1, 4, 0x0, 0x0, 0x0, 0⟩,
   ⟨0x40050088, 1, 0, 1, 4, 0x0, 0x0, 0x0, 0⟩,
   ⟨0x40060000, 1, 0, 1, 4, 0x0, 0x0, 0x0, 0⟩,
   ⟨0x40060004, 1, 0, 1, 4, 0x0, 0x0, 0x0, 0⟩,
   ⟨0x40060008, 1, 0, 1, 4, 0x0, 0x0, 0x0, 0⟩,
   ⟨0x4006000c, 1, 0, 1, 4, 0x0, 0x0, 0x0, 0⟩,
   ⟨0x40060010, 1, 0, 1, 4, 0x0, 0x0, 0x0, 0x4006001c⟩,
   ⟨0x40060014, 1, 0, 1, 4, 0x0, 0x0, 0x0, 0x4006001c⟩,
   ⟨0x40060018, 1, 0, 1, 4, 0x0, 0x0, 0x3, 0⟩,
   ⟨0x4006001c, 1, 0, 1, 4, 0x0, 0x1, 0x0, 0⟩,
   ⟨0x40060020, 1, 0, 1, 4, 0x0, 0x0, 0x0, 0⟩,
   ⟨0x40060040, 1, 0, 1, 4, 0x80000064, 0x8000ffff, 0x0, 0⟩,
   ⟨0x40060044, 1, 0, 1, 4, 0x0, 0x0, 0x0, 0⟩]

/-- Register rows, part 3. -/
def regRows3 : List RegRow :=
  [⟨0x40060048, 1, 0, 1, 4, 0x0, 0x0, 0x0, 0⟩,
   ⟨0x40060050, 1, 0, 1, 4, 0x0, 0x0, 0x0, 0⟩,
   ⟨0x40060054, 1, 0, 1, 4, 0x0, 0x0, 0x0, 0⟩,
   ⟨0x40070000, 1, 0, 1, 4, 0x0, 0x0, 0x0, 0⟩,
   ⟨0x40070004, 1, 0, 1, 4, 0x0, 0x0, 0x0, 0⟩,
   ⟨0x40070300, 1, 0, 48, 4, 0x0, 0x0, 0x0, 0⟩,
   ⟨0x40070040, 1, 0, 16, 4, 0x0, 0x0, 0xd0000000, 0⟩,
   ⟨0x40070080, 1, 0, 16, 4, 0x0, 0x0, 0x0, 0x40070010⟩,
   ⟨0x400700c0, 1, 0, 16, 4, 0x0, 0x0, 0x0, 0⟩,
   ⟨0x40070010, 1, 0, 1, 4, 0x0, 0x0, 0x0, 0⟩,
   ⟨0x40070100, 1, 0, 50, 8, 0x0, 0x0, 0x0, 0⟩,
   ⟨0x40070104, 1, 0, 50, 8, 0x0, 0x0, 0x0, 0⟩,
   ⟨0x40080000, 1, 0, 1, 4, 0x0, 0x0, 0x0, 0⟩,
   ⟨0x40080004, 1, 0, 1, 4, 0x0, 0x0, 0x0, 0⟩,
   ⟨0x40080008, 1, 0, 1, 4, 0x14, 0x0, 0x0, 0⟩,
   ⟨0x40080010, 1, 0, 4, 4, 0x0, 0x0, 0x0, 0⟩,
   ⟨0x40080100, 1, 0, 32, 4, 0x0, 0x0, 0x0, 0⟩,
   ⟨0x40080200, 1, 0, 32, 4, 0x0, 0x0, 0x0, 0⟩]

/-- Register rows, part 4. -/
def regRows4 : List RegRow :=
  [⟨0x40000020, 1, 0, 2, 4, 0x0, 0x0, 0x8000000, 0⟩,
   ⟨0x40000028, 1, 0, 2, 4, 0x0, 0x0, 0x0, 0⟩,
   ⟨0x40090000, 1, 0, 1, 4, 0x0, 0x0, 0x0, 0⟩,
   ⟨0x40090004, 1, 0, 1, 4, 0x0, 0x0, 0x0, 0⟩,
   ⟨0x40090008, 1, 0, 1, 4, 0x0, 0x0, 0x0, 0⟩,
   ⟨0x4009000c, 1, 0, 1, 4, 0x0, 0x0, 0x0, 0⟩,
   ⟨0x40090010, 1, 0, 8, 4, 0x0, 0x0, 0x0, 0⟩,
   ⟨0x40090030, 1, 0, 8, 4, 0x0, 0x0, 0x0, 0⟩,
   ⟨0x40090050, 1, 0, 1, 4, 0x0, 0x0, 0x0, 0x40090060⟩,
   ⟨0x40090054, 1, 0, 1, 4, 0x0, 0x0, 0x0, 0⟩,
   ⟨0x40090058, 1, 0, 1, 4, 0x0, 0x0, 0x0, 0⟩,
   ⟨0x4009005c, 1, 0, 1, 4, 0x0, 0x0, 0x1, 0⟩,
   ⟨0x40090060, 1, 0, 1, 4, 0x0, 0x0, 0x0, 0⟩,
   ⟨0x40110000, 1, 0, 1, 4, 0x0, 0x0, 0x0, 0⟩,
   ⟨0x40110004, 1, 0, 1, 4, 0x0, 0x0, 0x0, 0⟩,
   ⟨0x40110008, 1, 0, 1, 4, 0x0, 0x0, 0x0, 0⟩,
   ⟨0x40110010, 1, 0, 8, 4, 0x0, 0x0, 0x0, 0⟩,
   ⟨0x40110040, 1, 0, 1, 4, 0x0, 0x0, 0x0, 0x4011004c⟩]

/-- Register rows, part 5. -/
def regRows5 : List RegRow :=
  [⟨0x40110044, 1, 0, 1, 4, 0x0, 0x0, 0x0, 0x4011004c⟩,
   ⟨0x40110048, 1, 0, 1, 4, 0x0, 0x0, 0x3, 0⟩,
   ⟨0x4011004c, 1, 0, 1, 4, 0x0, 0x0, 0x0, 0⟩,
   ⟨0x400a0000, 4, 65536, 1, 4, 0x0, 0x0, 0x0, 0⟩,
   ⟨0x400a0004, 4, 65536, 1, 4, 0x0, 0x0, 0x0, 0⟩,
   ⟨0x400a0008, 4, 65536, 1, 4, 0x0, 0x0, 0x0, 0⟩,
   ⟨0x400a000c, 4, 65536, 1, 4, 0x0, 0x0, 0x0, 0⟩,
   ⟨0x400a0010, 4, 65536, 1, 4, 0x0, 0x0, 0x0, 0x400a001c⟩,
   ⟨0x400a0014, 4, 65536, 1, 4, 0x0, 0x0, 0x0, 0x400a001c⟩,
   ⟨0x400a0018, 4, 65536, 1, 4, 0x0, 0x0, 0x3, 0⟩,
   ⟨0x400a001c, 4, 65536, 1, 4, 0x0, 0x0, 0x0, 0⟩,
   ⟨0x400e0000, 1, 0, 2, 256, 0x0, 0x0, 0x0, 0⟩,
   ⟨0x400e0800, 1, 0, 1, 4, 0x0, 0x0, 0x0, 0⟩,
   ⟨0x400e0804, 1, 0, 1, 4, 0x0, 0x0, 0x0, 0⟩,
   ⟨0x400e0808, 1, 0, 1, 4, 0x0, 0x0, 0x0, 0⟩,
   ⟨0x400e0810, 1, 0, 1, 4, 0x0, 0x0, 0x0, 0x400e0818⟩,
   ⟨0x400e0814, 1, 0, 1, 4, 0x0, 0x0, 0x1, 0⟩,
   ⟨0x400e0818, 1, 0, 1, 4, 0x0, 0x0, 0x0, 0⟩]

/-- Register rows, part 6. -/
def regRows6 : List RegRow :=
  [⟨0x40020000, 1, 0, 1, 4, 0x6ac20000, 0x0, 0x0, 0⟩,
   ⟨0x40020010, 1, 0, 1, 4, 0x0, 0x0, 0x0, 0⟩,
   ⟨0x40020100, 1, 0, 43, 4, 0x0, 0x0, 0x0, 0⟩,
   ⟨0x40020020, 1, 0, 1, 4, 0x0, 0x0, 0x0, 0x40020244⟩,
   ⟨0x40020024, 1, 0, 1, 4, 0x0, 0x0, 0x0, 0x40020244⟩,
   ⟨0x40020200, 1, 0, 12, 4, 0x0, 0x0, 0x0, 0x40020244⟩,
   ⟨0x40020240, 1, 0, 1, 4, 0x0, 0x0, 0x3fff, 0⟩,
   ⟨0x40020244, 1, 0, 1, 4, 0x0, 0x0, 0x0, 0⟩,
   ⟨0x40010000, 1, 0, 12, 4, 0x0, 0x0, 0xffffffff, 0⟩,
   ⟨0x40010100, 2, 64, 12, 4, 0x0, 0x0, 0xffffffff, 0⟩,
   ⟨0x40010400, 1, 0, 384, 4, 0x10, 0x1f, 0x0, 0⟩,
   ⟨0x40011000, 1, 0, 384, 4, 0x0, 0x0, 0x0, 0x40011900⟩,
   ⟨0x40011800, 1, 0, 12, 4, 0x0, 0x0, 0xffffffff, 0⟩,
   ⟨0x40011900, 1, 0, 1, 4, 0x0, 0x0, 0x0, 0⟩,
   ⟨0x40120000, 1, 0, 1, 4, 0x0, 0x0, 0x0, 0⟩,
   ⟨0x40120004, 1, 0, 1, 4, 0x0, 0x0, 0x0, 0⟩,
   ⟨0x40120008, 1, 0, 1, 4, 0x0, 0x0, 0x0, 0x40120010⟩,
   ⟨0x4012000c, 1, 0, 1, 4, 0x0, 0x0, 0x1, 0⟩]

/-- Register rows, part 7. -/
def regRows7 : List RegRow :=
  [⟨0x40120010, 1, 0, 1, 4, 0x0, 0x0, 0x0, 0⟩,
   ⟨0x40120020, 2, 16, 2, 4, 0x0, 0xffffffff, 0x0, 0⟩,
   ⟨0x40120028, 1, 0, 2, 16, 0x0, 0x0, 0x0, 0⟩,
   ⟨0x400f0000, 1, 0, 1, 4, 0x77000000, 0x0, 0x0, 0⟩,
   ⟨0x400f0004, 1, 0, 1, 4, 0x1, 0x0, 0x0, 0⟩,
   ⟨0x400f0010, 1, 0, 1, 4, 0x0, 0x0, 0x0, 0x400f0018⟩,
   ⟨0x400f0014, 1, 0, 1, 4, 0x0, 0x0, 0x1, 0⟩,
   ⟨0x400f0018, 1, 0, 1, 4, 0x0, 0x0, 0x0, 0⟩,
   ⟨0x40100000, 1, 0, 1, 4, 0x0, 0x0, 0x0, 0⟩,
   ⟨0x40100010, 1, 0, 8, 4, 0x0, 0x0, 0x0, 0⟩,
   ⟨0x40000000, 1, 0, 1, 4, 0x96480100, 0x0, 0x0, 0⟩,
   ⟨0x40000004, 1, 0, 1, 4, 0x0, 0x0, 0x0, 0⟩,
   ⟨0x40000010, 1, 0, 1, 4, 0x0, 0x0, 0x0, 0⟩,
   ⟨0x40000014, 1, 0, 1, 4, 0x0, 0x0, 0x0, 0⟩,
   ⟨0x40000018, 1, 0, 1, 4, 0x0, 0x0, 0x0, 0⟩,
   ⟨0x4000001c, 1, 0, 1, 4, 0x0, 0x0, 0x0, 0⟩]

/-- Every register row. -/
def regRows : List RegRow :=
  regRows0 ++ regRows1 ++ regRows2 ++ regRows3 ++ regRows4 ++ regRows5 ++ regRows6 ++ regRows7

/-- Outer index of an address under a row. -/
def RegRow.outer (r : RegRow) (a : Nat) : Nat := if r.c1 ≤ 1 then 0 else (a - r.base) / r.s1

/-- Whether the row holds the register at address `a`. -/
def RegRow.hit (r : RegRow) (a : Nat) : Bool :=
  let d := a - r.base
  let i := if r.c1 ≤ 1 then 0 else d / r.s1
  let e := if r.c1 ≤ 1 then d else d % r.s1
  decide (r.base ≤ a) && decide (i < r.c1) && decide (e / r.s2 < r.c2) && decide (e % r.s2 = 0)

/-- The row of an address. -/
def regRow (a : Nat) : Option RegRow := regRows.find? (fun r => r.hit a)

/-- What a register holds after reset (log entries 8 and 9 for the values the tables leave to start-up). -/
def regReset (a : Nat) : Word :=
  match regRow a with
  | some r => BitVec.ofNat 32 r.reset
  | none => 0

end Sys2Proof.Machine
end

