-- ==== Sys2Proof/Machine/Ops.lean ====
section
/-! DEFINITION. The named operations over registers, counters, memory, events and the Growth log that every command uses. -/

namespace Sys2Proof.Machine
open Sys2Proof

/-- Apply a change of the device to the machine. -/
def State.onDev (f : Dev → Dev) (s : State) : State := { s with dev := f s.dev }

/-- The value held at a control-space address. -/
def Dev.reg (d : Dev) (a : Nat) : Word := FMap.get regReset d.regs a

/-- Write a whole register. -/
def Dev.setReg (a : Nat) (v : Word) (d : Dev) : Dev := { d with regs := FMap.set regReset d.regs a v }

/-- Field `hi..lo` of a register. -/
def Dev.fld (d : Dev) (a hi lo : Nat) : Nat := (d.reg a).field hi lo

/-- Bit `i` of a register. -/
def Dev.rbit (d : Dev) (a i : Nat) : Bool := (d.reg a).bit i

/-- Write field `hi..lo` of a register. -/
def Dev.setFld (a hi lo v : Nat) (d : Dev) : Dev := d.setReg a ((d.reg a).setField hi lo v)

/-- Write bit `i` of a register. -/
def Dev.setRbit (a i : Nat) (b : Bool) (d : Dev) : Dev := d.setReg a ((d.reg a).setBit i b)

/-- Count on a statistics counter (15 R528-R529): saturate at 0xFFFF_FFFF, and set the overflow bit when an increment reaches
the limit and at every further one. -/
def Dev.bump (ctr ovf bit : Nat) (d : Dev) : Dev :=
  let v := satInc (d.reg ctr)
  let d := d.setReg ctr v
  if v = 0xFFFFFFFF#32 then d.setRbit ovf bit true else d

/-- Rings fitted (00 R8). -/
def Dev.rings (d : Dev) : Nat := d.fld A.sysUnitmap 23 18

/-- Canopy lanes fitted (00 R8). -/
def Dev.lanes (d : Dev) : Nat := d.fld A.sysUnitmap 17 11

/-- Impedance unit fitted (00 R8). -/
def Dev.hasImp (d : Dev) : Bool := d.rbit A.sysUnitmap 10

/-- CAN controller c fitted (00 R8). -/
def Dev.hasCan (d : Dev) (c : Nat) : Bool := decide (c < 4) && d.rbit A.sysUnitmap (5 + c)

/-- Ethernet port p fitted (00 R8). -/
def Dev.hasEth (d : Dev) (p : Nat) : Bool := decide (p < 2) && d.rbit A.sysUnitmap (3 + p)

/-- Load switch channel n fitted (00 R8). -/
def Dev.hasLsw (d : Dev) (n : Nat) : Bool := decide (n < 32) && d.rbit A.sysUnitmap (n / 16)

/-- The device is strapped as a twin (17 R574) and has the twin signals (19 R599). -/
def Dev.isTwin (d : Dev) : Bool :=
  d.rbit A.sysUnitmap 9 && (d.fld A.sysStrap 1 0 == 1 || d.fld A.sysStrap 1 0 == 2)

/-- TWIN.STAT.STATE (12 R425). -/
def Dev.twinState (d : Dev) : Nat := d.fld A.twinStat 31 28

/-- The device computes in agreement with a partner (12 R425, R431): MIRROR, or PRIMARY whose partner is not in RESYNC. -/
def Dev.agreed (d : Dev) : Bool := d.isTwin && (d.twinState == 3 || d.twinState == 4) && !d.twin.joining

/-- This device holds authority (02 R60, 12 R425): always on a single device. -/
def Dev.authority (d : Dev) : Bool := !d.isTwin || d.rbit A.twinStat 27

/-- A twin that is YIELDED (12 R423). -/
def Dev.yielded (d : Dev) : Bool := d.isTwin && d.twinState == 7

/-- CONSERVATIVE mode (12 R424). -/
def Dev.conservative (d : Dev) : Bool := d.isTwin && d.rbit A.twinStat 26

/-- The scan number whose instant last passed (05 R194). -/
def Dev.scan (d : Dev) : Nat := (d.reg A.acqScan).toNat

/-- PWR.STAT.STATE (16 R548). -/
def Dev.pstate (d : Dev) : Nat := d.fld A.pwrStat 31 28

/-- The topology in force. -/
def Dev.topo (d : Dev) : Topo := d.img.topo.getD {}

/-- Device time moves to `t`, never backward (16 R547). -/
def Dev.at (t : Nat) (d : Dev) : Dev := { d with time := { d.time with now := max d.time.now t } }

/-- Entries a record takes in the log queue (15 R530). -/
def LogRec.entries (r : LogRec) : Nat := 1 + r.conts.length

/-- Mandatory record types (15 R532). -/
def LogRec.mandatory (r : LogRec) : Bool := decide (1 ≤ r.ty) && decide (r.ty ≤ 7)

/-- Entries waiting in the log queue. -/
def LogSt.used (l : LogSt) : Nat := l.queue.foldl (fun n r => n + r.entries) 0

/-- Queue a record if all its entries fit (15 R530): 256 entries, 32 of them kept for mandatory types. A record that does not
fit is dropped whole and counted, and the next record carries the gap flag. The flag tells whether it was queued. -/
def Dev.logTry (r : LogRec) (d : Dev) : Dev × Bool :=
  let room := if r.mandatory then 256 else 224
  if d.log.used + r.entries ≤ room then
    ({ d with log := { d.log with
        queue := d.log.queue ++ [{ r with gap := d.log.gap, utc := d.rbit A.ethPtp 30 }], gap := false } }, true)
  else
    ({ d with log := { d.log with gap := true } }.bump A.logDrop A.logOvf 0, false)

/-- The event group of an event number (15 R522). -/
def eventGroup (e : Nat) : Nat :=
  if e < 32 then 0 else if e < 128 then 1 else if e < 160 then 2 else if e < 192 then 3 else if e < 224 then 4
  else if e < 256 then 5 else if e < 288 then 6 else if e < 304 then 7 else if e < 320 then 8 else if e < 352 then 9
  else if e < 360 then 10 else if e < 372 then 11 else 12

/-- The content of a session's tenant slot; Owner and unclaimed sessions have none. -/
def HwdSt.slotOf (h : HwdSt) (x : Session) : Option TenantSlot :=
  if x.owner || x.unclaimed then none else FMap.get (fun _ => none) h.slots x.slot

/-- Queue a notification to one session (14 R495). -/
def notifyOne (h : HwdSt) (e scan t : Nat) (x : Session) : Session :=
  match h.slotOf x with
  | none => x
  | some c =>
    if x.notify && decide (3 ≤ x.ver) && c.cap.testBit 5 && c.notify.testBit (eventGroup e) then
      if x.notifyQ.length < 32 then { x with notifyQ := x.notifyQ ++ [(e, scan, t)] }
      else { x with notifyDrop := min (x.notifyDrop + 1) 0xFFFF }
    else x

/-- Change every open session. -/
def HwdSt.mapSessions (f : Session → Session) (h : HwdSt) : HwdSt :=
  { h with sessions := h.sessions.map (fun p => (p.1, p.2.map f)) }

/-- The part of a raising that every event has (15 R523-R526): pending bit, counter, and the routes to the Keepers' views, the
trip context and the tenants' queues. -/
def Dev.raiseBase (e : Nat) (d : Dev) : Dev :=
  let r := d.reg (A.evtRoute e)
  let d := d.setRbit (A.evtPend (e / 32)) (e % 32) true
  let d := d.bump (A.evtCnt e) (A.evtOvf (e / 32)) (e % 32)
  let l := d.log
  let l := if r.bit 0 then { l with set0 := if e ∈ l.set0 then l.set0 else l.set0 ++ [e] } else l
  let l := if r.bit 1 then { l with set1 := if e ∈ l.set1 then l.set1 else l.set1 ++ [e] } else l
  let l := if r.bit 2 then { l with tcx := (l.tcx ++ [(e, d.time.now)]).drop (l.tcx.length + 1 - 8) } else l
  let d := { d with log := l }
  if r.bit 3 then { d with hwd := d.hwd.mapSessions (notifyOne d.hwd e d.scan d.time.now) } else d

/-- An EVENT record (15 R532): the raisings it stands for and the unit instance. -/
def eventRec (e n inst t scan : Nat) : LogRec :=
  { ty := 0, event := e, time := t, scan := scan, detail := leBytes 4 n ++ leBytes 4 inst }

/-- The Growth log route of a raising (15 R530): write at once and open a window, or count within an open window. -/
def Dev.logEvent (e inst : Nat) (d : Dev) : Dev × Bool :=
  if (d.reg (A.evtRoute e)).bit 4 then
    match FMap.get (fun _ => none) d.log.wins e with
    | none =>
      let d := { d with log := { d.log with wins := FMap.set (fun _ => none) d.log.wins e (some { opened := d.time.now }) } }
      d.logTry (eventRec e 1 inst d.time.now d.scan)
    | some w =>
      let w := { w with count := w.count + 1, time := d.time.now, scan := d.scan, inst := inst }
      ({ d with log := { d.log with wins := FMap.set (fun _ => none) d.log.wins e (some w) } }, true)
  else (d, true)

/-- Event 367 after a dropped record, at most once per minute (15 R527). -/
def Dev.dropEvent (d : Dev) : Dev :=
  let due := match d.log.dropT with
    | none => true
    | some t => decide (t + 60000000000 ≤ d.time.now)
  if due then
    let d := { d with log := { d.log with dropT := some d.time.now } }
    ((d.raiseBase 367).logEvent 367 0).1
  else d

/-- Raise event `e` of unit instance `inst` (15 R523-R530). -/
def Dev.raise (e inst : Nat) (d : Dev) : Dev :=
  let r := (d.raiseBase e).logEvent e inst
  if r.2 then r.1 else r.1.dropEvent

/-- Raise an event whose raising rule writes a record of another type, so that no EVENT record follows (15 R524). -/
def Dev.raiseNoLog (e : Nat) (d : Dev) : Dev := d.raiseBase e

/-- Queue a Growth log record (15 R530). -/
def Dev.logRec (ty event : Nat) (detail : List Nat) (conts : List (List Nat)) (d : Dev) : Dev :=
  let r := d.logTry { ty := ty, event := event, time := d.time.now, scan := d.scan, detail := detail, conts := conts }
  if r.2 then r.1 else r.1.dropEvent

/-- An access to absent space (00 R10): event 372, or while it is pending a count in its statistics counter alone. -/
def Dev.raiseAbsent (d : Dev) : Dev :=
  if d.rbit (A.evtPend 11) 20 then d.bump (A.evtCnt 372) (A.evtOvf 11) 20 else d.raise 372 0

/-- Raise the event when the condition holds. -/
def Dev.raiseIf (c : Bool) (e inst : Nat) (d : Dev) : Dev := if c then d.raise e inst else d

/-- What an unlisted byte of memory reads as (log entry 1). -/
def memReset : Nat → Byte := fun _ => 0

/-- One byte of memory. -/
def State.byte (s : State) (a : Nat) : Byte := FMap.get memReset s.mem a

/-- Write one byte of memory. -/
def writeByte (a : Nat) (b : Byte) (m : FMap Byte) : FMap Byte := FMap.set memReset m a b

/-- Write bytes at rising addresses. -/
def writeBytes (a : Nat) (bs : List Byte) (m : FMap Byte) : FMap Byte :=
  match bs with
  | [] => m
  | b :: rest => writeBytes (a + 1) rest (writeByte a b m)

/-- The canonical form of memory: addresses strictly rising, no entry that reads as an unlisted byte. -/
abbrev Memory.wf (m : FMap Byte) : Bool := FMap.wf memReset m

/-- `n` bytes of memory from address `a`. -/
def readBytes (m : FMap Byte) (a n : Nat) : List Nat := (span a n).map (fun i => (FMap.get memReset m i).toNat)

/-- The little-endian word at an address (00 R14). -/
def readWord (m : FMap Byte) (a : Nat) : Word := BitVec.ofNat 32 (ofLe (readBytes m a 4))

/-- The bytes of `n` numbers below 256. -/
def toBytes (l : List Nat) : List Byte := l.map (fun b => BitVec.ofNat 8 b)

/-- The little-endian bytes of a word. -/
def wordBytes (w : Word) : List Byte := toBytes (leBytes 4 w.toNat)

/-- Write a little-endian word. -/
def writeWord (a : Nat) (w : Word) (m : FMap Byte) : FMap Byte := writeBytes a (wordBytes w) m

/-- The next value of the device's free values (the model's own counter, log entry 6). -/
def Dev.takeFree (d : Dev) : Dev := { d with freeCnt := d.freeCnt + 1 }

/-- A port's structure. -/
def Dev.port (d : Dev) (n : Nat) : Port := FMap.get (fun _ => {}) d.ports n

/-- Change a port's structure. -/
def Dev.setPort (n : Nat) (f : Port → Port) (d : Dev) : Dev := { d with ports := FMap.upd (fun _ => {}) d.ports n f }

/-- A module of a ring. -/
def Port.mod (p : Port) (h : Nat) : Module := FMap.get (fun _ => {}) p.mods h

/-- Change a module of a ring. -/
def Port.setMod (h : Nat) (f : Module → Module) (p : Port) : Port := { p with mods := FMap.upd (fun _ => {}) p.mods h f }

/-- A port is configured in the topology (04 R151). -/
def Dev.portEn (d : Dev) (n : Nat) : Bool := d.rbit (A.ringCfg n) 31

/-- Commissioned module count L of a ring (04 R151). -/
def Dev.ringL (d : Dev) (n : Nat) : Nat := d.fld (A.ringCfg n) 29 24 + 1

/-- Ring state (04 R152). -/
def Dev.ringState (d : Dev) (n : Nat) : Nat := d.fld (A.ringStat n) 31 28

/-- A session, if open. -/
def Dev.session (d : Dev) (n : Nat) : Option Session := FMap.get (fun _ => none) d.hwd.sessions n

/-- Set or close a session. -/
def Dev.setSession (n : Nat) (x : Option Session) (d : Dev) : Dev :=
  { d with hwd := { d.hwd with sessions := FMap.set (fun _ => none) d.hwd.sessions n x } }

/-- Record what goes back over FSP: status and body (the model's view of the response, log entry 7). -/
def Dev.answer (st : Nat) (body : List Nat) (d : Dev) : Dev := { d with hwd := { d.hwd with reply := (st, body) } }

/-- The core state of a core. -/
def Dev.core (d : Dev) (c : Core) : CoreSt :=
  match c with
  | .k0 => d.k0
  | .k1 => d.k1
  | .k0b => d.k0b
  | .k1b => d.k1b

/-- Change one core. -/
def Dev.setCore (c : Core) (f : CoreSt → CoreSt) (d : Dev) : Dev :=
  match c with
  | .k0 => { d with k0 := f d.k0 }
  | .k1 => { d with k1 := f d.k1 }
  | .k0b => { d with k0b := f d.k0b }
  | .k1b => { d with k1b := f d.k1b }

/-- The pair a core belongs to. -/
def pairOf (c : Core) : Nat :=
  match c with
  | .k0 => 0
  | .k1 => 1
  | .k0b => 0
  | .k1b => 1

/-- SYS.KSTATp.STATE (12 R436): 0 RUN, 1 SPLIT, 2 TEST, 3 HALTED. -/
def Dev.kstate (d : Dev) (p : Nat) : Nat := d.fld (A.sysKstat p) 31 30

/-- The pair structure of pair `p`. -/
def Dev.pair (d : Dev) (p : Nat) : PairSt := if p = 0 then d.pair0 else d.pair1

/-- Change pair `p`. -/
def Dev.setPair (p : Nat) (f : PairSt → PairSt) (d : Dev) : Dev :=
  if p = 0 then { d with pair0 := f d.pair0 } else { d with pair1 := f d.pair1 }

/-- Task-table entry `e` of the program set in force (03 R95). -/
def Dev.task (d : Dev) (e : Nat) : TaskEnt :=
  match d.img.prog with
  | some p => FMap.get (fun _ => {}) p.tasks e
  | none => {}

/-- The last published value of an output, 0 before its first publication (log entry 11). -/
def Dev.pub (d : Dev) (cls idx : Nat) : Word := FMap.get (fun _ => 0) d.pubs (65536 * cls + idx)

/-- A load switch channel. -/
def Dev.chan (d : Dev) (n : Nat) : Lsw := FMap.get (fun _ => {}) d.lsw n

/-- Set a load switch channel. -/
def Dev.setChan (n : Nat) (f : Lsw → Lsw) (d : Dev) : Dev := { d with lsw := FMap.upd (fun _ => {}) d.lsw n f }

/-- Run `k` when the unit that the command names is fitted on this variant; otherwise the event cannot happen (00 R5). -/
def present (ok : Bool) (k : State) : Host.Outcome State Fault Refusal :=
  if ok then .next k else .fault .noSuchUnit

/-- The end that this device launches from: end B for the twin that takes that end (12 R429). -/
def Dev.atEndB (d : Dev) : Bool := d.isTwin && d.rbit A.twinStat 19

/-- A message goes out after those of its class and of the classes before it (12 R411). -/
def insertMsg (x : Nat × Mooring) (l : List (Nat × Mooring)) : List (Nat × Mooring) :=
  match l with
  | [] => [x]
  | y :: rest => if x.2.cls < y.2.cls then x :: y :: rest else y :: insertMsg x rest

/-- Send a message to the partner over Mooring, when the device is a twin with a locked lane (12 R411-R412). -/
def Dev.moorSend (m : Mooring) (d : Dev) : Dev :=
  if d.isTwin && (d.rbit A.twinStat 23 || d.rbit A.twinStat 24) then { d with twin := { d.twin with moor := insertMsg (d.scan, m) d.twin.moor } } else d

/-- A twin without authority leaves the placing of instants, the stretch and the rings to its partner (01 R33, 05 R166). -/
def Dev.follows (d : Dev) : Bool := d.isTwin && !d.authority

/-- A twin that takes the primary's data: MIRROR, or joining in RESYNC (05 R183, 12 R430). -/
def Dev.mirrors (d : Dev) : Bool := d.follows && (d.twinState == 2 || d.twinState == 3)

/-- Heartwood's sealed area is open and its tests pass (13 R441): new sessions, challenges, key installations and quotes are served (13 R464). -/
def Dev.hwdOk (d : Dev) : Bool := d.rbit A.hwdStat 30 && d.rbit A.hwdStat 29 && d.hwd.ks.isSome

end Sys2Proof.Machine
end

