-- ==== Sys2Proof/Machine/RingQ.lean ====
section
/-! DEFINITION. Tags and queued transactions of a ring port (02 R73-R75, 04 R134, R146, R149). -/

namespace Sys2Proof.Machine
open Sys2Proof

/-- The lowest tag from `lo`, among `n`, that no transaction holds (02 R74). -/
def freeTag (lo n : Nat) (l : List Txn) : Option Nat := (span lo n).find? (fun t => !(l.any (fun x => x.tag == t)))

/-- Length of a response record of a command code (04 R134); RDREG's depends on its count. -/
def recLenOf (code count : Nat) : Nat :=
  if code = 0x01 then 20 else if code = 0x03 then 8 else if code = 0x08 then 20 else if code = 0x10 then 4 + 4 * count
  else if code = 0x20 then 36 else if code = 0x21 then 36 else if code = 0x31 then 504 else if code = 0x40 then 36
  else if code = 0x50 then 16 else if code = 0x51 then 16 else if code = 0x60 then 8 else 4

/-- The device's transactions go before the tasks' (04 R146). -/
def insertDev (t : Txn) (l : List Txn) : List Txn :=
  match l with
  | [] => [t]
  | x :: rest => if x.holder = 0 then x :: insertDev t rest else t :: x :: rest

/-- Queue a transaction of the device's own over hops `first..last` (04 R146). One that finds no free device tag waits for one
(log entry 12). -/
def Port.queueDev (code first last : Nat) (req : List Nat) (recLen : Nat) (p : Port) : Port :=
  let t : Txn := { tag := 0, holder := 0, code := code, first := first, last := last, req := req, recLen := recLen,
                   lo := first, hi := last }
  match freeTag 0 64 p.txns with
  | none => { p with backlog := p.backlog ++ [t] }
  | some tag => { p with txns := insertDev { t with tag := tag } p.txns }

/-- Bytes of a command's entry for each hop (04 R134); 0 where all addressed hops share the payload. -/
def entryLen (code : Nat) : Nat :=
  if code = 0x04 ∨ code = 0x06 then 1 else if code = 0x05 ∨ code = 0x21 ∨ code = 0x30 then 4 else if code = 0x08 then 16
  else if code = 0x09 then 48 else if code = 0x20 then 32 else 0

/-- Bytes of a command frame between its delimiters: header, payload with its CRC, gap, records (04 R122, R131). -/
def cmdBytes (reqLen recLen hops : Nat) : Nat := 32 + reqLen + (if reqLen = 0 then 0 else 4) + recLen * hops

/-- The longest time from launch to return of a frame, in ns (04 R121, R134, 01 R28): 250 ns a byte, the delimiters, forwarding and
cable. -/
def frameNs (bytes : Nat) : Nat := 250 * bytes + 58600

/-- The hops of one frame of the device's own, at most 1,300 µs long (04 R134). -/
def frameHops (code reqLen recLen hops : Nat) : Nat :=
  let e := entryLen code
  ((List.range hops).filter (fun k =>
    decide (frameNs (cmdBytes (if e = 0 then reqLen else e * (k + 1)) recLen (k + 1)) ≤ 1300000))).length

/-- The payload for hops `a..b` of a command addressed from hop `first` on: a per-hop command's own entries (04 R131). -/
def reqFor (code first a b : Nat) (req : List Nat) : List Nat :=
  let e := entryLen code
  if e = 0 then req else (req.drop (e * (a - first))).take (e * (b + 1 - a))

/-- Queue a transaction of the device's own on port `n`, split into frames of at most 1,300 µs (04 R134). -/
def Dev.queueDev (n code first last : Nat) (req : List Nat) (recLen : Nat) (d : Dev) : Dev :=
  let hops := last + 1 - first
  let k := frameHops code req.length recLen hops
  if k = hops ∨ k = 0 then d.setPort n (fun p => p.queueDev code first last req recLen)
  else foldOver (List.range ((hops + k - 1) / k)) (fun i d =>
    let a := first + i * k
    let b := min last (a + k - 1)
    d.setPort n (fun p => p.queueDev code a b (reqFor code first a b req) recLen)) d

/-- The wire hop of commissioned hop `h` in a frame launched at end B or at end A (04 R123); the map is its own inverse. -/
def wireHop (dirB : Bool) (l h : Nat) : Nat := if dirB then l + 1 - h else h

/-- The hops, by commissioned number, that a frame passing `reach` modules reaches with a wrong HCRC when it first arrives so at one of
`bad` (04 R123): each module forwards its recomputed HCRC inverted, so every later one finds it wrong too. -/
def hdrBadHops (dirB : Bool) (l reach : Nat) (bad : List Nat) : List Nat :=
  match (bad.map (wireHop dirB l)).filter (fun w => decide (1 ≤ w) && decide (w ≤ reach)) with
  | [] => []
  | w :: ws => let k := ws.foldl min w
               (span k (reach + 1 - k)).map (wireHop dirB l)

/-- A per-hop payload in wire order: a frame from end B meets the last hop first (04 R123, R131). -/
def wireReq (dirB : Bool) (code : Nat) (req : List Nat) : List Nat :=
  let e := entryLen code
  if dirB = false ∨ e = 0 then req
  else ((List.range (req.length / e)).reverse).flatMap (fun i => (req.drop (e * i)).take e)

/-- The frame of a transaction over its open range (04 R122-R123, R131, R146). -/
def Txn.frame (t : Txn) (dirB : Bool) (l : Nat) : Frame :=
  let a := wireHop dirB l (if dirB then t.hi else t.lo)
  let b := wireHop dirB l (if dirB then t.lo else t.hi)
  { type := 2, dirB := dirB, retry := decide (0 < t.retries), code := t.code, firstM1 := a - 1, lastM1 := b - 1, tag := t.tag,
    req := wireReq dirB t.code (reqFor t.code t.first t.lo t.hi t.req), recLen := t.recLen, areas := t.hi + 1 - t.lo }

/-- A scan frame with `slots` slots (04 R122, R126, R140). -/
def scanFrame (dirB : Bool) (slots scan : Nat) : Frame :=
  { type := 1, dirB := dirB, lastM1 := (slots + 63) % 64, recLen := 64, seq := scan % 65536, areas := slots }

/-- A KEEP frame (04 R122, R126). -/
def keepFrame (dirB : Bool) (scan : Nat) : Frame := { type := 3, dirB := dirB, seq := scan % 65536 }

/-- The 16 bytes of a frame's header (04 R122); HOP is 0 at launch. -/
def Frame.header (f : Frame) : List Nat :=
  let b := [f.type, b2n f.dirB * 128 + b2n f.retry * 64, 0, f.code, f.firstM1 % 64, f.lastM1 % 64] ++ leBytes 2 (f.tag % 1024)
    ++ leBytes 2 f.req.length ++ leBytes 2 f.recLen ++ leBytes 2 f.seq
  b ++ leBytes 2 (crc16 b)

/-- Filler closed by a CRC-16, or by a CRC-32C, with every bit inverted (04 R125). -/
def filler (wide : Bool) (n : Nat) : List Nat :=
  let z := List.replicate (n - (if wide then 4 else 2)) 0
  if wide then z ++ leBytes 4 (0xFFFFFFFF ^^^ crc32c z) else z ++ leBytes 2 (0xFFFF ^^^ crc16 z)

/-- The bytes of a frame between J K and T R as its port launches it (04 R121-R126, R131). -/
def Frame.bytes (f : Frame) : List Nat :=
  f.header
    ++ (if f.type = 1 then filler true 16 ++ (List.replicate f.areas (filler true 64)).flatten
        else if f.type = 2 then
          f.req ++ (if f.req = [] then [] else leBytes 4 (crc32c f.req)) ++ List.replicate 16 0
            ++ (List.replicate f.areas (filler false f.recLen)).flatten
        else [])

/-- Queue a string head command (04 R149): each new command takes a SEQ that differs from the previous one. -/
def Dev.headCmd (n cmd : Nat) (d : Dev) : Dev :=
  let q := ((d.port n).headSeq + 1) % 256
  (d.setPort n (fun p => { p with headSeq := q })).queueDev n 0x50 1 1 [cmd, q, 0, 0] 16

/-- RSTATUS and data of a response record of wire hop `w` (04 R133). A module gives no data with a result other than OK, but for BALTEST
and HDCMD (06 R208, 04 R149; DEDUCED, log entry 182). -/
def Rec.body (recLen w : Nat) (r : Rec) : List Nat :=
  leBytes 2 (r.res % 256 + b2n r.replay * 256 + (((if r.echo = 0 then w else r.echo) - 1) % 64) * 512)
    ++ (List.range (recLen - 4)).map (fun i => r.data.getD i 0)

/-- A response record on the ring (04 R133): a CRC-16 closes it. -/
def Rec.bytes (recLen w : Nat) (r : Rec) : List Nat := r.body recLen w ++ leBytes 2 (crc16 (r.body recLen w))

/-- The bytes of a response record as the port writes it (04 R133, R146): the delivery code takes the place of the CRC. -/
def recordBytes (recLen w : Nat) (r : Rec) (code : Nat) : List Nat := (r.bytes recLen w).take (recLen - 2) ++ leBytes 2 code

/-- What a record area holds while its content is undefined (02 R74): free bytes (log entry 6). -/
def undefBytes (seed n : Nat) : List Byte := (List.range n).map (fun i => Config.bufferByte (65536 * seed + i))

/-- The transactions a holder has on a port. -/
def Port.held (p : Port) (holder : Nat) : Nat := (p.txns.filter (fun t => t.holder == holder)).length

/-- Free the tags of a task whose transactions have completed (02 R75). -/
def Port.dropDone (holder : Nat) (p : Port) : Port :=
  { p with txns := p.txns.filter (fun t => !(t.holder == holder && (t.st == 2 || t.st == 3))) }

/-- Remove a transaction by tag. -/
def Port.dropTag (p : Port) (tag : Nat) : Port := { p with txns := p.txns.filter (fun t => !(t.tag == tag)) }

/-- Free a device tag and give it to the transaction that waited longest. -/
def Port.freeDev (p : Port) (tag : Nat) : Port :=
  let q := p.dropTag tag
  match q.backlog with
  | [] => q
  | t :: rest => { q with txns := insertDev { t with tag := tag } q.txns, backlog := rest }

/-- Change a transaction by tag. -/
def Port.mapTag (p : Port) (tag : Nat) (f : Txn → Txn) : Port :=
  { p with txns := p.txns.map (fun t => if t.tag == tag then f t else t) }

end Sys2Proof.Machine
end

