-- ==== Sys2Proof/Machine/SeqOps.lean ====
section
/-! DEFINITION. Device states (16 R548-R549), contactor holds, gates, and the results and opening of sequences (10 R343-R361). -/

namespace Sys2Proof.Machine
open Sys2Proof

/-- Enter the device state that `base` and the overlays SAFE and DEGRADED give (16 R548): event 0 and a STATE record at every
change. -/
def Dev.settleNow (base : Nat) (d : Dev) : Dev :=
  let old := d.pstate
  let st := if d.rbit A.protStat 31 then 6 else if d.rbit A.memStat 31 && (base == 3 || base == 4) then 5 else base
  let b := if st = 6 ∧ base ≠ 4 then 3 else if st = 6 ∨ st = 5 then base else st
  let d := (d.setFld A.pwrStat 31 28 st).setFld A.pwrStat 27 24 b
  if st = old then d else (d.raiseNoLog 0).logRec 7 0 [old, st, 0, 0, 0, 0, 0, 0] []

/-- The scan whose +1,170 µs boundary is the first at least 100 µs away (10 R346). -/
def Dev.stampDue (d : Dev) : Nat :=
  if d.time.scanning && decide (d.time.now + 100000 ≤ d.time.inst + 1170000) then d.scan else (d.scan + 1) % 2 ^ 32

/-- The +1,170 µs boundary of a stamped scan has come (10 R346, 14 R491). -/
def Dev.dueNow (d : Dev) (due : Nat) : Bool :=
  reached d.scan due && (!(d.scan == due) || decide (d.time.inst + 1170000 ≤ d.time.now))

/-- The scan of the first report computation that begins at least 100 µs away (09 R331): the computation follows the confirmation, at +1,980 µs,
or at +2,780 µs after a repeated job (01 R26, 09 R334; DEDUCED, log entry 84). -/
def Dev.reportDue (d : Dev) : Nat :=
  let t := d.time.inst + (if d.cnpy.repeated then 2780000 else 1980000)
  if d.time.scanning && !((d.reg A.cnpyConf).toNat == d.scan) && decide (d.time.now + 100000 ≤ t) then d.scan else (d.scan + 1) % 2 ^ 32

/-- A device state is entered (16 R548): at once in single use; in a twin pair the authority decides, and both twins change at the stamped
boundary. -/
def Dev.settleState (base : Nat) (d : Dev) : Dev :=
  if d.agreed then
    if d.authority then
      let due := d.stampDue
      ({ d with pwr := { d.pwr with stDue := some (due, base) } }).moorSend (.opState due base)
    else d
  else d.settleNow base

/-- The underlying state (16 R559). -/
def Dev.base (d : Dev) : Nat := d.fld A.pwrStat 27 24

/-- Record the running block sequence in CTL.STAT (10 R370). -/
def Dev.showBlk (d : Dev) : Dev :=
  ((d.setFld A.ctlStat 15 8 d.ctl.blk.step).setFld A.ctlStat 7 0 d.ctl.blk.code).setRbit A.ctlStat 30 d.ctl.blk.hold

/-- Change the block sequence. -/
def Dev.setBlk (f : BlkSeq → BlkSeq) (d : Dev) : Dev := ({ d with ctl := { d.ctl with blk := f d.ctl.blk } }).showBlk

/-- Enter a step of the block sequence. -/
def Dev.blkStep (step : Nat) (d : Dev) : Dev := d.setBlk (fun b => { b with step := step, stepT := d.time.now })

/-- FBERR clears when hold and feedback agree (10 R370): no contactor has its hold on and its feedback open. -/
def Dev.fbAgree (d : Dev) : Dev :=
  if (d.rbit A.ctlStat 26 && !d.rbit A.ctlStat 24) || (d.rbit A.ctlStat 25 && !d.rbit A.ctlStat 23) then d
  else d.setRbit A.ctlStat 28 false

/-- Turn a hold output on or off (10 R342, R368, R370). Turning on starts TPULL at full drive; turning off starts the arcing
integral. -/
def Dev.driveHold (k : Contactor) (on : Bool) (d : Dev) : Dev :=
  match k with
  | .pos =>
    if d.rbit A.ctlStat 26 = on then d else
    let d := (d.setRbit A.ctlStat 26 on).fbAgree
    { d with ctl := { d.ctl with posEco := false, posT := d.time.now, posArc := if on then none else some 0 } }
  | .neg =>
    if d.rbit A.ctlStat 25 = on then d else
    let d := (d.setRbit A.ctlStat 25 on).fbAgree
    { d with ctl := { d.ctl with negEco := false, negT := d.time.now, negArc := if on then none else some 0 } }

/-- A hold of the agreed sequence state changes (10 R342); in RESYNC no output turns on until the twin is MIRROR (12 R425, R430). -/
def Dev.setHold (k : Contactor) (on : Bool) (d : Dev) : Dev :=
  let d := { d with ctl := match k with
    | .pos => { d.ctl with agrPos := on }
    | .neg => { d.ctl with agrNeg := on } }
  if on && d.isTwin && d.twinState == 2 then d else d.driveHold k on

/-- The hold outputs follow the agreed sequence state (12 R430). -/
def Dev.takeHolds (d : Dev) : Dev := (d.driveHold .pos d.ctl.agrPos).driveHold .neg d.ctl.agrNeg

/-- Drive both gates low; where the sequencer owns loops 14 and 15, put them to mode off with their sinks at 0 (10 R350, R352, R367). -/
def Dev.gatesOff (d : Dev) : Dev :=
  let d := { d with ctl := { d.ctl with gateLow := true, duty := 0 } }
  let d := d.setRbit A.ctlStat 31 false
  if !d.topo.pcen then d else
  let off : LoopSt → LoopSt := fun l => { l with mode := 0, e1 := 0, e2 := 0, w1 := 0, w2 := 0 }
  let lp := FMap.upd (fun _ => {}) (FMap.upd (fun _ => {}) d.ctl.loops 14 off) 15 (fun l => { off l with sp := 0 })
  let d := { d with ctl := { d.ctl with loops := lp } }
  let d := (d.setFld (A.ctlLstat 14) 27 26 0).setFld (A.ctlLstat 15) 27 26 0
  (d.setReg (A.ctlLout 14) 0).setReg (A.ctlLout 15) 0

/-- The ramp of the pre-charge runs: the sequencer's loops are in mode run (10 R352). -/
def Dev.ramping (d : Dev) : Bool := d.topo.pcen && d.fld (A.ctlLstat 14) 27 26 == 1

/-- A result word (10 R371). -/
def resWord (code tag src res : Nat) : Word :=
  BitVec.ofNat 32 ((code % 256) * 2 ^ 24 + (tag % 256) * 2 ^ 16 + (src % 256) * 2 ^ 8 + res % 256)

/-- The response of a request that waited for its boundary (14 R491): status and body go out, and the status is the stored one. -/
def Dev.lateReply (sess seq st : Nat) (body : List Nat) (d : Dev) : Dev :=
  match d.session sess with
  | none => d
  | some x =>
    let l := x.statuses.map (fun p => if p.1 = seq then (p.1, st) else p)
    (d.setSession sess (some { x with statuses := l })).answer st body

/-- The FSP response to a sequence request (10 R348, 14 R491-R492): its result, with REFUSED when the request was refused. -/
def Dev.answerSeq (tgt code tag res : Nat) (refused : Bool) (d : Dev) : Dev :=
  match d.hwd.seqWait.find? (fun x => x.1 == (tgt, code, tag)) with
  | none => d
  | some x =>
    let e := { d with hwd := { d.hwd with seqWait := d.hwd.seqWait.erase x } }
    e.lateReply x.2.1 x.2.2 (if refused then 8 else 0) [res]

/-- Write a result of the block and answer the request (10 R348, R371). -/
def Dev.putResult (code tag src res : Nat) (refused : Bool) (d : Dev) : Dev :=
  let d := d.setReg A.ctlSeqres (resWord code tag src res)
  if src = 1 then d.answerSeq 0 code tag res refused else d

/-- A result of the block (10 R348): event 224 when a sequence ended, 225 when a request was refused. -/
def Dev.blkResult (code tag src res : Nat) (refused : Bool) (d : Dev) : Dev :=
  (d.putResult code tag src res refused).raise (if refused then 225 else 224) 0

/-- End the running block sequence with a result, once for all requests that it answers, the newest last (10 R347-R348). -/
def Dev.endBlk (res : Nat) (d : Dev) : Dev :=
  let b := d.ctl.blk
  if b.code = 0 then d else
  let d := foldOver b.alsoTag (fun x d => d.putResult x.1 x.2.1 x.2.2 res false) (d.setBlk (fun _ => {}))
  d.blkResult b.code b.tag b.src res false

/-- A failed step: gates off, holds released (10 R350). -/
def Dev.failBlk (res : Nat) (d : Dev) : Dev := (((d.gatesOff).setHold .pos false).setHold .neg false).endBlk res

/-- Both main contactors read open. -/
def Dev.mainsOpen (d : Dev) : Bool := !d.rbit A.ctlStat 24 && !d.rbit A.ctlStat 23

/-- A block close sequence or PRELINK runs. -/
def Dev.closing (d : Dev) : Bool := d.ctl.blk.code == 1 || d.ctl.blk.code == 2

/-- Finish a block open whose holds are off once both contactors read open (10 R355): OK, then STANDBY. -/
def Dev.openDone (d : Dev) : Dev :=
  let d := d.endBlk 0
  let d := { d with rep := { d.rep with openZero := false } }
  if d.base = 4 then d.settleState 3 else d

/-- Turn both holds off and wait for both feedbacks (10 R355). -/
def Dev.openBoth (d : Dev) : Dev :=
  let d := ((d.setHold .pos false).setHold .neg false).blkStep 3
  if d.mainsOpen then d.openDone else d

/-- Start OPEN (3) or OPENNOW (4) from the state reached (10 R347, R355). -/
def Dev.startOpen (code tag src : Nat) (d : Dev) : Dev :=
  let d := if d.closing then (d.gatesOff).endBlk 18 else d
  let d := { d with rep := { d.rep with openZero := true } }
  let d := d.setBlk (fun _ => { code := code, step := 1, tag := tag, src := src, stepT := d.time.now, waiting := code == 3 })
  if code = 4 then d.openBoth else d

/-- The block open that a latched BLKZ zone runs (07 R251, 10 R355): OPENNOW by the device. An open or shutdown already running
turns both holds off at once and goes on. -/
def Dev.tripOpen (d : Dev) : Dev :=
  if d.ctl.blk.code = 3 ∨ d.ctl.blk.code = 4 then ({ d with ctl := { d.ctl with blk := { d.ctl.blk with waiting := false } } }).openBoth
  else if d.ctl.blk.code = 5 then (d.setHold .pos false).setHold .neg false
  else d.startOpen 4 0 2

/-- A string's sequence. -/
def Dev.strSeq (d : Dev) (n : Nat) : StrSeq := FMap.get (fun _ => {}) d.ctl.strs n

/-- Set a string's sequence. -/
def Dev.setStrSeq (n : Nat) (x : StrSeq) (d : Dev) : Dev := { d with ctl := { d.ctl with strs := FMap.set (fun _ => {}) d.ctl.strs n x } }

/-- Write a string's result and answer the request (10 R348, R371); the register of an absent string keeps reading 0. -/
def Dev.putStrResult (n code tag src res : Nat) (refused : Bool) (d : Dev) : Dev :=
  let d := if d.portEn n then d.setReg (A.ctlSres n) (resWord code tag src res) else d
  if src = 1 then d.answerSeq (n + 1) code tag res refused else d

/-- A result of a string (10 R348): event 224 when a sequence ended, 225 when a request was refused. -/
def Dev.strResult (n code tag src res : Nat) (refused : Bool) (d : Dev) : Dev :=
  (d.putStrResult n code tag src res refused).raise (if refused then 225 else 224) n

/-- A string's per-string state. -/
def Dev.str (d : Dev) (n : Nat) : StrSt := FMap.get (fun _ => {}) d.rep.str n

/-- Change a string's per-string state. -/
def Dev.setStr (n : Nat) (f : StrSt → StrSt) (d : Dev) : Dev :=
  { d with rep := { d.rep with str := FMap.upd (fun _ => {}) d.rep.str n f } }

/-- End a string's running sequence with a result; a disconnection under way no longer keeps the string from counting as connected (10 R361). -/
def Dev.endStr (n res : Nat) (d : Dev) : Dev :=
  let q := d.strSeq n
  if q.code = 0 then d else ((d.setStr n (fun x => { x with discon := false })).setStrSeq n {}).strResult n q.code q.tag q.src res false

/-- Count a string's positive contactor arcing charge at an open command (10 R368): |ISTR| × 5 ms in mC, when the contact reads
closed. -/
def Dev.strArc (n : Nat) (d : Dev) : Dev :=
  if !(d.port n).head.conP then d else
  let i := (d.port n).head.istr.natAbs * 5 / 1000
  let a := A.ctlLarc (n + 2)
  let old := (d.reg a).toNat
  let v := min (old + i) 0xFFFFFFFF
  (d.setReg a (BitVec.ofNat 32 v)).raiseIf (decide (v = 0xFFFFFFFF) && decide (old < 0xFFFFFFFF)) 230 n

/-- Send an open command to a string's head (07 R251, 10 R361). -/
def Dev.sendOpen (n cmd : Nat) (d : Dev) : Dev := (d.strArc n).headCmd n cmd

end Sys2Proof.Machine
end

