-- ==== Sys2Proof/Machine/ProtOps.lean ====
section
/-! DEFINITION. The trip path: zone latches, their sources and the backup open (07 R246-R251). -/

namespace Sys2Proof.Machine
open Sys2Proof

/-- Zones latched (07 R259). -/
def Dev.latched (d : Dev) : Nat := d.fld A.protStat 7 0

/-- Zones of a string (07 R262). -/
def Dev.strz (d : Dev) (n : Nat) : Nat := d.fld (A.protStrz (n / 4)) (8 * (n % 4) + 7) (8 * (n % 4))

/-- A record entry of the trip context (15 R532). -/
def tcxEntry (l : List (Nat × Nat)) (i : Nat) : List Nat :=
  match l[i]? with
  | some (e, t) => leBytes 2 e ++ leBytes 8 t
  | none => [0xFF, 0xFF, 0, 0, 0, 0, 0, 0, 0, 0]

/-- The four continuations of a TRIP record: the trip context, oldest first, two entries in each (15 R526, R532). -/
def tcxConts (l : List (Nat × Nat)) : List (List Nat) :=
  (List.range 4).map (fun i => tcxEntry l (2 * i) ++ tcxEntry l (2 * i + 1) ++ [0, 0])

/-- End a reserve release in force (09 R307). -/
def Dev.endRelease (d : Dev) : Dev :=
  match d.rep.relFrel with
  | none => d
  | some _ =>
    let d := { d with rep := { d.rep with relFrel := none } }
    ((d.setRbit A.cnpyRsv 31 false).setFld A.cnpyRsv 9 0 0).raise 210 0

/-- The backup path of a latched zone (07 R251): head open commands to its strings, and the block open for a BLKZ zone. -/
def Dev.backupOpen (z : Nat) (d : Dev) : Dev :=
  let d := foldOver (List.range 48) (fun n d => if (d.strz n).testBit z then (d.endStr n 18).sendOpen n 0x09 else d) d
  if d.rbit A.protBlkz z then d.tripOpen else d

/-- A request that finds the latch set adds its source bit, and its reason when it is the first L1 or FACT request (07 R248,
R260). -/
def Dev.addSource (z src reason : Nat) (d : Dev) : Dev :=
  let w := d.reg (A.protSrc z)
  let first := (src == 1 || src == 2) && !w.bit 1 && !w.bit 2
  let w := if first then w.setField 15 8 reason else w
  d.setReg (A.protSrc z) (w.setBit src true)

/-- Set a clear latch (07 R248): drive, source, count, event 162 with a TRIP record, SAFE, backup open. Sources: 0 L0, 1 L1,
2 FACT, 3 GRANT, 4 ISO, 5 EXT. -/
def Dev.setLatch (z src reason : Nat) (d : Dev) : Dev :=
  let w := (((0 : Word).setField 31 16 (d.scan % 65536)).setField 15 8 (if src = 1 ∨ src = 2 then reason else 0)).setBit src true
  let d := d.setReg (A.protSrc z) w
  let d := (((d.setRbit A.protStat z true).setRbit A.protStat (8 + z) true).setRbit A.protStat (16 + z) true)
  let d := d.bump A.protLatches A.protOvf 0
  let d := { d with prot := { d.prot with latchT := FMap.set (fun _ => 0) d.prot.latchT z d.time.now, mramLatch := d.latched } }
  let d := d.logRec 2 162 ([z, w.field 5 0, w.field 15 8, 0] ++ leBytes 4 (d.reg A.protL0first).toNat) (tcxConts d.log.tcx)
  let d := d.raiseNoLog 162
  let d := d.raiseIf (src == 5) 170 z
  let d := if d.rbit A.protBlkz (8 + z) then
      (if d.pstate = 7 ∨ d.pstate = 1 then d.setRbit A.protStat 31 true else
        ((d.setRbit A.protStat 31 true).endRelease).settleState (if d.base = 2 then 3 else d.base))
    else d
  d.backupOpen z

/-- The zones of `mask` reach the latches (07 R246, R248); pending releases note it (R252). -/
def Dev.latchZones (mask src reason : Nat) (d : Dev) : Dev :=
  let d := { d with prot := { d.prot with
    reqAt := (bitsOf 8 mask).foldl (fun a z => FMap.set (fun _ => 0) a z (d.scan + 1)) d.prot.reqAt,
    rels := d.prot.rels.map (fun r => { r with seen := r.seen ||| mask }),
    check := d.prot.check.map (fun r => { r with seen := r.seen ||| mask }) } }
  foldOver (bitsOf 8 mask) (fun z d => if d.latched.testBit z then d.addSource z src reason else d.setLatch z src reason) d

/-- A request for the zones of `mask` (07 R246, R248). The latches read 0 until start-up has restored them (R259): a request that comes
before waits for that (DEDUCED, log entry 170). -/
def Dev.requestZones (mask src reason : Nat) (d : Dev) : Dev :=
  if d.prot.restored then d.latchZones mask src reason
  else { d with prot := { d.prot with early := d.prot.early ++ [(mask, src, reason)] } }

end Sys2Proof.Machine
end

