-- ==== Sys2Proof/Machine/Views.lean ====
section
/-! DEFINITION. The read-only cell table views as tasks and FSP read them (05 R179-R183, 08 R275-R278, 09 R323, R332-R333):
words computed from the typed views, slots and records. -/

namespace Sys2Proof.Machine
open Sys2Proof

/-- The list cut or filled with `x` to `n` elements. -/
def padTo {α : Type} (n : Nat) (x : α) (l : List α) : List α := (List.range n).map (fun i => l.getD i x)

/-- Word `i` of a byte string; bytes past its end read 0. -/
def wordAt (bs : List Nat) (i : Nat) : Nat := ofLe (padTo 4 0 (bs.drop (4 * i)))

/-- The word at index `i` of a list of words, 0 past its end. -/
def pickWord (ws : List Nat) (i : Nat) : Nat := ws.getD i 0

/-- Validity codes packed 3 bits each (05 R181, R183). -/
def packCodes (n : Nat) (l : List Nat) : Nat := (padTo n 0 l).foldr (fun c acc => c % 8 + 8 * acc) 0

/-- The cells coded with one of `codes`, with their numbers 1-16. -/
def ModRec.cellsCoded (r : ModRec) (codes : List Nat) : List (Nat × Nat) :=
  ((List.range 16).filter (fun i => codes.contains (r.valid.getD i 6))).map (fun i => (i + 1, r.cells.getD i 0))

/-- MODV (05 R181): sum of the cells coded VALID, SETTLING or SUSPECT. -/
def ModRec.modv (r : ModRec) : Nat := (r.cellsCoded [0, 1, 4]).foldl (fun a p => a + p.2) 0

/-- The extreme VALID cell by a strict order; ties go to the lower number; (0, 0) if none. -/
def ModRec.extreme (r : ModRec) (lt : Nat → Nat → Bool) : Nat × Nat :=
  match r.cellsCoded [0] with
  | [] => (0, 0)
  | p :: rest => rest.foldl (fun b q => if lt q.2 b.2 then q else b) p

/-- TMAX (05 R181): the highest VALID temperature, if any. -/
def ModRec.tmax (r : ModRec) : Option Int :=
  ((List.range 8).filter (fun i => r.valid.getD (16 + i) 6 == 0)).foldl
    (fun m i => let t := r.temps.getD i 0
                match m with | none => some t | some x => some (max x t)) none

/-- The 112 bytes of a module record at hop `h` (05 R181). -/
def recBytes (h : Nat) (r : ModRec) : List Nat :=
  let lo := r.extreme (fun a b => decide (a < b))
  let hi := r.extreme (fun a b => decide (b < a))
  let deliv := r.deliv % 4 + 4 * b2n r.failed + 8 * b2n (r.headStale && h == 1) + 16 * (min r.age 7)
  (padTo 16 0 r.cells).flatMap (leBytes 2) ++ (padTo 8 0 r.temps).flatMap (fun t => leBytes 2 (toU 16 t))
    ++ leBytes 8 r.status.toNat ++ leBytes 4 r.cfgtag.toNat ++ leBytes 12 (packCodes 24 (padTo 24 6 r.valid)) ++ leBytes 4 r.src
    ++ leBytes 4 deliv ++ leBytes 4 r.modv ++ leBytes 2 lo.2 ++ leBytes 2 hi.2 ++ [lo.1, hi.1]
    ++ leBytes 2 (match r.tmax with | none => 0x8000 | some t => toU 16 t) ++ [0, 0, 0, 0]
    ++ (if h = 1 then padTo 12 0 r.head else padTo 12 0 []) ++ [0, 0, 0, 0]

/-- The words of the scan header (05 R183). -/
def hdrWords (x : Hdr) : List Nat :=
  let c := packCodes 32 x.val % 2 ^ 90
  let q := toU 64 x.qcnt
  [x.scan, x.flags, x.tinst % 2 ^ 32, x.tinst / 2 ^ 32 % 2 ^ 32, x.intv, 0, 0, 0] ++ (padTo 30 0 x.own).map (toU 32)
    ++ [c % 2 ^ 32, c / 2 ^ 32 % 2 ^ 32, c / 2 ^ 64 % 2 ^ 32, 0, q % 2 ^ 32, q / 2 ^ 32]

/-- A view's record at ring `n`, hop `h`. -/
def View.modRec (v : View) (n h : Nat) : ModRec := FMap.get (fun _ => {}) v.recs (64 * n + h - 1)

/-- A value word (05 R182). -/
def valueWord (code v : Nat) : Nat := (code % 8) * 2 ^ 29 + v % 65536

/-- The slot words of a cell (08 R275). -/
def slotWords (x : Slot) : List Nat :=
  [toU 32 x.z, toU 32 x.va, toU 32 x.vb, toU 32 x.h] ++ (padTo 10 0 x.p).map (toU 32)
    ++ [toU 32 x.fq, toU 32 x.fr, toU 32 x.qeff, toU 32 x.vhat, toU 32 x.innov, toU 32 x.icell,
        (x.set % 8) * 65536 + toU 16 x.tcell] ++ (padTo 6 0 x.lims).map (toU 32)
    ++ [x.flags.toNat, x.scan, toU 32 x.hf0, toU 32 x.hf1, x.hf2.toNat]

/-- The words of a string reduction record (08 R278). -/
def strRecWords (r : StrRec) : List Nat :=
  let q := toU 64 r.qsum
  let z := toU 64 r.qzsum
  [r.scan, r.ncell, toU 32 r.zmin, toU 32 r.zmax, r.jz, q % 2 ^ 32, q / 2 ^ 32, z % 2 ^ 32, z / 2 ^ 32]
    ++ (padTo 6 0 r.lmin).map (toU 32) ++ [(r.rej % 65536) * 65536 + r.noupd % 65536]

/-- The words of the block report record (09 R332). -/
def blkWords (r : BlkRec) : List Nat :=
  [r.scan, r.flags] ++ [r.socf, r.socm, r.socr, r.zmean, r.qdis, r.qchg].map (toU 32) ++ [r.edis, r.echg]
    ++ padTo 6 0 r.ilim ++ padTo 6 0 r.plim ++ [r.icg, r.idg, r.pcg, r.pdg, r.remC, r.remD] ++ [toU 32 r.sohq, toU 32 r.sohr]
    ++ [r.counts]

/-- The words of a string report record (09 R333). -/
def strRepWords (r : StrRep) : List Nat :=
  [r.scan, r.flags] ++ [r.zs, r.zc, r.qdis, r.qchg].map (toU 32) ++ padTo 6 0 r.lims ++ [toU 32 r.fq, toU 32 r.fr, r.cap, 0]

/-- Page `k` of the Canopy slots (08 R277). -/
def CnpySt.page (c : CnpySt) (k : Nat) : FMap Slot := if k = 0 then c.page0 else c.page1

/-- A slot of a page. -/
def slotOf (m : FMap Slot) (j : Nat) : Slot := FMap.get (fun _ => {}) m j

/-- The Canopy page that a SRAM address lies in, with the offset in it (08 R277, 15 R505). -/
def Dev.inPage (d : Dev) (a : Nat) : Option (Nat × Nat) :=
  let n := 131072 * d.rings
  if 0x00800000 ≤ a ∧ a < 0x00800000 + n then some (0, a - 0x00800000)
  else if 0x00E00000 ≤ a ∧ a < 0x00E00000 + n then some (1, a - 0x00E00000) else none

/-- A history depth of the views; a depth not yet filled reads 0 everywhere. -/
def AcqSt.view (q : AcqSt) (k : Nat) : Option View := q.views[k]?

/-- The value word of a cell in a view (05 R182). -/
def cellWord (v : View) (n h c : Nat) : Nat :=
  let r := v.modRec n h
  valueWord (r.valid.getD (c - 1) 6) (r.cells.getD (c - 1) 0)

/-- The value word of a temperature in a view (05 R182). -/
def tempWord (v : View) (n h t : Nat) : Nat :=
  let r := v.modRec n h
  valueWord (r.valid.getD (15 + t) 6) (toU 16 (r.temps.getD (t - 1) 0))

/-- The word at a 4-byte aligned address of 0x6000_0000-0x61FF_FFFF (05 R179). What no layout uses reads 0. -/
def Dev.viewWord (d : Dev) (a : Nat) : Nat :=
  let o := a - 0x60000000
  if o < 0x400000 then
    match d.acq.view (o / 0x80000) with
    | none => 0
    | some v =>
      let r := o % 0x80000 / 112
      if r < 3072 then wordAt (recBytes (r % 64 + 1) (v.modRec (r / 64) (r % 64 + 1))) (o % 0x80000 % 112 / 4) else 0
  else if o < 0x600000 then
    match d.acq.view ((o - 0x400000) / 0x40000) with
    | none => 0
    | some v =>
      let p := o % 0x40000
      if p / 0x1000 < 48 then cellWord v (p / 0x1000) (p % 0x1000 / 64 + 1) (p % 64 / 4 + 1) else 0
  else if o < 0x700000 then
    match d.acq.view ((o - 0x600000) / 0x20000) with
    | none => 0
    | some v =>
      let p := o % 0x20000
      if p / 0x800 < 48 then tempWord v (p / 0x800) (p % 0x800 / 32 + 1) (p % 32 / 4 + 1) else 0
  else if o < 0x700800 then
    match d.acq.view ((o - 0x700000) / 0x100) with
    | none => 0
    | some v => pickWord (hdrWords v.hdr) (o % 0x100 / 4)
  else if 0x800000 ≤ o ∧ o < 0x800000 + 131072 * d.rings then
    pickWord (slotWords (slotOf (d.cnpy.page d.cnpy.conf) ((o - 0x800000) / 128))) (o % 128 / 4)
  else if 0xE00000 ≤ o ∧ o < 0xE02000 then
    let m := if o < 0xE01000 then d.cnpy.rec0 else d.cnpy.rec1
    if o % 0x1000 / 64 < 48 then pickWord (strRecWords (FMap.get (fun _ => {}) m (o % 0x1000 / 64))) (o % 64 / 4) else 0
  else if 0xF00000 ≤ o ∧ o < 0xF02000 then
    let p := o % 0x1000
    if p < 0x100 then pickWord (blkWords (if o < 0xF01000 then d.rep.blk0 else d.rep.blk1)) (p / 4)
    else if 0x400 ≤ p ∧ p < 0x1000 then
      pickWord (strRepWords (FMap.get (fun _ => {}) (if o < 0xF01000 then d.rep.str0 else d.rep.str1) ((p - 0x400) / 64))) (p % 64 / 4)
    else 0
  else if 0x1000000 ≤ o ∧ o < 0x1018000 then pickWord (FMap.get (fun _ => []) d.cnpy.imp ((o - 0x1000000) / 32)) (o % 32 / 4)
  else 0

/-- What tasks read as Canopy's results in ticks 0 to 3 of the scan whose page is already confirmed: those of the scan before (01 R26;
DEDUCED, log entry 172). Other masters, and tasks from tick 4 on, read the confirmed ones. -/
def Dev.taskSees (d : Dev) : Dev :=
  let old := d.time.ticksOn && decide (d.time.tick < 4) && (d.reg A.cnpyConf).toNat == d.time.tickScan
  if old then
    { d with cnpy := { d.cnpy with conf := 1 - d.cnpy.conf, rec0 := d.cnpy.rec1, rec1 := d.cnpy.rec2 },
             rep := { d.rep with blk0 := d.rep.blk1, blk1 := d.rep.blk2, str0 := d.rep.str1, str1 := d.rep.str2 } }
  else d

/-- The bytes of a snapshot cell (08 R293): Z, H, FQ, FR. -/
def snapBytes (x : Int × Int × Int × Int) : List Nat := [x.1, x.2.1, x.2.2.1, x.2.2.2].flatMap (fun v => leBytes 4 (toU 32 v))

/-- One byte of MRAM: the snapshot copies lie at 0x2028_0000 and 0x2034_0000, 16 KiB a string and 16 B a cell (08 R293, 15 R519, R521).
The device state area holds their headers at places the manual does not give (log entry 197). -/
def State.mramByte (s : State) (a : Nat) : Nat :=
  let o := (a - 0x20280000) % 0xC0000
  let x := FMap.get (fun _ => {}) (if a < 0x20340000 then s.dev.cnpy.snapA else s.dev.cnpy.snapB) (o / 0x4000)
  let heads := fun (m : FMap Snap) => m.flatMap (fun p => [p.1, p.2.scan, p.2.crc])
  if 0x201C4000 ≤ a ∧ a < 0x201D4000 then
    (Config.stateAreaByte a (heads s.dev.cnpy.snapA ++ heads s.dev.cnpy.snapB)).toNat
  else if a < 0x20280000 ∨ 0x20400000 ≤ a then (s.byte a).toNat
  else match x.cells[o % 0x4000 / 16]? with
    | none => (s.byte a).toNat
    | some c => (snapBytes c).getD (o % 16) 0

/-- One byte that a NEAR address reads as for a task: cell table views, Canopy pages through SRAM, or SRAM (02 R47, 08 R277). -/
def State.nearByte (s : State) (a : Nat) : Nat :=
  if 0x60000000 ≤ a then (s.dev.taskSees.viewWord (a - a % 4) >>> (8 * (a % 4))) % 256
  else match s.dev.inPage a with
    | some (k, o) => (pickWord (slotWords (slotOf (s.dev.cnpy.page k) (o / 128))) (o % 128 / 4) >>> (8 * (o % 4))) % 256
    | none => (s.byte a).toNat

/-- The `n` bytes from a NEAR address as a little-endian number. -/
def State.nearLoad (s : State) (a n : Nat) : Nat := ofLe ((span a n).map s.nearByte)

end Sys2Proof.Machine
end

