-- ==== Sys2Proof/Machine/FspOps.lean ====
section
/-! DEFINITION. What every FSP request passes: sessions, sequence numbers, token buckets, the checks of a request in their order, and
the closing of a session (13 R453-R457, 14 R488-R493). -/

namespace Sys2Proof.Machine
open Sys2Proof

/-- Memory with `n` bytes from `a` zeroed: an unlisted byte reads zero, so their entries go. -/
def zeroRange (a n : Nat) (m : FMap Byte) : FMap Byte := m.filter (fun p => decide (p.1 < a) || decide (a + n ≤ p.1))

/-- The SRAM window of slot `s` (13 R456). -/
def winBase (s : Nat) : Nat := 0x00600000 + 0x2000 * s

/-- Zero a slot's window; sessions without a slot have none (13 R456). -/
def zeroWindow (n : Nat) (m : FMap Byte) : FMap Byte := if n < 256 then zeroRange (winBase n) 0x2000 m else m

/-- A secret goes over Mooring under KP (13 R441, R460): without KP it is not sent. -/
def Dev.moorSecret (m : Mooring) (d : Dev) : Dev := if d.hwd.kp.isSome then d.moorSend m else d

/-- The partner of the twin with authority takes a session's secrets and sequence numbers, which it acknowledges (13 R460). A session on an own
address stays with its device (DEDUCED, log entry 167). The device acts and answers at once: the acknowledgement, 5 µs at most, is not waited
for (log entry 202). -/
def Dev.tellSession (n : Nat) (d : Dev) : Dev :=
  match d.session n with
  | none => d
  | some x =>
    if !d.isTwin || !d.authority || x.ownAddr then d else d.moorSecret (.session n (some x))

/-- Close a session (13 R442, R457, R465): event 305, and its window zeroed. -/
def State.closeSession (n : Nat) (s : State) : State :=
  match s.dev.session n with
  | none => s
  | some x =>
    let d := if s.dev.authority && !x.ownAddr then s.dev.moorSend (.session n none) else s.dev
    { s with dev := (d.setSession n none).raise 305 n, mem := zeroWindow n s.mem }

/-- Close every session that `p` picks. -/
def State.closeWhere (p : Session → Bool) (s : State) : State :=
  foldOver s.dev.hwd.sessions (fun x s => match x.2 with
    | some y => if p y then s.closeSession x.1 else s
    | none => s) s

/-- A protocol error closes the session with event 357 (14 R488, R490). -/
def State.protoClose (n : Nat) (s : State) : State :=
  let s := s.closeSession n
  { s with dev := s.dev.raise 357 n }

/-- RATE and BURST of a session's bucket (13 R453, 20 R607); an unclaimed device's sessions have none. -/
def Dev.bucket (d : Dev) (x : Session) : Option (Nat × Nat) :=
  if x.unclaimed then none else if x.owner then some (10, 20)
  else match d.hwd.slotOf x with
    | none => none
    | some c => some (c.rate, c.burst)

/-- Take a token (13 R455). `tokens` holds what is missing from a full bucket, in 10^-9 tokens, and when it was so; the bucket refills
without a break at RATE. -/
def Dev.takeToken (n : Nat) (x : Session) (d : Dev) : Dev × Bool :=
  match d.bucket x with
  | none => (d, true)
  | some (rate, burst) =>
    let t := FMap.get (fun _ => (0, 0)) d.hwd.tokens n
    let miss := t.1 - rate * (d.time.now - t.2)
    if miss + 1000000000 ≤ burst * 1000000000 then
      ({ d with hwd := { d.hwd with tokens := FMap.set (fun _ => (0, 0)) d.hwd.tokens n (miss + 1000000000, d.time.now) } }, true)
    else
      let last := FMap.get (fun _ => 0) d.hwd.rateEvt n
      let due := decide (last = 0) || decide (last + 60000000000 ≤ d.time.now + 1)
      let d := d.bump A.hwdRate A.hwdOvf 1
      if due then
        (({ d with hwd := { d.hwd with rateEvt := FMap.set (fun _ => 0) d.hwd.rateEvt n (d.time.now + 1) } }).raise 309 n, false)
      else (d, false)

/-- The limits of an own-address session apply (14 R486, 20 R608). -/
def Dev.ownLimited (d : Dev) (x : Session) : Bool := x.ownAddr && d.isTwin && d.topo.twin && d.twin.everPaired

/-- The session holds a capability (13 R454): an Owner session may only quote and carry Owner records (20 R607), a session of an
unclaimed device may only quote (R442), and in recovery quotes and images are all that is served (R448). -/
def Dev.holds (d : Dev) (x : Session) (cap : Nat) : Bool :=
  (!d.hwd.recovery || cap == 3 || cap == 25) && (if x.unclaimed then cap == 3 else if x.owner then cap == 3 || cap == 25
   else match d.hwd.slotOf x with
    | none => false
    | some c => c.cap.testBit cap) && (!d.ownLimited x || decide (cap ≤ 5))

/-- Tenant service is suspended for this session (13 R457, 16 R556). -/
def Dev.suspended (d : Dev) (x : Session) : Bool :=
  d.rbit A.hwdStat 28 && (match d.hwd.slotOf x with
    | none => false
    | some c => !c.emerg)

/-- What an operation answers: the device after it, STATUS and body. -/
abbrev FspOp := Dev → Dev × Nat × List Nat

/-- The checks of a request in their order (14 R492); `cap` and `ver` are those of the operation table, `bad` tells a field out of range. -/
def Dev.checkReq (n len cap ver : Nat) (bad : Bool) (x : Session) (op : FspOp) (d : Dev) : Dev × Nat × List Nat :=
  if 4080 < len then (d, 1, [])
  else
    let r := d.takeToken n x
    if !r.2 then (r.1, 2, [])
    else if x.ver < ver then (r.1, 3, [])
    else if !d.holds x cap then (r.1, 4, [])
    else if d.suspended x then (r.1, 5, [])
    else if bad then (r.1, 6, [])
    else op r.1

/-- The stored status of a request (14 R490). -/
def Session.stored (x : Session) (seq : Nat) : Option Nat := (x.statuses.find? (fun p => p.1 == seq)).map (·.2)

/-- Messages that a response of `len` bytes takes (14 R493). -/
def pagesOf (len : Nat) : Nat := max 1 ((len + 4079) / 4080)

/-- A session sends `k` messages, each in a record at least: their SEQ (14 R490), and after 2^24 records the device asks for a KeyUpdate (13
R458). Records are counted as messages (DESIGN CHOICE, log entry 204: the manual does not say how messages fall into records). -/
def Session.sendsOut (k : Nat) (x : Session) : Session :=
  { x with seqOut := (x.seqOut + k) % 2 ^ 32, recs := x.recs + k, rekey := x.rekey || decide (2 ^ 24 ≤ x.recs + k) }

/-- A processed request advances E and stores its status (14 R490). -/
def Session.advance (seq st pages now : Nat) (x : Session) : Session :=
  { x.sendsOut pages with e := (x.e + 1) % 2 ^ 32, statuses := ((seq, st) :: x.statuses).take 16, idle := now }

/-- The last page of a response as its session's window holds it (13 R456, 14 R488, R493): header, then the page. -/
def respMsg (x : Session) (msg : List Nat) (st : Nat) (body : List Nat) : List Nat :=
  let n := pagesOf body.length
  let b := body.drop (4080 * (n - 1))
  [x.ver, 2] ++ padTo 2 0 (msg.drop 2) ++ leBytes 4 (x.seqOut + n - 1) ++ leBytes 2 b.length ++ [n - 1, n] ++ leBytes 2 st ++ [0, 0] ++ b

/-- A slot's window takes a message in its first half, and the response's in its second (13 R456); a message too large is not written. -/
def State.toWindow (n : Nat) (big : Bool) (msg resp : List Nat) (s : State) : State :=
  if n < 256 then
    let m := if big then s.mem else writeBytes (winBase n) (toBytes (msg.take 4096)) s.mem
    { s with mem := writeBytes (winBase n + 0x1000) (toBytes resp) m }
  else s

/-- An FSP request (14 R490-R492). `rd` marks READ, LOGREAD and QUOTE, which a repeated SEQ executes again. -/
def State.fsp (q : Req) (cap ver : Nat) (bad rd : Bool) (op : FspOp) (s : State) : State :=
  match s.dev.session q.sess with
  | none => s
  | some x =>
    if x.ver = 0 then s.protoClose q.sess
    else if q.seq = x.e then
      let r := s.dev.checkReq q.sess q.len cap ver bad x op
      let y := (r.1.session q.sess).getD x
      let z := y.advance q.seq r.2.1 (pagesOf r.2.2.length) s.dev.time.now
      ({ s with dev := ((r.1.setSession q.sess (some z)).tellSession q.sess).answer r.2.1 r.2.2 }).toWindow q.sess (decide (4080 < q.len)) q.msg
        (respMsg x q.msg r.2.1 r.2.2)
    else match x.stored q.seq with
      | none => s.protoClose q.sess
      | some st =>
        let r : Dev × Nat × List Nat := if rd ∧ st = 0 then op s.dev else (s.dev, st, [])
        let y := { x.sendsOut (pagesOf r.2.2.length) with idle := s.dev.time.now }
        ({ s with dev := ((r.1.setSession q.sess (some y)).tellSession q.sess).answer (32768 + r.2.1) r.2.2 }).toWindow q.sess (decide (4080 < q.len))
          q.msg (respMsg x q.msg (32768 + r.2.1) r.2.2)

/-- An operation that both twins take at its boundary: all but a reset of this device and a hand-over (12 R416, 13 R449-R450). -/
def sharedAct (a : FspAct) : Bool := !(a == .reset) && !(a == .handover)

/-- Keep an operation for its stamped boundary (14 R491); the authority sends it to its partner. -/
def Dev.stamp (q : Req) (a : FspAct) (d : Dev) : Dev :=
  let e := { d with hwd := { d.hwd with fspActs := d.hwd.fspActs ++ [(d.stampDue, q.sess, q.seq, a)] } }
  if sharedAct a && d.authority then e.moorSend (.fspAct d.stampDue a) else e

/-- An operation that takes effect at its stamped boundary. -/
def stampOp (q : Req) (a : FspAct) : FspOp := fun d => (d.stamp q a, 0, [])

end Sys2Proof.Machine
end

