-- ==== Sys2Proof/Machine/RegWr.lean ====
section
/-! DEFINITION. Registers whose writes do more than set fields: ACQ, CNPY and LOG registers (05 R168, R170, R177, R198, 06 R203,
09 R317, 15 R538). -/

namespace Sys2Proof.Machine
open Sys2Proof

/-- Own value `j` takes at least `n` SETTLING scan values from the next instant on (05 R177). -/
def Dev.settleOwn (j n : Nat) (d : Dev) : Dev :=
  { d with acq := { d.acq with settleNew := FMap.upd (fun _ => 0) d.acq.settleNew j (fun x => max x n) } }

/-- A calibration run is asked for (05 R187-R188): its preconditions are checked within 10 µs, by CAL_START (log entry 23). While a run is
in progress this has no effect. -/
def Dev.calAsk (mask : Nat) (d : Dev) : Dev :=
  if d.acq.cal.isSome ∨ d.acq.calReq.isSome then d else { d with acq := { d.acq with calReq := some mask } }

/-- ACQ.CTL (05 R168, R192): each field is set, or left and event 135 raised when out of its range. A period below the program
set's T raises event 381 (03 R105). -/
def Dev.writeAcqCtl (v : Word) (d : Dev) : Dev :=
  let p := v.field 31 20
  let o := v.field 15 0
  let old := d.fld A.acqCtl 31 20
  let d := if 10 ≤ p ∧ p ≤ 4000 then d.setFld A.acqCtl 31 20 p else d.raise 135 0
  let d := if 14000 ≤ o then d.setFld A.acqCtl 15 0 o else d.raise 135 0
  match d.img.prog with
  | none => d
  | some g => d.raiseIf (decide (10 ≤ p) && decide (p ≤ 4000) && decide (p < g.t) && !(p == old)) 381 p

/-- One CORNER field of ACQ.FILT (05 R172, R177). -/
def Dev.writeCorner (n : Nat) (v : Word) (d : Dev) : Dev :=
  let c := v.field (4 * n + 2) (4 * n)
  if 5 ≤ c then d.raise 135 0
  else if d.fld A.acqFilt (4 * n + 2) (4 * n) = c then d
  else (d.setFld A.acqFilt (4 * n + 2) (4 * n) c).settleOwn n 1

/-- One RANGE field of ACQ.FILT (05 R173, R177): two values settle, and the coulomb counter of the block channel holds its last
sample for 100 µs. -/
def Dev.writeRange (n : Nat) (v : Word) (d : Dev) : Dev :=
  if d.rbit A.acqFilt (4 * n + 3) = v.bit (4 * n + 3) then d else
  let d := (d.setRbit A.acqFilt (4 * n + 3) (v.bit (4 * n + 3))).settleOwn n 2
  if d.topo.blkCur = n then { d with acq := { d.acq with hold := 2 } } else d

/-- ACQ.FILT (05 R172, R177, R197). -/
def Dev.writeAcqFilt (v : Word) (d : Dev) : Dev :=
  (((((d.writeCorner 0 v).writeCorner 1 v).writeCorner 2 v).writeCorner 3 v).writeRange 0 v).writeRange 1 v

/-- ACQ.STRETCH (05 R170, R195): clearing EN during a stretch ends it at the next nominal-instant computation. -/
def Dev.writeAcqStretch (v : Word) (d : Dev) : Dev :=
  let d := (d.setRbit A.acqStretch 31 (v.bit 31)).setFld A.acqStretch 15 0 (v.field 15 0)
  if v.bit 31 then { d with time := { d.time with stretchEnd := false } }
  else { d with time := { d.time with stretchReq := false, stretchEnd := d.time.stretched } }

/-- ACQ.VALCFG (05 R168, R198): 0 is rejected with event 135. -/
def Dev.writeAcqValcfg (v : Word) (d : Dev) : Dev :=
  if v.field 2 0 = 0 then d.raise 135 0 else d.setFld A.acqValcfg 2 0 (v.field 2 0)

/-- Send zero timers to hops `first..last` of a string (06 R203): BAL with 32 zero bytes for each hop. -/
def Dev.sendZero (n first last : Nat) (d : Dev) : Dev :=
  let keep := d.cnpy.timers.filter (fun p => !(decide (64 * n + first - 1 ≤ p.1) && decide (p.1 ≤ 64 * n + last - 1)))
  let d := { d with cnpy := { d.cnpy with timers := keep } }
  d.queueDev n 0x20 first last (List.replicate (32 * (last + 1 - first)) 0) 36

/-- A module's timers as last sent are not all zero. -/
def Dev.bleeding (d : Dev) (n h : Nat) : Bool := !(FMap.get (fun _ => []) d.cnpy.timers (64 * n + h - 1) == [])

/-- The string's bleeding stops as a whole (06 R203, R224): zero timers and event 220, when any timer runs. -/
def Dev.bleedStop (n : Nat) (d : Dev) : Dev :=
  if (span 1 (d.ringL n)).any (d.bleeding n) then
    ((d.setStr n (fun x => { x with bleedOff := true })).sendZero n 1 (d.ringL n)).raise 220 n
  else d

/-- CNPY.BALENk (06 R203, R228): a string whose bit falls stops bleeding. -/
def Dev.writeBalen (k : Nat) (v : Word) (d : Dev) : Dev :=
  let a := if k = 0 then A.cnpyBalen0 else A.cnpyBalen1
  let w := if k = 0 then min 32 d.rings else d.rings - 32
  let old := d.reg a
  let d := d.setReg a (v &&& BitVec.ofNat 32 (2 ^ w - 1))
  foldOver (List.range w) (fun i d =>
    if old.bit i && !v.bit i && d.portEn (32 * k + i) then d.bleedStop (32 * k + i) else d) d

/-- The hops of a string that its arming covers: a reference cell below 16 (09 R317). -/
def Dev.armedHops (d : Dev) (n : Nat) : List Nat :=
  let cells := FMap.get (fun _ => []) d.cnpy.refs n
  (span 1 (d.ringL n)).filter (fun h => decide (cells.getD (h - 1) 16 < 16))

/-- BURST with OP in [5:4] and the reference cell in [3:0] to the armed hops of a string (09 R318): one frame when every hop is
armed, else a frame for each. -/
def Dev.sendBurst (n op : Nat) (d : Dev) : Dev :=
  let cells := FMap.get (fun _ => []) d.cnpy.refs n
  let hops := d.armedHops n
  let e := fun h => [16 * op + cells.getD (h - 1) 0 % 16, 0, 0, 0]
  if hops.length = d.ringL n then d.queueDev n 0x30 1 (d.ringL n) (hops.flatMap e) 4
  else foldOver hops (fun h d => d.queueDev n 0x30 h h (e h) 4) d

/-- Disarm a string (09 R317): BURST DISARM at its hops. -/
def Dev.disarm (n : Nat) (d : Dev) : Dev :=
  if (d.str n).armed then (d.setStr n (fun x => { x with armed := false, frozen := false, reading := false })).sendBurst n 2 else d

/-- Disarm every string. -/
def Dev.disarmAll (d : Dev) : Dev := foldOver (List.range 48) (fun n d => d.disarm n) d

/-- CNPY.IMPCTL (09 R317, R336): clearing EN disarms the strings. -/
def Dev.writeImpctl (v : Word) (d : Dev) : Dev :=
  let d := (d.setRbit A.cnpyImpctl 31 (v.bit 31)).setFld A.cnpyImpctl 15 0 (v.field 15 0)
  if v.bit 31 then d else d.disarmAll

/-- Drop a record: count it, mark the gap, raise event 367 (15 R530). -/
def Dev.dropRec (d : Dev) : Dev := ({ d with log := { d.log with gap := true } }.bump A.logDrop A.logOvf 0).dropEvent

/-- LOG.UCODEp (15 R538): queue a USER record with the pair's data words, at most 8 in a scan. -/
def Dev.writeUcode (p : Nat) (v : Word) (d : Dev) : Dev :=
  let used := if p = 0 then d.log.user0 else d.log.user1
  if 8 ≤ used then d.dropRec else
  let d := { d with log := if p = 0 then { d.log with user0 := d.log.user0 + 1 } else { d.log with user1 := d.log.user1 + 1 } }
  d.logRec 10 (v.field 15 0) (leBytes 4 (d.reg (A.logUdata p 0)).toNat ++ leBytes 4 (d.reg (A.logUdata p 1)).toNat) []

end Sys2Proof.Machine
end

