-- ==== Sys2Proof/Machine/Tasks.lean ====
section
/-! DEFINITION. Ends of activations: traps, misses, faulty tasks and their fault actions (02 R82-R86, 03 R96, R106-R108). -/

namespace Sys2Proof.Machine
open Sys2Proof

/-- Whether a core is a second core of a split pair. -/
def secondCore (c : Core) : Bool :=
  match c with
  | .k0 => false
  | .k1 => false
  | .k0b => true
  | .k1b => true

/-- The trap event of a core (02 R86). -/
def trapEvent (c : Core) : Nat :=
  match c with
  | .k0 => 373
  | .k1 => 374
  | .k0b => 375
  | .k1b => 376

/-- The locker's number of an activation: pair and task entry (14 R476). -/
def lockKey (pair task : Nat) : Nat := 128 * pair + task

/-- A CAN object's read lock ends without a DATA15 read: the object stays unread (14 R476). -/
def CanObj.unlock (k : Nat) (o : CanObj) : CanObj := if o.lock = some k then { o with lock := none } else o

/-- The read locks of an ended activation end; objects and FIFO heads stay unread (14 R476). -/
def CanSt.unlock (k : Nat) (c : CanSt) : CanSt :=
  { c with objs := c.objs.map (fun p => (p.1, p.2.unlock k)),
           lock0 := if c.lock0 = some k then none else c.lock0,
           lock1 := if c.lock1 = some k then none else c.lock1 }

/-- End every read lock of an activation. -/
def Dev.unlockCan (k : Nat) (d : Dev) : Dev := { d with cans := d.cans.map (fun p => (p.1, p.2.unlock k)) }

/-- Stage the zero outputs of a SAFE fault action for the end of the tick (03 R96). -/
def safeZeros (t : TaskEnt) : List OutVal :=
  t.outs.flatMap (fun r =>
    if r.cls = 0 ∨ r.cls = 1 ∨ r.cls = 4 ∨ r.cls = 11 then
      (span r.first (r.last + 1 - r.first)).map (fun i => { cls := r.cls, idx := i, val := 0 })
    else [])

/-- The pair that runs an entry's task: a SAFETY task of a split pair has migrated to the other one (12 R408). -/
def Dev.hostPair (d : Dev) (e : Nat) : Nat :=
  if d.kstate (e / 64) = 1 ∧ (d.task e).splitOk = false then 1 - e / 64 else e / 64

/-- The trip request of a safe-and-trip action waits for the end of the tick (03 R96, 07 R246). The trip logic accepts it from a pair
whose two cores agree; a core of a split pair presents it alone, event 167, and from a pair in TEST or halted nothing is accepted
(07 R247, 12 R404; DEDUCED, log entry 164). -/
def Dev.factTrip (p zones : Nat) (d : Dev) : Dev :=
  if d.kstate p = 0 then
    (if p = 0 then { d with factZones0 := d.factZones0 ||| zones } else { d with factZones1 := d.factZones1 ||| zones })
  else d.raiseIf (d.kstate p == 1) 167 p

/-- Mark a task faulty and apply its fault action (03 R96, R108); the tags of its completed transactions are free (02 R75). -/
def Dev.taskFaulty (e : Nat) (d : Dev) : Dev :=
  let t := d.task e
  let d := (d.setRbit (A.sysTstat e) 31 true).raise 379 e
  let d := foldOver (List.range d.rings) (fun n d => d.setPort n (Port.dropDone (e + 1))) d
  let d := if t.fact = 1 ∨ t.fact = 2 then { d with committed := d.committed ++ safeZeros t } else d
  if t.fact = 2 then d.factTrip (d.hostPair e) t.fzones else d

/-- Count one missed activation of entry `e` on pair `p` (03 R106, R108, R111-R112). -/
def Dev.countMiss (p e : Nat) (d : Dev) : Dev :=
  let d := d.setRbit (A.sysTstat e) 29 true
  let d := d.bump (A.sysTmiss e) (A.sysTstat e) 24
  let r := min (d.fld (A.sysTstat e) 26 25 + 1) 3
  let d := (d.setFld (A.sysTstat e) 26 25 r).raise (377 + p) e
  if r = 3 ∧ d.rbit (A.sysTstat e) 31 = false then d.taskFaulty e else d

/-- A core's activation ends: staged outputs are discarded and both stacks emptied (02 R85). -/
def CoreSt.endAct (k : CoreSt) : CoreSt :=
  { k with run := false, cur := { k.cur with staged := [], rstk := [], lstk := [] } }

/-- End the activation a core runs, with its read locks. -/
def Dev.endAct (c : Core) (d : Dev) : Dev :=
  (d.unlockCan (lockKey (pairOf c) (d.core c).cur.task)).setCore c CoreSt.endAct

/-- A trap (02 R85): the instruction has no effect, the activation ends, the trap event and a TRAP record follow, an ABSENT trap
raises event 372 too by `absent`, and a running activation counts as missed. -/
def Dev.trapWith (absent : Dev → Dev) (c : Core) (code : Nat) (d : Dev) : Dev :=
  let k := d.core c
  let e := k.cur.task
  let d := (d.raiseNoLog (trapEvent c)).logRec 1 (trapEvent c) ([code, e, 0, 0] ++ leBytes 4 k.cur.pc) []
  let d := if code = 1 then absent d else d
  let d := d.setFld (A.sysTstat e) 7 0 code
  let d := d.endAct c
  if k.run then d.countMiss (pairOf c) e else d

/-- A trap of an instruction (02 R85). -/
def Dev.trap : Core → Nat → Dev → Dev := Dev.trapWith (Dev.raise 372 0)

/-- A trap of an access to control space: while event 372 is pending, further ones only count (00 R10). -/
def Dev.farTrap : Core → Nat → Dev → Dev := Dev.trapWith Dev.raiseAbsent

end Sys2Proof.Machine
end

