-- ==== Sys2Proof/Machine/CtlSpace.lean ====
section
/-! DEFINITION. Reads and writes of control space by a master (00 R10, R15, 14 R473, R476, 15 R529, 19 R593-R604). -/

namespace Sys2Proof.Machine
open Sys2Proof

/-- Both Keeper pairs are halted. -/
def Dev.bothHalted (d : Dev) : Bool := d.kstate 0 == 3 && d.kstate 1 == 3

/-- A Keeper pair completes its ticks (11 R391, 12 R404-R406): in RUN or SPLIT with its injection test passed. -/
def Dev.pairsTick (d : Dev) : Bool := (List.range 2).any (fun p => decide (d.kstate p < 2) && d.rbit (A.sysKstat p) 29)

/-- The device is dead for limp-home (11 R391). -/
def Dev.lhDead (d : Dev) : Bool := d.lh.wdog || d.bothHalted || d.lh.inReset || d.yielded

/-- No task access of this tick has come yet, and it is tick 0 (19 R596, 20 R610). -/
def Dev.tickFresh (d : Dev) : Bool :=
  d.time.ticksOn && d.time.tick == 0 && [Core.k0, Core.k1, Core.k0b, Core.k1b].all (fun c => !(d.core c).run && (d.core c).started == [])

/-- Limp-home is active (11 R392). -/
def Dev.lhActive (d : Dev) : Bool := d.lhDead || d.lh.enLow

/-- Demanded, by the channel or by any member (11 R379, R399). -/
def Lsw.dem (x : Lsw) : Bool := x.demA || x.demB

/-- The output is on at `now`: a turn-on may wait for its turn (11 R376, R387). -/
def Lsw.live (now : Nat) (x : Lsw) : Bool := x.on && decide (x.turnOnAt ≤ now)

/-- The live flags LSW.CHn[15:0] (11 R399). -/
def Lsw.flags (now : Nat) (x : Lsw) : Nat :=
  b2n (x.live now) * 0x8000 + b2n x.dem * 0x4000 + b2n x.lh * 0x2000 + b2n ((x.waitA && !(x.live now && x.selA)) || (x.waitB && !(x.live now && x.selB))) * 0x1000 + (min x.rcnt 15) * 0x100
    + b2n x.fwfail * 0x80 + b2n x.retry * 0x10 + b2n x.clamp * 8 + b2n x.ol * 4 + b2n x.ot * 2 + b2n x.oc

/-- Channels that are on (11 R395). -/
def Dev.chansOn (d : Dev) : Nat := ((List.range 32).filter (fun n => (d.chan n).live d.time.now)).length

/-- LSW.STAT (11 R395). -/
def Dev.lswStatWord (d : Dev) : Nat :=
  b2n d.lhActive * 2 ^ 31 + b2n d.lh.enLow * 2 ^ 30 + b2n d.lh.wdog * 2 ^ 29
    + b2n (d.bothHalted || d.yielded || d.lh.inReset) * 2 ^ 28 + d.chansOn

/-- Jobs a pair's queue holds that have not ended (08 R297). -/
def EstQ.waiting (q : EstQ) : Nat := (q.jobs.filter (fun j => decide (j.st < 2))).length

/-- Open sessions (13 R466). -/
def Dev.openSessions (d : Dev) : Nat := (d.hwd.sessions.filter (fun p => p.2.isSome)).length

/-- A CAN controller. -/
def Dev.can (d : Dev) (c : Nat) : CanSt := FMap.get (fun _ => {}) d.cans c

/-- Change a CAN controller. -/
def Dev.setCan (c : Nat) (f : CanSt → CanSt) (d : Dev) : Dev := { d with cans := FMap.upd (fun _ => {}) d.cans c f }

/-- A message object. -/
def CanSt.obj (c : CanSt) (m : Nat) : CanObj := FMap.get (fun _ => {}) c.objs m

/-- Change a message object. -/
def CanSt.setObj (m : Nat) (f : CanObj → CanObj) (c : CanSt) : CanSt := { c with objs := FMap.upd (fun _ => {}) c.objs m f }

/-- A frame takes its place in a receive object (14 R473-R474); the timestamp is in µs. -/
def CanObj.place (f : CanFrame) (m : Nat) (o : CanObj) : CanObj :=
  { o with rid := f.ident, fdf := f.fdf, brs := f.brs, esi := f.esi, rtr := f.rtr, dlc := f.dlc, tstamp := f.t / 1000,
           mtch := m, data := f.data, unread := true, shadow := none }

/-- The 32 words of an object or FIFO entry (14 R473). -/
def canWords (ide fdf brs esi rtr : Bool) (ident tstamp mtch txs dlc : Nat) (data : List Word) : List Nat :=
  [b2n ide * 2 ^ 31 + b2n fdf * 2 ^ 30 + b2n brs * 2 ^ 29 + ident % 2 ^ 29, tstamp % 2 ^ 32,
   (mtch % 256) * 2 ^ 24 + (tstamp / 2 ^ 32 % 65536) * 256 + (txs % 4) * 64 + b2n esi * 32 + b2n rtr * 16 + dlc % 16, 0]
    ++ (padTo 16 0 data).map BitVec.toNat

/-- The words of an object. -/
def CanObj.words (o : CanObj) : List Nat :=
  canWords o.ide o.fdf o.brs o.esi o.rtr (if o.kind = 2 then o.rid else o.ident) o.tstamp o.mtch o.txs o.dlc o.data

/-- The words of a FIFO head entry. -/
def canFrameWords (f : CanFrame) (m : Nat) : List Nat :=
  canWords f.ide f.fdf f.brs f.esi f.rtr f.ident (f.t / 1000) m 0 f.dlc f.data

/-- Whether a lock is held by the pair of an activation. -/
def lockOf (l : Option Nat) (k : Nat) : Bool :=
  match l with
  | none => false
  | some x => x / 128 == k / 128

/-- A read of word `w` of a receive object by activation `k`: word 0 takes the lock, DATA15 under the lock ends it and moves the
shadow in (14 R476). -/
def CanObj.afterRead (k w : Nat) (o : CanObj) : CanObj :=
  if w = 0 ∧ o.kind = 2 ∧ o.lock = none then { o with lock := some k }
  else if w = 19 ∧ lockOf o.lock k then
    match o.shadow with
    | none => { o with lock := none, unread := false }
    | some f => ({ o with lock := none }).place f o.mtch
  else o

/-- A read of word `w` of a FIFO head by activation `k` (14 R476). -/
def CanSt.fifoRead (i k w : Nat) (c : CanSt) : CanSt :=
  if i = 0 then
    if w = 0 ∧ c.lock0 = none ∧ c.fifo0 ≠ [] then { c with lock0 := some k }
    else if w = 19 ∧ lockOf c.lock0 k then { c with lock0 := none, fifo0 := c.fifo0.drop 1, match0 := c.match0.drop 1 } else c
  else
    if w = 0 ∧ c.lock1 = none ∧ c.fifo1 ≠ [] then { c with lock1 := some k }
    else if w = 19 ∧ lockOf c.lock1 k then { c with lock1 := none, fifo1 := c.fifo1.drop 1, match1 := c.match1.drop 1 } else c

/-- The words of FIFO `i`'s head, if it holds an entry. -/
def CanSt.fifoHead (c : CanSt) (i : Nat) : Option (List Nat) :=
  if i = 0 then c.fifo0.head?.map (fun f => canFrameWords f (c.match0.headD 255)) else c.fifo1.head?.map (fun f => canFrameWords f (c.match1.headD 255))

/-- Read offset `o` of CAN controller `c` at or above 0x2000. `k` is the reading activation, if a Keeper reads. The head of an
empty FIFO has no stated content: a free value (log entry 6). -/
def Dev.canRead (c o : Nat) (k : Option Nat) (d : Dev) : Dev × Word :=
  let w := o % 0x80 / 4
  if 0x2000 ≤ o ∧ o < 0x6000 then
    let m := (o - 0x2000) / 0x80
    let v := BitVec.ofNat 32 (pickWord ((d.can c).obj m).words w)
    match k with
    | none => (d, v)
    | some k => (d.setCan c (fun x => x.setObj m (fun ob => ob.afterRead k w)), v)
  else if 0x6000 ≤ o ∧ o < 0x6100 then
    let i := (o - 0x6000) / 0x80
    match (d.can c).fifoHead i with
    | none => if w < 20 ∧ w ≠ 3 then (d.takeFree, Config.freeWord d.freeCnt) else (d, 0)
    | some ws =>
      let v := BitVec.ofNat 32 (pickWord ws w)
      match k with
      | none => (d, v)
      | some k => (d.setCan c (fun x => x.fifoRead i k w), v)
  else (d, 0)

/-- A master's captures (19 R604). -/
def TimeSt.caps (t : TimeSt) (m : Master) : Caps :=
  match m with
  | .k0 => t.capK0
  | .k1 => t.capK1
  | .fsp => t.capF
  | .hwd => t.capH

/-- Change a master's captures. -/
def TimeSt.setCaps (m : Master) (f : Caps → Caps) (t : TimeSt) : TimeSt :=
  match m with
  | .k0 => { t with capK0 := f t.capK0 }
  | .k1 => { t with capK1 := f t.capK1 }
  | .fsp => { t with capF := f t.capF }
  | .hwd => { t with capH := f t.capH }

/-- Change a master's captures in the device. -/
def Dev.setCaps (m : Master) (f : Caps → Caps) (d : Dev) : Dev := { d with time := d.time.setCaps m f }

/-- The block coulomb count in whole µC, truncated toward minus infinity (05 R173), as 64 bits. -/
def Dev.qcnt (d : Dev) : Nat := toU 64 (d.acq.coul / 65536)

/-- The UTC offset as 64 bits (14 R502). -/
def Dev.utcOfs (d : Dev) : Nat := toU 64 d.eth.offset

/-- Control space that is absent on this device (00 R10, 02 R50, 19 R599). -/
def Dev.absentAt (d : Dev) (a : Nat) : Bool :=
  if 0x40030000 ≤ a ∧ a < 0x4003C000 then decide (d.rings ≤ (a - 0x40030000) / 0x400)
  else if 0x40090000 ≤ a ∧ a < 0x400A0000 then !d.isTwin
  else if 0x400A0000 ≤ a ∧ a < 0x400E0000 then !d.hasCan ((a - 0x400A0000) / 0x10000)
  else if a = A.cnpyImpctl ∨ a = A.cnpyImpstat then !d.hasImp
  else if (A.lswCh 16 ≤ a ∧ a < A.lswCh 32) ∨ (A.lswCfg 16 ≤ a ∧ a < A.lswCfg 32) ∨ a = A.lswLhmap 2 ∨ a = A.lswLhmap 3 then
    !d.hasLsw 16
  else if a = A.ethStat 1 then !d.hasEth 1 else false

/-- A physical bank as manufactured (15 R504-R505): 0-39 back the logical banks, those of a page range without data are idle
donors, 40 and 41 are spares, 42 is the swap bank. -/
def Dev.bank0 (d : Dev) (b : Nat) : Bank :=
  if b < 40 then
    { st := if (16 + d.rings / 4 ≤ b ∧ b < 28) ∨ 28 + d.rings / 4 ≤ b then 3 else 0, logical := b }
  else if b < 42 then { st := 1 } else { st := 2 }

/-- A physical bank. -/
def Dev.bank (d : Dev) (b : Nat) : Bank := FMap.get d.bank0 d.ram.banks b

/-- RING.STAT.LAUNCH (04 R152): the device launches on port `n`, always in single use; in a twin pair with authority, or its own half of a BROKEN ring. -/
def Dev.launches (d : Dev) (n : Nat) : Bool := d.portEn n && (!d.isTwin || d.authority || d.ringState n == 3)

/-- What a register shows: registers that mirror a unit's own state are computed from it, the others read their stored value. -/
def Dev.regView (d : Dev) (m : Master) (a : Nat) : Word :=
  if a = A.sysTimel then BitVec.ofNat 32 (d.time.now % 2 ^ 32)
  else if a = A.sysTimeh then BitVec.ofNat 32 ((d.time.caps m).time / 2 ^ 32)
  else if a = A.acqQcntl then BitVec.ofNat 32 (d.qcnt % 2 ^ 32)
  else if a = A.acqQcnth then BitVec.ofNat 32 ((d.time.caps m).qcnt / 2 ^ 32)
  else if a = A.ethUtcl then BitVec.ofNat 32 (d.utcOfs % 2 ^ 32)
  else if a = A.ethUtch then BitVec.ofNat 32 ((d.time.caps m).utc / 2 ^ 32)
  else if a = A.sysUidl then Config.uid.setWidth 32
  else if a = A.sysUidh then (Config.uid >>> 32).setWidth 32
  else if 0x40030000 ≤ a ∧ a < 0x4003C000 ∧ a % 0x400 = 0xC then
    let l := (d.port ((a - 0x40030000) / 0x400)).txns
    BitVec.ofNat 32 ((l.filter (fun t => decide (64 ≤ t.tag))).length * 65536 + (l.filter (fun t => decide (t.tag < 64))).length)
  else if a = A.cnpyBalen0 then d.reg a &&& BitVec.ofNat 32 (2 ^ min 32 d.rings - 1)
  else if a = A.cnpyBalen1 then d.reg a &&& BitVec.ofNat 32 (2 ^ (d.rings - 32) - 1)
  else if 0x40030000 ≤ a ∧ a < 0x4003C000 ∧ a % 0x400 = 4 then
    (d.reg a).setBit 13 (d.launches ((a - 0x40030000) / 0x400))
  else if a = A.cnpyStat then ((d.reg a).setField 7 4 d.cnpy.q1.waiting).setField 3 0 d.cnpy.q0.waiting
  else if a = A.cnpyImpstat then
    BitVec.ofNat 32 (((List.range 48).filter (fun n => (d.str n).frozen || d.cnpy.impWork.any (fun p => p.1 / 64 == n))).length * 65536
      + ((List.range 48).filter (fun n => (d.str n).armed && !(d.str n).frozen)).length * 256)
  else if a = A.ctlLstat 14 ∨ a = A.ctlLstat 15 then (d.reg a).setBit 25 d.topo.pcen
  else if a = A.cnpyRsv then (d.reg a).setField 19 10 d.topo.fres
  else if a = A.lswStat then BitVec.ofNat 32 d.lswStatWord
  else if A.lswCh 0 ≤ a ∧ a < A.lswCh 32 then
    let x := d.chan ((a - A.lswCh 0) / 4)
    BitVec.ofNat 32 (x.agr * 65536 + x.flags d.time.now)
  else if a = A.hwdStat then (d.reg a).setField 6 0 d.openSessions
  else if A.memBank 0 ≤ a ∧ a < A.memBank 43 then
    let b := d.bank ((a - A.memBank 0) / 4)
    BitVec.ofNat 32 ((b.st % 8) * 2 ^ 29 + (if b.st = 0 then (b.logical % 64) * 2 ^ 23 else 0) + (b.rows % 16) * 2 ^ 19)
  else if a = A.logHead then BitVec.ofNat 32 (match d.log.recs.getLast? with | some r => r.seq | none => 0)
  else if a = A.logTail then BitVec.ofNat 32 (match d.log.recs.head? with | some r => r.seq | none => 0)
  else if 0x400A0000 ≤ a ∧ a < 0x400E0000 ∧ a % 0x10000 = 0xC then
    let c := d.can ((a - 0x400A0000) / 0x10000)
    BitVec.ofNat 32 (c.fifo1.length * 2 ^ 24 + c.fifo0.length * 65536 + b2n c.lock1.isSome * 2 + b2n c.lock0.isSome)
  else d.reg a

/-- A clearing read (15 R529): a statistics counter whose CNTCTL.RC is 1 returns to 0; FSP reads never clear (14 R493). -/
def Dev.clearRead (m : Master) (a : Nat) (d : Dev) : Dev :=
  match regRow a with
  | none => d
  | some r =>
    if r.ctl ≠ 0 ∧ m ≠ .fsp ∧ d.rbit (r.ctl + r.outer a * r.s1) 0 then d.setReg a 0 else d

/-- The captures that a read of a low half takes (05 R200, 14 R502, 19 R604). -/
def Dev.captureRead (m : Master) (a : Nat) (d : Dev) : Dev :=
  if a = A.sysTimel then d.setCaps m (fun c => { c with time := d.time.now })
  else if a = A.acqQcntl then d.setCaps m (fun c => { c with qcnt := d.qcnt })
  else if a = A.ethUtcl then d.setCaps m (fun c => { c with utc := d.utcOfs })
  else d

/-- Read the word at an address of control space. Absent space reads 0 and raises event 372 (00 R10). `k` is the reading
activation of a Keeper. -/
def Dev.ctlRead (m : Master) (k : Option Nat) (a : Nat) (d : Dev) : Dev × Word :=
  if d.absentAt a then (d.raiseAbsent, 0)
  else if 0x400A0000 ≤ a ∧ a < 0x400E0000 ∧ 0x2000 ≤ a % 0x10000 then d.canRead ((a - 0x400A0000) / 0x10000) (a % 0x10000) k
  else ((d.captureRead m a).clearRead m a, d.regView m a)

/-- The plain effect of a write (00 R15, 19 R595, R597): RW bits are set; W1C bits clear in the ACQ, CNPY, EVT and LOG blocks. -/
def Dev.plainWrite (a : Nat) (v : Word) (d : Dev) : Dev :=
  match regRow a with
  | none => d
  | some r =>
    let rw := BitVec.ofNat 32 r.rw
    let b := a / 0x10000
    let wc := if b = 0x4001 ∨ b = 0x4004 ∨ b = 0x4006 ∨ b = 0x4012 then BitVec.ofNat 32 r.w1c else 0#32
    d.setReg a ((((d.reg a) &&& ~~~rw) ||| (v &&& rw)) &&& ~~~(v &&& wc))

/-- ACQ.CALCTL (05 R187-R188, R199): MASK is set, and START = 1 starts a run. -/
def Dev.writeCalctl (v : Word) (d : Dev) : Dev :=
  let d := d.plainWrite A.acqCalctl v
  if v.bit 0 then d.calAsk (d.fld A.acqCalctl 7 4) else d

/-- Write a word to control space. Absent space ignores it and raises event 372 (00 R10). -/
def Dev.ctlWrite (a : Nat) (v : Word) (d : Dev) : Dev :=
  if d.absentAt a then d.raiseAbsent
  else if a = A.acqCtl then d.writeAcqCtl v
  else if a = A.acqFilt then d.writeAcqFilt v
  else if a = A.acqStretch then d.writeAcqStretch v
  else if a = A.acqValcfg then d.writeAcqValcfg v
  else if a = A.acqCalctl then d.writeCalctl v
  else if a = A.cnpyBalen0 then d.writeBalen 0 v
  else if a = A.cnpyBalen1 then d.writeBalen 1 v
  else if a = A.cnpyImpctl then d.writeImpctl v
  else if a = A.logUcode 0 then d.writeUcode 0 v
  else if a = A.logUcode 1 then d.writeUcode 1 v
  else d.plainWrite a v

end Sys2Proof.Machine
end

