-- ==== Sys2Proof/Machine/Operands.lean ====
section
/-! DEFINITION. Operand access of Tabbin instructions: registers, windows and access classes, the loop and return stacks, cycles
and budgets, and the shared frame of one instruction (02 R37-R51, R57-R59, R82-R85). -/

namespace Sys2Proof.Machine
open Sys2Proof

/-- The outcome of one command. -/
abbrev Out := Host.Outcome State Fault Refusal

/-- A register's value: g0 reads 0 (02 R37). -/
def Ctx.r (x : Ctx) (g : Reg) : Word := if g = 0 then 0 else FMap.get (fun _ => 0) x.regs g.val

/-- A register write: g0 ignores it (02 R37). -/
def Ctx.w (g : Reg) (v : Word) (x : Ctx) : Ctx := if g = 0 then x else { x with regs := FMap.set (fun _ => 0) x.regs g.val v }

/-- Set the saturation indicator when `b` holds (02 R44). -/
def Ctx.satIf (b : Bool) (x : Ctx) : Ctx := if b then { x with sat := true } else x

/-- Where an instruction leads: next pc, loop stack, and the cycles that ended iterations cost (02 R57). -/
structure Nxt where
  pc : Nat
  lstk : List LoopEnt
  extra : Nat
deriving DecidableEq, Repr

/-- Depth of the loop stack at entry of the running function (02 R41). -/
def Ctx.base (x : Ctx) : Nat :=
  match x.rstk with
  | [] => 0
  | (_, n) :: _ => n

/-- Execution arrives at `pc`: each body of the running function that ends there ends an iteration, for one cycle each; a body
with iterations left starts again, a finished one is popped (02 R57). -/
def arrive (base : Nat) (l : List LoopEnt) (pc : Nat) : Nxt :=
  match l with
  | [] => { pc := pc, lstk := [], extra := 0 }
  | e :: rest =>
    if rest.length < base ∨ pc ≠ e.stop then { pc := pc, lstk := e :: rest, extra := 0 }
    else if 1 < e.left then { pc := e.start, lstk := { e with left := e.left - 1 } :: rest, extra := 1 }
    else
      let n := arrive base rest pc
      { n with extra := n.extra + 1 }

/-- A transfer to `t` leaves every body of the running function that ends at or before `t` (02 R58). -/
def leaveLoops (base : Nat) (l : List LoopEnt) (t : Nat) : List LoopEnt :=
  match l with
  | [] => []
  | e :: rest => if rest.length < base then e :: rest else if e.stop ≤ t then leaveLoops base rest t else e :: rest

/-- The instruction that follows in sequence. -/
def Ctx.seq (x : Ctx) : Nxt := arrive x.base x.lstk (x.pc + 4)

/-- The target of a transfer by `off` words (02 R52). -/
def Ctx.target (x : Ctx) (off : Int) : Nat := toU 32 ((x.pc : Int) + 4 * off)

/-- A transfer to address `t`. -/
def Ctx.goto (x : Ctx) (t : Nat) : Nxt := { pc := t, lstk := leaveLoops x.base x.lstk t, extra := 0 }

/-- What an instruction meets beside its budget (02 R82-R83). -/
structure Causes where
  ecc : Bool := false
  ill : Bool := false
  align : Bool := false
  absent : Bool := false
  window : Bool := false
deriving DecidableEq, Repr

/-- The running segment's budget would be exceeded by `n` more cycles (02 R82). -/
def Dev.overBudget (c : Core) (n : Nat) (d : Dev) : Bool :=
  let k := d.core c
  k.run && decide ((d.task k.cur.task).budgets.getD k.cur.seg 0 < k.cur.cyc + n)

/-- The instruction at the pc lies in an instruction cache word with an uncorrectable error (02 R39, R82; log entry 163). -/
def Dev.fetchBad (d : Dev) (c : Core) : Bool :=
  FMap.get (fun _ => false) d.ram.badCode (65536 * pairOf c + (d.core c).cur.pc % 524288 / 8)

/-- The causes of an instruction with those of its fetch (02 R82). -/
def Dev.withFetch (d : Dev) (c : Core) (q : Causes) : Causes := { q with ecc := q.ecc || d.fetchBad c }

/-- The first cause in the order of 02 R83. -/
def firstCause (q : Causes) (budget : Bool) : Option Nat :=
  if q.ecc then some 7 else if q.ill then some 6 else if budget then some 3 else if q.align then some 4
  else if q.absent then some 1 else if q.window then some 2 else none

/-- The context after an instruction that led to `n` and cost `cyc` cycles. -/
def Ctx.moved (n : Nxt) (cyc : Nat) (x : Ctx) : Ctx := { x with pc := n.pc, lstk := n.lstk, cyc := x.cyc + cyc }

/-- A core after an instruction: its context changed by `k`, moved to `n`, charged `cyc` cycles. -/
def Dev.retire (c : Core) (n : Nxt) (cyc : Nat) (k : Ctx → Ctx) (d : Dev) : Dev :=
  d.setCore c (fun q => { q with cur := (k q.cur).moved n cyc, cyc := q.cyc + cyc })

/-- One instruction with plain causes, context change `k` and sequential successor (02 R83-R85). -/
def Dev.instr (c : Core) (cost : Nat) (q : Causes) (k : Ctx → Ctx) (d : Dev) : Dev :=
  let n := (d.core c).cur.seq
  let cyc := cost + n.extra
  match firstCause (d.withFetch c q) (d.overBudget c cyc) with
  | some t => d.trap c t
  | none => d.retire c n cyc k

/-- One transfer instruction with successor `n` (02 R54, R83). -/
def Dev.jump (c : Core) (cost : Nat) (q : Causes) (n : Nxt) (k : Ctx → Ctx) (d : Dev) : Dev :=
  match firstCause (d.withFetch c q) (d.overBudget c cost) with
  | some t => d.trap c t
  | none => d.retire c n cost k

/-- One instruction that also changes more of the machine by `g` when no cause holds. -/
def Dev.instrAnd (c : Core) (cost : Nat) (q : Causes) (k : Ctx → Ctx) (g : Dev → Dev) (d : Dev) : Dev :=
  let n := (d.core c).cur.seq
  let cyc := cost + n.extra
  match firstCause (d.withFetch c q) (d.overBudget c cyc) with
  | some t => d.trap c t
  | none => g (d.retire c n cyc k)

/-- An instruction on the machine that may also write memory. -/
def State.instrMem (c : Core) (cost : Nat) (q : Causes) (k : Ctx → Ctx) (g : Dev → Dev) (m : FMap Byte → FMap Byte) (s : State) :
    State :=
  let n := (s.dev.core c).cur.seq
  let cyc := cost + n.extra
  match firstCause (s.dev.withFetch c q) (s.dev.overBudget c cyc) with
  | some t => { s with dev := s.dev.trap c t }
  | none => { s with dev := g (s.dev.retire c n cyc k), mem := m s.mem }

/-- A value of the current context. -/
def Dev.val (d : Dev) (c : Core) (g : Reg) : Word := (d.core c).cur.r g

/-- The byte address ga + sext(imm) (02 R46). -/
def Dev.addr (d : Dev) (c : Core) (ga : Reg) (imm : BitVec 16) : Nat := (d.val c ga + imm.signExtend 32).toNat

/-- All `n` bytes from `a` lie inside one window of the running task that grants the right (02 R46). -/
def Dev.winOk (d : Dev) (c : Core) (a n : Nat) (write : Bool) : Bool :=
  (d.task (d.core c).cur.task).wins.any (fun w =>
    decide (w.base ≤ a) && decide (a + n ≤ w.base + w.len) && (if write then w.w else w.r))

/-- NEAR addresses (02 R47). -/
def isNear (a : Nat) : Bool := decide (a < 0x01400000) || (decide (0x60000000 ≤ a) && decide (a < 0x62000000))

/-- Control space (02 R47). -/
def isCtl (a : Nat) : Bool := decide (0x40000000 ≤ a) && decide (a < 0x40130000)

/-- MRAM (02 R47). -/
def isMram (a : Nat) : Bool := decide (0x20000000 ≤ a) && decide (a < 0x20800000)

/-- FAR addresses (02 R47). -/
def isFar (a : Nat) : Bool := isMram a || isCtl a

/-- The cell table views with the Canopy pages: NEAR and read-only (02 R47, 08 R277). -/
def Dev.readOnly (d : Dev) (a : Nat) : Bool := decide (0x60000000 ≤ a) || (d.inPage a).isSome

/-- The SRAM address that a task reads at a NEAR address: the slot view shows the confirmed page (08 R277, 01 R26). -/
def Dev.sramOf (d : Dev) (a : Nat) : Nat :=
  if 0x60800000 ≤ a ∧ a < 0x60800000 + 131072 * d.rings then
    (if d.taskSees.cnpy.conf = 0 then 0x00800000 else 0x00E00000) + (a - 0x60800000) else a

/-- Whether any SRAM word of `n` bytes from `a`, or from the slot view's place in its page, is poisoned (15 R508). -/
def Dev.poisoned (d : Dev) (va n : Nat) : Bool :=
  let a := d.sramOf va
  decide (a < 0x01400000) && decide (0 < n) && d.ram.poison.any (fun p => p.2 && decide (a / 8 ≤ p.1) && decide (p.1 ≤ (a + n - 1) / 8))

/-- A word of `n` bytes from `a` is uncorrectable in the pair's data caches (02 R82, 12 R401). -/
def Dev.dataBad (d : Dev) (c : Core) (a n : Nat) : Bool :=
  decide (0 < n) && d.ram.badData.any (fun p => p.2 && p.1 / 536870912 == pairOf c && decide (a / 8 ≤ p.1 % 536870912)
    && decide (p.1 % 536870912 ≤ (a + n - 1) / 8))

/-- Causes of a NEAR access of `n` bytes (02 R46-R49). ECC counts only for an access that takes place. -/
def Dev.nearCauses (d : Dev) (c : Core) (a n : Nat) (write : Bool) : Causes :=
  let al := !(a % n == 0)
  let bad := !(d.winOk c a n write) || !isNear a || (write && d.readOnly a)
  { align := al, window := bad, ecc := !al && !bad && !write && (d.poisoned a n || d.dataBad c a n) }

/-- The physical bank backing logical bank `l`. -/
def Dev.backing (d : Dev) (l : Nat) : Nat :=
  ((List.range 43).find? (fun b => (d.bank b).st == 0 && (d.bank b).logical == l)).getD 255

/-- An uncorrectable read at an SRAM address (15 R508, R532): event 360, MEM.UECNT and a MEMORY record. -/
def Dev.uncorrectable (a : Nat) (d : Dev) : Dev :=
  let a := d.sramOf a
  let d := (d.bump A.memUecnt A.memOvf 13).raiseNoLog 360
  d.logRec 6 360 ([2, d.backing (a / 0x80000) % 256] ++ leBytes 2 (a % 0x80000 / 1024) ++ leBytes 4 a) []

/-- Note an uncorrectable read before its trap. -/
def Dev.noteEcc (e : Bool) (a : Nat) (d : Dev) : Dev := if e then d.uncorrectable a else d

/-- A pair reads control space under its own name (19 R604). -/
def masterOf (c : Core) : Master :=
  match c with
  | .k0 => .k0
  | .k1 => .k1
  | .k0b => .k0
  | .k1b => .k1

/-- The number of the activation a core runs, as a locker of CAN entries. -/
def Dev.locker (d : Dev) (c : Core) : Nat := lockKey (pairOf c) (d.core c).cur.task

/-- The core is one of a split pair (02 R65, 12 R409). -/
def Dev.isSplit (d : Dev) (c : Core) : Bool := d.kstate (pairOf c) == 1

/-- A byte of a task's window wherever it lies: NEAR, MRAM or control space. -/
def State.anyByte (s : State) (c : Core) (a : Nat) : Nat :=
  if isNear a then s.nearByte a
  else if isCtl a then ((s.dev.regView (masterOf c) (a - a % 4)).toNat >>> (8 * (a % 4))) % 256
  else s.mramByte a

/-- `n` bytes of a task's window. -/
def State.anyBytes (s : State) (c : Core) (a n : Nat) : List Nat := (span a n).map (s.anyByte c)

/-- A store clears the poison of the SRAM words it writes (15 R508), and puts good words into the data caches. -/
def Dev.cleanPoison (a n : Nat) (d : Dev) : Dev :=
  let out := fun (k : Nat) => decide (k < a / 8) || decide ((a + n - 1) / 8 < k)
  if a < 0x01400000 ∧ 0 < n ∧ ¬(d.ram.poison = [] ∧ d.ram.badData = []) then
    { d with ram := { d.ram with poison := d.ram.poison.filter (fun p => out p.1), badData := d.ram.badData.filter (fun p => out (p.1 % 536870912)) } }
  else d

/-- A negative status as a word (02 R81). -/
def statusWord (n : Nat) : Word := Word.ofInt (-(n : Int))

end Sys2Proof.Machine
end

