-- ==== Sys2Proof/Machine/TabbinFlow.lean ====
section
/-! DEFINITION. Control flow and activation control of Tabbin (02 R41, R54, R57-R60, R78-R80). -/

namespace Sys2Proof.Machine
open Sys2Proof

/-- A conditional branch of 2 cycles (02 R54). -/
def branch (c : Core) (ga gb : Reg) (off : BitVec 16) (p : Word → Word → Bool) (s : State) : Out :=
  let x := (s.dev.core c).cur
  if p (x.r ga) (x.r gb) then .next { s with dev := s.dev.jump c 2 {} (x.goto (x.target off.toInt)) id }
  else .next { s with dev := s.dev.instr c 2 {} id }

/-- BEQ (R54). -/
def execBeq (c : Core) (ga : Reg) (gb : Reg) (off : BitVec 16) (s : State) : Out := branch c ga gb off (fun a b => a == b) s

/-- BNE (R54). -/
def execBne (c : Core) (ga : Reg) (gb : Reg) (off : BitVec 16) (s : State) : Out := branch c ga gb off (fun a b => !(a == b)) s

/-- BLT (R54). -/
def execBlt (c : Core) (ga : Reg) (gb : Reg) (off : BitVec 16) (s : State) : Out := branch c ga gb off (fun a b => a.slt b) s

/-- BGE (R54). -/
def execBge (c : Core) (ga : Reg) (gb : Reg) (off : BitVec 16) (s : State) : Out := branch c ga gb off (fun a b => !a.slt b) s

/-- BLTU (R54). -/
def execBltu (c : Core) (ga : Reg) (gb : Reg) (off : BitVec 16) (s : State) : Out := branch c ga gb off (fun a b => a.ult b) s

/-- BGEU (R54). -/
def execBgeu (c : Core) (ga : Reg) (gb : Reg) (off : BitVec 16) (s : State) : Out := branch c ga gb off (fun a b => !a.ult b) s

/-- J (R54). -/
def execJ (c : Core) (off : BitVec 26) (s : State) : Out :=
  let x := (s.dev.core c).cur
  .next { s with dev := s.dev.jump c 2 {} (x.goto (x.target off.toInt)) id }

/-- Push a return address. The stack holds 8 entries; a ninth leaves the top entry's address a free value (log entry 6). -/
def Ctx.pushRet (free : Nat) (x : Ctx) : Ctx :=
  if x.rstk.length < 8 then { x with rstk := (x.pc + 4, x.lstk.length) :: x.rstk }
  else { x with rstk := ((Config.freeWord free).toNat, x.lstk.length) :: x.rstk.take 7 }

/-- JAL (R41, R54): g31 and the return stack take the return address; the target is a function, so no loop is left. -/
def execJal (c : Core) (off : BitVec 26) (s : State) : Out :=
  let x := (s.dev.core c).cur
  let full := !(decide (x.rstk.length < 8))
  let d := s.dev.jump c 2 {} { pc := x.target off.toInt, lstk := x.lstk, extra := 0 }
    (fun y => ((y.pushRet s.dev.freeCnt).w 31 (BitVec.ofNat 32 (x.pc + 4))))
  .next { s with dev := if full then d.takeFree else d }

/-- RET (R59): ILLEGAL on an empty return stack; otherwise the loop stack returns to its recorded depth. -/
def execRet (c : Core) (s : State) : Out :=
  let x := (s.dev.core c).cur
  match x.rstk with
  | [] => .next { s with dev := s.dev.jump c 2 { ill := true } x.seq id }
  | (a, n) :: rest =>
    let nx : Nxt := { pc := a, lstk := x.lstk.drop (x.lstk.length - n), extra := 0 }
    .next { s with dev := s.dev.jump c 2 {} nx (fun y => { y with rstk := rest }) }

/-- Iterations of a LOOP (02 R57). -/
def loopCount (g : Word) (bound : Nat) : Nat := min (max g.toInt 0).toNat bound

/-- A loop stack with an entry pushed. It holds 4 entries; a fifth leaves the entry's count a free value (log entry 6). -/
def pushLoop (free : Nat) (e : LoopEnt) (l : List LoopEnt) : List LoopEnt :=
  if l.length < 4 then e :: l else { e with left := (Config.freeWord free).toNat } :: l.take 3

/-- LOOP (R57): zero iterations continue after the body. -/
def execLoop (c : Core) (gc : Reg) (bound : Nat) (len : Nat) (s : State) : Out :=
  let x := (s.dev.core c).cur
  let n := loopCount (x.r gc) bound
  let stop := x.pc + 4 + 4 * len
  if n = 0 then
    let a := arrive x.base x.lstk stop
    .next { s with dev := s.dev.jump c (2 + a.extra) {} a id }
  else
    let l := pushLoop s.dev.freeCnt { start := x.pc + 4, stop := stop, left := n } x.lstk
    let d := s.dev.jump c 2 {} { pc := x.pc + 4, lstk := l, extra := 0 } id
    .next { s with dev := if x.lstk.length < 4 then d else d.takeFree }

/-- Device time as MFS TIMEL reads it: raw on a single device, the agreed tick start and the cycle count in a twin pair (02 R60,
12 R415: retired cycles, with a free part for the dispatcher's own, log entry 189). -/
def Dev.mfsTime (d : Dev) (c : Core) : Nat :=
  if d.isTwin then d.time.tickStart + (d.core c).cyc * 5 / 3 else d.time.now

/-- MFS ROLE (02 R60, 12 R425). -/
def Dev.role (d : Dev) : Nat := if !d.isTwin then 0 else if d.twinState = 0 ∨ d.twinState = 4 then 1 else 2

/-- The special values of MFS (02 R60). -/
def Dev.mfs (d : Dev) (c : Core) (idx : Nat) : Word :=
  let x := (d.core c).cur
  if idx = 0 then BitVec.ofNat 32 (d.mfsTime c)
  else if idx = 1 then BitVec.ofNat 32 (x.snap / 2 ^ 32)
  else if idx = 2 then BitVec.ofNat 32 d.time.tickScan
  else if idx = 3 then BitVec.ofNat 32 d.time.tick
  else if idx = 4 then BitVec.ofNat 32 (x.task % 64)
  else if idx = 5 then BitVec.ofNat 32 (2 * b2n (d.isSplit c) + pairOf c)
  else if idx = 6 then BitVec.ofNat 32 (b2n x.sat)
  else if idx = 7 then d.reg A.sysUnitmap
  else if idx = 8 then BitVec.ofNat 32 d.role
  else BitVec.ofNat 32 (2 * b2n d.conservative + b2n d.authority)

/-- MFS (R60): an unassigned index is a reserved encoding (R53). -/
def execMfs (c : Core) (gd : Reg) (idx : Nat) (s : State) : Out :=
  let v := s.dev.mfs c idx
  let t := s.dev.mfsTime c
  let f : Ctx → Ctx := fun x => (if idx = 0 then { x with snap := t } else x).w gd v
  .next { s with dev := s.dev.instr c (if idx = 0 then 2 else 1) { ill := decide (9 < idx) } f }

/-- An activation is abandoned (02 R78): staged outputs are discarded and TSTAT.ABND is set; it is no miss. -/
def Dev.abandon (e : Nat) (d : Dev) : Dev := d.setRbit (A.sysTstat e) 27 true

/-- Ticks of the scan whose ticks run (01 R23, 16 R551). -/
def Dev.ticksPer (d : Dev) : Nat := d.time.ticks

/-- The activation leaves the core until tick `w`, or is abandoned when the scan has no such tick (02 R78). -/
def Dev.suspend (c : Core) (w : Nat) (d : Dev) : Dev :=
  let k := d.core c
  if !k.run then d
  else if w < d.ticksPer then
    d.setCore c (fun q => { q with run := false, susp := q.susp ++ [{ q.cur with seg := q.cur.seg + 1, cyc := 0, wake := w }] })
  else (d.endAct c).abandon k.cur.task

/-- WAITT (R78). -/
def execWaitt (c : Core) (k : Nat) (s : State) : Out :=
  .next { s with dev := s.dev.instrAnd c 8 {} id (fun d => d.suspend c (d.time.tick + k)) }

/-- The end of an activation by COMMIT (02 R79, 03 R108, 14 R476): staged outputs wait for the end of the tick, the count of
consecutive misses returns to 0, and read locks end. -/
def Dev.commitAct (c : Core) (d : Dev) : Dev :=
  let x := (d.core c).cur
  let d := { d with committed := d.committed ++ x.staged }
  let d := if (d.core c).run then d.setFld (A.sysTstat x.task) 26 25 0 else d
  d.endAct c

/-- COMMIT (R79). -/
def execCommit (c : Core) (s : State) : Out := .next { s with dev := s.dev.instrAnd c 4 {} id (Dev.commitAct c) }

/-- Programs in force hold a verified migration for pair `p` (02 R80). -/
def Dev.canMigrate (d : Dev) (p : Nat) : Bool :=
  match d.img.prog with
  | none => false
  | some g => g.migrates.contains p

/-- SPLIT's verdict (02 R80). -/
def Dev.splitOk (d : Dev) (p : Nat) : Bool :=
  !(d.kstate p == 1) && !(d.kstate (1 - p) == 1) && !(d.kstate (1 - p) == 3) && d.canMigrate p

/-- A SPLIT (false) or JOIN (true) is to take effect at tick 0 of a scan. -/
def Dev.pairAt (p : Nat) (j : Bool) (scan : Nat) (d : Dev) : Dev := d.setPair p (fun q => { q with pend := some (j, scan) })

/-- Note an accepted SPLIT (false) or JOIN (true): it takes effect at tick 0 of the first scan at least 2 scans later. In a twin pair the
authority tells its partner that scan, which waits for it (12 R407). -/
def Dev.pendPair (p : Nat) (j : Bool) (d : Dev) : Dev :=
  let d := d.setRbit (A.sysKstat p) 28 true
  if d.agreed && d.follows then d else (d.pairAt p j (d.time.tickScan + 2)).moorSend (.pairAt p j (d.time.tickScan + 2))

/-- SPLIT (R80). -/
def execSplit (c : Core) (gd : Reg) (s : State) : Out :=
  let p := pairOf c
  let ok := s.dev.splitOk p
  let f : Ctx → Ctx := fun x => x.w gd (if ok then 0 else statusWord 4)
  .next { s with dev := s.dev.instrAnd c 6 {} f (fun d => if ok then d.pendPair p false else d) }

/-- JOIN (R80): REFUSED on a pair that is not split. -/
def execJoin (c : Core) (gd : Reg) (s : State) : Out :=
  let p := pairOf c
  let ok := s.dev.isSplit c
  let f : Ctx → Ctx := fun x => x.w gd (if ok then 0 else statusWord 4)
  .next { s with dev := s.dev.instrAnd c 6 {} f (fun d => if ok then d.pendPair p true else d) }

/-- RESERVED_ENCODING (R53): executing a reserved encoding traps ILLEGAL. A word that is assigned spells another command
(`decodeTabbin`), so this one does not occur with it. -/
def execReservedEncoding (c : Core) (word : Word) (s : State) : Out :=
  .next (if (wordInfo word.toNat).isNone then { s with dev := s.dev.instr c 1 { ill := true } id } else s)

end Sys2Proof.Machine
end

