-- ==== Sys2Proof/Machine/Acq.lean ====
section
/-! DEFINITION. The device's own channels: current stream, coulomb counter, step detector, stretch, own values, insulation and
zero-current calibration (05 R165-R190, 01 R27). -/

namespace Sys2Proof.Machine
open Sys2Proof

/-- The limit of a coulomb counter in µC (15 R528). -/
def coulMax : Int := 2 ^ 63 - 1

/-- Add to a coulomb counter, saturating; the flag tells whether this addition reaches the limit (15 R528). -/
def coulAdd (lim x y : Int) : Int × Bool :=
  let z := clampI (-lim) lim (x + y)
  (z, decide (z.natAbs = lim.natAbs) && !(decide (x.natAbs = lim.natAbs)))

/-- Sum of four samples starting `i` samples back. -/
def sum4 (l : List Int) (i : Nat) : Int := ((l.drop i).take 4).foldl (· + ·) 0

/-- RUN period in ns (05 R168). -/
def Dev.runPeriod (d : Dev) : Nat := d.fld A.acqCtl 31 20 * 250000

/-- The underlying state is RUN. -/
def Dev.isRun (d : Dev) : Bool := d.pstate == 4 || (d.pstate == 5 && d.base == 4)

/-- A pin value of own channel `j` as a physical one (05 R171): by the topology's shunt resistance, Hall sensitivity or divider ratio, as
numerator and denominator; without one the value stands as it is. Rounding half to even is a DESIGN CHOICE (log entry 162). -/
def Dev.scaled (d : Dev) (j : Nat) (v : Int) : Int :=
  match d.topo.scale[j]? with
  | none => v
  | some (n, k) => if k = 0 then v else rndDiv (v * n) k

/-- The partner hears of a stretch that begins or ends (05 R166). -/
def Dev.tellStretch (d : Dev) : Dev :=
  if d.authority then d.moorSend (.stretch d.time.stretched d.time.nextN d.time.off) else d

/-- End a stretch at a detection (01 R27, 05 R170): event 130, the quiet timer restarts, and the next nominal instant is placed
again while its capture window has not opened. -/
def Dev.endStretch (d : Dev) : Dev :=
  let d := (d.setRbit A.acqStat 29 false).raise 130 0
  let t := d.time
  let move := decide (t.now < t.nextN - t.off) && t.placed.isNone
  let off := if move then d.fld A.acqCtl 15 0 * 10 else t.off
  let n := if move then max (t.inst + d.runPeriod) (t.now + off + 10000) else t.nextN
  Dev.tellStretch { d with time := { t with stretched := false, stretchReq := false, stretchEnd := false, off := off, nextN := n },
                           acq := { d.acq with quiet := 0 } }

/-- Sum of `n` samples starting `i` samples back. -/
def sumAt (l : List Int) (i n : Nat) : Int := ((l.drop i).take n).foldl (· + ·) 0

/-- Samples back to the step time ts (09 R320): the first sample that differs from the mean of the 20 before it by more than half
the step. -/
def stepBack (h : List Int) (diff : Int) : Nat :=
  ((List.range 4).filter (fun j => decide (diff.natAbs * 10 < (20 * h.getD j 0 - sumAt h (j + 1) 20).natAbs))).getLast?.getD 0

/-- Freeze every armed string when P is at most 10 ms (09 R320); otherwise event 207. A string's `frz` names the step; each module freezes
with its own frame. -/
def Dev.freezeArmed (diff : Int) (d : Dev) : Dev :=
  if 10000000 < d.time.per then d.raise 207 0
  else if !(List.range 48).any (fun n => (d.str n).armed && !(d.str n).frozen) then d
  else
    let h := d.acq.hist
    let j := stepBack h diff
    let pre := rndDiv (sumAt h (j + 2) 21) 21
    let st : StepSt := { t := d.acq.sampleT - 50000 * j, pre := pre, pend := decide (j < 2), wait := true,
                         di := if j < 2 then 0 else h.getD (j - 2) 0 - pre }
    let held := fun (k : Nat) => (List.range 48).any (fun n => (d.str n).frozen && (d.str n).frz == k)
    let keep := d.cnpy.steps.filter (fun p => held p.1)
    let d := { d with cnpy := { d.cnpy with steps := FMap.set (fun _ => {}) keep ((d.scan + 1) % 2 ^ 32) st } }
    foldOver (List.range 48) (fun n d =>
      if (d.str n).armed && !(d.str n).frozen then
        let frz := (d.scan + 1) % 2 ^ 32
        let d := { d with cnpy := { d.cnpy with frzHop := d.cnpy.frzHop.filter (fun p => !(p.1 / 64 == n)) } }
        ((d.setStr n (fun x => { x with frozen := true, frz := frz })).sendBurst n 1).raise 207 n
      else d) d

/-- The block current after a step (09 R322-R323): the value at ts + 100 µs, and the band it keeps for 50 ms. -/
def StepSt.sample (t : Nat) (i : Int) (x : StepSt) : StepSt :=
  let x := if x.pend && decide (x.t + 100000 ≤ t) then { x with di := i - x.pre, pend := false } else x
  if x.t = 0 ∨ t < x.t + 100000 ∨ x.t + 50000000 < t then x
  else if x.n = 0 then { x with sum := i, n := 1, lo := i, hi := i }
  else { x with sum := x.sum + i, n := x.n + 1, lo := min x.lo i, hi := max x.hi i }

/-- One run of the step detector (05 R169): whether a step runs and how long it has been quiet, and whether this sample reports one. -/
def stepRun (big on : Bool) (quiet : Nat) : Bool × Nat × Bool :=
  if big then (true, 0, !on) else (on && decide (quiet + 1 < 20), quiet + 1, false)

/-- The step detector at a sample (05 R169): the device after it, and the difference of a step that it reports: with ISTEP, and for the impedance
unit with its own threshold IMPSTEP (09 R320; DEDUCED, log entry 199). -/
def Dev.stepDetect (d : Dev) : Dev × Option Int × Option Int :=
  let h := d.acq.hist
  if h.length < 24 then (d, none, none) else
  let diff := sum4 h 0 - sum4 h 20
  let above := fun (a : Nat) => decide (4 * 65536 * (d.fld a 15 0 : Int) < diff.natAbs)
  let q := d.acq
  let x := stepRun (above A.acqStep) q.stepping q.stepQuiet
  let y := stepRun (above A.cnpyImpctl) q.impStep q.impQuiet
  let rep := fun (b : Bool) => if b then some (diff / 4) else none
  ({ d with acq := { q with stepping := x.1, stepQuiet := x.2.1, impStep := y.1, impQuiet := y.2.1 } }, rep x.2.2, rep y.2.2)

/-- The arcing charge of a contactor whose hold is off and whose feedback has not opened (10 R368), in q16 A·µs. -/
def Dev.arcStep (i : Int) (d : Dev) : Dev :=
  let f : Option Int → Option Int := fun a => a.map (fun y => y + 50 * (i.natAbs : Int))
  { d with ctl := { d.ctl with posArc := f d.ctl.posArc, negArc := f d.ctl.negArc } }

/-- Millivolts as q16 V. -/
def q16Of (mv : Int) : Int := rndDiv (mv * 65536) 1000

/-- The block current of a 50 µs sample in q16 A (05 R171, R173): the pin value scaled, less the offset in force. Without a scaling the
sample is in q16 A already. -/
def Dev.streamI (d : Dev) (i : Int) : Int :=
  let x := match d.topo.scale[d.topo.blkCur]? with
    | none => i
    | some (n, k) => if k = 0 then i else rndDiv (i * n * 65536) (k * 1000)
  x - q16Of (d.acq.offsets.getD d.topo.blkCur 0)

/-- CURRENT_SAMPLE (R173): `i` is the pin value of the block current channel. -/
def execCurrentSample (i : Int) (s : State) : Out :=
  let d := s.dev
  let i := d.streamI i
  let t := max (d.acq.sampleT + 50000) d.time.now
  let held := decide (0 < d.acq.hold)
  let x := if held then d.acq.lastI else i
  let c := coulAdd (coulMax * 65536) d.acq.coul (50 * x)
  let q := { d.acq with sampleT := t, coul := c.1, hist := (i :: d.acq.hist).take 32 }
  let q := { q with hold := d.acq.hold - 1, lastI := if held then d.acq.lastI else i }
  let d := ({ (d.at t) with acq := q }).arcStep x
  let d := (d.raiseIf c.2 366 0)
  let d := { d with cnpy := { d.cnpy with steps := d.cnpy.steps.map (fun (p : Nat × StepSt) => (p.1, p.2.sample t i)) } }
  let m := sum4 d.acq.hist 0
  let iq : Int := (d.fld A.acqStretch 15 0 : Nat)
  let quiet := decide ((m.natAbs : Int) < 4 * 65536 * iq)
  let d := { d with acq := { d.acq with quiet := if quiet then d.acq.quiet + 1 else 0 } }
  let r := d.stepDetect
  let d := r.1
  let d := if d.time.stretched && !d.follows && (r.2.1.isSome || decide (5 * 65536 * iq ≤ (m.natAbs : Int))) then d.endStretch else d
  let d := match r.2.2 with
    | none => d
    | some diff => if d.hasImp && d.rbit A.cnpyImpctl 31 then d.freezeArmed diff else d
  .next { s with dev := d }

/-- QUIET_TIMER_EXPIRY (R170): the stretch begins at the next nominal-instant computation. -/
def execQuietTimerExpiry (s : State) : Out :=
  let d := s.dev
  let ok := d.isRun && d.rbit A.acqStretch 31 && decide (d.runPeriod < 20000000) && !d.time.stretched && !d.follows
  .next { s with dev := if ok then { d with time := { d.time with stretchReq := true } } else d }

/-- Convert a ratiometric code by a profile (05 R176); none where the profile does not cover it. -/
def convTemp (e : List Int) (code : Nat) : Option Int :=
  if 0xFFFF ≤ code then none
  else
    let i := code / 2048
    match e[i]?, e[i + 1]? with
    | some a, some b => if a = -32768 ∨ b = -32768 then none else some (a + rnd ((b - a) * ((code % 2048 : Nat) : Int)) 11)
    | _, _ => none

/-- The plausibility of a shunt and its Hall partner (05 R174). -/
def Dev.plausStep (vals : List Int) (p : Nat × Nat) (d : Dev) : Dev :=
  let far := decide (d.topo.plausLim < ((vals.getD p.1 0 - vals.getD p.2 0).natAbs : Int))
  let q := d.acq
  let bad := if far then min (FMap.get (fun _ => 0) q.plausBad p.1 + 1) 3 else 0
  let good := if far then 0 else min (FMap.get (fun _ => 0) q.plausGood p.1 + 1) 3
  let sus := FMap.get (fun _ => false) q.suspect p.1
  let now := if sus then decide (good < 3) else decide (bad = 3)
  let q := { q with plausBad := FMap.set (fun _ => 0) q.plausBad p.1 bad, plausGood := FMap.set (fun _ => 0) q.plausGood p.1 good,
                    suspect := FMap.set (fun _ => false) (FMap.set (fun _ => false) q.suspect p.1 now) p.2 now }
  ({ d with acq := q }).raiseIf (now && !sus) 133 p.1

/-- Over-range of own value `j` (05 R174): event 132 on entering. -/
def Dev.overStep (x : OwnIn) (j : Nat) (d : Dev) : Dev :=
  let was := FMap.get (fun _ => false) d.acq.isOver j
  let is := x.overRange.contains j
  ({ d with acq := { d.acq with isOver := FMap.set (fun _ => false) d.acq.isOver j is } }).raiseIf (is && !was) 132 j

/-- Full scale of own value `j` (05 R171): the topology gives it for range 0; range 1 of a shunt channel is a quarter of it. -/
def Dev.fullOf (d : Dev) (j : Nat) : Int :=
  let f := d.topo.fullScale.getD j 0
  if j < 2 ∧ d.rbit A.acqFilt (4 * j + 3) = true then rndDiv f 4 else f

/-- The number of own value `j` (05 R171-R176, R183): offsets applied to currents, clamped at full scale when over-range (a high
voltage input starts at 0), insulation from the last bridge cycle, NTC codes converted. -/
def Dev.ownNum (d : Dev) (x : OwnIn) (j : Nat) : Int :=
  let v := d.scaled j (x.vals.getD j 0)
  let f := d.fullOf j
  let v := if j < 4 then v - d.acq.offsets.getD j 0 else v
  let v := if decide (j < 8) && x.overRange.contains j then (if v < 0 then (if j < 4 then -f else 0) else f) else v
  if j = 8 then (match d.acq.isoRes with | some r => ((min r.1 50000 : Nat) : Int) | none => 0)
  else if j = 9 then (match d.acq.isoRes with | some r => ((min r.2 50000 : Nat) : Int) | none => 0)
  else if 10 ≤ j ∧ j < 26 then
    (convTemp (d.topo.profiles.getD (d.topo.ntcProfile.getD (j - 10) 0) []) (x.vals.getD j 0).toNat).getD 0
  else v

/-- Whether the topology uses own value `j` (05 R184). -/
def Dev.ownUsed (d : Dev) (j : Nat) : Bool :=
  if j < 4 then true
  else if j < 8 then d.topo.hvUse.getD (j - 4) false
  else if j < 10 then true
  else if j < 26 then d.topo.ntcUse.getD (j - 10) false
  else d.topo.diodeUse.getD (j - 26) false

/-- The validity code of own value `j` (05 R184). -/
def Dev.ownCode (d : Dev) (x : OwnIn) (j : Nat) : Nat :=
  let badTemp := decide (10 ≤ j) && decide (j < 26) &&
    (convTemp (d.topo.profiles.getD (d.topo.ntcProfile.getD (j - 10) 0) []) (x.vals.getD j 0).toNat).isNone
  let iso := j == 8 || j == 9
  if !d.ownUsed j then 6
  else if x.faults.contains j || badTemp || (iso && d.acq.isoBad) then 5
  else if FMap.get (fun _ => false) d.acq.suspect j || x.overRange.contains j then 4
  else if decide (0 < FMap.get (fun _ => 0) d.acq.settle j) || (iso && decide (0 < d.acq.isoSkip)) then 1
  else 0

/-- The number that own value `j` carries: an INVALID or ABSENT one keeps the last number stored for it (05 R184). -/
def Dev.ownVal (d : Dev) (x : OwnIn) (j : Nat) : Int := if 5 ≤ d.ownCode x j then d.acq.next.hdr.own.getD j 0 else d.ownNum x j

/-- The results of the own channels enter the scan header (05 R172-R184). -/
def Dev.ownResults (x : OwnIn) (d : Dev) : Dev :=
  let vals := (List.range 30).map (d.ownVal x)
  let d := foldOver (List.range 10) (fun j d => d.overStep x j) d
  let d := foldOver d.topo.partners (fun p d => d.plausStep vals p) d
  let codes := (List.range 30).map (d.ownCode x)
  let st := d.acq.settle.filterMap (fun p => if p.2 ≤ 1 then none else some (p.1, p.2 - 1))
  let h := d.acq.next.hdr
  { d with acq := { d.acq with settle := st, ownHv1 := some (d.ownNum x 5), next := { d.acq.next with hdr := { h with own := vals, val := codes } } } }

/-- The mirror keeps its own results for the comparison with the primary's (12 R416); the scan header takes the primary's (05 R183). -/
def Dev.keepOwn (x : OwnIn) (d : Dev) : Dev :=
  let h := d.acq.next.hdr
  let e := d.ownResults x
  { e with acq := { e.acq with next := { e.acq.next with hdr := { e.acq.next.hdr with own := h.own, val := h.val } },
                               mine := (List.range 30).map (d.ownNum x) } }

/-- The own channels of the mirror that differ from the primary's beyond their limits: event 298 at the third scan in a row (12 R416). -/
def Dev.ownDiffer (d : Dev) : Dev :=
  if d.acq.mine = [] ∨ d.acq.theirs = [] then d
  else foldOver (List.range 30) (fun j d =>
    let bad := decide (d.topo.twinLims.getD j 0 < ((d.acq.theirs.getD j 0 - d.acq.mine.getD j 0).natAbs : Int))
    let n := if bad then min (FMap.get (fun _ => 0) d.acq.diffRun j + 1) 4 else 0
    ({ d with acq := { d.acq with diffRun := FMap.set (fun _ => 0) d.acq.diffRun j n } }).raiseIf (n == 3) 298 j) d

/-- The primary sends its values and its coulomb count (05 R183, 12 R416). -/
def Dev.tellOwn (d : Dev) : Dev :=
  let h := d.acq.next.hdr
  d.moorSend (.ownSamples h.own h.val h.qcnt)

/-- OWN_RESULTS_READY (R172). In a twin pair the scan header takes the primary's values (R183). -/
def execOwnResultsReady (own : OwnIn) (s : State) : Out :=
  .next { s with dev := if s.dev.mirrors then (s.dev.keepOwn own).ownDiffer else (s.dev.ownResults own).tellOwn }

/-- Leave WATCH for STANDBY (16 R550); every own value settles for two scan values (05 R177). -/
def Dev.wake (d : Dev) : Dev :=
  if d.pstate = 2 then (if d.agreed then d.settleState 3 else foldOver (List.range 30) (fun j d => d.settleOwn j 2) (d.settleState 3)) else d

/-- A stamped change of state at its boundary (16 R548); a device that leaves WATCH settles its own values (05 R177). -/
def Dev.applyState (d : Dev) : Dev :=
  match d.pwr.stDue with
  | none => d
  | some x =>
    if !d.dueNow x.1 then d else
    let e := ({ d with pwr := { d.pwr with stDue := none } }).settleNow x.2
    if d.pstate = 2 && !(e.pstate == 2) then foldOver (List.range 30) (fun j d => d.settleOwn j 2) e else e

/-- ISO_CYCLE_END (R175): both resistances in kΩ, or no result. An INVALID result wakes the device from WATCH (16 R550). -/
def execIsoCycleEnd (res : Option (Nat × Nat)) (s : State) : Out :=
  let q := s.dev.acq
  match res with
  | some r => .next { s with dev := { s.dev with acq := { q with isoRes := some r, isoBad := false, isoSkip := q.isoSkip - 1 } } }
  | none =>
    .next { s with dev := (({ s.dev with acq := { q with isoBad := true, isoSkip := q.isoSkip - 1 } }).raise 136 0).wake }

/-- A frame from one end or the other reaches hop 1, the string head (04 R140). -/
def Dev.headReached (d : Dev) (n : Nat) : Bool := decide (0 < d.fld (A.ringStat n) 27 21) || decide (d.ringL n ≤ d.fld (A.ringStat n) 20 14)

/-- Every main contactor and every reached string contact reads open (05 R187). -/
def Dev.allOpen (d : Dev) : Bool :=
  d.mainsOpen && (List.range 48).all (fun n => let h := (d.port n).head
    !d.portEn n || !d.headReached n || (!h.conP && !h.conN && !h.conPre))

/-- The preconditions of a calibration (05 R187): `quiet` has a bit for each channel whose 4-sample means stayed below 0.1 % of full
scale for 1 s, `hv` tells that HV0 and HV1 varied by less than 1.0 V. -/
def Dev.calOk (d : Dev) (mask quiet : Nat) (hv : Bool) : Bool := d.allOpen && hv && (mask &&& quiet == mask)

/-- A run ends (05 R189): state, event 131, CAL record. -/
def Dev.calEnd (st mask : Nat) (d : Dev) : Dev :=
  let d := (d.setFld A.acqCalstat 2 0 st).raiseNoLog 131
  ({ d with acq := { d.acq with cal := none } }).logRec 4 131 [st, mask, 0, 0, 0, 0, 0, 0] []

/-- Start a run for the channels of `mask` (05 R187-R188): its preconditions decide. -/
def Dev.calStart (mask quiet : Nat) (hv : Bool) (d0 : Dev) : Dev :=
  let d := { d0 with acq := { d0.acq with calReq := none } }
  if d.acq.cal.isSome then d
  else if d.calOk mask quiet hv then
    ({ d with acq := { d.acq with cal := some { mask := mask, samples := [], ready := false } } }).setFld A.acqCalstat 2 0 1
  else d.calEnd 3 mask

/-- CAL_START (R187): the run that a write of ACQ.CALCTL.START or an FSP CAL at its boundary asked for, or the write itself, with what the
device measured. An FSP CAL names its channels in [3:0] and waits for its stamped boundary (R188, 14 R491). -/
def execCalStart (src : ReqSrc) (mask : Nat) (quiet : Nat) (hvSteady : Bool) (s : State) : Out :=
  match src with
  | .task => .next { s with dev := s.dev.calStart (s.dev.acq.calReq.getD (s.dev.fld A.acqCalctl 7 4)) quiet hvSteady }
  | .fsp q => .next (s.fsp q 22 1 (decide (16 ≤ mask)) false (stampOp q (.cal mask)))

/-- CAL_SAMPLE (R188): one sample a channel; a failed precondition ends the run. -/
def execCalSample (vals : List Int) (quiet : Nat) (hvSteady : Bool) (s : State) : Out :=
  match s.dev.acq.cal with
  | none => .next s
  | some r =>
    let r' := { r with samples := r.samples ++ [(List.range 4).map (fun j => s.dev.scaled j (vals.getD j 0))], ready := decide (64 ≤ r.samples.length + 1) }
    if r.ready then .next s
    else if s.dev.calOk r.mask quiet hvSteady then .next { s with dev := { s.dev with acq := { s.dev.acq with cal := some r' } } }
    else .next { s with dev := s.dev.calEnd 4 r.mask }

/-- The samples of channel `j`. -/
def CalRun.chan (r : CalRun) (j : Nat) : List Int := r.samples.map (fun l => l.getD j 0)

/-- Variance of 64 samples times 64², exactly. -/
def var64 (l : List Int) : Int :=
  let s := l.foldl (· + ·) 0
  64 * l.foldl (fun a x => a + x * x) 0 - s * s

/-- CAL_COMPUTE (R189): judge means and variances; the new offsets wait for the next instant. -/
def execCalCompute (s : State) : Out :=
  match s.dev.acq.cal with
  | none => .next s
  | some r =>
    let d := s.dev
    let bad := (bitsOf 4 r.mask).any (fun j =>
      let l := r.chan j
      decide (d.topo.calVar * 4096 < var64 l) || decide (64 * d.fullOf j < 1000 * ((l.foldl (· + ·) 0).natAbs : Int)))
    if bad then .next { s with dev := d.calEnd 4 r.mask }
    else
      let offs := (List.range 4).map (fun j =>
        if r.mask.testBit j then rndDiv ((r.chan j).foldl (· + ·) 0) 64 else d.acq.offsets.getD j 0)
      .next { s with dev := { d with acq := { d.acq with newOffsets := some offs, cal := some { r with ready := true } } } }

end Sys2Proof.Machine
end

