-- ==== Sys2Proof/Machine/ExpTab.lean ====
section
/-! DEFINITION. Canopy's ROM table E (08 R271): E[k] = min(2^31 - 1, round_half_even(2^31 e^(-k/64))), k = 0 … 512. -/

namespace Sys2Proof.Machine

/-- E[0] to E[63] (08 R271). -/
def expRom0 : List Int :=
  [2147483647, 2114190000, 2081412522, 2049143212, 2017374191, 1986097703, 1955306112, 1924991901, 1895147668, 1865766126,
   1836840104, 1808362538, 1780326475, 1752725071, 1725551588, 1698799390, 1672461947, 1646532828, 1621005702, 1595874338,
   1571132600, 1546774447, 1522793931, 1499185200, 1475942488, 1453060120, 1430532511, 1408354160, 1386519653, 1365023658,
   1343860928, 1323026295, 1302514674, 1282321055, 1262440510, 1242868184, 1223599299, 1204629150, 1185953106, 1167566608,
   1149465165, 1131644360, 1114099840, 1096827323, 1079822591, 1063081494, 1046599943, 1030373915, 1014399448, 998672642,
   983189658, 967946715, 952940092, 938166125, 923621208, 909301788, 895204371, 881325513, 867661828, 854209978,
   840966680, 827928700, 815092855, 802456012]

/-- E[64] to E[127] (08 R271). -/
def expRom1 : List Int :=
  [790015084, 777767036, 765708875, 753837660, 742150490, 730644513, 719316920, 708164945, 697185865, 686377000,
   675735711, 665259400, 654945509, 644791520, 634794954, 624953370, 615264366, 605725576, 596334672, 587089360,
   577987383, 569026519, 560204581, 551519414, 542968898, 534550945, 526263501, 518104541, 510072075, 502164141,
   494378807, 486714174, 479168370, 471739553, 464425909, 457225653, 450137026, 443158299, 436287766, 429523751,
   422864603, 416308695, 409854427, 403500223, 397244531, 391085826, 385022602, 379053380, 373176702, 367391134,
   361695262, 356087697, 350567069, 345132030, 339781254, 334513434, 329327284, 324221537, 319194948, 314246289,
   309374352, 304577947, 299855904, 295207069]

/-- E[128] to E[191] (08 R271). -/
def expRom2 : List Int :=
  [290630308, 286124502, 281688553, 277321377, 273021908, 268789095, 264621907, 260519324, 256480346, 252503987,
   248589276, 244735256, 240940988, 237205544, 233528013, 229907497, 226343111, 222833987, 219379266, 215978106,
   212629675, 209333158, 206087748, 202892654, 199747095, 196650303, 193601523, 190600009, 187645030, 184735863,
   181871799, 179052138, 176276192, 173543283, 170852744, 168203918, 165596158, 163028827, 160501300, 158012958,
   155563194, 153151410, 150777017, 148439436, 146138096, 143872435, 141641900, 139445946, 137284037, 135155645,
   133060251, 130997343, 128966417, 126966978, 124998538, 123060615, 121152737, 119274438, 117425259, 115604749,
   113812464, 112047965, 110310822, 108600612]

/-- E[192] to E[255] (08 R271). -/
def expRom3 : List Int :=
  [106916915, 105259322, 103627428, 102020833, 100439147, 98881982, 97348959, 95839703, 94353846, 92891026,
   91450884, 90033069, 88637236, 87263043, 85910155, 84578241, 83266977, 81976042, 80705122, 79453905,
   78222086, 77009365, 75815446, 74640036, 73482850, 72343604, 71222020, 70117825, 69030749, 67960526,
   66906896, 65869601, 64848387, 63843006, 62853212, 61878763, 60919422, 59974954, 59045128, 58129719,
   57228501, 56341255, 55467765, 54607817, 53761201, 52927711, 52107143, 51299297, 50503975, 49720983,
   48950131, 48191229, 47444094, 46708541, 45984392, 45271470, 44569601, 43878614, 43198339, 42528611,
   41869266, 41220143, 40581084, 39951932]

/-- E[256] to E[319] (08 R271). -/
def expRom4 : List Int :=
  [39332535, 38722741, 38122400, 37531367, 36949497, 36376648, 35812681, 35257457, 34710840, 34172699,
   33642900, 33121315, 32607817, 32102279, 31604580, 31114596, 30632209, 30157301, 29689755, 29229458,
   28776297, 28330162, 27890944, 27458535, 27032830, 26613724, 26201117, 25794906, 25394993, 25001280,
   24613671, 24232072, 23856388, 23486529, 23122405, 22763925, 22411003, 22063553, 21721489, 21384728,
   21053189, 20726789, 20405450, 20089093, 19777641, 19471017, 19169147, 18871957, 18579374, 18291327,
   18007747, 17728562, 17453707, 17183112, 16916713, 16654443, 16396240, 16142040, 15891781, 15645401,
   15402842, 15164043, 14928946, 14697495]

/-- E[320] to E[383] (08 R271). -/
def expRom5 : List Int :=
  [14469631, 14245300, 14024447, 13807018, 13592960, 13382221, 13174749, 12970493, 12769405, 12571433,
   12376531, 12184651, 11995745, 11809769, 11626675, 11446420, 11268960, 11094251, 10922251, 10752917,
   10586208, 10422084, 10260505, 10101430, 9944822, 9790642, 9638852, 9489416, 9342296, 9197457,
   9054864, 8914481, 8776275, 8640211, 8506257, 8374380, 8244547, 8116727, 7990889, 7867002,
   7745035, 7624960, 7506746, 7390364, 7275787, 7162987, 7051935, 6942605, 6834970, 6729003,
   6624680, 6521974, 6420860, 6321314, 6223311, 6126827, 6031840, 5938325, 5846259, 5755622,
   5666389, 5578540, 5492052, 5406906]

/-- E[384] to E[447] (08 R271). -/
def expRom6 : List Int :=
  [5323080, 5240553, 5159306, 5079318, 5000571, 4923044, 4846719, 4771578, 4697601, 4624772,
   4553071, 4482483, 4412988, 4344571, 4277215, 4210903, 4145619, 4081347, 4018071, 3955777,
   3894448, 3834071, 3774629, 3716109, 3658496, 3601776, 3545936, 3490961, 3436839, 3383555,
   3331098, 3279454, 3228611, 3178556, 3129277, 3080762, 3032999, 2985977, 2939684, 2894108,
   2849239, 2805066, 2761577, 2718763, 2676613, 2635116, 2594262, 2554042, 2514445, 2475462,
   2437084, 2399300, 2362102, 2325481, 2289428, 2253934, 2218990, 2184588, 2150719, 2117375,
   2084548, 2052230, 2020413, 1989090]

/-- E[448] to E[511] (08 R271). -/
def expRom7 : List Int :=
  [1958252, 1927892, 1898003, 1868577, 1839607, 1811087, 1783008, 1755365, 1728151, 1701358,
   1674981, 1649013, 1623448, 1598278, 1573499, 1549105, 1525088, 1501444, 1478166, 1455249,
   1432687, 1410476, 1388608, 1367080, 1345885, 1325019, 1304477, 1284253, 1264342, 1244740,
   1225443, 1206444, 1187740, 1169325, 1151197, 1133349, 1115778, 1098480, 1081449, 1064683,
   1048177, 1031926, 1015928, 1000177, 984671, 969405, 954376, 939579, 925013, 910672,
   896553, 882653, 868969, 855497, 842234, 829176, 816321, 803665, 791205, 778939,
   766862, 754973, 743268, 731745]

/-- E[512] to E[512] (08 R271). -/
def expRom8 : List Int :=
  [720401]

/-- The table by its index (08 R271). -/
def expRom (k : Nat) : Int :=
  if k < 64 then expRom0.getD (k - 0) 0
  else if k < 128 then expRom1.getD (k - 64) 0
  else if k < 192 then expRom2.getD (k - 128) 0
  else if k < 256 then expRom3.getD (k - 192) 0
  else if k < 320 then expRom4.getD (k - 256) 0
  else if k < 384 then expRom5.getD (k - 320) 0
  else if k < 448 then expRom6.getD (k - 384) 0
  else if k < 512 then expRom7.getD (k - 448) 0
  else expRom8.getD (k - 512) 0

/-- expn(x) for x in UQ4.28, in q31 (08 R271). -/
def expn (x : Nat) : Int :=
  let k := x / 2 ^ 22
  if 512 ≤ k then 0 else expRom k + rnd ((expRom (k + 1) - expRom k) * ((x % 2 ^ 22 * 256 : Nat) : Int)) 30

end Sys2Proof.Machine
end

