-- ==== Sys2Proof/Machine/RingLink.lean ====
section
/-! DEFINITION. The ring ports: launches, ring states, discovery, transactions and retries (04 R117-R148, 02 R73-R75). -/

namespace Sys2Proof.Machine
open Sys2Proof

/-- The twin with authority tells its partner a ring's state and reached counts, from which both launch in BROKEN (04 R140). -/
def Dev.tellRing (n : Nat) (d : Dev) : Dev :=
  if d.authority then
    d.moorSend (.ringState n (d.ringState n) (d.fld (A.ringStat n) 27 21) (d.fld (A.ringStat n) 20 14))
  else d

/-- Enter a ring state. An ISOLATED ring's string counts for no grant until RUN (07 R257). Leaving RUN and BROKEN stops bleeding and disarms the string (06 R203, 09 R317); a change of state wakes the
device from WATCH (16 R550). -/
def Dev.setRing (n st : Nat) (d : Dev) : Dev :=
  let old := d.ringState n
  let d := d.setFld (A.ringStat n) 31 28 st
  let d := d.setPort n (fun p => { p with isolated := (p.isolated || st == 4) && !(st == 2) })
  let d := if old = st then d else (d.tellRing n).wake
  if (old = 2 ∨ old = 3) ∧ st ≠ 2 ∧ st ≠ 3 then (d.bleedStop n).disarm n else d

/-- Event 32 + 2n of ring n (04 R148). -/
def Dev.ringEvent (n : Nat) (b : Bool) (d : Dev) : Dev := d.raiseIf b (32 + 2 * n) n

/-- Mark hops `a..b` as being discovered. -/
def Port.markDisc (a b : Nat) (p : Port) : Port :=
  { p with discHop := foldOver (span a (b + 1 - a)) (fun h m => FMap.set (fun _ => false) m h true) p.discHop }

/-- Discovery of hops `a..b` begins with ENUM (04 R145 step 2); a twin with authority has its partner repeat the steps from the
other end (step 3). -/
def Dev.discover (n a b : Nat) (d : Dev) : Dev :=
  let d := (d.setPort n (fun p => { p.markDisc a b with farRanged := false })).queueDev n 0x01 1 64 [] 20
  if d.authority && d.rbit (A.ringCfg n) 30 then d.moorSend (.discover n a b) else d

/-- Discovery of the whole ring (04 R145): state DISCOVER. -/
def Dev.discoverRing (n : Nat) (d : Dev) : Dev := (d.setRing n 1).discover n 1 (d.ringL n)

/-- A hop is being discovered. -/
def Dev.discovering (d : Dev) (n h : Nat) : Bool := FMap.get (fun _ => false) (d.port n).discHop h

/-- Discovery with no hop left is complete (04 R145 step 8, R148): the event, and a ring in DISCOVER enters RUN. -/
def Dev.discEnd (n : Nat) (d : Dev) : Dev :=
  if (d.port n).discHop = [] then (if d.ringState n = 1 then d.setRing n 2 else d).ringEvent n true else d

/-- The discovery of a hop has ended. -/
def Dev.discDone (n h : Nat) (d : Dev) : Dev :=
  (d.setPort n (fun p => { p with discHop := FMap.set (fun _ => false) p.discHop h false })).discEnd n

/-- The state that the reached counts give (04 R140). A twin that launches the whole ring from end B reaches its L modules from there
(04 R143; DEDUCED, log entry 177). -/
def Dev.judge (d : Dev) (n ra rb : Nat) : Nat :=
  if (if d.atEndB && !(d.ringState n == 3) then rb else ra) = d.ringL n then 2 else if d.rbit (A.ringCfg n) 30 ∧ ra + rb = d.ringL n then 3 else 4

/-- A ring becomes ISOLATED (07 R257): event 171, the string's open command, and with ISOTRIP its zones. -/
def Dev.isolate (n : Nat) (d : Dev) : Dev :=
  let d := d.raise 171 n
  let d := (d.endStr n 18).sendOpen n 0x09
  if d.rbit A.protBlkz 24 then d.requestZones (d.strz n) 4 0 else d

/-- A scan frame that turns before the far end shows where modules lost lock (04 R137): the last one reached from end A is in TA, the next
one in TB, and likewise from end B. -/
def Dev.markTurns (n ra rb : Nat) (d : Dev) : Dev :=
  let l := d.ringL n
  let auto : Bool → Module → Module := fun ta m => if m.turn = 0 ∧ m.selfTurn = false then (if ta then { m with autoTa := true } else { m with autoTb := true }) else m
  let at_ : Nat → Bool → Dev → Dev := fun h ta d => if 1 ≤ h ∧ h ≤ l then d.setPort n (Port.setMod h (auto ta)) else d
  let d := if ra < l then ((at_ ra true d) |> at_ (ra + 1) false) else d
  if d.rbit (A.ringCfg n) 30 ∧ 0 < rb ∧ rb < l then (at_ (l - rb) true d) |> at_ (l + 1 - rb) false else d

/-- A frame from one end or the other reaches hop `h` (04 R140). -/
def Dev.reaches (d : Dev) (n h : Nat) : Bool :=
  decide (h ≤ d.fld (A.ringStat n) 27 21) || decide (d.ringL n < h + d.fld (A.ringStat n) 20 14)

/-- The reached modules in automatic turnaround that have not reported LINKBACK (04 R144); one that ends its turnaround by itself needs
none (R137). -/
def Dev.linkWanted (d : Dev) (n : Nat) : Bool :=
  (span 1 (d.ringL n)).any (fun h =>
    let m := (d.port n).mod h
    (m.autoTa || m.autoTb) && !m.selfTurn && !m.status.getLsbD 54 && d.reaches n h)

/-- The port judges a returned scan frame (04 R140, R144-R145, R148): a ring comes back to RUN only when its turned modules have
reported LINKBACK, and a returned HOP that changed starts the discovery of the hops concerned. -/
def Dev.scanReturn (n ra rb : Nat) (d : Dev) : Dev :=
  let d := d.setPort n (fun p => { p with scanOut := false, scanBack := true })
  let st := d.ringState n
  if d.launches n = false ∨ st < 2 ∨ 4 < st then d else
  let oldA := d.fld (A.ringStat n) 27 21
  let oldB := d.fld (A.ringStat n) 20 14
  let new := if d.judge n ra rb = 2 ∧ ¬(st = 2) ∧ d.linkWanted n then st else d.judge n ra rb
  let d := (d.setFld (A.ringStat n) 27 21 ra).setFld (A.ringStat n) 20 14 rb
  let moved := !(ra == oldA && rb == oldB)
  let d := ((d.setPort n (fun p => { p with lostRun := 0 })).setRing n new).ringEvent n (moved || !(new == st))
  let d := if moved && new == st then d.tellRing n else d
  let d := if moved && !(new == 2) then d.markTurns n ra rb else d
  let l := d.ringL n
  let d := if oldA = ra then d else d.discover n (min oldA ra + 1) (min (max oldA ra) l)
  let far := span (l + 1 - min (max oldB rb) l) (min (max oldB rb) l - min (min oldB rb) l)
  let d := if oldB = rb ∨ d.rbit (A.ringCfg n) 30 = false ∨ far.all (d.discovering n) then d else d.discover n (far.headD 1) (far.getLastD 1)
  if new = 4 ∧ st ≠ 4 then d.isolate n else d

/-- SCAN_FRAME_RETURN (R140). -/
def execScanFrameReturn (port : Nat) (reachA : Nat) (reachB : Nat) (s : State) : Out :=
  present (decide (port < s.dev.rings)) { s with dev := s.dev.scanReturn port reachA reachB }

/-- The instant that the launches precede: placed, or the nominal one. -/
def TimeSt.next (t : TimeSt) : Nat := t.placed.getD t.nextN


/-- What the head's coils do by themselves up to `now` (10 R358-R359): the pre-charge coil falls 5 s after it was energised, the negative
coil 20 ms after an OPEN (nominal times, log entry 179). -/
def Head.drop (now : Nat) (h : Head) : Head :=
  let g := if h.coilPre && decide (h.preT + 5000000000 ≤ now) then { h with coilPre := false } else h
  match g.negOff with
  | none => g
  | some t => if t ≤ now then { g with coilN := false, negOff := none } else g

/-- The head's timer has reached KATO while a coil is on (04 R150): all coils fall and KAEXP is set. -/
def Head.expire (now : Nat) (h0 : Head) : Head :=
  let h := h0.drop now
  if (h.coilP || h.coilN || h.coilPre) && decide (h.kaT + 1000000 * h.kato ≤ now) then
    { h with coilP := false, coilN := false, coilPre := false, negOff := none, kaexp := true, kaWait := true }
  else h

/-- A keep-alive frame reaches the head with a correct HCRC: its timer restarts at 0 (04 R150). -/
def Head.keepAlive (now : Nat) (h : Head) : Head :=
  let g := h.expire now
  { g with karem := g.kato, kaT := now, kaSeen := some now }

/-- Status bits of a module with the BAL bits of its timers (04 R128, 06 R204). -/
def Module.withBal (m : Module) : Module :=
  let bal := maskOf ((List.range 16).filter (fun c => decide (0 < m.timers.getD c 0)))
  { m with status := (m.status &&& 0xFFFFFFFF0000FFFF#64) ||| BitVec.ofNat 64 (bal * 65536) }

/-- A balance-switch test that has ended stores its results (06 R208-R209). -/
def Module.endTest (now : Nat) (m : Module) : Module :=
  match m.test with
  | none => m
  | some x => if (match x.start with | none => false | some t => decide (t + 100000 * x.dwell ≤ now)) then { m with test := none, btest := x.res } else m

/-- How long of the time from `timersT` to `now` a started test has paused the timers (06 R209). -/
def Module.heldBy (now : Nat) (m : Module) : Nat :=
  match m.test with
  | none => 0
  | some x => match x.start with
    | none => 0
    | some t => min now (t + 100000 * x.dwell) - max m.timersT t

/-- How far the bleed timers have run since `timersT` (06 R204): not while OTEMP or a test pauses them (R209, R212). -/
def Module.ran (now : Nat) (m : Module) : Nat := if m.status.getLsbD 50 then 0 else now - m.timersT - m.heldBy now

/-- Every timer stops (06 R206). -/
def Module.stopTimers (m : Module) : Module := ({ m with timers := [] }).withBal

/-- What time does in a module up to `now`: timers count down and BAL bits fall (06 R204), a test ends (R209), and without a SCAN or KEEP
frame for LOSSTO the timers stop and LOSSSTOP is set (R206). -/
def Module.pass (now : Nat) (m0 : Module) : Module :=
  let k := m0.ran now
  let run := m0.timers.any (fun t => decide (0 < t))
  let m := { (if run then ({ m0 with timers := m0.timers.map (· - k) }).withBal else m0) with timersT := now }
  let m := m.endTest now
  let lost := match m.lossT with | none => false | some t => decide (t + 1000000 * m.lossto ≤ now)
  if !lost then m
  else if m.status.getLsbD 49 then (if run then m.stopTimers else m)
  else
    let z := { m with nLoss := min (m.nLoss + 1) 0xFFFFFFFF }.stopTimers
    { z with status := z.status ||| 0x0002000000000000#64 }

/-- A burst sample of the reference cell is hidden (09 R318): a bleed switch of the cell or of a neighbour is closed, or a balance-switch test
runs. -/
def Module.hidden (now c : Nat) (m : Module) : Bool :=
  (List.range 16).any (fun k => decide (c ≤ k + 1) && decide (k ≤ c + 1) && m.status.getLsbD (16 + k))
    || (match m.test with
        | none => false
        | some x => match x.start with | none => false | some t => decide (t ≤ now))

/-- A recording module notes when its samples become hidden and when they show again, newest first. -/
def Module.note (now : Nat) (m : Module) : Module :=
  match m.burst with
  | none => m
  | some c =>
    let b := m.hidden now c.1
    if b = (m.hides.head?.map (·.2)).getD false then m else { m with hides := (now, b) :: m.hides }

/-- A module's own time goes on to `now`, with what it records. -/
def Module.settle (now : Nat) (m : Module) : Module := (m.pass now).note now

/-- A SCAN or KEEP frame with a correct HCRC reaches the module (06 R206). -/
def Module.hear (now : Nat) (m : Module) : Module := { m with lossT := some now }

/-- H or S reaches a module while its test runs: the test aborts and every selected cell reads 0x7FFF (06 R209). -/
def Module.hitTest (now : Nat) (m0 : Module) : Module :=
  let m := m0.settle now
  match m.test with
  | none => m
  | some x =>
    if (match x.start with | none => false | some t => decide (t ≤ now)) then
      { m with test := none, btest := (List.range 16).map (fun c => if x.mask.testBit c then 32767 else -32768) }
    else m

/-- A sample starts the tests that waited for it, 100 µs later (06 R209). -/
def Module.sampleTest (inst : Nat) (m : Module) : Module :=
  match m.test with
  | some x => if x.start.isNone then { m with test := some { x with start := some (inst + 100000) } } else m
  | none => m

/-- Change every module that runs a balance-switch test. -/
def Dev.mapTests (f : Module → Module) (d : Dev) : Dev :=
  foldOver (List.range d.rings) (fun n d =>
    foldOver (((d.port n).mods.filter (fun x => x.2.test.isSome)).map (·.1)) (fun h d =>
      if ((d.port n).mod h).test.isSome then d.setPort n (Port.setMod h f) else d) d) d

/-- The device launches code groups at this instant: it holds authority, or launches its own half of a BROKEN ring (01 R33, 04 R140,
05 R166). A mirror that grafts launches nothing until the Graft is complete (12 R427). -/
def Dev.launchesGroups (d : Dev) : Bool := (d.authority && !(d.twinState == 6)) || (List.range d.rings).any (fun n => d.launches n)

/-- H or S leaves this device, or passes it from its partner (01 R33): tests that run in the modules abort (06 R209). -/
def Dev.groupPasses (d : Dev) : Dev :=
  if d.launchesGroups || (d.follows && d.rbit A.twinStat 22) then d.mapTests (Module.hitTest d.time.now) else d

/-- QUIET_LAUNCH (R120): H leaves every port 52 µs before the instant, or before N while the instant is not known. -/
def execQuietLaunch (s : State) : Out :=
  let d := s.dev.at (s.dev.time.next - 52000)
  .next { s with dev := (if d.launchesGroups then { d with time := { d.time with quietDone := true } } else d).groupPasses }

/-- SYNC_LAUNCH (R120): S leaves every fitted port 32 µs before the instant. A twin that launches nothing leaves the ring to its
partner (01 R33). -/
def execSyncLaunch (s : State) : Out :=
  let d := s.dev.at (s.dev.time.next - 32000)
  .next { s with dev := (if d.launchesGroups then { d with time := { d.time with syncDone := true } } else d).groupPasses }

/-- A header arrives at the listed hops with a wrong HCRC (04 R123, R136): each counts it and does not act on the frame. -/
def Port.hdrErrors (l : List Nat) (p : Port) : Port :=
  foldOver l (fun h p => p.setMod h (fun m => { m with errHdr := min (m.errHdr + 1) 0xFFFF })) p

/-- A scan or KEEP frame from one end passes the modules at `hops`, those of `bad` with a wrong HCRC (04 R123, R150, 06 R206): the others
restart their loss timers, and the head at hop 1 its keep-alive. -/
def Port.heard (now : Nat) (hops bad : List Nat) (p : Port) : Port :=
  let q := p.hdrErrors bad
  let good := fun (h : Nat) => hops.contains h && !bad.contains h
  let q := foldOver ((q.mods.map (·.1)).filter good) (Port.setMod · (fun m => (m.settle now).hear now)) q
  if good 1 then { q with head := q.head.keepAlive now } else q

/-- The slots of a scan frame launched at an end (04 R140): that end's half of a BROKEN ring, else the whole ring. -/
def Dev.slotCount (d : Dev) (dirB : Bool) (n : Nat) : Nat :=
  let ra := d.fld (A.ringStat n) 27 21
  if d.ringState n = 3 then (if dirB then d.ringL n - ra else ra) else d.ringL n

/-- The modules that a frame launched at an end passes as far as the ring's state tells (04 R137, R140). -/
def Dev.passes (d : Dev) (dirB : Bool) (n : Nat) : Nat :=
  if d.ringState n = 4 then (if dirB then d.fld (A.ringStat n) 20 14 else d.fld (A.ringStat n) 27 21) else d.slotCount dirB n

/-- A ring in a state that carries scan frames (04 R140). -/
def Dev.carries (d : Dev) (n : Nat) : Bool := d.portEn n && decide (2 ≤ d.ringState n) && decide (d.ringState n ≤ 4)

/-- A ring on which this device launches scan frames; a mirror that grafts does not yet (12 R427). -/
def Dev.scans (d : Dev) (n : Nat) : Bool := d.launches n && d.carries n && !(d.twinState == 6)

/-- A ring whose scan frames the partner launches: the whole ring of a twin without authority, the other half of a BROKEN ring (01 R33,
04 R140). -/
def Dev.farScans (d : Dev) (n : Nat) : Bool := d.isTwin && d.carries n && d.rbit A.twinStat 22 && (d.follows || d.ringState n == 3)

/-- A frame from one end reaches the modules: it passes `cut` of them if that is fewer than the ring's state tells, and arrives at `bad`
with a wrong HCRC. -/
def Dev.frameHeard (n : Nat) (dirB : Bool) (cut : Option Nat) (bad : List Nat) (d : Dev) : Dev :=
  let l := d.ringL n
  let r := min (d.passes dirB n) (cut.getD 64)
  d.setPort n (Port.heard d.time.now ((span 1 r).map (wireHop dirB l)) (hdrBadHops dirB l r bad))

/-- The scan frame of port `n` leaves; no slot of it has come back yet. -/
def Dev.launchScan (n : Nat) (cut : Option Nat) (bad : List Nat) (d : Dev) : Dev :=
  let d := d.setPort n (fun p => { p with lastKeep := d.time.now, frame := scanFrame d.atEndB (d.slotCount d.atEndB n) d.scan, scanOut := true, scanBack := false })
  d.frameHeard n d.atEndB cut bad

/-- What the list of a launch gives for ring `n`: the hops with a wrong HCRC. -/
def forRing (n : Nat) (l : List (Nat × Nat)) : List Nat := (l.filter (fun x => x.1 == n)).map (·.2)

/-- SCAN_FRAME_LAUNCH (R126): the scan frames leave at +60 µs, this device's own and, past it, those of its partner (01 R33). `hdrBad` names
ring and hop where a header arrives with a wrong HCRC, `cut` ring and number of modules for a frame that is lost on its way. -/
def execScanFrameLaunch (hdrBad : List (Nat × Nat)) (cut : List (Nat × Nat)) (s : State) : Out :=
  let d := s.dev.at (s.dev.time.inst + 60000)
  .next { s with dev := foldOver (List.range d.rings) (fun n d =>
    let c := (forRing n cut).head?
    let e := if d.farScans n then d.frameHeard n (!d.atEndB) c (forRing n hdrBad) else d
    if d.scans n then e.launchScan n c (forRing n hdrBad) else e) d }

/-- The head has a coil on, so its keep-alive is armed (04 R150). -/
def Head.armed (h : Head) : Bool := h.coilP || h.coilN || h.coilPre

/-- A transaction whose holder is faulty or unloaded frees its tag as it completes (02 R75). -/
def Dev.orphan (d : Dev) (t : Txn) : Bool := decide (1000 ≤ t.holder) || (!(t.holder == 0) && d.rbit (A.sysTstat (t.holder - 1)) 31)

/-- A task's transaction ends with every record coded 0x0002 (02 R73): its buffer takes the codes, and the tag of a faulty or
unloaded task is free (02 R75). -/
def State.unreach (n : Nat) (t : Txn) (s : State) : State :=
  if t.holder = 0 ∨ t.st = 2 ∨ t.st = 3 then s else
  let k := t.last + 1 - t.first
  let d := s.dev.setPort n (fun p =>
    if s.dev.orphan t then p.dropTag t.tag
    else p.mapTag t.tag (fun t => { t with st := 3, away := [], recs := (span t.first k).map (fun h => (h, 2)) }))
  { s with dev := (d.takeFree).cleanPoison t.bufAddr (t.recLen * k),
           mem := writeBytes t.bufAddr ((List.range k).flatMap (fun i =>
             undefBytes (1000 * s.dev.freeCnt + i) (t.recLen - 2) ++ toBytes (leBytes 2 2))) s.mem }

/-- Set or clear the bit of hop `h` in a pair of registers (04 R158, 06 R225-R227). -/
def Dev.hopBit (a0 a1 h : Nat) (b : Bool) (d : Dev) : Dev :=
  if h ≤ 32 then d.setRbit a0 (h - 1) b else d.setRbit a1 (h - 33) b

/-- A hop's identity state (06 R220): 0 PENDING, 1 AUTH, 2 FAILED, 3 NEW, 4 ACCEPTED. -/
def Dev.identity (d : Dev) (n h : Nat) : Nat := FMap.get (fun _ => 0) (d.port n).identity h

/-- A hop in AUTH or ACCEPTED (06 R220). -/
def Dev.authentic (d : Dev) (n h : Nat) : Bool := d.identity n h == 1 || d.identity n h == 4

/-- Change a hop's identity state; event 306 on each transition (06 R220). -/
def Dev.setIdentity (n h st : Nat) (d : Dev) : Dev :=
  if d.identity n h = st then d else
  let d := d.setPort n (fun p => { p with identity := FMap.set (fun _ => 0) p.identity h st })
  (d.hopBit (A.ringAuth0 n) (A.ringAuth1 n) h (st == 1 || st == 4)).raise 306 n

/-- The frame out has returned or is lost: none is out (04 R132, R146). -/
def Port.landed (now : Nat) (p : Port) : Port := { p with backT := now, hdrBad := [], payBad := [], reach := 64 }

/-- A ring is in DOWN or FAULT: transactions that hold a tag complete at once (02 R73, 04 R145), the device's own are dropped, and a
KEYSET that no longer goes out leaves its hop FAILED (13 R461). -/
def State.endTxns (n : Nat) (s : State) : State :=
  let own := ((s.dev.port n).txns ++ (s.dev.port n).backlog).filter (fun t => t.holder == 0 && t.code == 0x09)
  let d := foldOver own (fun t d => d.setIdentity n t.first 2) s.dev
  let d := d.setPort n (fun p => { p.landed d.time.now with
    txns := p.txns.filter (fun t => !(t.holder == 0)), backlog := [], discHop := [], scanOut := false })
  foldOver (d.port n).txns (fun t s => s.unreach n t) { s with dev := d }

/-- The ring enters DOWN (0) or FAULT (5). -/
def State.portDown (n st : Nat) (s : State) : State := State.endTxns n (s.onDev (fun d => (d.setRing n st).ringEvent n true))

/-- PORT_LOCK_GAIN (R117): discovery begins (R145). -/
def execPortLockGain (port : Nat) (s : State) : Out :=
  let d := (s.dev.setRbit (A.ringStat port) 12 true).ringEvent port true
  present (decide (port < s.dev.rings)) { s with dev := if d.portEn port && d.authority then d.discoverRing port else d }

/-- PORT_LOCK_LOSS (R117). -/
def execPortLockLoss (port : Nat) (s : State) : Out :=
  present (decide (port < s.dev.rings)) { s with dev := (s.dev.setRbit (A.ringStat port) 12 false).ringEvent port true }

/-- DISCOVERY_LOCK_TIMEOUT (R145 step 1): no lock within 100 ms. -/
def execDiscoveryLockTimeout (port : Nat) (s : State) : Out :=
  present (decide (port < s.dev.rings)) (if s.dev.rbit (A.ringStat port) 12 then s else s.portDown port 0)

/-- The hops that the device's own frames serve, first and last: its half of a BROKEN ring, else the whole ring (04 R140). -/
def Dev.ownHops (d : Dev) (n : Nat) : Nat × Nat :=
  let l := d.ringL n
  let ra := d.fld (A.ringStat n) 27 21
  if d.ringState n = 3 then (if d.atEndB then (ra + 1, l) else (1, ra)) else (1, l)

/-- Re-range a ring: RANGE and RDRANGE over the device's own hops, from its own end (04 R143-R144, 05 R162). -/
def Dev.rangeRing (n : Nat) (d : Dev) : Dev :=
  let r := d.ownHops n
  (d.queueDev n 0x02 r.1 r.2 [] 4).queueDev n 0x03 r.1 r.2 [] 8

/-- RERANGE (R162): RANGE and RDRANGE of a ring in RUN or BROKEN, by the device that launches there. -/
def execRerange (port : Nat) (s : State) : Out :=
  let d := if s.dev.scans port && !(s.dev.ringState port == 4) then s.dev.rangeRing port else s.dev
  present (decide (port < s.dev.rings)) { s with dev := d }

/-- The first transaction in flight. -/
def Port.flying (p : Port) : Option Txn := p.txns.find? (fun t => t.st == 1)

/-- Commands of the replay class (04 R134). -/
def replayClass (code : Nat) : Bool := code == 0x12 || code == 0x30

/-- Transaction `u` waits for the retry of a replay-class frame whose range meets that of `t` (04 R147). -/
def Txn.holdsUp (u t : Txn) : Bool :=
  replayClass u.code && replayClass t.code && !(u.tag == t.tag) && u.st == 0 && decide (0 < u.retries) && decide (t.lo ≤ u.hi)
    && decide (u.lo ≤ t.hi)

/-- A twin without authority launches what its partner handed over, and what it does itself on its own half or in discovery: ENUM,
ranging, versions, delays and challenges (04 R141, R145, 05 R162, 06 R221). Its other transactions end when the frames of its partner pass. -/
def Txn.ownPart (t : Txn) : Bool := t.origin.isSome || (t.holder == 0 && (decide (t.code ≤ 5) || t.code == 8))

/-- The transaction that may be launched next (04 R146, 02 R73): none in DOWN and FAULT, only the device's own in DISCOVER, and no
eighth other replay-class frame between a replay-class frame and its retry (R147). -/
def Dev.nextTxn (d : Dev) (n : Nat) : Option Txn :=
  let st := d.ringState n
  let l := (d.port n).txns
  if st = 0 ∨ st = 5 ∨ d.portEn n = false then none
  else l.find? (fun t => t.st == 0 && (t.holder == 0 || !(st == 1)) && (!d.follows || t.ownPart) && !(l.any (fun u => u.holdsUp t && decide (7 ≤ u.others))))

/-- The device may launch transactions on a ring (01 R33, 04 R140, R145): a twin without authority only its half of a BROKEN ring, the
steps of a discovery that its partner asked for, and what its partner hands over (R141). None leaves during a Graft (12 R427). -/
def Dev.mayLaunch (d : Dev) (n : Nat) : Bool :=
  (d.launches n && !(d.twinState == 6)) || !((d.port n).discHop == []) || (d.port n).txns.any (fun t => t.origin.isSome)

/-- When the next scan frame can leave at the earliest (01 R30): at +60 µs of the scan whose frame is still to leave, else of N. -/
def Dev.nextScanFrame (d : Dev) : Nat := (if d.time.now < d.time.inst + 60000 then d.time.inst else d.time.nextN) + 60000

/-- The time at which a transaction would leave: a retry no sooner than 20 µs after the frame before it returned (04 R146). -/
def Dev.launchTime (d : Dev) (n : Nat) (t : Txn) : Nat := if 0 < t.retries then max d.time.now ((d.port n).backT + 20000) else d.time.now

/-- The latest time at which a transaction's frame must be back: the next scan frame (01 R30), and for a BURST FREEZE 60 µs before the
next S (09 R320). -/
def Dev.mustReturn (d : Dev) (t : Txn) : Nat :=
  if t.code = 0x30 ∧ t.req.headD 0 / 16 % 4 = 1 then d.nextScanFrame - 152000 else d.nextScanFrame

/-- A transaction's worst-case completion falls before the next scan frame (01 R30); a ring that carries none has no such limit. -/
def Dev.fits (d : Dev) (n : Nat) (t : Txn) : Bool :=
  !(d.time.scanning && d.carries n)
    || decide (d.launchTime n t + frameNs (cmdBytes (reqFor t.code t.first t.lo t.hi t.req).length t.recLen (t.hi + 1 - t.lo))
        < d.mustReturn t)

/-- The port has no frame out (01 R30). -/
def Port.quiet (p : Port) : Bool := p.flying.isNone && !p.scanOut

/-- A KEEP frame that launches now meets R30's test before the next scan frame (01 R30, 04 R130). -/
def Dev.keepFits (d : Dev) (n : Nat) : Bool :=
  !(d.time.scanning && d.carries n) || decide (d.time.now + frameNs 16 < d.nextScanFrame)

/-- KEEP_LAUNCH (R130): 10 ms after the last SCAN or KEEP while the head reports KAARM, at the first moment that R30 allows: with no frame of
the port out, and back before the next scan frame. On a twin that launches nothing its partner's KEEP passes. -/
def execKeepLaunch (port : Nat) (hdrBad : List Nat) (cut : Option Nat) (s : State) : Out :=
  let p := s.dev.port port
  let d := s.dev.at (p.lastKeep + 10000000)
  let own := d.setPort port (fun p => { p with lastKeep := d.time.now, frame := keepFrame d.atEndB d.scan })
  let e :=
    if p.head.armed = false ∨ d.keepFits port = false then s.dev
    else if s.dev.launches port then (if p.quiet then own.frameHeard port d.atEndB cut hdrBad else s.dev)
    else if s.dev.farScans port then d.frameHeard port (!d.atEndB) cut hdrBad
    else s.dev
  present (decide (port < s.dev.rings)) { s with dev := e }

/-- The hops that only the other end reaches: the other half of a BROKEN ring (04 R141), and in ISOLATED those that a frame from the other
end still passes (07 R257). -/
def Dev.farReach (d : Dev) (n h : Nat) : Bool :=
  let l := d.ringL n
  let r := d.ownHops n
  let b := d.atEndB
  if d.ringState n = 3 then decide (h < r.1) || decide (r.2 < h)
  else if d.ringState n = 4 then decide (d.passes b n < wireHop b l h) && decide (wireHop (!b) l h ≤ d.passes (!b) n)
  else false

/-- The hops of a transaction's open range that go to the other end (04 R141, 07 R257). -/
def Dev.otherHops (d : Dev) (n : Nat) (t : Txn) : List Nat :=
  if d.agreed && d.authority && t.origin.isNone && t.away == [] then (span t.lo (t.hi + 1 - t.lo)).filter (d.farReach n) else []

/-- Hand the hops of the other half to the other twin (04 R141): what is left of the transaction stays with this end. -/
def Dev.handOver (n : Nat) (t : Txn) (d : Dev) : Dev × Txn :=
  let far := d.otherHops n t
  if far = [] then (d, t) else
  let a := far.headD 1
  let b := far.getLastD 1
  let near := (span t.lo (t.hi + 1 - t.lo)).filter (fun h => !far.contains h)
  let u := { t with away := far, lo := near.headD t.lo, hi := near.getLastD t.hi, st := if near = [] then 4 else t.st }
  ((d.moorSend (.txn n t.tag t.code a b (reqFor t.code t.first a b t.req) t.recLen)).setPort n (fun p => p.mapTag t.tag (fun _ => u)), u)

/-- A transaction's frame leaves the port (04 R121-R123, R147): its bytes, the modules its header or payload reaches with a wrong CRC,
and the replay-class frames that wait for their retry count it. -/
def Dev.sendTxn (n : Nat) (t : Txn) (hdrBad payBad : List Nat) (cut : Option Nat) (d : Dev) : Dev :=
  let f := t.frame d.atEndB (d.ringL n)
  let bad := hdrBadHops d.atEndB (d.ringL n) (cut.getD 64) hdrBad
  let d := d.at (d.launchTime n t)
  let d := d.setPort n (fun p =>
    let q : Port := { p with txns := p.txns.map (fun (u : Txn) => if u.holdsUp t then { u with others := u.others + 1 } else u) }
    ({ (q.mapTag t.tag (fun t => { t with st := 1, others := 0 })) with
       records := [], frame := f, hdrBad := bad, payBad := (if f.req = [] then [] else payBad), reach := cut.getD 64 }).hdrErrors bad)
  if 0 < t.retries then d.bump (A.ringRetry n) (A.ringOvf n) 1 else d

/-- TRANSACTION_LAUNCH (R146): the first waiting transaction leaves when it fits and no frame is out; a repeat counts in RING.RETRY
(R156). `hdrBad` and `payBad` name hops where its header or payload arrives with a wrong CRC, `cut` the modules passed by a frame that is
lost on its way. -/
def execTransactionLaunch (port : Nat) (hdrBad : List Nat) (payBad : List Nat) (cut : Option Nat) (s : State) : Out :=
  let d := s.dev
  let e := match d.nextTxn port with
    | none => d
    | some t =>
      let r := d.handOver port t
      if d.mayLaunch port = false ∨ (d.port port).quiet = false ∨ d.fits port t = false then d
      else if r.2.st = 4 then r.1 else r.1.sendTxn port r.2 hdrBad payBad cut
  present (decide (port < d.rings)) { s with dev := e }

/-- The record that hop `h` left, if any. -/
def Port.record (p : Port) (h : Nat) : Rec := FMap.get (fun _ => {}) p.records h

end Sys2Proof.Machine
end

