-- ==== Sys2Proof/Machine/Modules.lean ====
section
/-! DEFINITION. A module of a ring as the manual binds it: its registers, its records, its replay store (04 R132-R147, 05 R160,
06 R204-R219, 09 R318-R319); and what the device keeps per hop: identity, configuration, balance tests. -/

namespace Sys2Proof.Machine
open Sys2Proof

/-- What a module answers: its new state, the result code, the record's data (04 R133). -/
abbrev Reply := Module × Nat × List Nat

/-- OK without data. -/
def Module.ok (m : Module) : Reply := (m, 0, [])

/-- A refusal that changes nothing. -/
def Module.no (m : Module) (res : Nat) : Reply := (m, res, [])

/-- The record of a replay-class command that a v3 module holds for a repeated TAG (04 R147). -/
def Module.stored (m : Module) (replay : Bool) (t : Option Txn) : Option Rec :=
  match t with
  | none => none
  | some t => if replay && m.ver == 3 && decide (0 < t.retries) then (m.replay.find? (fun r => r.1 == t.tag)).map (·.2) else none

/-- Keep the record of an executed replay-class command: the last eight (04 R147). -/
def Module.keep (m : Module) (replay : Bool) (t : Option Txn) (r : Rec) : Module :=
  match t with
  | none => m
  | some t => if replay && m.ver == 3 then { m with replay := ((t.tag, r) :: m.replay.filter (fun x => !(x.1 == t.tag))).take 8 } else m

/-- Hop `h` of a ring of `l` executes a command of the frame in flight and leaves its record (04 R132-R133, R147); a frame that is lost
before it does not reach it. A header with a wrong HCRC is not acted on; a payload with a wrong CRC is counted and answered BADCRC (R123,
R136). -/
def Port.runMod (now l : Nat) (replay : Bool) (f : Nat → Module → Reply) (h : Nat) (p : Port) : Port :=
  let m := (p.mod h).settle now
  let t := p.flying
  if p.reach < wireHop p.frame.dirB l h ∨ p.hdrBad.contains h then p
  else if p.payBad.contains h then
    { p.setMod h (fun _ => { m with errPay := min (m.errPay + 1) 0xFFFF }) with
      records := FMap.set (fun _ => {}) p.records h { res := 5, hop := h } }
  else match m.stored replay t with
  | some r => { p with records := FMap.set (fun _ => {}) p.records h { r with replay := true } }
  | none =>
    let a := f h m
    let r : Rec := { res := a.2.1, data := a.2.2, hop := h }
    let p := p.setMod h (fun _ => (if r.res = 0 then a.1.keep replay t r else a.1).note now)
    { p with records := FMap.set (fun _ => {}) p.records h r }

/-- The hops execute a command in order. -/
def Dev.runMods (n : Nat) (replay : Bool) (hops : List Nat) (f : Nat → Module → Reply) (d : Dev) : Dev :=
  d.setPort n (fun p => foldOver hops (Port.runMod d.time.now (d.ringL n) replay f) p)

/-- Hops `a..b`. -/
def hopRange (a b : Nat) : List Nat := span a (b + 1 - a)

/-- The result that hop `h` left in its record. -/
def Dev.resOf (d : Dev) (n h : Nat) : Nat := ((d.port n).record h).res

/-- Words in little-endian bytes. -/
def bytesOf (ws : List Word) : List Nat := ws.flatMap (fun w => leBytes 4 w.toNat)

/-- A module's identity, all zero until ENUM. -/
def Module.id (m : Module) : ModId :=
  m.ident.getD { vendor := 0, part := 0, kind := 0, vermask := 4, fwd := 0, uid := 0, asym := 0, setcnt2 := 0 }

/-- The register word at an address of a module, and whether it may be written (04 R136, 05 R160, 06 R213). -/
def Module.word (m : Module) (kato : Option Nat) (a : Nat) : Option (Word × Bool) :=
  let i := m.id
  let ro : Nat → Option (Word × Bool) := fun v => some (BitVec.ofNat 32 v, false)
  if a = 0 then ro (i.part * 65536 + i.vendor)
  else if a = 1 then ro (i.fwd * 65536 + i.vermask * 256 + i.kind)
  else if a = 2 then ro i.uid
  else if a = 3 then ro (i.uid / 2 ^ 32)
  else if a = 4 then ro (m.ver * 65536 + m.turn * 256 + b2n m.autoTa * 2 + b2n m.autoTb)
  else if a = 5 then ro (m.dlyu * 65536 + m.dlyd)
  else if a = 6 then ro (m.rcu * 65536 + m.rcd)
  else if a = 7 then some (m.tag, false)
  else if a = 8 then ro (m.errPay * 65536 + m.errHdr)
  else if a = 9 then ro m.sent.toNat
  else if a = 10 then ro (m.sent.toNat / 2 ^ 32)
  else if a = 11 then some (BitVec.ofNat 32 m.lossto, true)
  else if a = 0x10 then ro (toU 16 i.asym)
  else if a = 0x11 then some (m.inen, true)
  else if a = 0x12 then some (m.aaf, true)
  else if a = 0x13 then ro (i.setcnt2 % 16)
  else if a = 0x20 then some (m.diagcfg, true)
  else if a = 0x21 then ro m.keygen
  else if a = 0x100 then kato.map (fun k => (BitVec.ofNat 32 k, false))
  else none

/-- RDREG of `count` words from `a` (04 R134, R136). -/
def Module.rdreg (kato : Option Nat) (a count : Nat) (m : Module) : Reply :=
  let ws := (span a count).map (m.word kato)
  if count = 0 ∨ 16 < count ∨ ws.any (·.isNone) then m.no 2 else (m, 0, bytesOf (ws.filterMap (fun w => w.map (·.1))))

/-- A value that a writable word takes (04 R136, 05 R160, 06 R206, R213). That LOSSTO [31:16], INEN [31:24] and AAF [31:2] must be 0 is a
DESIGN CHOICE (log entry 157): the rules give those bits no other meaning. -/
def wordLegal (a : Nat) (v : Word) : Bool :=
  if a = 11 then decide (100 ≤ v.field 15 0) && decide (v.field 15 0 ≤ 10000) && v.field 31 16 == 0
  else if a = 0x11 then v.field 31 24 == 0
  else if a = 0x12 then decide (v.toNat < 3)
  else if a = 0x20 then
    decide (5 ≤ v.field 31 24) && decide (v.field 31 24 ≤ 100) && v.field 23 16 == 0 && decide (10 ≤ v.field 15 0)
      && decide (v.field 15 0 ≤ 6000)
  else true

/-- Write one writable word; INEN and AAF start SETCNT2 settling samples (05 R178). -/
def Module.put (a : Nat) (v : Word) (m : Module) : Module :=
  if a = 11 then { m with lossto := v.toNat }
  else if a = 0x11 then { m with inen := v, settleCnt := m.id.setcnt2 }
  else if a = 0x12 then { m with aaf := v, settleCnt := m.id.setcnt2 }
  else if a = 0x20 then { m with diagcfg := v } else m

/-- WRREG of words from `a` (04 R134, R136): a read-only word denies the whole write. -/
def Module.wrreg (kato : Option Nat) (a : Nat) (ws : List Word) (m : Module) : Reply :=
  let l := (span a ws.length).zip ws
  if ws = [] ∨ 16 < ws.length ∨ l.any (fun p => (m.word kato p.1).isNone) then m.no 2
  else if l.any (fun p => match m.word kato p.1 with | some (_, w) => !w | none => true) then m.no 4
  else if l.any (fun p => !(wordLegal p.1 p.2)) then m.no 2
  else (foldOver l (fun p m => m.put p.1 p.2) m).ok

/-- The tag that the device expects of a module (06 R216). -/
def Dev.expectTag (d : Dev) (n h : Nat) : Word :=
  let m := (d.port n).mod h
  let t := d.topo
  let c := crc32c (leBytes 8 m.id.uid ++ leBytes 4 t.lossto ++ leBytes 4 t.inen.toNat ++ leBytes 4 t.aaf.toNat
    ++ leBytes 4 t.diagcfg.toNat ++ [m.ver])
  if c = 0 then 1 else BitVec.ofNat 32 c

/-- A hop's place in its configuration sequence (06 R217): 0 none, 1-8 a step on its way, 9 all done. -/
def Port.cfgAt (p : Port) (h : Nat) : Nat := FMap.get (fun _ => 0) p.cfgStep h

/-- Step `k` of the configuration sequence of a hop (06 R217): CFGTAG 0, three WRREG, the same words by RDREG, CFGTAG. -/
def Dev.cfgSend (n h k : Nat) (d : Dev) : Dev :=
  let t := d.topo
  let hdr : Nat → Nat → List Nat := fun a k => leBytes 2 a ++ leBytes 2 k
  let d := d.setPort n (fun p => { p with cfgStep := FMap.set (fun _ => 0) p.cfgStep h k })
  if k = 1 then d.queueDev n 0x0A h h [0, 0, 0, 0] 4
  else if k = 2 then d.queueDev n 0x11 h h (hdr 11 1 ++ leBytes 4 t.lossto) 4
  else if k = 3 then d.queueDev n 0x11 h h (hdr 0x11 2 ++ bytesOf [t.inen, t.aaf]) 4
  else if k = 4 then d.queueDev n 0x11 h h (hdr 0x20 1 ++ bytesOf [t.diagcfg]) 4
  else if k = 5 then d.queueDev n 0x10 h h (hdr 11 1) 8
  else if k = 6 then d.queueDev n 0x10 h h (hdr 0x11 2) 12
  else if k = 7 then d.queueDev n 0x10 h h (hdr 0x20 1) 8
  else if k = 8 then d.queueDev n 0x0A h h (leBytes 4 (d.expectTag n h).toNat) 4
  else d

/-- The configuration sequence of a hop begins (06 R217); its steps follow one another as their records come back. -/
def Dev.reconfigure (n h : Nat) (d : Dev) : Dev := d.cfgSend n h 1

/-- A failed configuration sequence (06 R218): counted once, and its remaining steps are not sent. -/
def Dev.cfgFailed (n h : Nat) (d : Dev) : Dev :=
  let k := FMap.get (fun _ => 0) (d.port n).cfgFails h + 1
  let d := d.setPort n (fun p => { p with cfgFails := FMap.set (fun _ => 0) p.cfgFails h (min k 3),
                                          cfgStep := FMap.set (fun _ => 0) p.cfgStep h 0,
                                          cfgStale := FMap.set (fun _ => false) p.cfgStale h true })
  if k = 3 then (d.hopBit (A.ringCfgst0 n) (A.ringCfgst1 n) h true).raise 223 n else d

/-- CLRST with one mask bit at one hop (04 R134). -/
def Dev.queueClrst (n h b : Nat) (d : Dev) : Dev := d.queueDev n 0x12 h h (leBytes 8 (2 ^ b)) 4

/-- The key that Heartwood holds for a hop, 0 for none (06 R219). -/
def Dev.hopKey (d : Dev) (n h : Nat) : Nat := FMap.get (fun _ => 0) d.hwd.keys (64 * n + h - 1)

/-- A challenge of 16 bytes drawn from the TRNG (06 R219). -/
def challengeBytes (k : Nat) : List Nat := leBytes 16 (Config.trng k)

/-- Send a fresh challenge to a hop (06 R219). -/
def Dev.sendChallenge (n h : Nat) (d : Dev) : Dev :=
  let ch := challengeBytes d.freeCnt
  (d.takeFree.setPort n (fun p => { p with challenge := FMap.set (fun _ => []) p.challenge h ch })).queueDev n 0x08 h h ch 20

/-- The device challenges this hop itself (06 R221): its own reach with authority, its half of a BROKEN ring. -/
def Dev.challenges (d : Dev) (n h : Nat) : Bool :=
  let r := d.ownHops n
  d.launches n && decide (r.1 ≤ h) && decide (h ≤ r.2)

/-- Challenge a hop, unless an acceptance without a key exempts it (06 R221-R222), Heartwood refuses challenges (13 R464) or the other
twin challenges it. -/
def Dev.challengeHop (n h : Nat) (d : Dev) : Dev :=
  if (d.identity n h = 4 ∧ d.hopKey n h = 0) ∨ d.hwdOk = false ∨ d.challenges n h = false then
    (if d.discovering n h then d.queueClrst n h 48 else d)
  else d.sendChallenge n h

/-- The tags match again (06 R218); a challenge that waited for this is sent (R221). -/
def Dev.cfgMatched (n h : Nat) (d : Dev) : Dev :=
  let owed := FMap.get (fun _ => false) (d.port n).owed h
  let d := d.setPort n (fun p => { p with cfgFails := FMap.set (fun _ => 0) p.cfgFails h 0,
                                          cfgStep := FMap.set (fun _ => 0) p.cfgStep h 0,
                                          cfgStale := FMap.set (fun _ => false) p.cfgStale h false,
                                          owed := FMap.set (fun _ => false) p.owed h false })
  let d := d.hopBit (A.ringCfgst0 n) (A.ringCfgst1 n) h false
  if owed then d.challengeHop n h else d

/-- The newest record of a module in the cell table. -/
def Dev.latest (d : Dev) (n h : Nat) : ModRec :=
  match d.acq.view 0 with
  | none => {}
  | some v => v.modRec n h

/-- The verdict on a balance-switch shift (06 R210): none when not tested or aborted. -/
def Dev.shiftOk (d : Dev) (v : Nat) (shift : Int) : Option Bool :=
  if shift = -32768 ∨ shift = 32767 then none else
  let den : Int := d.topo.rbal + 2 * d.topo.rsh
  let s : Int := 2 * d.topo.rsh * v
  some (decide (s ≤ 2 * shift * den) && decide (2 * shift * den ≤ 3 * s))

/-- One cell's test verdict on a shift measured at cell voltage `v` (06 R211): barred after two failed tests, released by a passed
one. -/
def Dev.judgeCell (n h c v : Nat) (shift : Int) (d : Dev) : Dev :=
  match d.shiftOk v shift with
  | none => d
  | some pass =>
    let key := 16 * h + c
    let p := d.port n
    let k := if pass then 0 else min (FMap.get (fun _ => 0) p.btFail key + 1) 2
    let was := FMap.get (fun _ => 0) p.barred h
    let now := if k = 2 then was ||| 2 ^ c else if pass ∧ was.testBit c then was - 2 ^ c else was
    let d := d.setPort n (fun p => { p with btFail := FMap.set (fun _ => 0) p.btFail key k,
                                            barred := FMap.set (fun _ => 0) p.barred h now })
    (d.hopBit (A.ringBtf0 n) (A.ringBtf1 n) h (!(now == 0))).raiseIf (!(now == was)) 221 n

/-- The device's running test of a hop. -/
def Port.test (p : Port) (h : Nat) : Option BtRun := FMap.get (fun _ => none) p.btRun h

/-- Set or end the device's test of a hop. -/
def Dev.setTest (n h : Nat) (x : Option BtRun) (d : Dev) : Dev :=
  d.setPort n (fun p => { p with btRun := FMap.set (fun _ => none) p.btRun h x })

/-- The cells of a pass (06 R210). -/
def passMask (k : Nat) : Nat := if k = 0 then 0x5555 else 0xAAAA

/-- Start pass `k` of a balance-switch test: DWELL 20 (06 R210). -/
def Dev.startPass (n h k : Nat) (d : Dev) : Dev := d.queueDev n 0x21 h h (leBytes 4 (passMask k + 20 * 65536 + 2 ^ 24)) 36

/-- A balance-switch test begins with its first pass (06 R210); the second follows when the first has been read. -/
def Dev.queueTest (n h : Nat) (d : Dev) : Dev := (d.setTest n h (some {})).startPass n h 0

/-- A delivered START (06 R210): the pass is to be read in the inter-scan interval after it; its expected shifts follow from the scan
before it, which for a pass that begins later `Dev.passBegins` gives. -/
def Dev.passStarted (n h mask : Nat) (d : Dev) : Dev :=
  match (d.port n).test h with
  | none => d
  | some x =>
    let v := (d.latest n h).cells
    if mask = 0x5555 then d.setTest n h (some { x with st0 := 1, volt0 := v }) else d.setTest n h (some { x with st1 := 1, volt1 := v })

/-- Judge a test whose passes have both been read (06 R210-R211). -/
def Dev.judgeTest (n h : Nat) (x : BtRun) (d : Dev) : Dev :=
  foldOver (List.range 16) (fun c d =>
    if c % 2 = 0 then d.judgeCell n h c (x.volt0.getD c 0) (x.res0.getD c (-32768))
    else d.judgeCell n h c (x.volt1.getD c 0) (x.res1.getD c (-32768))) (d.setTest n h none)

/-- The results of pass `k` (06 R210): an aborted pass is repeated at most three times, after which the test counts as not run and
nothing is judged; with both passes read the test is judged, once (R211). -/
def Dev.passRead (n h k : Nat) (sh : List Int) (x : BtRun) (d : Dev) : Dev :=
  let tries := if k = 0 then x.try0 else x.try1
  if sh.contains 32767 then
    if 3 ≤ tries then d.setTest n h none
    else (d.setTest n h (some (if k = 0 then { x with st0 := 0, try0 := tries + 1 } else { x with st1 := 0, try1 := tries + 1 }))).startPass n h k
  else
    if k = 0 then (d.setTest n h (some { x with st0 := 2, res0 := sh })).startPass n h 1
    else d.judgeTest n h { x with st1 := 2, res1 := sh }

/-- The cells that a test's results name. -/
def testedMask (sh : List Int) : Nat := maskOf ((List.range 16).filter (fun c => !(sh.getD c (-32768) == -32768)))

/-- Delivered results (06 R208, R210): they count for the pass whose cells they name while that pass is to be read. -/
def Dev.testRead (n h : Nat) (sh : List Int) (d : Dev) : Dev :=
  match (d.port n).test h with
  | none => d
  | some x =>
    if x.st0 = 1 ∧ testedMask sh = 0x5555 then d.passRead n h 0 sh x
    else if x.st1 = 1 ∧ testedMask sh = 0xAAAA then d.passRead n h 1 sh x
    else d

/-- A pass that waited for this scan's sample has begun 100 µs after it (06 R209): the scan before it is this one (R210). -/
def Dev.passBegins (n h : Nat) (x : BtRun) (d : Dev) : Dev :=
  match ((d.port n).mod h).test with
  | some t =>
    if t.start = some (d.time.inst + 100000) then
      let v := (d.acq.next.modRec n h).cells
      d.setTest n h (some (if t.mask = 0x5555 then { x with volt0 := v } else { x with volt1 := v }))
    else d
  | none => d

/-- Once per scan: a started pass that has ended and that no transaction of the port is about is read (06 R210), with its own entry and
START 0 (R208). -/
def Dev.readTests (n : Nat) (d : Dev) : Dev :=
  foldOver ((d.port n).btRun.filterMap (fun p => p.2.map (fun x => (p.1, x)))) (fun p d =>
    let busy := ((d.port n).txns ++ (d.port n).backlog).any (fun t => t.code == 0x21 && t.holder == 0 && t.first == p.1)
    let runs := ((((d.port n).mod p.1).settle d.time.now).test).isSome
    let d := d.passBegins n p.1 p.2
    if (p.2.st0 = 1 ∨ p.2.st1 = 1) ∧ busy = false ∧ runs = false then
      d.queueDev n 0x21 p.1 p.1 (leBytes 4 (passMask (if p.2.st0 = 1 then 0 else 1) + 20 * 65536)) 36
    else d) d

end Sys2Proof.Machine
end

