-- ==== Sys2Proof/Machine/RingCmd.lean ====
section
/-! DEFINITION. The ring commands: what the addressed modules do and what the device does with their records (04 R134-R147,
05 R160-R162, 06 R204-R223, 09 R318-R319). -/

namespace Sys2Proof.Machine
open Sys2Proof

/-- A command of port `n`. -/
def ringCmd (n : Nat) (f : Dev → Dev) (s : State) : Out := present (decide (n < s.dev.rings)) (s.onDev f)

/-- The ENUM data (04 R135). -/
def modIdBytes (i : ModId) : List Nat :=
  leBytes 2 i.vendor ++ leBytes 2 i.part ++ [i.kind, i.vermask] ++ leBytes 2 i.fwd ++ leBytes 8 i.uid

/-- The highest version that a module and the ring's VCAP allow (04 R145 step 4). -/
def bestVer (vcap vermask : Nat) : Nat := if 3 ≤ vcap ∧ vermask.testBit 3 then 3 else 2

/-- Identity after ENUM (06 R220): a UID other than the commissioned one makes the hop NEW; a NEW hop with the commissioned UID is
PENDING again. A hop that has no commissioned UID enters NEW (20 R609). -/
def Dev.enumHop (n h uid : Nat) (d : Dev) : Dev :=
  let w := FMap.get (fun _ => 0) (d.port n).uidWanted h
  if w = 0 ∨ uid ≠ w then d.setIdentity n h 3 else if d.identity n h = 3 then d.setIdentity n h 0 else d

/-- The steps that follow a good ENUM of hops `a..b` (04 R145 steps 3-5). The twin without authority repeats only versions and
ranging, from its own end. -/
def Dev.discoverNext (n a b : Nat) (d : Dev) : Dev :=
  let l := d.ringL n
  let p := d.port n
  let vers := (hopRange a b).map (fun h => bestVer (d.fld (A.ringCfg n) 23 20) (p.mod h).id.vermask)
  let d := if d.rbit (A.ringCfg n) 30 then d else d.queueDev n 0x06 l l [1] 4
  let d := d.queueDev n 0x04 a b vers 4
  let d := d.queueDev n 0x02 1 l [] 4
  d.queueDev n 0x03 a b [] 8

/-- Hops that ENUM did not reach are no longer being discovered (04 R145 step 2). -/
def Dev.dropUnreached (n reached : Nat) (d : Dev) : Dev :=
  d.setPort n (fun p => { p with discHop := p.discHop.filter (fun x => decide (x.1 ≤ reached)) })

/-- The hops being discovered, lowest and highest. -/
def Port.discSpan (p : Port) : Option (Nat × Nat) :=
  match p.discHop, p.discHop.getLast? with
  | (a, _) :: _, some (b, _) => some (a, b)
  | _, _ => none

/-- ENUM (R135): `ids` are the identities of hops 1, 2, …; their number is the returned HOP (R145 step 2). In single use the last of
them turned the frame: its URX has not locked (R137). -/
def execEnumMod (port : Nat) (ids : List ModId) (s : State) : Out :=
  let run : Nat → Module → Reply := fun h m =>
    match ids[wireHop s.dev.atEndB (s.dev.ringL port) h - 1]? with
    | none => m.no 1
    | some i => ({ m with ident := some i }, 0, modIdBytes i)
  let hops := (span 1 ids.length).map (wireHop s.dev.atEndB (s.dev.ringL port))
  let d := s.dev.runMods port false hops run
  let d := if s.dev.rbit (A.ringCfg port) 30 ∨ ids = [] then d else d.setPort port (Port.setMod ids.length (fun m =>
    if m.turn = 0 ∧ m.autoTa = false then { m with autoTa := true, selfTurn := true } else m))
  let d := if s.dev.atEndB then d.setFld (A.ringStat port) 20 14 ids.length else d.setFld (A.ringStat port) 27 21 ids.length
  let old := if s.dev.atEndB then s.dev.fld (A.ringStat port) 20 14 else s.dev.fld (A.ringStat port) 27 21
  let l := d.ringL port
  let bad := (!s.dev.atEndB && (match ids.head? with | none => true | some i => !(i.kind == 1))) || decide (l < ids.length)
  if s.dev.portEn port = false ∨ (d.port port).discHop = [] then ringCmd port (fun _ => d) s
  else if bad then present (decide (port < s.dev.rings)) ({ s with dev := d }.portDown port 5)
  else
    let d := (d.ringEvent port (!(old == ids.length))).dropUnreached port (if s.dev.atEndB then l else ids.length)
    let d := foldOver hops (fun h d => d.enumHop port h ((d.port port).mod h).id.uid) d
    ringCmd port (fun _ => match (d.port port).discSpan with
      | none => d.discEnd port
      | some (a, b) => d.discoverNext port a b) s

/-- A module's range count (04 R138, R142): 0 in turnaround; v2 counts in 25 ns units, stored in 5 ns units. -/
def Module.count (m : Module) (dirB : Bool) (c : Nat) : Nat :=
  let turned := if dirB then m.turn == 2 || m.autoTb else m.turn == 1 || m.autoTa
  if turned then 0 else if m.ver = 3 then c % 65536 else c / 5 * 5 % 65536

/-- RANGE (R142): `counts` are the modules' times in 5 ns units, hop 1 first; `c0` is the loop count of the port that launched it.
RING.LOOP holds the count of the last RANGE from this device (R153); its partner hears of it, and of the partner's the device
(05 R161). -/
def execRangeMod (port : Nat) (dirB : Bool) (c0 : Nat) (counts : List Nat) (s : State) : Out :=
  ringCmd port (fun d =>
    let run : Nat → Module → Reply := fun h m =>
      let c := m.count dirB (counts.getD (h - 1) 0)
      ((if dirB then { m with rcu := c } else { m with rcd := c }).ok)
    let d := d.runMods port false (span 1 counts.length) run
    let d := d.setPort port (fun p => if dirB then { p with c0b := c0 } else { p with c0a := c0 })
    if dirB = d.atEndB then (d.setFld (A.ringLoop port) 15 0 c0).moorSend (.loopCount port c0) else d) s

/-- The delays of hop `h` (05 R161): (DLYD, DLYU). -/
def Dev.delays (d : Dev) (n h : Nat) : Nat × Nat :=
  let p := d.port n
  let m := p.mod h
  let asym : List Nat → Int := fun l => l.foldl (fun a k => a + (p.mod k).id.asym) 0
  let ad := 10 * ((p.c0a : Int) - m.rcd - m.id.fwd) + asym (hopRange 1 (h - 1))
  let au := 10 * ((p.c0b : Int) - m.rcu - m.id.fwd) - asym (hopRange (h + 1) (d.ringL n))
  (toU 16 (rndDiv (128000 - ad) 20), if d.rbit (A.ringCfg n) 30 then toU 16 (rndDiv (128000 - au) 20) else 0)

/-- New delays replace the held ones in discovery, or when they differ by more than 2 units (05 R162). -/
def Dev.newDelays (d : Dev) (n h : Nat) : Nat × Nat :=
  let r := d.delays n h
  let a := A.ringDly n h
  let hd := d.fld a 15 0
  let hu := d.fld a 31 16
  let far : Nat → Nat → Bool := fun x y => decide (y + 2 < x) || decide (x + 2 < y)
  if d.discovering n h then r else (if far r.1 hd then r.1 else hd, if far r.2 hu then r.2 else hu)

/-- The delays of hops in discovery wait for the other twin's ranging (04 R145 steps 3 and 6). -/
def Dev.awaitsFar (d : Dev) (n : Nat) (hops : List Nat) : Bool :=
  d.agreed && d.authority && d.rbit (A.ringCfg n) 30 && !(d.port n).farRanged && hops.any (d.discovering n)

/-- The delays of hops whose counts came back (05 R161-R162): the device that launched there writes them again where they changed. -/
def Dev.gotCounts (n first last : Nat) (d : Dev) : Dev :=
  if d.launches n = false ∨ d.awaitsFar n (hopRange first last) then d else
  let new := (hopRange first last).map (d.newDelays n)
  let same := (hopRange first last).all (fun h => d.newDelays n h == (d.fld (A.ringDly n h) 15 0, d.fld (A.ringDly n h) 31 16)
    && !d.discovering n h)
  if same then d else d.queueDev n 0x05 first last (new.flatMap (fun x => leBytes 2 x.1 ++ leBytes 2 x.2)) 4

/-- The counts of the hops in discovery are read again: what their delays waited for has come, or comes no more (04 R145). -/
def Dev.rangeAgain (n : Nat) (d : Dev) : Dev :=
  match (d.port n).discSpan with
  | none => d
  | some (a, b) => d.queueDev n 0x03 a b [] 8

/-- RDRANGE (R142): the modules return their counts. -/
def execRdrange (port : Nat) (first : Nat) (last : Nat) (s : State) : Out :=
  ringCmd port (fun d => d.runMods port false (hopRange first last) (fun _ m => (m, 0, leBytes 2 m.rcd ++ leBytes 2 m.rcu))) s

/-- SETVER (R145 step 4): a version that the module lacks answers BADARG and leaves v2. -/
def execSetver (port : Nat) (first : Nat) (vers : List Nat) (s : State) : Out :=
  ringCmd port (fun d =>
    let run : Nat → Module → Reply := fun h m =>
      let v := vers.getD (h - first) 0
      if (v = 2 ∨ v = 3) ∧ m.id.vermask.testBit v then ({ m with ver := v } : Module).ok else ({ m with ver := 2 } : Module).no 2
    let d := d.runMods port false (span first vers.length) run
    foldOver (span first vers.length) (fun h d =>
      d.hopBit (A.ringModver0 port) (A.ringModver1 port) h (((d.port port).mod h).ver == 3)) d) s

/-- SETDLY (R161): a v2 module rounds down to 5 units (R142); RING.DLYh keeps what was written (R159). -/
def execSetdly (port : Nat) (first : Nat) (dlys : List (Nat × Nat)) (s : State) : Out :=
  ringCmd port (fun d =>
    let run : Nat → Module → Reply := fun h m =>
      let x := dlys.getD (h - first) (0, 0)
      let r : Nat → Nat := fun v => if m.ver = 3 then v % 65536 else v % 65536 / 5 * 5
      ({ m with dlyd := r x.1, dlyu := r x.2 } : Module).ok
    let d := d.runMods port false (span first dlys.length) run
    foldOver (span first dlys.length) (fun h d =>
      let x := dlys.getD (h - first) (0, 0)
      d.setReg (A.ringDly port h) (BitVec.ofNat 32 (x.2 % 65536 * 65536 + x.1 % 65536))) d) s

/-- SETTURN with a value at one hop (04 R137). An automatic turnaround is released only while both receivers are locked; otherwise
BUSY. -/
def Module.setTurn (v : Nat) (locked : Bool) (m : Module) : Reply :=
  if v = 0 then
    if (m.autoTa || m.autoTb) && !locked then m.no 3
    else ({ m with turn := 0, autoTa := false, autoTb := false, selfTurn := false } : Module).ok
  else ({ m with turn := v } : Module).ok

/-- SETTURN at a hop; a module that enters turnaround is an event of the ring (04 R148). -/
def Dev.turnHop (n h v : Nat) (locked : Bool) (d : Dev) : Dev :=
  let m := (d.port n).mod h
  let was := !(m.turn == 0) || m.autoTa || m.autoTb
  let d := d.runMods n false [h] (fun _ m => m.setTurn v locked)
  d.ringEvent n (!was && !(((d.port n).mod h).turn == 0))

/-- SETTURN_RELEASE (R137). A module executes it on whichever receiver the frame reaches, and in turnaround forwards neither frame nor
record: the port then sees FRAME_LOST and repeats the frame. -/
def execSetturnRelease (port : Nat) (hop : Nat) (locked : Bool) (s : State) : Out := ringCmd port (Dev.turnHop port hop 0 locked) s

/-- SETTURN_FORCE_TA (R137). -/
def execSetturnForceTa (port : Nat) (hop : Nat) (s : State) : Out := ringCmd port (Dev.turnHop port hop 1 true) s

/-- SETTURN_FORCE_TB (R137). -/
def execSetturnForceTb (port : Nat) (hop : Nat) (s : State) : Out := ringCmd port (Dev.turnHop port hop 2 true) s

/-- A module's answer to a challenge (06 R219). -/
def Module.respond (key : Nat) (ch : List Nat) (m : Module) : List Nat :=
  aesCmac (leBytes 16 key) (ch ++ leBytes 8 m.id.uid ++ leBytes 4 m.tag.toNat)

/-- The answer is judged (06 R220-R222): two fresh challenges in a row without a match, or DENIED, make the hop FAILED; after an
acceptance with a key one does. A NEW hop stays NEW. -/
def Dev.judgeAuth (n h : Nat) (denied ok : Bool) (d : Dev) : Dev :=
  let st := d.identity n h
  let k := if ok then 0 else FMap.get (fun _ => 0) (d.port n).authFails h + 1
  let d := d.setPort n (fun p => { p with authFails := FMap.set (fun _ => 0) p.authFails h k })
  if st = 3 then d
  else if ok then d.setIdentity n h 1
  else if denied ∨ 2 ≤ k ∨ st = 4 then d.setIdentity n h 2
  else if d.hwdOk && d.challenges n h then d.sendChallenge n h else d

/-- The challenge that the device sent to a hop last. -/
def Port.challengeOf (p : Port) (h : Nat) : List Nat := FMap.get (fun _ => []) p.challenge h

/-- AUTHCH (R219): the module answers the challenge that the frame carries; without a key DENIED. -/
def execAuthch (port : Nat) (hop : Nat) (s : State) : Out :=
  ringCmd port (fun d =>
    let ch := (d.port port).challengeOf hop
    let run : Nat → Module → Reply := fun _ m =>
      let a : Module := { m with nAuth := min (m.nAuth + 1) 0xFFFFFFFF }
      if m.keygen = 0 then a.no 4 else (a, 0, m.respond m.key ch)
    d.runMods port false [hop] run) s

/-- A delivered answer to a challenge is judged (06 R219-R222). At the end of a hop's authentication its discovery clears RESET
(04 R145). -/
def Dev.gotAuth (n h : Nat) (d : Dev) : Dev :=
  let key := d.hopKey n h
  let m := (d.port n).mod h
  let denied := d.resOf n h == 4
  let ok := d.resOf n h == 0 && !(key == 0) && ((d.port n).record h).data == m.respond key ((d.port n).challengeOf h)
  let busy := (d.port n).backlog.length + (d.port n).txns.length
  let d := d.judgeAuth n h denied ok
  if d.discovering n h && (d.port n).backlog.length + (d.port n).txns.length == busy then d.queueClrst n h 48 else d

/-- Generation and key that Heartwood drew for the hop's KEYSET. -/
def Port.keyFor (p : Port) (h : Nat) : Nat × Nat := FMap.get (fun _ => (0, 0)) p.newKey h

/-- KEYSET (R223): the module unwraps the key of the frame; a failed tag or a generation not above KEYGEN is DENIED. -/
def execKeyset (port : Nat) (hop : Nat) (tagOk : Bool) (s : State) : Out :=
  ringCmd port (fun d =>
    let x := (d.port port).keyFor hop
    let run : Nat → Module → Reply := fun _ m =>
      if tagOk && decide (m.keygen < x.1) then ({ m with key := x.2, keygen := x.1 } : Module).ok else m.no 4
    d.runMods port false [hop] run) s

/-- An installed key is kept and challenged (06 R222); any other result makes the hop FAILED (13 R461). -/
def Dev.gotKeyset (n h : Nat) (d : Dev) : Dev :=
  if d.resOf n h = 0 then
    let i := 64 * n + h - 1
    let x := (d.port n).keyFor h
    let d := { d with hwd := { d.hwd with keys := FMap.set (fun _ => 0) d.hwd.keys i x.2, gens := FMap.set (fun _ => 0) d.hwd.gens i x.1 } }
    let d := d.moorSecret (.hopKey n h x.1 x.2)
    if d.hwdOk && d.challenges n h then d.sendChallenge n h else d
  else d.setIdentity n h 2

/-- CFGTAG (R216). -/
def execCfgtag (port : Nat) (first : Nat) (last : Nat) (tag : Word) (s : State) : Out :=
  ringCmd port (fun d => d.runMods port false (hopRange first last) (fun _ m => ({ m with tag := tag } : Module).ok)) s

/-- KATO as hop `h` shows it: the string head at hop 1 only (04 R136). -/
def Dev.katoAt (d : Dev) (n h : Nat) : Option Nat := if h = 1 then some (d.port n).head.kato else none

/-- What a configured word should read (06 R217). -/
def Topo.cfgWord (t : Topo) (a : Nat) : Option Word :=
  if a = 11 then some (BitVec.ofNat 32 t.lossto) else if a = 0x11 then some t.inen else if a = 0x12 then some t.aaf
  else if a = 0x20 then some t.diagcfg else none

/-- The words that a delivered RDREG record shows from `a` on differ from the topology's (06 R217 step 3). -/
def Dev.cfgDiffers (d : Dev) (n h a : Nat) : Bool :=
  let b := ((d.port n).record h).data
  (span 0 (b.length / 4)).any (fun i => match d.topo.cfgWord (a + i) with
    | some w => !(BitVec.ofNat 32 (wordAt b i) == w)
    | none => false)

/-- RDREG (R136). -/
def execRdreg (port : Nat) (first : Nat) (last : Nat) (addr : Nat) (count : Nat) (s : State) : Out :=
  ringCmd port (fun d =>
    let k := fun h => d.katoAt port h
    d.runMods port false (hopRange first last) (fun h m => m.rdreg (k h) addr count)) s

/-- A step of a hop's configuration sequence has failed in discovery: the sequence is repeated (06 R218). After three failures the
hop's discovery ends without a challenge, which waits for the tag to match (R221; DESIGN CHOICE, log entry 183). -/
def Dev.cfgRetryDisc (n h : Nat) (d : Dev) : Dev :=
  let d := d.cfgFailed n h
  if d.discovering n h then
    (if FMap.get (fun _ => 0) (d.port n).cfgFails h < 3 then d.reconfigure n h
     else (d.setPort n (fun p => { p with owed := FMap.set (fun _ => false) p.owed h true })).queueClrst n h 48)
  else d

/-- The record of a configuration step comes back (06 R217-R218): OK and, for a read, the words written lead to the next step, and the
last one to authentication in discovery (R221); anything else fails the sequence. -/
def Dev.gotConfig (n h : Nat) (t : Txn) (d : Dev) : Dev :=
  let k := (d.port n).cfgAt h
  if k = 0 ∨ k = 9 then d
  else if d.resOf n h ≠ 0 ∨ (t.code = 0x10 ∧ d.cfgDiffers n h (ofLe (t.req.take 2))) then d.cfgRetryDisc n h
  else if k < 8 then d.cfgSend n h (k + 1)
  else
    let d := d.cfgSend n h 9
    if d.discovering n h then d.challengeHop n h else d

/-- WRREG (R136). -/
def execWrreg (port : Nat) (first : Nat) (last : Nat) (addr : Nat) (words : List Word) (s : State) : Out :=
  ringCmd port (fun d =>
    let k := fun h => d.katoAt port h
    d.runMods port false (hopRange first last) (fun h m => m.wrreg (k h) addr words)) s

/-- CLRST (R134): bits 48 and 49 of the status, and bit 55 for a string head's KAEXP; replay class: a stored record clears nothing again
(R147). -/
def execClrst (port : Nat) (first : Nat) (last : Nat) (mask : BitVec 64) (s : State) : Out :=
  ringCmd port (fun d =>
    let m := mask &&& 0x0003000000000000#64
    let seen := d.port port
    let reached := decide (wireHop seen.frame.dirB (d.ringL port) 1 ≤ seen.reach) && !seen.hdrBad.contains 1 && !seen.payBad.contains 1
      && (((seen.mod 1).stored true seen.flying).isNone)
    let d := d.runMods port true (hopRange first last) (fun _ x => ({ x with status := x.status &&& ~~~m } : Module).ok)
    if mask.getLsbD 55 ∧ first ≤ 1 ∧ 1 ≤ last ∧ reached then
      d.setPort port (fun p => { p with head := { p.head.expire d.time.now with kaexp := false } })
    else d) s

/-- BAL (R204): `timers` holds the entries from hop `first`; a non-zero [15:12] is BADARG. The record returns the timers replaced. -/
def execBalMod (port : Nat) (first : Nat) (timers : List (List Nat)) (s : State) : Out :=
  ringCmd port (fun d =>
    d.runMods port false (span first timers.length) (fun h m =>
      let e := padTo 16 0 (timers.getD (h - first) [])
      if e.any (fun t => decide (4095 < t)) then m.no 2
      else (({ m with timers := e.map (· * 10000000000), timersT := d.time.now, nBal := min (m.nBal + 1) 0xFFFFFFFF } : Module).withBal, 0,
        (padTo 16 0 m.timers).flatMap (fun t => leBytes 2 ((t + 9999999999) / 10000000000))))) s

/-- The data of a BALTEST record: the last completed test (06 R208). -/
def Module.testData (m : Module) : List Nat := (padTo 16 (-32768) m.btest).flatMap (fun x => leBytes 2 (toU 16 x))

/-- A BALTEST entry is malformed (06 R208). -/
def badTest (e : Word) : Bool :=
  let mask := e.field 15 0
  let dwell := e.field 23 16
  !(mask &&& (mask / 2) == 0) || decide (dwell = 0) || decide (50 < dwell) || !(e.field 31 25 == 0)

/-- When the module that executes a BALTEST now starts its test (06 R209): at once if it ends 250 µs before the S that the last two
predict, else after the next sample. With fewer than two S to predict from it starts at once (DESIGN CHOICE, log entry 184). -/
def Dev.testStart (d : Dev) (dwell : Nat) : Option Nat :=
  match d.cnpy.tinsts with
  | a :: b :: _ => if d.time.now + 100000 * dwell + 250000 ≤ 2 * a - b - 32000 then some d.time.now else none
  | _ => some d.time.now

/-- BALTEST_START (R208-R209): `shifts` are the shifts of the 16 cells of each hop that the test will measure; cells not selected read
0x8000. A test that runs makes another one BUSY. -/
def execBaltestStart (port : Nat) (first : Nat) (entries : List Word) (shifts : List (List Int)) (s : State) : Out :=
  ringCmd port (fun d =>
    d.runMods port false (span first entries.length) (fun h m =>
      let e := entries.getD (h - first) 0
      if badTest e then (m, 2, m.testData)
      else if e.bit 24 then
        if m.test.isSome then (m, 3, m.testData) else
        let r := (List.range 16).map (fun c => if e.bit c then (shifts.getD (h - first) []).getD c 0 else -32768)
        ({ m with test := some { start := d.testStart (e.field 23 16), dwell := e.field 23 16, mask := e.field 15 0, res := r } }, 0, m.testData)
      else (m, 0, m.testData))) s

/-- A hop's entry in the BALTEST frame that is out, if one is (06 R208). -/
def Port.testEntry (p : Port) (h : Nat) : Option Word :=
  p.flying.bind (fun t => if t.code = 0x21 then some (BitVec.ofNat 32 (wordAt (t.req.drop (4 * (h - t.first))) 0)) else none)

/-- BALTEST_READ (R208): the results of the last completed test, with BADARG for a malformed entry of the frame too. -/
def execBaltestRead (port : Nat) (first : Nat) (last : Nat) (s : State) : Out :=
  ringCmd port (fun d =>
    let bad := fun (h : Nat) => match (d.port port).testEntry h with | none => false | some e => badTest e
    d.runMods port false (hopRange first last) (fun h m => (m, if bad h then 2 else 0, m.testData))) s

/-- The signed 16-bit values of a record's data. -/
def shiftsOf (b : List Nat) : List Int := (List.range 16).map (fun c => sextB 16 (ofLe ((b.drop (2 * c)).take 2)))

/-- A delivered BALTEST record (06 R210): of a START, or of the read of results. A START that is refused ends the test as not run. -/
def Dev.gotTest (n h : Nat) (t : Txn) (d : Dev) : Dev :=
  let e : Word := BitVec.ofNat 32 (ofLe t.req)
  if e.bit 24 then (if d.resOf n h = 0 then d.passStarted n h (e.field 15 0) else d.setTest n h none)
  else if d.resOf n h = 0 then d.testRead n h (shiftsOf ((d.port n).record h).data) else d

/-- A BURST entry on a module (09 R318): reference cell − 1 in [3:0], OP in [5:4], the other bits 0. A FREEZE needs a module armed on
the same cell: a frozen capture that is complete is armed no longer. -/
def Module.burstOp (e : Word) (m : Module) : Reply :=
  let cell := e.field 3 0
  let op := e.field 5 4
  if m.ver = 2 then m.no 1
  else if op = 3 ∨ ¬(e.field 31 6 = 0) then m.no 2
  else if op = 0 then ({ m with burst := some (cell, 0), burstReady := false, hides := [], capture := [] } : Module).ok
  else if op = 1 then
    match m.burst with
    | none => m.no 4
    | some (c, ph) =>
      if c ≠ cell ∨ m.burstReady then m.no 4 else if ph = 1 then m.ok else ({ m with burst := some (c, 1), burstReady := false, frzT := m.timersT } : Module).ok
  else ({ m with burst := none, burstReady := false, hides := [], capture := [] } : Module).ok

/-- BURST entries at hops from `first` on. -/
def burstAll (port first : Nat) (es : List Word) (s : State) : Out :=
  ringCmd port (fun d => d.runMods port true (span first es.length) (fun h m => m.burstOp (es.getD (h - first) 0))) s

/-- The entry of an OP on a reference cell; a cell beyond the field's range sets the bits above it. -/
def burstEntry (op cell : Nat) : Word :=
  BitVec.ofNat 32 (cell % 16 + 16 * op + 64 * (cell / 16))

/-- BURST_ARM (R318). -/
def execBurstArm (port : Nat) (first : Nat) (cells : List Nat) (s : State) : Out := burstAll port first (cells.map (burstEntry 0)) s

/-- BURST_FREEZE (R318). -/
def execBurstFreeze (port : Nat) (first : Nat) (cells : List Nat) (s : State) : Out := burstAll port first (cells.map (burstEntry 1)) s

/-- BURST_DISARM (R318). -/
def execBurstDisarm (port : Nat) (first : Nat) (last : Nat) (s : State) : Out :=
  burstAll port first ((hopRange first last).map (fun _ => burstEntry 2 0)) s

/-- A burst block of 250 samples placed at its index (09 R319). -/
def placeBlock (old : List Nat) (b : Nat) (x : List Nat) : List Nat :=
  let o := padTo 1000 0xFFFF old
  o.take (250 * b) ++ padTo 250 0xFFFF x ++ o.drop (250 * b + 250)

/-- Sample `i` of a module's capture was hidden (09 R318): index 500 is the first instant of `insts` (newest first) after the FREEZE. No check
or bleed coincides with the sample of an instant itself (06 R205, R212). -/
def Module.hiddenAt (insts : List Nat) (m : Module) (i : Nat) : Bool :=
  let t0 := ((insts.filter (fun t => decide (m.frzT ≤ t))).getLast?).getD m.frzT
  let t := t0 + 100000 * i - 50000000
  let inst := insts.any (fun u => decide (u < t + 50000) && decide (t < u + 50000))
  !inst && ((m.hides.find? (fun p => decide (p.1 ≤ t))).map (·.2)).getD false

/-- BURSTRD of a held capture: a block's samples as they were recorded. They enter the model with the first read of the block, and the module holds
them from then on (DESIGN CHOICE, log entry 198). -/
def Module.readBurst (insts : List Nat) (block : Nat) (raw : List Nat) (m : Module) : Reply :=
  let old := FMap.get (fun _ => []) m.capture block
  let new := ((List.range 250).zip (padTo 250 0xFFFF raw)).map (fun p => if m.hiddenAt insts (250 * block + p.1) then 0xFFFF else p.2 % 65536)
  let x := if old = [] then new else old
  ({ m with capture := FMap.set (fun _ => []) m.capture block x }, 0, x.flatMap (leBytes 2))

/-- BURSTRD (R319): `samples` are the module's captured samples of the block, with 0xFFFF where R318 writes it. -/
def execBurstrd (port : Nat) (first : Nat) (last : Nat) (block : Nat) (samples : List (List Nat)) (s : State) : Out :=
  ringCmd port (fun d =>
    let run : Nat → Module → Reply := fun h m =>
      if m.ver = 2 then m.no 1
      else if 3 < block then m.no 2
      else match m.burst with
        | some (_, 1) =>
          if m.burstReady then m.readBurst d.cnpy.tinsts block (samples.getD (h - first) []) else m.no 3
        | _ => m.no 4
    d.runMods port false (hopRange first last) run) s

/-- A delivered block of burst samples (09 R319-R321). -/
def Dev.gotBurst (n h block : Nat) (d : Dev) : Dev :=
  if d.resOf n h = 0 then
    let i := 64 * n + h - 1
    let b := ((d.port n).record h).data
    let x := (List.range 250).map (fun k => ofLe ((b.drop (2 * k)).take 2))
    { d with cnpy := { d.cnpy with bursts := FMap.upd (fun _ => []) d.cnpy.bursts i (fun o => placeBlock o block x) } }
  else d

/-- A delivered BURST record (09 R320): a module that took a FREEZE freezes at the first instant after the frame's return. -/
def Dev.gotFreeze (n h : Nat) (t : Txn) (d : Dev) : Dev :=
  if t.req.headD 0 / 16 % 4 = 1 ∧ d.resOf n h = 0 then
    { d with cnpy := { d.cnpy with frzHop := FMap.set (fun _ => 0) d.cnpy.frzHop (64 * n + h - 1) ((d.scan + 1) % 2 ^ 32) } }
  else d

/-- A DIAG record of a status bit (06 R215, 15 R532): pages 0x00 and 0x01 in three continuations. -/
def Dev.diagRec (n h bit : Nat) (p0 p1 : List Nat) (d : Dev) : Dev :=
  let b := padTo 66 0 (padTo 32 0 p0 ++ padTo 32 0 p1)
  d.logRec 9 222 [n, h, bit, 0, 0, 0, 0, 0] [b.take 22, (b.drop 22).take 22, b.drop 44]

/-- A diagnostic page that R215 asked for arrives: page 0x00 is kept, page 0x01 completes the records. -/
def Dev.diagPage (n h page : Nat) (data : List Nat) (d : Dev) : Dev :=
  let pend := FMap.get (fun _ => 0) (d.port n).diagPend h
  if pend = 0 then d
  else if page = 0 then d.setPort n (fun p => { p with diagPage := FMap.set (fun _ => []) p.diagPage h data })
  else if page = 1 then
    let p0 := FMap.get (fun _ => []) (d.port n).diagPage h
    let d := foldOver (bitsOf 64 pend) (fun b d => d.diagRec n h b p0 data) d
    d.setPort n (fun p => { p with diagPend := FMap.set (fun _ => 0) p.diagPend h 0, diagPage := FMap.set (fun _ => []) p.diagPage h [] })
  else d

/-- What a module answers as a page (06 R214): `data` gives what it measured; the bytes that the table sets to 0 are 0, and page 0x03
holds its counters. -/
def Module.page (page : Nat) (data : List Nat) (m : Module) : List Nat :=
  if page = 0 then padTo 32 0 (data.take 5)
  else if page = 2 then padTo 32 0 (data.take 16)
  else if page = 3 then padTo 32 0 (leBytes 4 m.nReset ++ leBytes 4 m.nLoss ++ leBytes 4 m.nAuth ++ leBytes 4 m.nBal)
  else padTo 32 0 (data.take 32)

/-- DIAGRD (R214): pages 0x00-0x03, and 0x80-0xFF of the vendor; a page number of 0x100 or above is BADARG (DESIGN CHOICE, log entry
159: the table ends at 0xFF). -/
def execDiagrd (port : Nat) (first : Nat) (last : Nat) (page : Nat) (data : List (List Nat)) (s : State) : Out :=
  ringCmd port (fun d =>
    let ok := decide (page < 4) || (decide (0x80 ≤ page) && decide (page < 0x100))
    d.runMods port false (hopRange first last) (fun h m =>
      if ok then (m, 0, m.page page (data.getD (h - first) [])) else m.no 2)) s

/-- ECHO (R134): the ERRCNT word. -/
def execEchoMod (port : Nat) (first : Nat) (last : Nat) (s : State) : Out :=
  ringCmd port (fun d =>
    d.runMods port false (hopRange first last) (fun _ m => (m, 0, leBytes 2 m.errHdr ++ leBytes 2 m.errPay))) s

end Sys2Proof.Machine
end

