-- ==== Sys2Proof/Machine/Head.lean ====
section
/-! DEFINITION. The string head: HDCMD with its stored record, the head commands, HDSTAT and HDCFG (04 R129, R149-R150,
10 R358-R359). -/

namespace Sys2Proof.Machine
open Sys2Proof

/-- CTFB (04 R129). -/
def Head.ctfb (h : Head) : Nat :=
  b2n h.coilPre * 64 + b2n h.coilN * 32 + b2n h.coilP * 16 + b2n h.conPre * 4 + b2n h.conN * 2 + b2n h.conP

/-- The keep-alive time that remains at `now`, in ms (04 R129, R150): the timer does not run while KAARM is 0. -/
def Head.left (now : Nat) (h : Head) : Nat := if h.armed then h.kato - (now - h.kaT) / 1000000 else h.kato

/-- The head block, bytes 0-11, at `now` (04 R129). -/
def Head.block (now : Nat) (h : Head) : List Nat :=
  leBytes 4 (toU 32 h.istr) ++ leBytes 2 h.ctfb ++ leBytes 2 ((h.hstat &&& 0x1C) + 2 * b2n h.kaexp + b2n h.armed)
    ++ [h.lastSeq.getD 0, min (h.left now) 255, 0, 0]

/-- Keep-alive frames are arriving (04 R150): one came within KATO. DEDUCED, log entry 160. -/
def Head.hears (now : Nat) (h : Head) : Bool :=
  match h.kaSeen with
  | none => false
  | some t => decide (now < t + 1000000 * h.kato)

/-- A head's judgement of a command code (10 R359, 04 R150): the result. After an expiry no close command is taken until KAEXP is
cleared and keep-alive frames arrive. -/
def Head.judge (now : Nat) (h : Head) (cmd : Nat) : Nat :=
  let shut := h.kaexp || (h.kaWait && !h.hears now)
  if cmd = 0 ∨ cmd = 4 ∨ cmd = 8 ∨ cmd = 9 then 0
  else if cmd = 1 then (if shut then 4 else 0)
  else if cmd = 2 then (if shut ∨ h.conN = false then 4 else 0)
  else if cmd = 3 then (if shut ∨ h.conN = false ∨ h.conPre = false then 4 else 0)
  else 2

/-- The coils after an accepted command (10 R359). OPEN drops the negative coil 20 ms later. -/
def Head.act (now cmd : Nat) (h : Head) : Head :=
  let g := if cmd = 1 then { h with coilN := true, negOff := none }
    else if cmd = 2 then { h with coilPre := true, preT := if h.coilPre then h.preT else now }
    else if cmd = 3 then { h with coilP := true } else if cmd = 4 then { h with coilPre := false }
    else if cmd = 8 then { h with coilP := false, coilPre := false, negOff := if h.coilN then some (now + 20000000) else none }
    else if cmd = 9 then { h with coilP := false, coilN := false, coilPre := false, negOff := none } else h
  if g.armed && !h.armed then { g with karem := g.kato, kaT := now, kaWait := false } else g

/-- One HDCMD at the head (04 R149): a repeated SEQ returns the stored record. -/
def Head.command (now cmd seq : Nat) (h0 : Head) : Head × Rec :=
  let h := h0.expire now
  if h.lastSeq = some seq then (h, { h.stored with replay := true })
  else
    let res := h.judge now cmd
    let g := { (if res = 0 then h.act now cmd else h) with lastSeq := some seq }
    let r : Rec := { res := res, data := g.block now, hop := 1 }
    ({ g with stored := r }, r)

/-- Hop `h` is a string head (04 R134, R149): ENUM showed KIND 1, or it is hop 1 and ENUM has not run. -/
def Port.isHead (p : Port) (h : Nat) : Bool :=
  match (p.mod h).ident with
  | none => h == 1
  | some i => i.kind == 1

/-- On a ring of `l` modules, a head command's frame does not reach hop 1's head with correct CRCs. -/
def Port.headDeaf (l : Nat) (p : Port) : Bool :=
  decide (p.reach < wireHop p.frame.dirB l 1) || p.hdrBad.contains 1 || p.payBad.contains 1 || !p.isHead 1

/-- A failed CONNECT sends OPEN to the head (10 R360). -/
def Dev.failStr (n res : Nat) (d : Dev) : Dev := if (d.strSeq n).code = 0 then d else (d.endStr n res).sendOpen n 0x08

/-- A head that refuses a command of the running CONNECT, or returns no record of it, ends it with HEADERR (10 R348, R360). -/
def Dev.headAnswer (n : Nat) (refused : Bool) (d : Dev) : Dev :=
  if refused ∧ (d.strSeq n).code = 1 ∧ (d.strSeq n).step < 6 then d.failStr n 19 else d

/-- A head command over port `n` (04 R149). A module that is no string head answers UNSUPPORTED (R134). -/
def headCmdAt (n cmd seq : Nat) (s : State) : Out :=
  ringCmd n (fun d =>
    if (d.port n).headDeaf (d.ringL n) then d.runMods n false [1] (fun _ m => m.no 1) else
    let r := (d.port n).head.command d.time.now cmd seq
    d.setPort n (fun p => { p with head := r.1, records := FMap.set (fun _ => {}) p.records 1 r.2 })) s

/-- NOP (R359). -/
def execHeadNop (port : Nat) (seq : Nat) (s : State) : Out := headCmdAt port 0 seq s

/-- NEGCLOSE (R359). -/
def execHeadNegClose (port : Nat) (seq : Nat) (s : State) : Out := headCmdAt port 1 seq s

/-- PRECLOSE (R359). -/
def execHeadPreClose (port : Nat) (seq : Nat) (s : State) : Out := headCmdAt port 2 seq s

/-- POSCLOSE (R359). -/
def execHeadPosClose (port : Nat) (seq : Nat) (s : State) : Out := headCmdAt port 3 seq s

/-- PREOPEN (R359). -/
def execHeadPreOpen (port : Nat) (seq : Nat) (s : State) : Out := headCmdAt port 4 seq s

/-- HEAD_OPEN (R359). -/
def execHeadOpen (port : Nat) (seq : Nat) (s : State) : Out := headCmdAt port 8 seq s

/-- OPENALL (R359). -/
def execHeadOpenAll (port : Nat) (seq : Nat) (s : State) : Out := headCmdAt port 9 seq s

/-- HDSTAT (R134): the head block; a module that is no string head answers UNSUPPORTED. -/
def execHdstat (port : Nat) (first : Nat) (last : Nat) (s : State) : Out :=
  ringCmd port (fun d0 =>
    let d := d0.setPort port (fun p => { p with head := p.head.expire d0.time.now })
    let p := d.port port
    d.runMods port false (hopRange first last) (fun h m => if p.isHead h then (m, 0, p.head.block d.time.now) else m.no 1)) s

/-- HDCFG (R150): 20-200 ms, else BADARG; a module that is no string head answers UNSUPPORTED (R134). -/
def execHdcfg (port : Nat) (kato : Nat) (s : State) : Out :=
  ringCmd port (fun d =>
    if (d.port port).headDeaf (d.ringL port) then d.runMods port false [1] (fun _ m => m.no 1) else
    let ok := decide (20 ≤ kato) && decide (kato ≤ 200)
    let d := if ok then d.setPort port (fun p => { p with head := { p.head.expire d.time.now with kato := kato } }) else d
    d.runMods port false [1] (fun _ m => if ok then m.ok else m.no 2)) s

end Sys2Proof.Machine
end

