-- ==== Sys2Proof/Machine/RingBack.lean ====
section
/-! DEFINITION. Returned and lost command frames: delivery codes, retries, the ends of transactions, records exchanged with the other
twin, and what the device does with its own records (04 R141, R145-R148, 02 R73-R75). -/

namespace Sys2Proof.Machine
open Sys2Proof

/-- A record arrived from its own hop with a correct CRC. -/
def Port.arrived (p : Port) (good : List Nat) (h : Nat) : Bool := good.contains h && (p.record h).hop == h

/-- The hops of a frame that have no settled record yet. -/
def Txn.open_ (t : Txn) : List Nat :=
  (span t.lo (t.hi + 1 - t.lo)).filter (fun h => !(t.recs.any (fun r => r.1 == h)) && !t.away.contains h)

/-- A result that the port retries (04 R133): BUSY and BADCRC, and BADARG of a SETTURN in discovery (R145 step 3). -/
def retried (code res : Nat) : Bool := res == 3 || res == 5 || (code == 0x06 && res == 2)

/-- The delivery codes that a returned frame settles (04 R146), with `wire` the wire hop of a commissioned one; `last` settles every
hop. -/
def Port.settle (p : Port) (t : Txn) (wire : Nat → Nat) (reached : Nat) (good : List Nat) (last : Bool) : List (Nat × Nat) :=
  t.open_.filterMap (fun h =>
    if reached < wire h then some (h, 2)
    else if p.arrived good h then
      (if retried t.code (p.record h).res ∧ last = false then none else some (h, 0))
    else if last then some (h, 1) else none)

/-- The bytes that settled records write into a task's buffer (04 R146), on a ring of `l` modules. -/
def Port.recordArea (p : Port) (t : Txn) (l seed : Nat) (c : Nat × Nat) : List Byte :=
  if c.2 = 0 then toBytes (recordBytes t.recLen (wireHop p.frame.dirB l c.1) (p.record c.1) 0)
  else undefBytes (1000 * seed + c.1) (t.recLen - 2) ++ toBytes (leBytes 2 c.2)

/-- Write settled records into a task's buffer. -/
def writeRecords (p : Port) (t : Txn) (l seed : Nat) (cs : List (Nat × Nat)) (m : FMap Byte) : FMap Byte :=
  if t.holder = 0 then m
  else foldOver cs (fun c m => writeBytes (t.bufAddr + t.recLen * (c.1 - t.first)) (p.recordArea t l seed c) m) m

/-- Settled records as they go over Mooring: hop, delivery code, bytes. -/
def Dev.recordList (d : Dev) (n recLen : Nat) (recs : List (Nat × Nat)) : List (Nat × Nat × List Nat) :=
  let p := d.port n
  recs.map (fun c => (c.1, c.2, recordBytes recLen (wireHop p.frame.dirB (d.ringL n) c.1) (p.record c.1) c.2))

/-- The records of a handed-over transaction go back to the twin that issued it (04 R141). -/
def Dev.giveBack (n tag : Nat) (recs : List (Nat × Nat)) (recLen : Nat) (d : Dev) : Dev :=
  d.moorSend (.txnRecs n tag (d.recordList n recLen recs))

/-- A transaction has ended at this end: the frame passed the other twin, which completes its own copy (01 R33; DEDUCED, log entry 178).
Discovery and ranging are each twin's own. -/
def Dev.tellPassed (n : Nat) (t : Txn) (recs : List (Nat × Nat)) (d : Dev) : Dev :=
  if t.holder = 0 ∧ t.code ≤ 4 then d
  else d.moorSend (.passed n t.tag t.code t.first t.last t.req t.recLen (d.recordList n t.recLen recs))

/-- A transaction of the device's own with no record delivered: an undelivered challenge is issued again (06 R220), an undelivered KEYSET
makes the hop FAILED (R222), an undelivered configuration step fails its sequence (R218), and an undelivered test counts as not run
(R210). -/
def Dev.undelivered (n : Nat) (t : Txn) (d : Dev) : Dev :=
  if t.code = 0x08 then foldOver (hopRange t.first t.last) (fun h d => if d.challenges n h then d.sendChallenge n h else d) d
  else if t.code = 0x09 then d.setIdentity n t.first 2
  else if t.code = 0x21 then d.setTest n t.first none
  else if t.code = 0x50 then d.headAnswer n true
  else if (t.code = 0x0A ∨ t.code = 0x10 ∨ t.code = 0x11) ∧ ¬((d.port n).cfgAt t.first = 0) ∧ ¬((d.port n).cfgAt t.first = 9) then
    d.cfgRetryDisc n t.first
  else d

/-- What the device does with the record of hop `h`, delivered for a transaction of its own (04 R142-R145, 06 R210-R222, 09 R321). -/
def Dev.gotRecord (n : Nat) (t : Txn) (h : Nat) (d : Dev) : Dev :=
  if t.code = 0x05 then (if d.discovering n h && d.authority then d.reconfigure n h else d)
  else if t.code = 0x06 then (if t.req.headD 1 = 0 ∧ d.resOf n h = 0 then d.rangeRing n else d)
  else if t.code = 0x08 then d.gotAuth n h
  else if t.code = 0x09 then d.gotKeyset n h
  else if t.code = 0x0A ∨ t.code = 0x10 ∨ t.code = 0x11 then d.gotConfig n h t
  else if t.code = 0x12 then (if d.discovering n h && (ofLe t.req).testBit 48 then d.discDone n h else d)
  else if t.code = 0x21 then d.gotTest n h t
  else if t.code = 0x30 then d.gotFreeze n h t
  else if t.code = 0x31 then d.gotBurst n h (t.req.headD 0)
  else if t.code = 0x50 then d.headAnswer n (!(d.resOf n h == 0))
  else if t.code = 0x40 then d.diagPage n h (t.req.headD 0) ((d.port n).record h).data
  else d

/-- The records that a frame delivered to the device's own transaction; the counts of RDRANGE lead to one SETDLY (05 R161-R162), and
on the twin that only repeats the steps of a discovery they end it (04 R145 step 3). -/
def Dev.gotRecords (n : Nat) (t : Txn) (cs : List (Nat × Nat)) (d : Dev) : Dev :=
  let hops := (cs.filter (fun c => c.2 == 0)).map (·.1)
  if ¬(t.holder = 0) ∨ t.origin.isSome ∨ hops = [] then d
  else if t.code = 0x03 then
    let d := d.gotCounts n (hops.foldl min (hops.headD 1)) (hops.foldl max 0)
    if d.authority then d else foldOver hops (fun h d => if d.discovering n h then d.discDone n h else d) d
  else foldOver hops (fun h d => d.gotRecord n t h) d

/-- A transaction ends with the codes `recs` (04 R141, R146): FAILED when no record was delivered. The device's own free their tag; an
undelivered challenge is issued again (06 R220). -/
def Dev.endTxn (n : Nat) (t : Txn) (recs : List (Nat × Nat)) (d : Dev) : Dev :=
  let st := if recs.any (fun r => r.2 == 0) then 2 else 3
  let d := d.raiseIf (recs.any (fun r => r.2 == 1)) (33 + 2 * n) n
  match t.origin with
  | some tag => (d.giveBack n tag recs t.recLen).setPort n (fun p => p.freeDev t.tag)
  | none =>
  if ¬(t.away = []) then d.setPort n (fun p => p.mapTag t.tag (fun t => { t with st := 4, recs := recs }))
  else
  let d := d.tellPassed n t recs
  if t.holder = 0 then (if st = 3 then (d.setPort n (fun p => p.freeDev t.tag)).undelivered n t else d.setPort n (fun p => p.freeDev t.tag))
  else if d.orphan t then d.setPort n (fun p => p.dropTag t.tag)
  else d.setPort n (fun p => p.mapTag t.tag (fun t => { t with st := st, recs := recs }))

/-- A transaction waits for its retry over the smallest range that holds the open hops (04 R146). -/
def Dev.retryTxn (n : Nat) (t : Txn) (recs : List (Nat × Nat)) (left : List Nat) (d : Dev) : Dev :=
  let lo := left.foldl min (left.headD t.lo)
  let hi := left.foldl max 0
  d.setPort n (fun p => p.mapTag t.tag (fun t => { t with st := 0, retries := t.retries + 1, lo := lo, hi := hi, recs := recs }))

/-- The port gives up after this frame: three retries made, or a replay-class command to a v2 module (04 R146). -/
def Port.lastTry (p : Port) (t : Txn) : Bool :=
  decide (3 ≤ t.retries) || (replayClass t.code && t.open_.any (fun h => (p.mod h).ver == 2))

/-- Count `k` failed CRCs of ring n (04 R156). -/
def Dev.crcErrors (n k : Nat) (d : Dev) : Dev := foldOver (List.range k) (fun _ d => d.bump (A.ringCrcerr n) (A.ringOvf n) 0) d

/-- The hops whose record echoes another hop than their own (04 R133, R145). -/
def Port.echoes (p : Port) (echo : List (Nat × Nat)) : Port :=
  foldOver echo (fun x p => { p with records := FMap.upd (fun _ => {}) p.records x.1 (fun r => { r with echo := x.2 }) }) p

/-- A returned command frame (04 R145-R147). -/
def State.frameBack (n reached : Nat) (good : List Nat) (echo : List (Nat × Nat)) (s : State) : State :=
  let p := (s.dev.port n).echoes echo
  let l := s.dev.ringL n
  match p.flying with
  | none => s
  | some t =>
    let cs := p.settle t (wireHop p.frame.dirB l) reached good (p.lastTry t)
    let recs := t.recs ++ cs
    let left := t.open_.filter (fun h => !(cs.any (fun c => c.1 == h)))
    let bad := ((span t.lo (t.hi + 1 - t.lo)).filter (fun h => !(good.contains h))).length
    let moved := t.open_.filter (fun h => good.contains h && !((p.record h).echo == 0) && !((p.record h).echo == wireHop p.frame.dirB l h))
    let d := (s.dev.setPort n (fun _ => { p.landed s.dev.time.now with lostRun := 0 })).crcErrors n bad
    let d := (if left = [] then d.endTxn n t recs else d.retryTxn n t recs left).gotRecords n t cs
    let d := if moved = [] then d else d.discover n (moved.headD 1) (moved.getLastD 1)
    { s with dev := (d.takeFree).cleanPoison t.bufAddr (if t.holder = 0 then 0 else t.recLen * (t.last + 1 - t.first)),
             mem := writeRecords p t l s.dev.freeCnt cs s.mem }

/-- FRAME_RETURN (R146): `reached` modules were passed and the records of hops `good` arrived with a correct CRC; `echo` gives the hop
that a record echoes where it is another than its own. -/
def execFrameReturn (port : Nat) (reached : Nat) (good : List Nat) (echo : List (Nat × Nat)) (s : State) : Out :=
  present (decide (port < s.dev.rings)) (s.frameBack port reached good echo)

/-- A frame of the port is lost (04 R148, R156): counted, event 33 + 2n; eight in a row are a link fault. -/
def Dev.countLost (n : Nat) (d : Dev) : Dev :=
  let k := (d.port n).lostRun + 1
  let d := (d.bump (A.ringLost n) (A.ringOvf n) 2).raise (33 + 2 * n) n
  let d := d.setPort n (fun p => { p with lostRun := if k < 8 then k else 0 })
  if k < 8 then d else (d.discoverRing n).ringEvent n true

/-- A lost frame (04 R146, R148): counted, retried over its whole range. With no command frame out it is the scan frame of a ring that
carries them or a KEEP frame, which is not repeated. -/
def State.frameGone (n : Nat) (s : State) : State :=
  let p := s.dev.port n
  match p.flying with
  | none => if s.dev.scans n || (s.dev.launches n && p.frame.type == 3) then s.onDev (fun d => (d.setPort n (fun p => { p with scanOut := false })).countLost n) else s
  | some t =>
    let last := p.lastTry t
    let cs := if last then t.open_.map (fun h => (h, 1)) else []
    let d := if last then s.dev.endTxn n t (t.recs ++ cs) else s.dev.retryTxn n t t.recs t.open_
    let d := (d.setPort n (Port.landed s.dev.time.now)).countLost n
    { s with dev := (d.takeFree).cleanPoison t.bufAddr (if t.holder = 0 ∨ cs = [] then 0 else t.recLen * (t.last + 1 - t.first)),
             mem := writeRecords p t (s.dev.ringL n) s.dev.freeCnt cs s.mem }

/-- FRAME_LOST (R146). -/
def execFrameLost (port : Nat) (s : State) : Out := present (decide (port < s.dev.rings)) (s.frameGone port)

/-- A record as its bytes show it (04 R133). -/
def recOf (recLen hop : Nat) (b : List Nat) : Rec :=
  { res := b.headD 0, replay := (b.getD 1 0).testBit 0, data := (b.drop 2).take (recLen - 4), hop := hop, echo := b.getD 1 0 / 2 % 64 + 1 }

/-- Records of the other half come back over Mooring (04 R141): a task's buffer takes them, the device's own are judged, and with no
hop left the transaction ends. -/
def State.takeRecs (n tag : Nat) (rs : List (Nat × Nat × List Nat)) (s : State) : State :=
  match (s.dev.port n).txns.find? (fun t => t.tag == tag && !(t.away == [])) with
  | none => s
  | some t =>
    let cs := (rs.filter (fun r => t.away.contains r.1)).map (fun r => (r.1, r.2.1))
    let put := fun (r : Nat × Nat × List Nat) (p : Port) =>
      { p with records := FMap.set (fun _ => {}) p.records r.1 (recOf t.recLen r.1 r.2.2) }
    let d := s.dev.setPort n (fun p => (foldOver rs put p).mapTag tag (fun t => { t with away := [], recs := t.recs ++ cs }))
    let u := { t with away := [], recs := t.recs ++ cs }
    let d := (if t.st = 4 then d.endTxn n u u.recs else d).gotRecords n t cs
    { s with dev := d.takeFree.cleanPoison t.bufAddr (if t.holder = 0 then 0 else t.recLen * (t.last + 1 - t.first)),
             mem := writeRecords (d.port n) t (d.ringL n) s.dev.freeCnt cs s.mem }

/-- A transaction of the same content as the one whose frame passed leaves the device's queue. -/
def Port.dropPassed (code first last : Nat) (p : Port) : Port :=
  let same : Txn → Bool := fun t => t.holder == 0 && t.origin.isNone && t.code == code && t.first == first && t.last == last
  match p.txns.find? same with
  | some t => p.freeDev t.tag
  | none =>
    match p.backlog.find? same with
    | none => p
    | some t => { p with backlog := p.backlog.erase t }

/-- A transaction has ended at the other end (01 R33; DEDUCED, log entry 178): a task's copy takes its records, and for one of the
device's own the device does what the records lead to. -/
def State.takePassed (n tag code first last : Nat) (req : List Nat) (recLen : Nat) (rs : List (Nat × Nat × List Nat)) (s : State) : State :=
  let kept := (s.dev.port n).records
  let cs := rs.map (fun r => (r.1, r.2.1))
  let put := fun (r : Nat × Nat × List Nat) (p : Port) =>
    { p with records := FMap.set (fun _ => {}) p.records r.1 (recOf recLen r.1 r.2.2) }
  let d := s.dev.setPort n (fun p => foldOver rs put { p with records := [] })
  let back := fun (d : Dev) => d.setPort n (fun p => { p with records := kept })
  let st := if cs.any (fun c => c.2 == 0) then 2 else 3
  if 64 ≤ tag then
    match d.port n |>.txns.find? (fun t => t.tag == tag && decide (t.st < 2)) with
    | none => { s with dev := back d }
    | some t =>
      let e := if d.orphan t then d.setPort n (fun p => p.dropTag tag) else d.setPort n (fun p => p.mapTag tag (fun t => { t with st := st, recs := cs }))
      { s with dev := (back e).takeFree.cleanPoison t.bufAddr (t.recLen * (t.last + 1 - t.first)),
               mem := writeRecords (d.port n) t (d.ringL n) s.dev.freeCnt cs s.mem }
  else
    let t : Txn := { tag := tag, holder := 0, code := code, first := first, last := last, req := req, recLen := recLen, lo := first, hi := last }
    let d := d.setPort n (fun p => p.dropPassed code first last)
    let d := if code = 0x08 then foldOver (hopRange first last) (fun h d =>
        d.setPort n (fun p => { p with challenge := FMap.set (fun _ => []) p.challenge h ((req.drop (16 * (h - first))).take 16) })) d
      else d
    let d := if code = 0x05 then foldOver ((cs.filter (fun c => c.2 == 0)).map (·.1)) (fun h d =>
        d.setReg (A.ringDly n h) (BitVec.ofNat 32 (ofLe ((req.drop (4 * (h - first))).take 4)))) d
      else d
    let fresh := if code = 0x09 then
        (if d.resOf n first = 0 ∧ st = 2 then d else d.setIdentity n first 2)
      else if st = 3 then d.undelivered n t else d.gotRecords n t cs
    { s with dev := back fresh }

/-- A transaction that the other twin hands over joins the device's own (04 R141). -/
def Dev.takeTxn (n tag code first last : Nat) (req : List Nat) (recLen : Nat) (d : Dev) : Dev :=
  let t : Txn := { tag := 0, holder := 0, code := code, first := first, last := last, req := req, recLen := recLen,
                   lo := first, hi := last, origin := some tag }
  d.setPort n (fun p => match freeTag 0 64 p.txns with
    | none => { p with backlog := p.backlog ++ [t] }
    | some g => { p with txns := insertDev { t with tag := g } p.txns })

end Sys2Proof.Machine
end

