-- ==== Sys2Proof/Machine/CanopyMath.lean ====
section
/-! DEFINITION. The cell model and filter of Canopy in its number formats (08 R266-R274, R294, 09 R326). Where R267 leaves an
intermediate format open, the model keeps exact products and rounds once to the result's format (log entry 13). -/

namespace Sys2Proof.Machine
open Sys2Proof

/-- 2^30, the Q2.30 one. -/
def oneZ : Int := 1073741824

/-- A quotient as UQ4.28, at most the format's largest value (08 R266, R271). -/
def uq28 (n d : Int) : Nat := if d = 0 then (if n = 0 then 0 else 2 ^ 32 - 1) else (clampI 0 (2 ^ 32 - 1) (rndDiv n d)).toNat

/-- The interval of a scan header in UQ4.28, at most 2 s (08 R268). -/
def dtOf (intv : Nat) : Nat := min (rnd (intv * 0x44B82FA1) 32).toNat (2 ^ 29)

/-- A string current in q16 A from mA (08 R268). -/
def ampOf (ma : Int) : Int := qmul ma 0x4189374C 24

/-- A cell voltage in Q4.28 V from 100 µV (08 R268). -/
def voltOf (v : Nat) : Int := rnd (v * 0x68DB8BAC) 16

/-- Segment and Q2.30 weight on the temperature axis (08 R270). -/
def tempSeg (taxis : List Int) (t : Int) : Nat × Int :=
  let ax := fun k => taxis.getD k 0
  if t < ax 0 then (0, 0)
  else if ax 15 ≤ t then (14, oneZ)
  else
    let k := ((List.range 15).filter (fun k => decide (ax k ≤ t))).getLast?.getD 0
    (k, rndDiv ((t - ax k) * oneZ) (ax (k + 1) - ax k))

/-- Segment and weight on a SoC axis of `n` segments (08 R270). -/
def socSeg (n : Nat) (z : Int) : Nat × Int :=
  let y := (clampI 0 oneZ z).toNat * n
  let i := min (y / 2 ^ 30) (n - 1)
  (i, ((y - i * 2 ^ 30 : Nat) : Int))

/-- Bilinear interpolation in a grid (08 R270). -/
def interp (g : List Int) (s : Nat × Int) (t : Nat × Int) : Int :=
  let e := fun i k => g.getD (16 * i + k) 0
  let at_ := fun k => qadd (e s.1 k) (qmul (qadd (e (s.1 + 1) k) (-(e s.1 k))) s.2 30)
  let lo := at_ t.1
  qadd lo (qmul (qadd (at_ (t.1 + 1)) (-lo)) t.2 30)

/-- A grid's column value at point `i` (08 R270). -/
def column (g : List Int) (i : Nat) (t : Nat × Int) : Int :=
  let a := g.getD (16 * i + t.1) 0
  qadd a (qmul (qadd (g.getD (16 * i + t.1 + 1) 0) (-a)) t.2 30)

/-- The parameters of a cell at (z, T), resistances scaled by FR (08 R269-R270). -/
structure Par where
  ocv : Int
  docv : Int
  m : Int
  rser : Int
  ra : Int
  rb : Int
  ca : Int
  cb : Int

/-- Parameters from a set; `fr` scales the resistances. -/
def Chem.par (c : Chem) (z t fr : Int) : Par :=
  let tt := tempSeg c.taxis t
  let so := socSeg 100 z
  let sp := socSeg 20 z
  { ocv := interp c.ocv so tt, docv := qmul (qadd (column c.ocv (so.1 + 1) tt) (-(column c.ocv so.1 tt))) 100 0, m := interp c.m sp tt,
    rser := qmul (interp c.rser sp tt) fr 30, ra := qmul (interp c.ra sp tt) fr 30, rb := qmul (interp c.rb sp tt) fr 30,
    ca := interp c.ca sp tt, cb := interp c.cb sp tt }

/-- dt / (R C) in UQ4.28, for dt in UQ4.28. -/
def rcArg (dt : Nat) (r c : Int) : Nat := uq28 (dt * 2 ^ 39) (r * c)

/-- The bleed current ieff of 06 R202 in q16 A for a cell voltage in 100 µV; `per` is P in ns. -/
def ieff (rbal rsh v per : Nat) : Int :=
  if per = 0 then 0 else rndDiv ((v * 65536 * (per - 25000) : Nat) : Int) ((1000 * (rbal + 2 * rsh) * per : Nat) : Int)

/-- A covariance entry by row and column, from the slot's upper triangle (08 R275). -/
def pIdx (i j : Nat) : Nat :=
  let a := min i j
  let b := max i j
  if a = 0 then b else if a = 1 then 3 + b else if a = 2 then 5 + b else 9

/-- Entry (i, j). -/
def pAt (p : List Int) (i j : Nat) : Int := p.getD (pIdx i j) 0

/-- The ten pairs in the slot's order. -/
def pPairs : List (Nat × Nat) := [(0, 0), (0, 1), (0, 2), (0, 3), (1, 1), (1, 2), (1, 3), (2, 2), (2, 3), (3, 3)]

/-- What one cell's job takes from outside the slot (08 R268, R273). -/
structure CellIn where
  dt : Nat
  i : Int
  ibad : Bool
  istale : Bool
  vm : Option (Int × Bool)
  t : Int
  tfb : Bool
  authx : Bool

/-- An RC voltage one step on (08 R269): e v + (1 − e) r i, each product narrowed by itself. -/
def rcStep (e v r i : Int) : Int := qadd (qmul e v 31) (qmul (qmul (2 ^ 31 - e) r 31) i 19)

/-- A slot's state advanced by the model (08 R269), the parameters of the whole step at the predicted z' (08 R272): states and covariance. -/
def Slot.predict (x : Slot) (c : Chem) (u : CellIn) : Slot :=
  let q := qmul c.qnom x.fq 30
  let eta := if u.i > 0 then c.eta else oneZ
  let num := qmul eta u.i 30 * u.dt
  let z := qadd x.z (qdiv (num * 4) (3600 * q))
  let p := c.par z u.t x.fr
  let ea := expn (rcArg u.dt p.ra p.ca)
  let eb := expn (rcArg u.dt p.rb p.cb)
  let eh := expn (uq28 (c.gamma * num.natAbs) (3600 * q * 2 ^ 16))
  let va := rcStep ea x.va p.ra u.i
  let vb := rcStep eb x.vb p.rb u.i
  let h := qadd (qmul eh x.h 31) ((2 ^ 31 - eh) * u.i.sign)
  let f : Nat → Int → Int := fun k y => if k = 0 then y else qmul y (if k = 1 then ea else if k = 2 then eb else eh) 31
  let qn : Nat → Int := fun k => if k = 0 then c.qz else if k = 3 then c.qh else c.qv
  let cov := pPairs.map (fun ij =>
    let y := f ij.2 (f ij.1 (pAt x.p ij.1 ij.2))
    if ij.1 = ij.2 then qadd y (qmul (qn ij.1) u.dt 28) else y)
  let cov := if u.ibad then cov.set 0 (qadd (cov.getD 0 0) (qmul c.qzfault u.dt 28)) else cov
  { x with z := z, va := va, vb := vb, h := h, p := cov, qeff := q, icell := u.i, tcell := u.t }

/-- The clamps of 08 R272, with the diagonal floor when `fl` holds. -/
def Slot.clamp (c : Chem) (fl : Bool) (x : Slot) : Slot :=
  let v := 268435456
  let p := if fl then (x.p.zip pPairs).map (fun y => if y.2.1 = y.2.2 then max y.1 16 else y.1) else x.p
  { x with z := clampI c.zmin c.zmax x.z, h := clampI (-(2 ^ 31)) (2 ^ 31 - 1) x.h, va := clampI (-v) v x.va, vb := clampI (-v) v x.vb,
           p := p }

/-- The predicted terminal voltage (08 R269). -/
def Slot.volt (x : Slot) (p : Par) (i : Int) : Int :=
  qadd (qadd (qadd (qadd p.ocv (qmul p.m x.h 31)) x.va) x.vb) (qmul p.rser i 19)

/-- H P for the output row `hh` in Q4.28, and s (08 R272). -/
def gainRow (p : List Int) (hh : List Int) (rv : Int) : List Int × Int :=
  let row := (List.range 4).map (fun j => (List.range 4).foldl (fun a i => qadd a (qmul (hh.getD i 0) (pAt p i j) 28)) 0)
  (row, qadd ((List.range 4).foldl (fun a j => qadd a (qmul (row.getD j 0) (hh.getD j 0) 28)) 0) rv)

/-- The gate accepts the innovation (08 R272): e² ≤ gate² s, exactly. -/
def gateOk (gate e s : Int) : Bool := !decide (gate * gate * s < e * e * 2 ^ 14)

/-- The measurement update with row `hp`, variance `s` and innovation `e`; gains are kept in Q4.28 (log entry 13). -/
def Slot.update (x : Slot) (hp : List Int) (s e : Int) : Slot :=
  let k := hp.map (fun y => qdiv (y * 2 ^ 28) s)
  let g := fun j => k.getD j 0
  let cov := pPairs.map (fun ij => qadd (pAt x.p ij.1 ij.2) (-(qmul (qmul (g ij.1) s 28) (g ij.2) 28)))
  { x with z := qadd x.z (qmul (g 0) e 26), va := qadd x.va (qmul (g 1) e 28), vb := qadd x.vb (qmul (g 2) e 28),
           h := qadd x.h (qmul (g 3) e 25), p := cov }

/-- Covariance of an initialised cell (08 R274, R294). -/
def Chem.p0 (c : Chem) : List Int := [c.pz0, 0, 0, 0, c.pv0, 0, 0, c.pv0, 0, c.ph0]

/-- SoC from the OCV column at T (08 R294): lowest segment that contains the voltage, midpoint of a flat one; the axis end outside. -/
def Chem.invert (c : Chem) (t vm : Int) : Int :=
  let tt := tempSeg c.taxis t
  let v := fun i => column c.ocv i tt
  if vm < v 0 then 0
  else match (List.range 100).find? (fun i => decide (v i ≤ vm) && decide (vm ≤ v (i + 1))) with
    | none => oneZ
    | some i =>
      let dv := qadd (v (i + 1)) (-(v i))
      if dv = 0 then rndDiv ((2 * i + 1) * oneZ) 200 else rndDiv (((i : Int) * dv + qadd vm (-(v i))) * oneZ) (100 * dv)

/-- Bits of FLAGS (08 R276). -/
def flagBit (i : Nat) (b : Bool) : Nat := if b then 2 ^ i else 0

/-- Linear interpolation of the 16 current caps in T (09 R303). -/
def capAt (taxis caps : List Int) (t : Int) : Int :=
  let s := tempSeg taxis t
  let a := caps.getD s.1 0
  qadd a (qmul (qadd (caps.getD (s.1 + 1) 0) (-a)) s.2 30)

/-- The charge and discharge limits of a cell at τ s (09 R326). -/
def Slot.limitAt (x : Slot) (c : Chem) (r : SetRep) (p : Par) (tau : Nat) : Int × Int :=
  let e : Int → Int → Int := fun rr cc => expn (uq28 (tau * 2 ^ 67) (rr * cc))
  let ea := e p.ra p.ca
  let eb := e p.rb p.cb
  let a := qadd (qadd (qadd p.ocv (qmul p.m x.h 31)) (qmul ea x.va 31)) (qmul eb x.vb 31)
  let b := qadd (qadd (qadd p.rser (qmul (2 ^ 31 - ea) p.ra 31)) (qmul (2 ^ 31 - eb) p.rb 31))
    (qdiv (p.docv * tau * 2 ^ 19) (3600 * x.qeff))
  let ich := min (min (qdiv (qadd r.vchmax (-a) * 2 ^ 19) b) (capAt c.taxis r.icmax x.tcell)) (qdiv (qadd r.zhi (-x.z) * 3600 * x.qeff) (c.eta * tau))
  let ids := min (min (qdiv (qadd a (-r.vdsmin) * 2 ^ 19) b) (capAt c.taxis r.idmax x.tcell)) (qdiv (qadd x.z (-r.zlo) * 3600 * x.qeff) (oneZ * tau))
  (max ich 0, max ids 0)

/-- The six limits in the slot's order (09 R326); all 0 when the cell is not OK. -/
def Slot.limits (x : Slot) (c : Chem) (r : SetRep) : List Int :=
  if x.flags.bit 0 = false then [0, 0, 0, 0, 0, 0] else
  let p := c.par x.z x.tcell x.fr
  let l := [2, 10, 60].map (x.limitAt c r p)
  l.map (·.1) ++ l.map (·.2)

/-- What a cell's job reports beside the slot: rejected, reinitialised, no update. -/
structure CellOut where
  slot : Slot
  rej : Bool := false
  reinit : Bool := false
  noupd : Bool := false
  initOcv : Bool := false

/-- One cell in a scan job (08 R272-R274, R294). A cell that waits for its first VALID voltage keeps its states; its job's flags,
temperature and scan are written (log entry 132). A cell due for reinitialisation is reinitialised by the job that finds it so, with a usable
voltage or without one, and counts as done (DESIGN CHOICE, log entry 194: R274 does not say). -/
def Slot.job (x : Slot) (c : Chem) (r : SetRep) (set scan : Nat) (u : CellIn) : CellOut :=
  let nrej := x.flags.field 23 16
  let nou := x.flags.field 31 24
  let base := flagBit 5 u.tfb + flagBit 13 u.authx + flagBit 6 u.istale + flagBit 7 u.ibad
  if x.flags.bit 0 = false then
    match u.vm with
    | some (vm, false) =>
      let y : Slot := { x with z := c.invert u.t vm, va := 0, vb := 0, h := 0, p := c.p0, fq := oneZ, fr := oneZ, qeff := qmul c.qnom oneZ 30,
                               icell := u.i, set := set, tcell := u.t, scan := scan, hf0 := 0, hf1 := -2147483648, hf2 := 0,
                               flags := BitVec.ofNat 32 (base + 1 + flagBit 11 true) }
      { slot := { y with lims := y.limits c r }, initOcv := true }
    | o =>
      let fl := base + min (nou + 1) 255 * 2 ^ 24 + nrej * 65536 + flagBit 2 o.isNone + flagBit 4 o.isSome
      { slot := { x with set := set, tcell := u.t, scan := scan, lims := [0, 0, 0, 0, 0, 0], flags := BitVec.ofNat 32 fl }, noupd := true }
  else
    let re := decide (c.nrejmax ≤ nrej)
    let x1 := if re then { x with p := c.p0, va := 0, vb := 0, h := 0 } else x
    let y0 := x1.predict c u
    let zc := decide (y0.z ≤ c.zmin) || decide (c.zmax ≤ y0.z)
    let y := { (y0.clamp c false) with set := set, scan := scan }
    let p := c.par y.z u.t y.fr
    let vh := y.volt p u.i
    let y := { y with vhat := vh }
    let ini := x.flags.bit 11
    let fin : Slot → Nat → Slot := fun s f => let s := { s with flags := BitVec.ofNat 32 (f + base + 1 + flagBit 9 zc + flagBit 8 re) }
                                              { s with lims := s.limits c r }
    match u.vm with
    | none =>
      let n := min (nou + 1) 255
      { slot := fin y (n * 2 ^ 24 + (if re then 0 else nrej) * 65536 + flagBit 2 true + flagBit 11 ini), noupd := true, reinit := re }
    | some (vm, sus) =>
      let e := qadd vm (-vh)
      let hp := gainRow y.p [p.docv, 268435456, 268435456, p.m] (if sus then qmul c.rv 4 0 else c.rv)
      let y := { y with innov := e }
      if re || gateOk c.gate e hp.2 then
        let w : Slot := y.update hp.1 hp.2 e
        let hc : Bool := decide (w.h ≤ -2147483648) || decide (2147483647 ≤ w.h)
        { slot := fin (w.clamp c true) (flagBit 4 sus + flagBit 10 hc), reinit := re }
      else
        let n := min (nrej + 1) 255
        { slot := fin (y.clamp c true) (min (nou + 1) 255 * 2 ^ 24 + n * 65536 + flagBit 3 true + flagBit 4 sus + flagBit 11 ini), rej := true }

/-- A cell whose slot was read with an uncorrectable error (08 R295): the states as read, FLAGS.ECC, and the scan of the job. -/
def Slot.eccJob (x : Slot) (scan : Nat) (authx : Bool) : Slot :=
  { x with scan := scan, flags := (x.flags &&& 0x00FF0801#32) ||| BitVec.ofNat 32 (min (x.flags.field 31 24 + 1) 255 * 2 ^ 24 + flagBit 12 true + flagBit 13 authx) }

end Sys2Proof.Machine
end

