-- ==== Sys2Proof/Machine/TabbinSys.lean ====
section
/-! DEFINITION. System instructions of Tabbin: OUT, OUTX, TRIP, RING, RSTAT, EST, ESTAT (02 R61-R77, R81). -/

namespace Sys2Proof.Machine
open Sys2Proof

/-- Stage an output: the last value staged for it is the one that counts (02 R61). -/
def Ctx.stage (o : OutVal) (x : Ctx) : Ctx :=
  { x with staged := x.staged.filter (fun p => !(p.cls == o.cls && p.idx == o.idx)) ++ [o] }

/-- The index lies in its class's range and its receiver is absent on this variant (02 R62-R63). -/
def Dev.outAbsent (d : Dev) (cls idx : Nat) : Bool :=
  if cls = 0 then decide (idx < 32) && !d.hasLsw idx
  else if cls = 1 then decide (idx < 64) && !d.hasLsw (idx / 2)
  else if cls = 6 ∨ cls = 11 then decide (idx < 48) && decide (d.rings ≤ idx)
  else if cls = 7 then decide (idx < 8192) && !d.hasCan (idx / 2048)
  else if cls = 8 then decide (idx < 8192) && idx % 16 == 0 && !d.hasCan (idx / 2048)
  else false

/-- A declared range holds the output (02 R62-R63, 03 R95): the index lies in it, and in the layout of its class. -/
def OutRange.holds (r : OutRange) (cls idx : Nat) : Bool :=
  r.cls == cls && decide (r.first ≤ idx) && decide (idx ≤ r.last) && (!(cls == 8) || idx % 16 == 0)

/-- The task declares the output (02 R64, 03 R95). -/
def Dev.declared (d : Dev) (c : Core) (cls idx : Nat) : Bool :=
  (d.task (d.core c).cur.task).outs.any (fun r => r.holds cls idx)

/-- Causes of staging an output (02 R53, R63, R65). -/
def Dev.outCauses (d : Dev) (c : Core) (cls idx : Nat) : Causes :=
  { ill := decide (12 ≤ cls) || (d.isSplit c && !(decide (7 ≤ cls) && decide (cls ≤ 10))),
    absent := d.outAbsent cls idx, window := !(d.declared c cls idx) }

/-- OUT (R61): the index is a constant. -/
def execOut (c : Core) (gs : Reg) (cls : Nat) (idx : Nat) (s : State) : Out :=
  .next { s with dev := s.dev.instr c 2 (s.dev.outCauses c cls idx) (fun x => x.stage { cls := cls, idx := idx, val := x.r gs }) }

/-- OUTX (R63): the index comes from a register. -/
def execOutx (c : Core) (gs : Reg) (gi : Reg) (cls : Nat) (s : State) : Out :=
  let i := (s.dev.val c gi).toNat
  .next { s with dev := s.dev.instr c 3 (s.dev.outCauses c cls i) (fun x => x.stage { cls := cls, idx := i, val := x.r gs }) }

/-- The zone mask of a TRIP (02 R66). -/
def Dev.tripMask (d : Dev) (c : Core) (f : TripForm) : Nat :=
  match f with
  | .const m => m.toNat
  | .reg g => (d.val c g).toNat % 256

/-- TRIP (R66-R68): the request stands when the shadow core presents the same one (07 R247); otherwise event 167. The trip logic accepts
none from a pair that has stopped (12 R404). -/
def execTrip (c : Core) (form : TripForm) (reason : Nat) (shadowOk : Bool) (s : State) : Out :=
  let m := s.dev.tripMask c form
  let g : Dev → Dev := fun d => if m = 0 ∨ 2 ≤ d.kstate (pairOf c) then d else if shadowOk then (d.raise 164 (pairOf c)).requestZones m 1 reason
    else d.raise 167 (pairOf c)
  .next { s with dev := s.dev.instrAnd c 2 { ill := s.dev.isSplit c } id g }

/-- Commands that tasks may issue (04 R134). -/
def taskCommand (code : Nat) : Bool := code == 0x10 || code == 0x40 || code == 0x51 || code == 0x60

/-- A RING descriptor (02 R72). -/
structure RingDesc where
  code : Nat
  first : Nat
  last : Nat
  zero : Nat
  port : Nat
  reqAddr : Nat
  rspLen : Nat
  reqLen : Nat
  rspAddr : Nat
deriving DecidableEq, Repr

/-- The descriptor in four words (02 R72). -/
def ringDesc (bs : List Nat) : RingDesc :=
  let w0 : Word := BitVec.ofNat 32 (wordAt bs 0)
  { code := w0.field 31 24, first := w0.field 23 18 + 1, last := w0.field 17 12 + 1, zero := w0.field 11 6, port := w0.field 5 0,
    reqAddr := wordAt bs 1, rspLen := wordAt bs 2 / 65536, reqLen := wordAt bs 2 % 65536, rspAddr := wordAt bs 3 }

/-- The command accepts the request length (02 R73 step 7); an RDREG count lies in 1-16. -/
def RingDesc.lenOk (r : RingDesc) (req : List Nat) : Bool :=
  if r.code = 0x10 then r.reqLen == 4 && (let n := ofLe (req.drop 2); decide (1 ≤ n) && decide (n ≤ 16))
  else if r.code = 0x40 then r.reqLen == 4
  else if r.code = 0x51 then r.reqLen == 0
  else decide (r.reqLen ≤ 256)

/-- Record length of the request. -/
def RingDesc.recLen (r : RingDesc) (req : List Nat) : Nat := recLenOf r.code (ofLe (req.drop 2))

/-- Hops addressed. -/
def RingDesc.hops (r : RingDesc) : Nat := r.last + 1 - r.first

/-- The port is closed to transactions: DOWN or FAULT (02 R73). -/
def Dev.portDead (d : Dev) (n : Nat) : Bool := d.ringState n == 0 || d.ringState n == 5

/-- Steps 5 to 9 of 02 R73: the status to return, or the tag taken. -/
def Dev.ringVerdict (d : Dev) (e : Nat) (r : RingDesc) (req : List Nat) : Sum Nat Nat :=
  let t := d.task e
  if !taskCommand r.code then .inl 4
  else if r.zero ≠ 0 ∨ d.portEn r.port = false ∨ r.last < r.first ∨ d.ringL r.port < r.last then .inl 3
  else if r.lenOk req = false ∨ r.rspLen < r.recLen req * r.hops then .inl 1
  else if t.ports.testBit r.port = false ∨ t.tags ≤ (d.port r.port).held (e + 1) then .inl 2
  else match freeTag 64 960 (d.port r.port).txns with
    | none => .inl 2
    | some g => .inr g

/-- A record area in which every record carries delivery code 0x0002 and nothing else is stated (02 R73, 04 R146). -/
def unreached (seed recLen hops : Nat) : List Byte :=
  (List.range hops).flatMap (fun i => undefBytes (1000 * seed + i) (recLen - 2) ++ toBytes (leBytes 2 2))

/-- Take a tag for a task's transaction (02 R73-R74). -/
def Dev.takeTag (e tag : Nat) (r : RingDesc) (req : List Nat) (d : Dev) : Dev :=
  let dead := d.portDead r.port
  let t : Txn := { tag := tag, holder := e + 1, code := r.code, first := r.first, last := r.last, req := req, bufAddr := r.rspAddr,
                   bufLen := r.rspLen, recLen := r.recLen req, st := if dead then 3 else 0, lo := r.first, hi := r.last,
                   recs := if dead then (span r.first r.hops).map (fun h => (h, 2)) else [] }
  (d.setPort r.port (fun p => { p with txns := p.txns ++ [t] })).takeFree

/-- RING (R72-R74). The Keeper reads the descriptor and the request (log entry 26): an uncorrectable word of either traps ECC (15 R508). -/
def execRing (c : Core) (gd : Reg) (ga : Reg) (s : State) : Out :=
  let a := (s.dev.val c ga).toNat
  let e := (s.dev.core c).cur.task
  let bs := s.anyBytes c a 16
  let r := ringDesc bs
  let al := !(a % 4 == 0)
  let dOk := s.dev.winOk c a 16 false
  let req := s.anyBytes c r.reqAddr r.reqLen
  let areas := (r.reqLen == 0 || s.dev.winOk c r.reqAddr r.reqLen false) && (r.rspLen == 0 || s.dev.winOk c r.rspAddr r.rspLen true)
  let q : Causes := { align := al, absent := dOk && decide (s.dev.rings ≤ r.port), window := !dOk || !areas,
                      ecc := !al && dOk && (s.dev.poisoned a 16 || (areas && s.dev.poisoned r.reqAddr r.reqLen)) }
  let s := { s with dev := s.dev.noteEcc q.ecc (if s.dev.poisoned a 16 then a else r.reqAddr) }
  match s.dev.ringVerdict e r req with
  | .inl st =>
    .next (s.instrMem c 12 q (fun x => x.w gd (statusWord st)) (fun d => d.raiseIf (st == 2) (33 + 2 * r.port) r.port) id)
  | .inr tag =>
    let n := r.recLen req
    let dead := if s.dev.portDead r.port then unreached s.dev.freeCnt n r.hops else []
    let buf := dead ++ undefBytes s.dev.freeCnt (r.rspLen - dead.length)
    .next (s.instrMem c 12 q (fun x => x.w gd (BitVec.ofNat 32 (r.port * 65536 + tag))) (fun d => (d.takeTag e tag r req).cleanPoison r.rspAddr buf.length)
      (writeBytes r.rspAddr buf))

/-- The transaction a handle names, if the task holds it (02 R75). -/
def Dev.handleTxn (d : Dev) (e h : Nat) : Option Txn :=
  if h = (h / 65536 % 64) * 65536 + h % 1024 then
    (d.port (h / 65536)).txns.find? (fun t => t.tag == h % 1024 && t.holder == e + 1)
  else none

/-- RSTAT (R75): a final status frees the tag. -/
def execRstat (c : Core) (gd : Reg) (ga : Reg) (s : State) : Out :=
  let h := (s.dev.val c ga).toNat
  let e := (s.dev.core c).cur.task
  let r : Word × Bool := match s.dev.handleTxn e h with
    | none => (statusWord 6, false)
    | some t => if t.st < 2 then (0, false) else if t.st = 2 then (1, true) else (statusWord 5, true)
  let g : Dev → Dev := fun d => if r.2 then d.setPort (h / 65536) (fun p => p.dropTag (h % 1024)) else d
  .next { s with dev := s.dev.instrAnd c 4 {} (fun x => x.w gd r.1) g }

/-- The job queue of a pair (02 R76). -/
def Dev.estQ (d : Dev) (p : Nat) : EstQ := if p = 0 then d.cnpy.q0 else d.cnpy.q1

/-- Change a pair's job queue. -/
def Dev.setEstQ (p : Nat) (f : EstQ → EstQ) (d : Dev) : Dev :=
  { d with cnpy := if p = 0 then { d.cnpy with q0 := f d.cnpy.q0 } else { d.cnpy with q1 := f d.cnpy.q1 } }

/-- Canopy runs at half clock (08 R285). -/
def Dev.canopyHalf (d : Dev) : Bool := d.rbit A.cnpyStat 30

/-- Bits set in a 32-bit selection. -/
def popCount (n : Nat) : Nat := (bitsOf 32 n).length

/-- Output length, cycles per item and overhead of a job (08 R289); kinds a task may not run write only their header. -/
def estCost (kind fsel count nl : Nat) : Nat × Nat × Nat :=
  if kind = 1 then (16 + 4 * popCount fsel * count, 4 + popCount fsel, 400)
  else if kind = 2 then (48, 6, 400 + 8 * nl)
  else if kind = 3 then (16 + 32 * count, 60, 400)
  else if kind = 4 then (16 + 4 * count, 40, 400)
  else (16, 0, 400)

/-- Output length and worst-case cycles of the job that a descriptor of eight words describes (08 R288-R289). A LANEL below LANEF counts as
no lane, costed as one (DESIGN CHOICE, log entry 187). -/
def estNeeds (ws : List Nat) : Nat × Nat :=
  let w0 := ws.getD 0 0
  let nl := w0 / 4096 % 64 + 1 - w0 / 2 ^ 18 % 64
  let count := ws.getD 1 0 / 65536
  let k := estCost (w0 / 2 ^ 24) (ws.getD 2 0) count nl
  (k.1, k.2.2 + k.2.1 * ((count + nl - 1) / max nl 1))

/-- The words of a descriptor. -/
def estWords (bs : List Nat) : List Nat := (List.range 8).map (wordAt bs)

/-- The job exceeds 1,690 µs at the clock in force, or its output area is too short (08 R292). -/
def Dev.estTooLarge (d : Dev) (bs : List Nat) : Bool :=
  let k := estNeeds (estWords bs)
  decide ((if d.canopyHalf then 338000 else 676000) < k.2) || decide (wordAt bs 7 < k.1)

/-- The lowest free slot of a job queue (02 R76). -/
def EstQ.freeSlot (q : EstQ) : Option Nat := (List.range 8).find? (fun i => !(q.jobs.any (fun j => j.handle % 8 == i)))

/-- EST (R76): check a descriptor and queue a Canopy job. -/
def execEst (c : Core) (gd : Reg) (ga : Reg) (s : State) : Out :=
  let a := (s.dev.val c ga).toNat
  let e := (s.dev.core c).cur.task
  let p := pairOf c
  let bs := s.anyBytes c a 32
  let w0 := wordAt bs 0
  let al := !(a % 4 == 0)
  let dOk := s.dev.winOk c a 32 false
  let inLen := if w0 / 2 ^ 24 = 3 then 8 * (wordAt bs 1 / 65536) else 0
  let areas := (inLen == 0 || s.dev.winOk c (wordAt bs 5) inLen false)
    && (wordAt bs 7 == 0 || s.dev.winOk c (wordAt bs 6) (wordAt bs 7) true)
  let q : Causes := { align := al, absent := dOk && decide (s.dev.lanes ≤ w0 / 4096 % 64), window := !dOk || !areas,
                      ecc := !al && dOk && s.dev.poisoned a 32 }
  let d := s.dev.noteEcc q.ecc a
  let v : Sum Nat Nat := if s.dev.estTooLarge bs then .inl 1 else
    match (s.dev.estQ p).freeSlot with
    | none => .inl 2
    | some i => .inr i
  match v with
  | .inl st => .next { s with dev := d.instrAnd c 12 q (fun x => x.w gd (statusWord st)) id }
  | .inr i =>
    let g := ((s.dev.estQ p).gen + 1) % 256
    let h := g * 256 + i
    let j : EstJob := { owner := e, handle := h, desc := estWords bs }
    let put : Dev → Dev := fun d => d.setEstQ p (fun z => { gen := g, jobs := z.jobs ++ [j] })
    .next { s with dev := d.instrAnd c 12 q (fun x => x.w gd (BitVec.ofNat 32 h)) put }

/-- ESTAT (R76): the statuses of RSTAT; a final status frees the slot. -/
def execEstat (c : Core) (gd : Reg) (ga : Reg) (s : State) : Out :=
  let h := (s.dev.val c ga).toNat
  let e := (s.dev.core c).cur.task
  let p := pairOf c
  let r : Word × Bool := match (s.dev.estQ p).jobs.find? (fun j => j.handle == h && j.owner == e) with
    | none => (statusWord 6, false)
    | some j => if j.st < 2 then (0, false) else if j.st = 2 then (1, true) else (statusWord 5, true)
  let drop : Dev → Dev := fun d => d.setEstQ p (fun z => { z with jobs := z.jobs.filter (fun j => !(j.handle == h)) })
  .next { s with dev := s.dev.instrAnd c 4 {} (fun x => x.w gd r.1) (fun d => if r.2 then drop d else d) }

end Sys2Proof.Machine
end

