-- ==== Sys2Proof/Machine/Canopy.lean ====
section
/-! DEFINITION. Canopy's jobs: the scan job with its pages, records and signature, task jobs, and the snapshot (08 R265-R295). -/

namespace Sys2Proof.Machine
open Sys2Proof

/-- The topology's entry for a ring. -/
def Dev.ringCfgOf (d : Dev) (n : Nat) : RingCfg := FMap.get (fun _ => {}) d.topo.rings n

/-- A string's chemistry set in force. -/
def Dev.chemOf (d : Dev) (n : Nat) : Chem := d.cnpy.chem.getD (d.ringCfgOf n).chemSet {}

/-- A string's reporting parameters (09 R303). -/
def Dev.setRep (d : Dev) (n : Nat) : SetRep := d.topo.sets.getD (d.ringCfgOf n).chemSet {}

/-- ISTR of a string in mA (07 R239). -/
def ModRec.istr (r : ModRec) : Int := sextB 32 (ofLe (r.head.take 4))

/-- The validity code of ISTR (07 R239): `age` is the number of consecutive stale scans. -/
def ModRec.istrCode (r : ModRec) (age stalemax : Nat) : Nat :=
  let hstat := r.head.getD 6 0
  if stalemax < age ∨ hstat.testBit 4 then 5 else if r.headStale then 2 else if hstat.testBit 3 then 4 else 0

/-- The code of string `n`'s ISTR in a view. -/
def Dev.istrCodeIn (d : Dev) (v : View) (n : Nat) : Nat :=
  (v.modRec n 1).istrCode (FMap.get (fun _ => 0) d.acq.strAge n) (d.fld A.acqValcfg 2 0)

/-- The instants since the last job; the first is the one that the last job ended with (08 R269). -/
def newInsts (l : List (Int × Nat × Nat)) : List (Int × Nat × Nat) := if l.length < 2 then l else l.drop 1

/-- Total interval in UQ4.28 and mean current by the trapezoid rule over the instants kept (08 R269). -/
def meanCurrent (l : List (Int × Nat × Nat)) : Int × Nat :=
  match l with
  | [] => (0, 0)
  | a :: rest =>
    let r := rest.foldl (fun (acc : Int × Int × Nat) b =>
      (b.1, clampI (smin 64) (smax 64) (acc.2.1 + qadd acc.1 b.1 * b.2.1), min (acc.2.2 + b.2.1) (2 ^ 32 - 1))) (a.1, 0, 0)
    (qdiv r.2.1 (2 * r.2.2), r.2.2)

/-- A usable temperature code (08 R273). -/
def tempOk (c : Nat) : Bool := c == 0 || c == 4

/-- The temperature of a cell (08 R273): mapped inputs, else the module's VALID ones, else held; and whether it fell back. -/
def cellTemp (r : ModRec) (map : Nat × Nat) (held : Int) : Int × Bool :=
  let at_ := fun t => r.temps.getD (t - 1) 0
  let own := [map.1, map.2].filter (fun t => decide (0 < t) && tempOk (r.valid.getD (15 + t) 6))
  let all := (span 1 8).filter (fun t => r.valid.getD (15 + t) 6 == 0)
  let mean : List Nat → Int := fun l => rndDiv ((l.map at_).foldl (· + ·) 0) l.length
  if own ≠ [] then (mean own, false) else if all ≠ [] then (mean all, true) else (held, true)

/-- P in force in ns, for the bleed current (06 R202). -/
def Dev.perNs (d : Dev) : Nat := d.time.per

/-- The bleed current of cell `c` (0-15) by its latest slot (08 R269). -/
def Dev.bleedOf (d : Dev) (r : ModRec) (c : Nat) : Int :=
  if r.status.getLsbD (16 + c) then ieff d.topo.rbal d.topo.rsh (r.cells.getD c 0) d.perNs else 0

/-- A module whose identity keeps it out of the reductions (08 R274). -/
def Dev.outside (d : Dev) (n h : Nat) : Bool := !d.authentic n h

/-- The inputs of cell `c` (0-15) of a module (08 R268, R273); a current that was INVALID or STALE at any instant since the last job
counts. -/
def Dev.cellIn (d : Dev) (v : View) (n h c : Nat) (held : Int) : CellIn :=
  let r := v.modRec n h
  let l := FMap.get (fun _ => []) d.cnpy.insts n
  let m := meanCurrent l
  let code := r.valid.getD c 6
  let ic := fun (k : Nat) => (newInsts l).any (fun x => x.2.2 == k)
  let t := cellTemp r (d.topo.cellTemp.getD c (0, 0)) held
  { dt := m.2, i := satVal (m.1 - d.bleedOf r c), ibad := ic 5, istale := ic 2,
    vm := if code = 0 then some (voltOf (r.cells.getD c 0), false) else if code = 4 then some (voltOf (r.cells.getD c 0), true) else none,
    t := t.1, tfb := t.2, authx := d.outside n h }

/-- Rings in the topology (08 R265). -/
def Dev.ringsOn (d : Dev) : List Nat := (List.range d.rings).filter (fun n => d.portEn n)

/-- MEM.STAT.ARINGS (15 R512). -/
def Dev.arings (d : Dev) : Nat := d.fld A.memStat 23 18

/-- Rings that Canopy works on: those in the topology below ARINGS (08 R265, 15 R513). -/
def Dev.ringsIn (d : Dev) : List Nat := d.ringsOn.filter (fun n => decide (n < d.arings))

/-- Hops of a ring. -/
def Dev.hopsOf (d : Dev) (n : Nat) : List Nat := span 1 (d.ringL n)

/-- The SRAM address of a slot in a page (08 R277). -/
def slotAddr (k j : Nat) : Nat := (if k = 0 then 0x00800000 else 0x00E00000) + 128 * j

/-- A chemistry set whose table memory reads with an uncorrectable error (08 R290, R295). -/
def Dev.tablesBad (d : Dev) (set : Nat) : Bool := FMap.get (fun _ => false) d.cnpy.tblBad set

/-- The confirmed slot of a cell, or its chemistry set's table memory, reads with an uncorrectable error (08 R295, 15 R508). An error in
a set's tables touches every cell of the set (DEDUCED, log entry 173). -/
def Dev.slotBad (d : Dev) (j : Nat) : Bool :=
  d.poisoned (slotAddr d.cnpy.conf j) 128 || d.tablesBad (d.ringCfgOf (j / 1024)).chemSet

/-- What a scan job gathers. -/
structure JobAcc where
  page : FMap Slot
  rej : Nat := 0
  reinit : Nat := 0
  inits : List Nat := []
  bad : List Nat := []

/-- One cell of the job: reads `old`, writes the accumulator's page. -/
def Dev.cellJob (d : Dev) (v : View) (old : FMap Slot) (n h : Nat) (c : Nat) (a : JobAcc) : JobAcc :=
  let j := 1024 * n + 16 * (h - 1) + c
  let x := slotOf old j
  if d.slotBad j then
    { a with page := FMap.set (fun _ => {}) a.page j (x.eccJob v.hdr.scan (d.outside n h)), bad := a.bad ++ [j] }
  else
  let o := x.job (d.chemOf n) (d.setRep n) (d.ringCfgOf n).chemSet v.hdr.scan (d.cellIn v n h c x.tcell)
  { page := FMap.set (fun _ => {}) a.page j o.slot, rej := a.rej + b2n o.rej, reinit := a.reinit + b2n o.reinit,
    inits := if o.initOcv && !(a.inits.contains n) then a.inits ++ [n] else a.inits, bad := a.bad }

/-- Every cell of the block (08 R265, R272): from the confirmed page into the other one. -/
def Dev.jobCells (d : Dev) (v : View) : JobAcc :=
  let old := d.cnpy.page d.cnpy.conf
  foldOver d.ringsIn (fun n a => foldOver (d.hopsOf n) (fun h a => foldOver (List.range 16) (fun c a => d.cellJob v old n h c a) a) a)
    { page := d.cnpy.page (1 - d.cnpy.conf) }

/-- The slots of a string with their cell numbers. -/
def Dev.strSlots (d : Dev) (page : FMap Slot) (n : Nat) : List (Nat × Slot) :=
  (List.range (16 * d.ringL n)).map (fun k => (k, slotOf page (1024 * n + k)))

/-- A slot contributes to the reductions (08 R278). -/
def Slot.counts (x : Slot) : Bool := x.flags.bit 0 && !x.flags.bit 13

/-- The extreme of a list by its Z, ties to the first. -/
def bestZ (lt : Int → Int → Bool) (l : List (Nat × Slot)) : Option (Nat × Slot) :=
  match l with
  | [] => none
  | a :: rest => some (rest.foldl (fun b x => if lt x.2.z b.2.z then x else b) a)

/-- A string reduction record (08 R278). With NCELL = 0 the six limits are 0, and COUNTS counts every cell of the string, contributing or not
(DESIGN CHOICE, log entry 195: R278 is silent on both). -/
def Dev.reduce (d : Dev) (page : FMap Slot) (scan n : Nat) : StrRec :=
  let all := d.strSlots page n
  let l := all.filter (fun p => p.2.counts)
  let lo := bestZ (fun a b => decide (a < b)) l
  let hi := bestZ (fun a b => decide (b < a)) l
  let minOf := fun k => (l.map (fun p => p.2.lims.getD k 0)).foldl min ((l.head?.map (fun p => p.2.lims.getD k 0)).getD 0)
  { scan := scan, ncell := l.length, zmin := (lo.map (fun p => p.2.z)).getD 0, zmax := (hi.map (fun p => p.2.z)).getD 0,
    jz := match lo, hi with | some a, some b => b.1 * 65536 + a.1 | _, _ => 0xFFFFFFFF,
    qsum := l.foldl (fun s p => s + p.2.qeff) 0, qzsum := l.foldl (fun s p => s + rnd (p.2.qeff * p.2.z) 30) 0,
    lmin := (List.range 6).map minOf,
    rej := (all.filter (fun p => p.2.flags.bit 3)).length, noupd := (all.filter (fun p => p.2.flags.bit 2)).length }

/-- Cell indices that the job writes, in ascending order. -/
def Dev.jobCellsOf (d : Dev) : List Nat := d.ringsIn.flatMap (fun n => (List.range (16 * d.ringL n)).map (fun k => 1024 * n + k))

/-- The output signature (08 R287). -/
def Dev.signature (d : Dev) (page : FMap Slot) (recs : FMap StrRec) : List Nat :=
  let js := d.jobCellsOf
  let lane := fun m => crc32c ((js.filter (fun j => j % d.lanes == m)).flatMap (fun j => (slotWords (slotOf page j)).flatMap (leBytes 4)))
  sha256 ((List.range d.lanes).flatMap (fun m => leBytes 4 (lane m))
    ++ d.ringsIn.flatMap (fun n => (strRecWords (FMap.get (fun _ => {}) recs n)).flatMap (leBytes 4)))

/-- Temperature fallback of a module's cells, with event 197 at a change (08 R296). -/
def Dev.noteTfb (page : FMap Slot) (n h : Nat) (d : Dev) : Dev :=
  let k := 64 * n + h - 1
  let b := (List.range 16).any (fun c => (slotOf page (1024 * n + 16 * (h - 1) + c)).flags.bit 5)
  let old := FMap.get (fun _ => false) d.cnpy.tfb k
  ({ d with cnpy := { d.cnpy with tfb := FMap.set (fun _ => false) d.cnpy.tfb k b } }).raiseIf (!(b == old)) 197 n

/-- Add `k` to CNPY.REJ or CNPY.REINIT (08 R300). -/
def Dev.bumpBy (k ctr ovf bit : Nat) (d : Dev) : Dev := foldOver (List.range k) (fun _ d => d.bump ctr ovf bit) d

/-- The scan job's results (08 R272-R278, R287): working page, records, signature. A repeated job writes them again and counts nothing: the
counters and event 193 come once a scan (R274). -/
def Dev.runScanJob (d : Dev) (v : View) : Dev :=
  let a := d.jobCells v
  let recs := d.ringsIn.foldl (fun m n => FMap.set (fun _ => {}) m n (d.reduce a.page v.hdr.scan n)) ([] : FMap StrRec)
  let c := d.cnpy
  let c := if c.conf = 0 then { c with page1 := a.page } else { c with page0 := a.page }
  let sig := d.signature a.page recs
  let d := { d with cnpy := { c with recW := recs, sig := sig, wrote := true } }
  let d := foldOver a.bad (fun j d => (d.uncorrectable (slotAddr c.conf j)).raise 194 (j / 1024)) d
  let d := foldOver d.ringsIn (fun n d => d.cleanPoison (slotAddr (1 - c.conf) (1024 * n)) (2048 * d.ringL n)) d
  let d := if c.wrote then d else
    ((d.bumpBy a.rej A.cnpyRej A.cnpyOvf 0).bumpBy a.reinit A.cnpyReinit A.cnpyOvf 1).raiseIf (decide (0 < a.reinit)) 193 0
  let d := foldOver a.inits (fun n d => if (d.str n).initEvt then d else (d.setStr n (fun x => { x with initEvt := true })).raise 201 n) d
  foldOver d.ringsIn (fun n d => foldOver (d.hopsOf n) (fun h d => d.noteTfb a.page n h) d) d

/-- The scan whose instant froze a hop's capture (09 R320). -/
def Dev.frzOf (d : Dev) (n h : Nat) : Nat := FMap.get (fun _ => (d.str n).frz) d.cnpy.frzHop (64 * n + h - 1)

/-- Reference cells of frozen strings at the freeze instant (09 R324). -/
def Dev.keepFrozen (scan : Nat) (d : Dev) : Dev :=
  let page := d.cnpy.page d.cnpy.conf
  let add := fun n (m : FMap (Int × Int)) =>
    foldOver ((d.hopsOf n).filter (fun h => d.frzOf n h == scan)) (fun h m =>
      let x := slotOf page (1024 * n + 16 * (h - 1) + (FMap.get (fun _ => []) d.cnpy.refs n).getD (h - 1) 0 % 16)
      FMap.set (fun _ => (0, 0)) m (64 * n + h - 1) (x.z, x.tcell)) m
  { d with cnpy := { d.cnpy with frzZ := foldOver (d.ringsOn.filter (fun n => (d.str n).frozen)) add d.cnpy.frzZ } }

/-- The written page becomes confirmed (08 R278, R286). -/
def Dev.confirm (scan : Nat) (d : Dev) : Dev :=
  let c := d.cnpy
  let keep := c.insts.map (fun p => (p.1, p.2.drop (p.2.length - 1)))
  let d := { d with cnpy := { c with conf := 1 - c.conf, rec2 := c.rec1, rec1 := c.rec0, rec0 := c.recW, insts := keep, wrote := false, job := none,
                                     repeated := false } }
  (d.setReg A.cnpyConf (BitVec.ofNat 32 scan)).keepFrozen scan

/-- The newest view. -/
def Dev.view0 (d : Dev) : View := (d.acq.view 0).getD {}

/-- The earliest start of the next scan job (08 R282): tick 0 of the running scan while that is to come, else of the next one, whose
instant a stretch may bring forward when it ends (01 R27). -/
def Dev.nextJobT (d : Dev) : Nat :=
  let x := d.time
  let soon := if x.stretched then min x.next (max (x.inst + d.runPeriod) (x.now + x.off + 10000)) else x.next
  if x.now < x.inst + 1170000 then x.inst + 1170000 else soon + 1170000

/-- The worst-case time of a task's job ends before that: a lane cycle takes 2.5 ns, at half clock 5 ns (08 R284-R285). -/
def Dev.jobFits (d : Dev) (j : EstJob) : Bool :=
  !d.time.scanning || decide (2 * d.time.now + (estNeeds j.desc).2 * (if d.canopyHalf then 10 else 5) < 2 * d.nextJobT)

/-- EST_JOB_START (R77): pairs alternate, each in issue order; none while a scan job or another job runs, and none that may still run when
the next scan job starts. -/
def execEstJobStart (s : State) : Out :=
  let c := s.dev.cnpy
  let pick := fun (q : EstQ) => q.jobs.find? (fun j => j.st == 0)
  let first := if c.turn then 1 else 0
  let q := fun p => if p = 0 then c.q0 else c.q1
  let go := fun p (j : EstJob) => Dev.setEstQ p (fun z => { z with jobs := z.jobs.map (fun x => if x.handle == j.handle then { x with st := 1 } else x) })
    { s.dev with cnpy := { c with running := some (p, j.handle), turn := decide (p = 0) } }
  let try_ := fun p (j : EstJob) => if s.dev.jobFits j then go p j else s.dev
  let d := if c.job.isSome ∨ c.running.isSome then s.dev else
    match pick (q first), pick (q (1 - first)) with
    | some j, _ => try_ first j
    | none, some j => try_ (1 - first) j
    | none, none => s.dev
  .next { s with dev := d }

/-- A cell that scan jobs skip (08 R265). -/
def Dev.skipped (d : Dev) (j : Nat) : Bool :=
  let n := j / 1024
  !d.portEn n || decide (d.arings ≤ n) || decide (d.ringL n < j % 1024 / 16 + 1)

/-- REDUCE over the items (08 R291): eight words in the output length of R289 (log entry 14). -/
def reduceJob (page : FMap Slot) (first count fsel : Nat) : List Nat :=
  let w := fsel % 32
  let num : Nat → Int := fun j => let x := pickWord (slotWords (slotOf page j)) w
                                  if fsel.testBit 5 then (x : Int) else sextB 32 x
  let l := ((span first count).filter (fun j => (slotOf page j).flags.bit 0)).map (fun j => (j, num j))
  match l with
  | [] => [0, 0, 0xFFFFFFFF, 0xFFFFFFFF, 0, 0, 0, 0]
  | a :: rest =>
    let lo := rest.foldl (fun b x => if x.2 < b.2 then x else b) a
    let hi := rest.foldl (fun b x => if b.2 < x.2 then x else b) a
    let s := toU 64 (l.foldl (fun t x => t + x.2) 0)
    [toU 32 lo.2, toU 32 hi.2, lo.1, hi.1, s % 2 ^ 32, s / 2 ^ 32, l.length, 0]

/-- LOOKUP of one entry (08 R291). -/
def lookupWords (c : Chem) (z t : Int) : List Nat :=
  let p := c.par z t oneZ
  [p.ocv, p.docv, p.m, p.rser, p.ra, p.rb, p.ca, p.cb].map (toU 32) |> fun l => [l.getD 0 0, l.getD 1 0, l.getD 2 0, l.getD 3 0, l.getD 4 0,
    l.getD 6 0, l.getD 5 0, l.getD 7 0]

/-- PROJECT of one cell (08 R291): constant current for `ms` ms, parameters at the slot's z, OCV and M at the projected z. -/
def Slot.project (x : Slot) (c : Chem) (i : Int) (ms : Nat) : Int :=
  if x.flags.bit 0 = false then 0 else
  let dt : Nat := (rndDiv (ms * 2 ^ 28) 1000).toNat
  let p := c.par x.z x.tcell x.fr
  let eta := if i > 0 then c.eta else oneZ
  let num := qmul eta i 30 * dt
  let z := qadd x.z (qdiv (num * 4) (3600 * x.qeff))
  let pz := c.par z x.tcell x.fr
  let ea := expn (rcArg dt p.ra p.ca)
  let eb := expn (rcArg dt p.rb p.cb)
  let eh := expn (uq28 (c.gamma * num.natAbs) (3600 * x.qeff * 2 ^ 16))
  let h := qadd (qmul eh x.h 31) ((2 ^ 31 - eh) * i.sign)
  ({ x with z := z, va := rcStep ea x.va p.ra i, vb := rcStep eb x.vb p.rb i, h := h } : Slot).volt { pz with rser := p.rser } i

/-- A task job's RESULT and output words after the header (08 R289-R291). DESIGN CHOICE (log entry 196): the range is judged before the ECC
of what the job reads, and that before its arguments; CCOUNT 0, outside R288's range, answers RANGE; FSEL[31:6] of a REDUCE, which R291 gives
no meaning, must be 0. -/
def State.jobOut (s : State) (desc : List Nat) : Nat × List Nat :=
  let d := s.dev
  let page := d.cnpy.page d.cnpy.conf
  let w := pickWord desc
  let kind := w 0 / 2 ^ 24
  let first := w 1 % 65536
  let count := w 1 / 65536
  let js := span first count
  if kind = 0 ∨ 4 < kind then (1, [])
  else if count = 0 ∨ 1024 * d.rings < first + count then (2, [])
  else if kind ≠ 3 ∧ d.poisoned (slotAddr d.cnpy.conf first) (128 * count) then (4, [])
  else if kind = 1 then
    if w 2 = 0 then (3, []) else
      (0, js.flatMap (fun j => (bitsOf 32 (w 2)).map (fun b => if d.skipped j then 0 else pickWord (slotWords (slotOf page j)) b)))
  else if kind = 2 then (if 63 < w 2 then (3, []) else (0, reduceJob page first count (w 2)))
  else if kind = 3 then
    let e := (List.range count).map (fun i => (s.nearLoad (w 5 + 8 * i) 4, s.nearLoad (w 5 + 8 * i + 4) 4))
    if d.poisoned (w 5) (8 * count) then (4, [])
    else if e.any (fun x => decide (d.cnpy.chem.length ≤ x.2 / 65536 % 8)) then (3, [])
    else if e.any (fun x => d.tablesBad (x.2 / 65536 % 8)) then (4, [])
    else (0, e.flatMap (fun x => lookupWords (d.cnpy.chem.getD (x.2 / 65536 % 8) {}) (sextB 32 x.1) (sext16 x.2)))
  else if js.any (fun j => d.tablesBad (d.ringCfgOf (j / 1024)).chemSet) then (4, [])
  else if w 4 = 0 ∨ 3600000 < w 4 then (3, [])
  else (0, js.map (fun j => toU 32 ((slotOf page j).project (d.chemOf (j / 1024)) (sextB 32 (w 3)) (w 4))))

/-- EST_JOB_END (R290): header and results land in the output area; the job is done or failed, event 195. A failed job has processed 0 items
(DESIGN CHOICE, log entry 196). -/
def execEstJobEnd (s : State) : Out :=
  let c := s.dev.cnpy
  match c.running with
  | none => .next s
  | some (p, h) =>
    match (s.dev.estQ p).jobs.find? (fun j => j.handle == h) with
    | none => .next { s with dev := { s.dev with cnpy := { c with running := none } } }
    | some j =>
      let r := s.jobOut j.desc
      let items := if r.1 = 0 then pickWord j.desc 1 / 65536 else 0
      let hdr := [r.1 + 256 * (pickWord j.desc 0 / 2 ^ 24), (s.dev.reg A.cnpyConf).toNat, items, 0]
      let bytes := toBytes ((hdr ++ r.2).flatMap (leBytes 4))
      let out := pickWord j.desc 6
      let d := Dev.setEstQ p (fun z => { z with jobs := if 1000 ≤ j.owner then z.jobs.filter (fun x => !(x.handle == h))
                                       else z.jobs.map (fun x => if x.handle == h then { x with st := if r.1 = 0 then 2 else 3 } else x) })
        { s.dev with cnpy := { c with running := none } }
      .next { s with dev := (d.raiseIf (!(r.1 == 0)) 195 (j.owner % 1000)).cleanPoison out bytes.length, mem := writeBytes out bytes s.mem }

/-- The CRC-32C of a snapshot entry's cells (08 R293). -/
def Snap.sum (x : Snap) : Nat := crc32c (x.cells.flatMap snapBytes)

/-- The entry passes its check: no word failed and the CRC holds (08 R293, 15 R520). -/
def Snap.valid (x : Snap) : Bool := x.ok && x.crc == x.sum

/-- A string's snapshot entry from the confirmed page (08 R293), written after both entries that the copies hold. -/
def Dev.snapOf (d : Dev) (n : Nat) (ok : Bool) : Snap :=
  let ordOf := fun (m : FMap Snap) => (FMap.get (fun _ => {}) m n).ord
  let x : Snap := { scan := (d.reg A.cnpyConf).toNat, ord := max (ordOf d.cnpy.snapA) (ordOf d.cnpy.snapB) + 1, top := d.hwd.toph, ok := ok,
                    cells := (d.strSlots (d.cnpy.page d.cnpy.conf) n).map (fun p => (p.2.z, p.2.h, p.2.fq, p.2.fr)) }
  { x with crc := x.sum }

/-- Every string has a valid copy (08 R297). -/
def Dev.snapsOk (d : Dev) : Bool :=
  d.ringsOn.all (fun n => (FMap.get (fun _ => {}) d.cnpy.snapA n).valid || (FMap.get (fun _ => {}) d.cnpy.snapB n).valid)

/-- Write one string's entry into the copy of the running cycle; a failed write leaves an entry that fails its check (15 R520). -/
def Dev.snapWrite (ok : Bool) (n : Nat) (d : Dev) : Dev :=
  let x := d.snapOf n ok
  let c := d.cnpy
  let c := if c.snapUseB then { c with snapB := FMap.set (fun _ => {}) c.snapB n x } else { c with snapA := FMap.set (fun _ => {}) c.snapA n x }
  { d with cnpy := c }

/-- A snapshot cycle ends (08 R293): the copies alternate. -/
def Dev.snapCycle (d : Dev) : Dev :=
  let d := { d with cnpy := { d.cnpy with snapNext := 0, snapUseB := !d.cnpy.snapUseB } }
  d.setReg A.cnpySnap (d.reg A.cnpyConf)

/-- Complete a cycle at once (08 R293, 10 R356 S5). -/
def Dev.snapAll (d : Dev) : Dev :=
  let e := (foldOver d.ringsOn (Dev.snapWrite true) d).snapCycle
  e.setRbit A.cnpyStat 28 e.snapsOk

/-- SNAPSHOT_REFRESH (R293): one string a scan; a failed write raises event 199. -/
def execSnapshotRefresh (ok : Bool) (s : State) : Out :=
  let d := s.dev
  let e := match d.ringsOn.find? (fun n => decide (d.cnpy.snapNext ≤ n)) with
    | none => d
    | some n =>
      let e := d.snapWrite ok n
      let e := if ok then e else
        ((e.raise 199 n).raiseNoLog 365).logRec 6 365 ([4, 0, 0, 0] ++ leBytes 4 ((if d.cnpy.snapUseB then 0x20340000 else 0x20280000) + 0x4000 * n)) []
      let e := { e with cnpy := { e.cnpy with snapNext := n + 1 } }
      if e.ringsOn.any (fun k => decide (n < k)) then e else e.snapCycle
  .next { s with dev := e.setRbit A.cnpyStat 28 e.snapsOk }

/-- Restore a string's cells from its newer valid copy for this topology (08 R294); newer is the one written later, since scan numbers start
again at each start-up (01 R18; DEDUCED, log entry 197). None left cells to be initialised from OCV. -/
def Dev.snapRestore (n : Nat) (d : Dev) : Dev :=
  let ok := fun (x : Snap) => x.valid && x.top == d.hwd.toph
  let a := FMap.get (fun _ => {}) d.cnpy.snapA n
  let b := FMap.get (fun _ => {}) d.cnpy.snapB n
  let best := if ok a && (!ok b || decide (b.ord ≤ a.ord)) then some a else if ok b then some b else none
  match best with
  | none => d.raise 199 n
  | some x =>
    let c := d.chemOf n
    let put := fun (pg : FMap Slot) (k : Nat × (Int × Int × Int × Int)) =>
      let y := slotOf pg (1024 * n + k.1)
      let q := k.2
      let s : Slot := { y with z := q.1, va := 0, vb := 0, h := q.2.1, p := c.p0, fq := q.2.2.1, fr := q.2.2.2,
                               qeff := qmul c.qnom q.2.2.1 30, hf0 := 0, hf1 := -2147483648, flags := y.flags.setBit 0 true }
      FMap.set (fun _ => {}) pg (1024 * n + k.1) s
    let l := (List.range x.cells.length).zip x.cells
    let pg := l.foldl put (d.cnpy.page d.cnpy.conf)
    { d with cnpy := if d.cnpy.conf = 0 then { d.cnpy with page0 := pg } else { d.cnpy with page1 := pg } }

end Sys2Proof.Machine
end

