-- ==== Sys2Proof/Machine/Balance.lean ====
section
/-! DEFINITION. Balancing plans and the scheduled module runs (06 R202-R204, R210, R218, R220-R221). -/

namespace Sys2Proof.Machine
open Sys2Proof

/-- The block may bleed (06 R203): RUN or STANDBY, under DEGRADED too (16 R548), and P at most LOSSTO − 100 ms. -/
def Dev.blockBleeds (d : Dev) : Bool :=
  let st := if d.pstate = 5 then d.base else d.pstate
  (st == 3 || st == 4) && decide (d.perNs + 100000000 ≤ d.topo.lossto * 1000000)

/-- The string may bleed (06 R203). -/
def Dev.strBleeds (d : Dev) (n : Nat) : Bool :=
  d.blockBleeds && decide (n < d.arings) && (if n < 32 then d.rbit A.cnpyBalen0 n else d.rbit A.cnpyBalen1 (n - 32)) && (d.ringState n == 2 || d.ringState n == 3)

/-- The module's configuration tag matches (06 R217). -/
def Dev.tagOk (d : Dev) (n h : Nat) : Bool :=
  (d.latest n h).cfgtag == d.expectTag n h && !(FMap.get (fun _ => false) (d.port n).cfgStale h)

/-- The module may bleed (06 R203). -/
def Dev.modBleeds (d : Dev) (n h : Nat) : Bool :=
  d.authentic n h && (match (d.latest n h).tmax with | none => false | some t => decide (t ≤ 100 * d.topo.tbal)) && d.tagOk n h

/-- The confirmed slot of a cell. -/
def Dev.slot (d : Dev) (j : Nat) : Slot := slotOf (d.cnpy.page d.cnpy.conf) j

/-- Index of cell `c` (0-15) at hop `h` (08 R265). -/
def cellIdx (n h c : Nat) : Nat := 1024 * n + 16 * (h - 1) + c

/-- The cell counts in the plan: voltage and SoC VALID (06 R203). -/
def Dev.cellPlans (d : Dev) (n h c : Nat) : Bool := (d.latest n h).valid.getD c 6 == 0 && (d.slot (cellIdx n h c)).flags.bit 0

/-- Room to full or charge above empty, q16 Ah (06 R202). -/
def Dev.planM (d : Dev) (j : Nat) : Int :=
  let x := d.slot j
  qmul x.qeff (if d.topo.balmode = 0 then oneZ - x.z else x.z) 30

/-- Cells (hop, cell) of a string that count in the plan. -/
def Dev.planCells (d : Dev) (n : Nat) : List (Nat × Nat) :=
  ((d.hopsOf n).filter (d.modBleeds n)).flatMap (fun h => ((List.range 16).filter (d.cellPlans n h)).map (fun c => (h, c)))

/-- Cells that an armed capture keeps from bleeding (09 R317): the reference cell and its neighbours. -/
def Dev.capHeld (d : Dev) (n h c : Nat) : Bool :=
  let r := (FMap.get (fun _ => []) d.cnpy.refs n).getD (h - 1) 16
  (d.str n).armed && decide (r < 16) && decide (r ≤ c + 1) && decide (c ≤ r + 1)

/-- The timer of a cell with excess `e` (06 R202). -/
def Dev.timerOf (d : Dev) (v : Nat) (e : Int) : Nat :=
  let i := ieff d.topo.rbal d.topo.rsh v d.perNs
  if 100 * e ≤ (d.topo.qdead * 65536 : Nat) ∨ i ≤ 0 then 0 else min 4095 (e * 360 / i).toNat

/-- The timers of a module's 16 cells (06 R202-R203). -/
def Dev.planMod (d : Dev) (n : Nat) (ref : Int) (cells : List (Nat × Nat)) (h : Nat) : List Nat :=
  (List.range 16).map (fun c =>
    if cells.contains (h, c) = false ∨ (FMap.get (fun _ => 0) (d.port n).barred h).testBit c ∨ d.capHeld n h c then 0
    else
      let m := d.planM (cellIdx n h c)
      d.timerOf ((d.latest n h).cells.getD c 0) (if d.topo.balmode = 0 then ref - m else m - ref))

/-- The plan of a string: a list of 16 timers for each hop (06 R202). -/
def Dev.plan (d : Dev) (n : Nat) : List (List Nat) :=
  if d.strBleeds n = false then (d.hopsOf n).map (fun _ => List.replicate 16 0) else
  let cells := d.planCells n
  let ms := cells.map (fun p => d.planM (cellIdx n p.1 p.2))
  let ref := ms.foldl (if d.topo.balmode = 0 then max else min) (ms.headD 0)
  (d.hopsOf n).map (d.planMod n ref cells)

/-- The runs of consecutive numbers in a rising list, first and last. -/
def runsOf (l : List Nat) : List (Nat × Nat) :=
  match l with
  | [] => []
  | a :: rest =>
    match runsOf rest with
    | (b, c) :: r => if b = a + 1 then (a, c) :: r else (a, a) :: (b, c) :: r
    | [] => [(a, a)]

/-- Send a plan with BAL and keep it (06 R204); a module whose tag does not match gets none (R217). Bleeding that had stopped resumes with
event 220. -/
def Dev.sendPlan (n : Nat) (d : Dev) : Dev :=
  let p : List (List Nat) := d.plan n
  let fit := (d.hopsOf n).filter (d.tagOk n)
  let keep : FMap (List Nat) → Nat × List Nat → FMap (List Nat) := fun m x =>
    FMap.set (fun _ => []) m (64 * n + x.1) (if x.2.all (· == 0) then [] else x.2)
  let tm := ((List.range p.length).zip p).foldl keep d.cnpy.timers
  let d := { d with cnpy := { d.cnpy with timers := tm } }
  let d := foldOver (runsOf fit) (fun (r : Nat × Nat) (d : Dev) =>
    d.queueDev n 0x20 r.1 r.2 (((p.drop (r.1 - 1)).take (r.2 + 1 - r.1)).flatMap (fun t : List Nat => t.flatMap (leBytes 2))) 36) d
  if d.strBleeds n ∧ (d.str n).bleedOff then (d.setStr n (fun x => { x with bleedOff := false })).raise 220 n else d

/-- BALANCE_PLAN (R202): one string at a time, in string order. -/
def execBalancePlan (s : State) : Out :=
  let d := s.dev
  let l := d.ringsOn
  let pick := match l.find? (fun n => decide (d.cnpy.balNext ≤ n)) with
    | some n => some n
    | none => l.head?
  .next { s with dev := match pick with
    | none => d
    | some n => ({ d with cnpy := { d.cnpy with balNext := n + 1 } }).sendPlan n }

/-- A cell of the module bleeds though it no longer may (06 R203): its voltage or SoC is not VALID, or it is barred. -/
def Dev.cellStops (d : Dev) (n h : Nat) : Bool :=
  let t := FMap.get (fun _ => []) d.cnpy.timers (64 * n + h - 1)
  (List.range 16).any (fun c =>
    decide (0 < t.getD c 0) && (!d.cellPlans n h c || (FMap.get (fun _ => 0) (d.port n).barred h).testBit c))

/-- Once per scan: a failed condition sends zero timers to the modules concerned (06 R203). -/
def Dev.bleedCheck (n : Nat) (d : Dev) : Dev :=
  if d.strBleeds n then
    foldOver (d.hopsOf n) (fun h d => if d.bleeding n h && (!d.modBleeds n h || d.cellStops n h) then d.sendZero n h h else d) d
  else d.bleedStop n

/-- BALANCE_TEST_RUN (R210): MASK 0x5555, then 0xAAAA, on a module whose state is AUTH or ACCEPTED. -/
def execBalanceTestRun (port : Nat) (hop : Nat) (s : State) : Out :=
  ringCmd port (fun d => if d.authentic port hop then d.queueTest port hop else d) s

/-- CFG_RETRY (R218). -/
def execCfgRetry (port : Nat) (hop : Nat) (s : State) : Out :=
  ringCmd port (fun d => if FMap.get (fun _ => false) (d.port port).cfgStale hop then d.reconfigure port hop else d) s

/-- AUTH_CHALLENGE_RUN (R221): a hop accepted without a key is skipped (R222). -/
def execAuthChallengeRun (port : Nat) (hop : Nat) (s : State) : Out := ringCmd port (fun d => d.challengeHop port hop) s

/-- AUTH_RECORD_TIMEOUT (R220): no record for 1 h. -/
def execAuthRecordTimeout (port : Nat) (hop : Nat) (s : State) : Out :=
  ringCmd port (fun d =>
    if d.identity port hop = 3 ∨ (d.identity port hop = 4 ∧ d.hopKey port hop = 0) then d else d.setIdentity port hop 2) s

end Sys2Proof.Machine
end

