-- ==== Sys2Proof/Machine/Lsw.lean ====
section
/-! DEFINITION. Load switch channels and limp-home (11 R376-R400). -/

namespace Sys2Proof.Machine
open Sys2Proof

/-- The channel is in use and this twin switches it (11 R378, R381). -/
def Dev.switches (d : Dev) (n : Nat) : Bool :=
  let w := d.reg (A.lswCfg n)
  w.bit 31 && (!d.isTwin || w.field 29 28 == 2 || w.field 29 28 == b2n (d.rbit A.twinStat 19))

/-- The switches have supply and leave to be on (11 R377, R390, 16 R557): the map is loaded, no STORAGE, no thermal shutdown. -/
def Dev.lswPower (d : Dev) : Bool := d.lh.loaded && !(d.pstate == 1) && !d.pwr.shut

/-- The channel is mapped (11 R390); the map holds its LH_IN bit plus one. -/
def Dev.lhMapped (d : Dev) (n : Nat) : Bool := !(FMap.get (fun _ => 0) d.lh.map n == 0)

/-- The channel is under the limp-home map (11 R392-R393). -/
def Dev.lhUnder (d : Dev) (n : Nat) : Bool :=
  d.lhMapped n && (d.lhActive || FMap.get (fun _ => false) d.lh.waiting n)

/-- Demands of the channel or of members A and B (11 R379, R392): the map through member A, else what was last published. -/
def Dev.lswDemand (d : Dev) (n : Nat) : Bool × Bool :=
  if d.lhUnder n then (d.lh.ins.testBit (FMap.get (fun _ => 0) d.lh.map n - 1), false)
  else if d.rbit (A.lswCfg n) 30 then ((d.pub 1 (2 * n)).bit 0, (d.pub 1 (2 * n + 1)).bit 0)
  else ((d.pub 0 n).bit 0, false)

/-- What holds the channel off beside its demand (11 R380). -/
def Lsw.held (x : Lsw) : Bool := x.pause || x.retry || x.clamp || x.ot

/-- A select is closed for a member that is no longer demanded (11 R387). -/
def Lsw.opening (x : Lsw) : Bool := (x.selA && !x.demA) || (x.selB && !x.demB)

/-- Release of members (11 R387): a select opens at once while the other member stays selected and on, else it waits to open; a
waiting member no longer demanded waits no more. -/
def Lsw.release (x : Lsw) : Lsw :=
  let stayA := x.selA && x.demA && x.on
  let stayB := x.selB && x.demB && x.on
  { x with selA := x.selA && (x.demA || !stayB), selB := x.selB && (x.demB || !stayA), waitA := x.waitA && x.demA,
           waitB := x.waitB && x.demB }

/-- Selection of newly demanded members, A before B (11 R387); `both` tells that they may be selected together. One that finds the other selected,
or waiting to be, waits behind it; `firstB` says which of two waiting members began first. -/
def Lsw.select (both : Bool) (x : Lsw) : Lsw :=
  let blockA := (x.selB && (!both || !x.demB)) || (!both && x.waitB)
  let newA := x.demA && !x.selA && !x.waitA
  let y := { x with selA := x.selA || (newA && !blockA), waitA := x.waitA || (newA && blockA) }
  let blockB := (y.selA && (!both || !y.demA)) || (!both && y.waitA)
  let newB := y.demB && !y.selB && !y.waitB
  let z := { y with selB := y.selB || (newB && !blockB), waitB := y.waitB || (newB && blockB) }
  { z with firstB := z.waitB && (!z.waitA || (if x.waitA then x.firstB else x.waitB)) }

/-- WAIT of a member clears once the high side is on with its select closed (11 R387). -/
def Lsw.served (now : Nat) (x : Lsw) : Lsw :=
  let on := x.on && decide (x.turnOnAt ≤ now)
  { x with waitA := x.waitA && !(on && x.selA), waitB := x.waitB && !(on && x.selB) }

/-- The high side (11 R380, R387): on while demanded and not held off; `t` is the turn-on time. -/
def Lsw.drive (power group : Bool) (t : Nat) (x : Lsw) : Lsw :=
  let want := if group then !x.opening && ((x.selA && x.demA) || (x.selB && x.demB)) else x.demA
  let on := power && want && !x.held
  { x with on := on, turnOnAt := if on && !x.on then t else x.turnOnAt }

/-- The members may be selected together (11 R387): IDECLA + IDECLB at most 2.5 A. -/
def Dev.bothFit (d : Dev) (n : Nat) : Bool := decide (d.fld (A.lswCfg n) 5 0 + d.fld (A.lswCfg n) 11 6 ≤ 25)

/-- What event 256 + n watches (11 R394). -/
def Lsw.watch (x : Lsw) : List Bool := [x.oc, x.ot, x.ol, x.retry, x.clamp, x.fwfail, x.waitA || x.waitB, x.lh]

/-- Event 256 + n, at most once per scan (11 R394). -/
def Dev.lswEvent (n : Nat) (b : Bool) (d : Dev) : Dev :=
  if b && !(d.chan n).evt then (d.setChan n (fun x => { x with evt := true })).raise (256 + n) n else d

/-- Change a channel by `f` and let it follow its demand; `t` is the time at which it may turn on. A channel that this device does
not switch stays off and reports no flags (11 R378, R381). -/
def Dev.lswStep (n t : Nat) (f : Lsw → Lsw) (d : Dev) : Dev :=
  if d.switches n then
    let w := d.reg (A.lswCfg n)
    let m := d.lswDemand n
    let x := f (d.chan n)
    let x := { x with lh := d.lhUnder n, demA := m.1, demB := m.2 }
    let x := if w.bit 30 then (x.release).select (d.bothFit n) else x
    let y := (x.drive d.lswPower (w.bit 30) t).served d.time.now
    (d.setChan n (fun _ => y)).lswEvent n (!(y.watch == (d.chan n).watch))
  else d.setChan n (fun x => { agr := x.agr })

/-- A channel follows its demand at once. -/
def Dev.lswSync (n : Nat) (d : Dev) : Dev := d.lswStep n d.time.now id

/-- Every fitted channel follows demand and map. While the device is dead, every mapped channel waits for its first publication
afterwards (11 R391-R393). -/
def Dev.lhSync (d : Dev) : Dev :=
  let w := if d.lhDead then d.lh.map.map (fun p => (p.1, true)) else d.lh.waiting
  let d := { d with lh := { d.lh with waiting := w } }
  foldOver ((List.range 32).filter d.hasLsw) Dev.lswSync d

/-- The channels that a publication reaches, in ascending order (11 R379). -/
def chansOf (l : List OutVal) : List Nat :=
  (List.range 32).filter (fun n => l.any (fun o => (o.cls == 0 && o.idx == n) || (o.cls == 1 && o.idx / 2 == n)))

/-- A publication reaches the channels: mapped ones leave a map they only waited under (11 R393), and those that turn on do so 10 µs
apart in ascending order (11 R376). -/
def Dev.lswPublish (l : List OutVal) (d : Dev) : Dev :=
  let go := fun (n : Nat) (p : Dev × Nat) =>
    let e := { p.1 with lh := { p.1.lh with waiting := FMap.set (fun _ => false) p.1.lh.waiting n false } }
    let e := e.lswStep n (e.time.now + 10000 * p.2) id
    (e, if (e.chan n).on && !(p.1.chan n).on then p.2 + 1 else p.2)
  (foldOver (chansOf l) go (d, 0)).1

/-- Every channel and select off (11 R377). -/
def Dev.allChansOff (d : Dev) : Dev :=
  let off : Lsw → Lsw := fun x => { x with on := false, selA := false, selB := false, waitA := false, waitB := false }
  foldOver (List.range 32) (fun n d => d.setChan n off) d

/-- A core reset (11 R391-R392): nothing is published since it, the device is dead for limp-home, and mapped channels follow the
map while the switches have supply. -/
def Dev.lhReset (d : Dev) : Dev :=
  let d := { d with pubs := [], pubSet := [], committed := [], factZones0 := 0, factZones1 := 0, lh := { d.lh with inReset := true, wdog := false } }
  d.lhSync

/-- A command to a fitted channel in use (11 R378, 00 R5). -/
def lswCmd (n : Nat) (f : Dev → Dev) (s : State) : Out := present (s.dev.hasLsw n) (s.onDev (fun d => if d.switches n then f d else d))

/-- CURRENT_LIMIT_EXPIRY (R382): TBLANK in current limit. -/
def execCurrentLimitExpiry (n : Nat) (s : State) : Out :=
  lswCmd n (fun d =>
    let f : Lsw → Lsw := fun x =>
      if x.on then
        let r := min (x.rcnt + 1) 15
        let latch := decide (d.fld (A.lswCfg n) 23 20 ≤ x.rcnt + 1)
        { x with oc := true, rcnt := r, retry := x.retry || latch, pause := !latch }
      else x
    d.lswStep n d.time.now f) s

/-- RETRY_PAUSE_END (R382). -/
def execRetryPauseEnd (n : Nat) (s : State) : Out := lswCmd n (fun d => d.lswStep n d.time.now (fun x => { x with pause := false })) s

/-- CONDUCTION_CLEAR (R382). -/
def execConductionClear (n : Nat) (s : State) : Out :=
  lswCmd n (fun d => d.lswStep n d.time.now (fun x => if x.on then { x with rcnt := 0, oc := false } else x)) s

/-- CURRENT_LIMIT_SUM_REACHED (R382): 300 ms in 10 s latch the channel whatever RCNT shows, with event 256 + n. -/
def execCurrentLimitSumReached (n : Nat) (s : State) : Out :=
  lswCmd n (fun d => (d.lswStep n d.time.now (fun x => { x with retry := true })).lswEvent n true) s

/-- POWER_STAGE_OVERTEMP (R383). -/
def execPowerStageOvertemp (n : Nat) (s : State) : Out :=
  lswCmd n (fun d => d.lswStep n d.time.now (fun x => { x with ot := true, otHot := true })) s

/-- POWER_STAGE_RESTART (R383): the temperature has fallen to the restart temperature; with OTM 0 the channel restarts. -/
def execPowerStageRestart (n : Nat) (s : State) : Out :=
  lswCmd n (fun d => d.lswStep n d.time.now (fun x => { x with otHot := false, ot := x.ot && d.rbit (A.lswCfg n) 26 })) s

/-- OPEN_LOAD_CHANGE (R384): an off channel keeps OL. -/
def execOpenLoadChange (n : Nat) (below : Bool) (s : State) : Out :=
  lswCmd n (fun d => d.lswStep n d.time.now (fun x => if x.on then { x with ol := below } else x)) s

/-- A clamp pulse of `e` µJ at time `t` (11 R385): B falls by 200 mJ per second, 0.2 nJ per ns; above 200 mJ, or after a pulse above
50 mJ, CLAMPLOCK sets. -/
def Lsw.pulse (e t : Nat) (x : Lsw) : Lsw :=
  let b := x.b - (t - x.bT) + 5000 * e
  { x with b := b, bT := max t x.bT, clamp := x.clamp || decide (1000000000 < b) || decide (50000 < e) }

/-- The device's time is set to `t`: every clamp budget goes on falling by elapsed time, and not by the step (11 R385). -/
def Dev.setClock (t : Nat) (d : Dev) : Dev :=
  let f : Lsw → Lsw := fun x => { x with b := x.b - (d.time.now - x.bT), bT := t }
  let d := foldOver (List.range 32) (fun n d => d.setChan n f) d
  { d with time := { d.time with now := t } }

/-- CLAMP_PULSE (R385): a channel with a free-wheel path does not add to B. -/
def execClampPulse (n : Nat) (energy : Nat) (t : Nat) (s : State) : Out :=
  lswCmd n (fun d =>
    let d := d.at t
    if d.rbit (A.lswCfg n) 27 then d else d.lswStep n d.time.now (Lsw.pulse energy t)) s

/-- FREEWHEEL_CHECK (R386): the output stayed below −2 V after a turn-off. -/
def execFreewheelCheck (n : Nat) (s : State) : Out :=
  lswCmd n (fun d =>
    if d.rbit (A.lswCfg n) 27 then d.lswStep n d.time.now (fun x => { x with clamp := true, fwfail := true }) else d) s

/-- SELECT_OPEN (R387): a select that waits to open opens. -/
def execSelectOpen (n : Nat) (s : State) : Out :=
  lswCmd n (fun d => d.lswStep n d.time.now (fun x => { x with selA := x.selA && x.demA, selB := x.selB && x.demB })) s

/-- The select of the member that has waited longer closes once no other member blocks it, then the other's if both may be selected (11 R387).
The member keeps WAIT until the high side is on. -/
def Lsw.closeSelect (both : Bool) (x : Lsw) : Lsw :=
  let goA := fun (x : Lsw) => { x with selA := x.selA || (x.waitA && !(x.selB && (!both || !x.demB))) }
  let goB := fun (x : Lsw) => { x with selB := x.selB || (x.waitB && !(x.selA && (!both || !x.demA))) }
  if x.firstB then goA (goB x) else goB (goA x)

/-- SELECT_CLOSE (R387): the waiting member is served; the high side turns on 100 µs after its select closes. -/
def execSelectClose (n : Nat) (s : State) : Out :=
  lswCmd n (fun d => d.lswStep n (d.time.now + 100000) (Lsw.closeSelect (d.bothFit n))) s

/-- An unlock of one channel (11 R383, R389): refused while a latched over-temperature is still above the restart temperature. -/
def Dev.unlockChan (n : Nat) (d : Dev) : Dev :=
  if d.switches n = false then d
  else if d.rbit (A.lswCfg n) 26 && (d.chan n).ot && (d.chan n).otHot then d.lswEvent n true
  else
    let f : Lsw → Lsw := fun x => { x with retry := false, clamp := false, fwfail := false, oc := false, rcnt := 0, pause := false,
                                           ot := x.ot && !d.rbit (A.lswCfg n) 26 }
    d.lswStep n d.time.now f

/-- Unlock the channels of a mask (11 R389, R396). -/
def Dev.unlock (mask : Nat) (d : Dev) : Dev := foldOver ((bitsOf 32 mask).filter d.hasLsw) Dev.unlockChan d

/-- LSW.CFGn from a channel's configuration (11 R400): 0 without EN, IDECLB 0 without GRP, the reserved bit 0. -/
def lswCfgWord (w : Word) : Word := if !w.bit 31 then 0 else (if w.bit 30 then w else w.setField 11 6 0).setBit 24 false

/-- The limp-home map and the channels' configuration as a topology gives them (11 R378, R390, R397-R400). The map is a list of one
entry per channel: none, or the LH_IN bit it follows. -/
def Dev.loadLsw (t : Topo) (d : Dev) : Dev :=
  let m := (List.range 32).filterMap (fun n => match t.lhMap.getD n none with
    | some b => if d.hasLsw n then some (n, b + 1) else none
    | none => none)
  let d := { d with lh := { d.lh with map := m, wdt := t.lhWdt } }
  let d := d.setReg A.lswLhcfg (BitVec.ofNat 32 (b2n (!m.isEmpty) * 2 ^ 31 + t.lhWdt % 256))
  let d := foldOver (List.range 4) (fun k d =>
    d.setReg (A.lswLhmap k) (BitVec.ofNat 32 ((List.range 8).foldl (fun a j =>
      let b := FMap.get (fun _ => 0) m (8 * k + j)
      a + (if b = 0 then 0 else 8 + (b - 1) % 8) * 16 ^ j) 0))) d
  foldOver ((List.range 32).filter d.hasLsw) (fun n d =>
    d.setReg (A.lswCfg n) (lswCfgWord (t.lswCfg.getD n 0))) d

/-- LH_MAP_LOAD (R390): the map that MRAM holds from the signed topology reaches the unit. -/
def execLhMapLoad (s : State) : Out :=
  .next (s.onDev (fun d =>
    let d := { d with lh := { d.lh with loaded := true } }
    (d.loadLsw (d.img.bootTopo.getD d.topo)).lhSync))

/-- LH_WATCHDOG_EXPIRY (R391). -/
def execLhWatchdogExpiry (s : State) : Out := .next (s.onDev (fun d => ({ d with lh := { d.lh with wdog := true } }).lhSync))

/-- One debounced LH_IN bit (11 R392): three equal 1 ms samples against the present value change it. -/
def LhSt.sample (v i : Nat) (l : LhSt) : LhSt :=
  if v.testBit i = l.ins.testBit i then { l with insCand := FMap.set (fun _ => 0) l.insCand i 0 }
  else
    let k := FMap.get (fun _ => 0) l.insCand i + 1
    if k < 3 then { l with insCand := FMap.set (fun _ => 0) l.insCand i k }
    else { l with insCand := FMap.set (fun _ => 0) l.insCand i 0, ins := l.ins ^^^ 2 ^ i }

/-- LH_IN_SAMPLE (R392). In STORAGE the inputs are ignored (R377). -/
def execLhInSample (v : Nat) (s : State) : Out :=
  .next (s.onDev (fun d =>
    if d.pstate = 1 then d else ({ d with lh := foldOver (List.range 8) (LhSt.sample v) d.lh }).lhSync))

/-- LH_EN_LOW (R392). -/
def execLhEnLow (s : State) : Out :=
  .next (s.onDev (fun d => if d.pstate = 1 then d else ({ d with lh := { d.lh with enLow := true } }).lhSync))

/-- LH_EN_RETURN (R393), ignored in STORAGE (R377): while the device is alive, every mapped channel returns to its last published demand. -/
def execLhEnReturn (s : State) : Out :=
  .next (s.onDev (fun d =>
    if d.pstate = 1 then d else
    let d := { d with lh := { d.lh with enLow := false } }
    (if d.lhDead then d else { d with lh := { d.lh with waiting := [] } }).lhSync))

end Sys2Proof.Machine
end

