-- ==== Sys2Proof/Machine/Report.lean ====
section
/-! DEFINITION. Reported state, the health filter, string and block limits, grants and report records (09 R303-R334). -/

namespace Sys2Proof.Machine
open Sys2Proof

/-- A fraction of `x` in thousandths, rounded half to even. -/
def permille (k : Nat) (x : Int) : Int := rndDiv (x * k) 1000

/-- A quotient as Q2.30. -/
def ratioZ (n d : Int) : Int := qdiv (n * oneZ) d

/-- An unsigned 32-bit figure. -/
def u32 (x : Int) : Nat := (clampI 0 (2 ^ 32 - 1) x).toNat

/-- What the reports derive from a string's reduction record (09 R304). -/
structure StrCalc where
  n : Nat
  rec_ : StrRec
  lo : Slot
  hi : Slot
  ns : Nat
  qdis : Int
  qchg : Int
  qtot : Int
  res : Int
  cap : Bool

/-- String quantities from the confirmed records (09 R304, R306). -/
def Dev.strCalc (d : Dev) (n : Nat) : StrCalc :=
  let r := FMap.get (fun _ => {}) d.cnpy.rec0 n
  let lo := d.slot (1024 * n + r.jz % 65536)
  let hi := d.slot (1024 * n + r.jz / 65536)
  let some_ := decide (0 < r.ncell)
  let qd := if some_ then qmul lo.qeff r.zmin 30 else 0
  let qc := if some_ then qmul hi.qeff (oneZ - r.zmax) 30 else 0
  let qt := qadd qd qc
  { n := n, rec_ := r, lo := lo, hi := hi, ns := 16 * d.ringL n, qdis := qd, qchg := qc, qtot := qt, res := permille d.topo.fres qt,
    cap := (d.str n).capdis }

/-- Strings with contributing cells (09 R304). -/
def Dev.calcs (d : Dev) : List StrCalc := (d.ringsOn.map d.strCalc).filter (fun x => decide (0 < x.rec_.ncell))

/-- qdis as the reported forms take it (09 R306, R312). -/
def StrCalc.qd (x : StrCalc) : Int := if x.cap then x.res else x.qdis

/-- SOCF (09 R306). -/
def socf (l : List StrCalc) : Int :=
  let num := l.foldl (fun a x => a + (x.qd - x.res)) 0
  let den := l.foldl (fun a x => a + (x.qtot - x.res)) 0
  if l = [] then 0 else clampI 0 oneZ (ratioZ num den)

/-- OCV of a cell at `z`. -/
def Dev.ocvAt (d : Dev) (n : Nat) (z t : Int) : Int :=
  let c := d.chemOf n
  interp c.ocv (socSeg 100 z) (tempSeg c.taxis t)

/-- The floor state of the limiting cell (09 R305). -/
def StrCalc.zf (x : StrCalc) (f : Int) : Int := satVal (x.rec_.zmin - ratioZ (x.qdis - f) x.lo.qeff)

/-- Energy of a string above the floor charge `f`, in Wh (09 R305). -/
def Dev.energy (d : Dev) (x : StrCalc) (qd f : Int) : Int :=
  let o := d.ocvAt x.n x.rec_.zmin x.lo.tcell + d.ocvAt x.n (x.zf f) x.lo.tcell
  rndDiv (max 0 (qd - f) * x.ns * o) (2 ^ 45)

/-- Energy of a string to ZHI, in Wh (09 R305). -/
def Dev.energyUp (d : Dev) (x : StrCalc) : Int :=
  let zhi := (d.setRep x.n).zhi
  let q := qmul x.hi.qeff (zhi - x.rec_.zmax) 30
  let o := d.ocvAt x.n x.rec_.zmax x.hi.tcell + d.ocvAt x.n zhi x.hi.tcell
  rndDiv (max 0 q * x.ns * o) (2 ^ 45)

/-- The floor fraction in force, in 0.1 % (09 R307). -/
def Dev.floorMille (d : Dev) (x : StrCalc) : Nat := if x.cap then d.topo.fres else d.rep.relFrel.getD d.topo.fres

/-- The floor charge in force. -/
def Dev.floorQ (d : Dev) (x : StrCalc) : Int := permille (d.floorMille x) x.qtot

/-- The lowest z at which the steady voltage reaches VSHUT, by column inversion; none where no z does (09 R309). -/
def Dev.zcut (d : Dev) (x : StrCalc) (is : Int) : Option Int :=
  let c := d.chemOf x.n
  let tt := tempSeg c.taxis x.lo.tcell
  let vs := (List.range 101).map (fun i : Nat =>
    let p := c.par (rndDiv ((i : Int) * oneZ) 100) x.lo.tcell x.lo.fr
    qadd (qadd (column c.ocv i tt) (qmul p.m x.lo.h 31)) (qmul p.rser is 19))
  let v := fun i => vs.getD i 0
  let sh := (d.setRep x.n).vshut
  if sh ≤ v 0 then some 0
  else match (List.range 100).find? (fun i => decide (v i < sh) && decide (sh ≤ v (i + 1))) with
    | none => none
    | some i => some <| rndDiv (((i : Int) * (v (i + 1) - v i) + (sh - v i)) * oneZ) (100 * (v (i + 1) - v i))

/-- What a string adds to SOCR's two sums (09 R309): one in which no z reaches VSHUT counts as empty, with nothing above the floor of
its charge between the reserve and full (log entry 174). -/
def Dev.socrPart (d : Dev) (x : StrCalc) : Int × Int :=
  match d.zcut x (min (ampOf (d.latest x.n 1).istr) 0) with
  | none => (0, x.qtot - x.res)
  | some z =>
    let f := max x.res (qmul x.lo.qeff z 30)
    (x.qd - f, x.qtot - f)

/-- SOCR (09 R309). -/
def Dev.socr (d : Dev) (l : List StrCalc) : Int :=
  let parts := l.map d.socrPart
  let num := parts.foldl (fun a p => a + p.1) 0
  let den := parts.foldl (fun a p => a + p.2) 0
  if l = [] then 0 else clampI 0 oneZ (ratioZ num den)

/-- The block current of the scan header in mA (05 R183). -/
def Dev.blkI (d : Dev) : Int := d.view0.hdr.own.getD d.topo.blkCur 0

/-- SOCM from SOCF and the block current (09 R308). -/
def Dev.stepSocm (f : Int) (d : Dev) : Dev :=
  let i := d.blkI
  let r : Int := (d.topo.irest * 100 : Nat)
  let q := d.rep
  let t := d.view0.hdr.tinst
  { d with rep :=
    if q.socmOn = false then { q with socm := f, socmOn := true }
    else if i < -r then { q with socm := min q.socm f, restT := none, tracking := false }
    else if r < i then { q with socm := f, restT := none }
    else if q.tracking then { q with socm := f }
    else { q with restT := some (q.restT.getD t) } }

/-- A string is connected (09 R328): both contacts closed, no zone of its STRZ latched, its ring in RUN or BROKEN, and no disconnect
under way (10 R361). -/
def Dev.connected (d : Dev) (n : Nat) : Bool :=
  let b := (d.latest n 1).head.getD 4 0
  b % 4 == 3 && (d.strz n &&& d.latched) == 0 && (d.ringState n == 2 || d.ringState n == 3) && !(d.str n).discon

/-- A string with a PENDING, FAILED or NEW module (09 R327). -/
def Dev.derated (d : Dev) (n : Nat) : Bool := (d.hopsOf n).any (fun h => d.outside n h)

/-- The DERATE factor: q16 clamped to 0-1, 1 before its first publication (07 R231, 02 R62). -/
def Dev.derate (d : Dev) (n : Nat) : Int :=
  if d.pubSet.contains (65536 * 11 + n) then clampI 0 65536 (d.pub 11 n).toInt else 65536

/-- The Layer 0 current threshold cap of a string in q16 A, if its check is enabled (07 R231). -/
def Dev.l0Cap (d : Dev) (n kind : Nat) : Option Int :=
  match List.head? ((d.prot.env.getD (d.ringCfgOf n).envSet []).drop kind) with
  | none => none
  | some e => if e.en then some (rndDiv (e.thr * 65536 * 95) 100000) else none

/-- The six current limits of a string in q16 A (09 R327). -/
def Dev.strLimits (d : Dev) (x : StrCalc) : List Int :=
  (List.range 6).map (fun k =>
    let dis := decide (3 ≤ k)
    let tau : Int := if k % 3 = 0 then 2 else if k % 3 = 1 then 10 else 60
    let v := x.rec_.lmin.getD k 0
    let v := if d.derated x.n then rnd v 1 else v
    let v := if dis then (if x.cap then 0 else min v (max 0 (qdiv ((x.qdis - d.floorQ x) * 3600) tau))) else v
    let v := rnd (v * d.derate x.n) 16
    match d.l0Cap x.n (if dis then 6 else 5) with
    | none => v
    | some c => min v (max 0 c))

/-- A Layer 2 limit, if set (07 R244): 0 charge current, 1 discharge current (mA), 2 and 3 the powers (W), 4 upper and 5 lower SoC. -/
def Dev.layer2 (d : Dev) (k : Nat) : Option Nat :=
  let v := FMap.get (fun _ => 0) d.prot.limits k
  if v = 0 then none else some (v - 1)

/-- Cap by an optional limit. -/
def capBy (l : Option Nat) (x : Nat) : Nat := match l with | none => x | some m => min x m

/-- Milliamperes of a q16 current. -/
def mA (x : Int) : Int := rnd (x * 1000) 16

/-- The twelve block limits: six currents in mA, six powers in W (09 R328), capped by Layer 2, 0 at the SoC limits, and in
CONSERVATIVE mode, with authority, no higher than those the other twin reported for the scan (07 R256). -/
def Dev.blockLimits (d : Dev) (l : List (StrCalc × List Int)) (f : Int) : List Nat :=
  let k : Int := d.topo.ksh
  let i := (List.range 6).map (fun j => u32 (rndDiv (l.foldl (fun a x => a + x.2.getD j 0) 0 * k * 1000) (100 * 65536)))
  let p := (List.range 6).map (fun j => u32 (rndDiv (l.foldl (fun a x =>
    let r := d.setRep x.1.n
    a + x.2.getD j 0 * x.1.ns * (if j < 3 then r.vchmax else r.vdsmin)) 0 * k) (100 * 2 ^ 44)))
  let full := match d.layer2 4 with | none => false | some v => decide ((v : Int) ≤ f)
  let low := match d.layer2 5 with | none => false | some v => decide (f ≤ (v : Int))
  let cut := fun (b : Nat) (j x : Nat) =>
    if (j < 3 ∧ full = true) ∨ (3 ≤ j ∧ low = true) then 0 else capBy (d.layer2 (b + j / 3)) x
  let out := (List.range 6).map (fun j => cut 0 j (i.getD j 0)) ++ (List.range 6).map (fun j => cut 2 j (p.getD j 0))
  if d.conservative ∧ d.authority = true ∧ d.rep.partner ≠ [] then out.zipWith min (padTo 12 0 d.rep.partner) else out

/-- The twin without authority reports its grant inputs (07 R256). -/
def Dev.tellGrants (lim : List Nat) (d : Dev) : Dev := if d.conservative && d.follows then d.moorSend (.grantInputs lim) else d

/-- A request that has not run out (09 R329). -/
def inForce (r : Option PcsForce) (now : Nat) : Option PcsForce :=
  match r with
  | none => none
  | some x => match x.until_ with | none => some x | some t => if now < t then some x else none

/-- Remaining duration in ns, 0 for continuous (09 R330). -/
def remaining (r : Option PcsForce) (now : Nat) : Nat :=
  match r with
  | none => 0
  | some x => match x.until_ with | none => 0 | some t => t - now

/-- Power and current granted in one direction (09 R330): `lims` are the three currents and three powers, `e` the energy in Wh. -/
def grant (r : Option PcsForce) (now : Nat) (ilim plim : List Nat) (e : Int) (hv : Option Nat) : Nat × Nat :=
  let dr := remaining r now
  let h := if 0 < dr ∧ dr ≤ 2000000000 then 0 else if 0 < dr ∧ dr ≤ 10000000000 then 1 else 2
  let p := plim.getD h 0
  let p := match r with | none => p | some x => min p x.preq
  let p := if 0 < dr then min p (u32 (e * 3600000000000 / dr)) else p
  let i := ilim.getD h 0
  (p, match hv with | none => i | some v => if v = 0 then (if p = 0 then 0 else i) else min i (p * 1000000 / v))

/-- HV0 in mV when VALID. -/
def Dev.hv0 (d : Dev) : Option Nat :=
  let h := d.view0.hdr
  if h.val.getD 4 6 = 0 then some (h.own.getD 4 0).toNat else none

/-- Lowest FQ and highest FR of the contributing cells of a string (09 R315). -/
def Dev.sohOf (d : Dev) (n : Nat) : Option (Int × Int) :=
  ((d.strSlots (d.cnpy.page d.cnpy.conf) n).filter (fun p => p.2.counts)).foldl
    (fun a p => match a with
      | none => some (p.2.fq, p.2.fr)
      | some q => some (min q.1 p.2.fq, max q.2 p.2.fr)) none

/-- A string report record (09 R333). -/
def Dev.strReport (d : Dev) (x : StrCalc) (lims : List Int) : StrRep :=
  let s := d.str x.n
  let soh := (d.sohOf x.n).getD (0, 0)
  { scan := x.rec_.scan,
    flags := b2n (d.connected x.n) + 2 * b2n (d.derated x.n) + 4 * b2n x.cap + 8 * b2n s.zcOk + 16 * b2n s.armed + x.ns * 65536,
    zs := ratioZ x.qdis x.qtot, zc := s.zc, qdis := x.qdis, qchg := x.qchg, lims := lims.map (fun v => u32 (mA v)),
    fq := soh.1, fr := soh.2, cap := s.capScan }

/-- The record of a string without a contributing cell: 0 in every quantity (09 R304, R333). -/
def Dev.bareReport (d : Dev) (n : Nat) : StrRep :=
  let s := d.str n
  { scan := (FMap.get (fun _ => {}) d.cnpy.rec0 n).scan, cap := s.capScan,
    flags := b2n (d.connected n) + 2 * b2n (d.derated n) + 4 * b2n s.capdis + 8 * b2n s.zcOk + 16 * b2n s.armed + 16 * d.ringL n * 65536 }

/-- Events of a string's report: identity derate 211, its 60 s limits 212 (09 R327-R328). -/
def Dev.strEvents (x : StrCalc) (lims : List Int) (d : Dev) : Dev :=
  let s := d.str x.n
  let der := d.derated x.n
  let z := if d.connected x.n then b2n (lims.getD 2 0 == 0) + 2 * b2n (lims.getD 5 0 == 0) else s.limZero
  let d := d.setStr x.n (fun y => { y with derated := der, limZero := z })
  (d.raiseIf (!(der == s.derated)) 211 x.n).raiseIf (!(z == s.limZero)) 212 x.n

/-- The grants in force fall: the old pair stays in the grant-excess check for GGRACE (07 R245). -/
def Dev.noteGrant (c e : Nat) (d : Dev) : Dev :=
  let o := d.rep.blk0
  if c < o.icg ∨ e < o.idg then
    { d with prot := { d.prot with gPend := d.prot.gPend ++ [(d.time.now + d.topo.ggrace * 1000000, o.icg, o.idg)] } }
  else d

/-- The state of SOCF for event 213 (09 R335): 0 at 0, 1 at 1, 2 between. -/
def socEndOf (f : Int) : Nat := if f ≤ 0 then 0 else if oneZ ≤ f then 1 else 2

/-- A grant stays below its request (09 R330). -/
def cutBelow (r : Option PcsForce) (p : Nat) : Bool := match r with | none => false | some x => decide (p < x.preq)

/-- A PCS request replaces the one of its direction, or ends it (09 R329, 14 R482); its duration runs from instant `t`. -/
def RepSt.takePcs (t scan : Nat) (r : PcsReq) (q : RepSt) : RepSt :=
  let x : Option PcsForce := if r.withdraw then none
    else some { preq := r.preq, until_ := if r.dur = 0 then none else some (t + r.dur * 1000000000), fromScan := scan }
  if r.discharge then { q with dis := x, cutD := false } else { q with chg := x, cutC := false }

/-- The requests due at the report computation of `scan` come into force in the order they were accepted (09 R331). -/
def RepSt.pcsDue (t scan : Nat) (q : RepSt) : RepSt :=
  let r := foldOver (q.pcsQ.filter (fun x => reached scan x.1)) (fun x q => q.takePcs t scan x.2) q
  { r with pcsQ := q.pcsQ.filter (fun x => !reached scan x.1) }

/-- The report computation after a confirmation (09 R306-R334): charges and energies over the strings with contributing cells, connection, limits and
events over every string of the topology. -/
def Dev.report (d0 : Dev) : Dev :=
  let scan := (d0.reg A.cnpyConf).toNat
  let now := d0.view0.hdr.tinst
  let d0 := { d0 with rep := d0.rep.pcsDue now scan }
  let l := d0.calcs
  let f := socf l
  let d := d0.stepSocm f
  let all : List StrCalc := d0.ringsOn.map d0.strCalc
  let ls := all.map (fun x => (x, d.strLimits x))
  let joined := ls.filter (fun x => d.connected x.1.n)
  let con := joined.filter (fun x => !(d.port x.1.n).isolated)
  let some_ := con.filter (fun x => decide (0 < x.1.rec_.ncell))
  let none_ := joined.isEmpty
  let lim := d.blockLimits con f
  let d := { d.tellGrants lim with rep := { d.rep with partner := [] } }
  let il := lim.take 6
  let pl := lim.drop 6
  let rc := inForce d.rep.chg now
  let rd := inForce d.rep.dis now
  let eUp := some_.foldl (fun a x => a + d.energyUp x.1) 0
  let eDn := some_.foldl (fun a x => a + (if x.1.cap then 0 else d.energy x.1 x.1.qdis (d.floorQ x.1))) 0
  let gc := grant rc now (il.take 3) (pl.take 3) eUp d.hv0
  let gd := grant rd now (il.drop 3) (pl.drop 3) eDn d.hv0
  let gc := if d.rep.openZero then (gc.1, 0) else gc
  let gd := if d.rep.openZero then (gd.1, 0) else gd
  let cutC := cutBelow rc gc.1
  let cutD := cutBelow rd gd.1
  let soh := d.ringsOn.filterMap d.sohOf
  let sq := soh.foldl (fun a p => min a p.1) (match soh with | [] => 0 | p :: _ => p.1)
  let sr := soh.foldl (fun a p => max a p.2) 0
  let nCon := joined.length
  let nDer : Nat := (all.filter (fun x => d.derated x.n)).length
  let nCap : Nat := (all.filter (fun x => x.cap)).length
  let relearn := all.any (fun x => (d.strSlots (d.cnpy.page d.cnpy.conf) x.n).any (fun p => p.2.hf2.bit 31))
  let fl := b2n (decide (0 < nCap)) + 2 * b2n d.rep.relFrel.isSome + 4 * b2n (decide (0 < nDer)) + 8 * b2n relearn
    + 16 * b2n (cutC || cutD) + 32 * b2n none_ + 64 * b2n (d.rbit A.cnpyStat 29)
  let zm := ratioZ (l.foldl (fun a x => a + x.rec_.qzsum) 0) (l.foldl (fun a x => a + x.rec_.qsum) 0)
  let qdn := satVal (l.foldl (fun a x => a + max 0 (x.qd - d.floorQ x)) 0)
  let qup := satVal (l.foldl (fun a x => a + x.qchg) 0)
  let edn := u32 (l.foldl (fun a x => a + (if x.cap then 0 else d.energy x x.qdis (d.floorQ x))) 0)
  let eup := u32 (l.foldl (fun a x => a + d.energyUp x) 0)
  let b : BlkRec :=
    { scan := scan, flags := fl, socf := f, socm := d.rep.socm, socr := d.socr l, zmean := zm, qdis := qdn, qchg := qup,
      edis := edn, echg := eup, ilim := il, plim := pl, icg := gc.2, idg := gd.2, pcg := gc.1, pdg := gd.1, remC := (remaining rc now + 999999) / 1000000,
      remD := (remaining rd now + 999999) / 1000000, sohq := sq, sohr := sr, counts := nCon + 256 * nDer + 65536 * nCap }
  let d := foldOver ls (fun x d => d.strEvents x.1 x.2) d
  let d := d.raiseIf (!(cutC == d.rep.cutC)) 209 0
  let d := d.raiseIf (!(cutD == d.rep.cutD)) 209 1
  let e := socEndOf f
  let d := d.raiseIf (!(e == d.rep.socEnd) && (decide (e < 2) || decide (d.rep.socEnd < 2))) 213 0
  let d := d.raiseIf (!(none_ == d.rep.noString)) 214 0
  let d := d.noteGrant gc.2 gd.2
  let reps := d.ringsOn.foldl (fun m n => match ls.find? (fun x => x.1.n == n) with
    | none => FMap.set (fun _ => {}) m n (d.bareReport n)
    | some x => FMap.set (fun _ => {}) m n (if x.1.rec_.ncell = 0 then d.bareReport n else d.strReport x.1 x.2)) ([] : FMap StrRep)
  { d with rep := { d.rep with blk2 := d.rep.blk1, blk1 := d.rep.blk0, blk0 := b, str2 := d.rep.str1, str1 := d.rep.str0, str0 := reps, cutC := cutC, cutD := cutD, socEnd := e,
                               noString := none_ } }

/-- SOCM_REST_EXPIRY (R308): after 10 min at rest SOCM takes SOCF and tracks it until the next discharge. -/
def execSocmRestExpiry (s : State) : Out :=
  let d := s.dev
  match d.rep.restT with
  | none => .next s
  | some t => .next { s with dev := (({ d with rep := { d.rep with socm := d.rep.blk0.socf, restT := none, tracking := true } }).at (t + 600000000000)) }

/-- RESERVE_EXPIRY (R307). -/
def execReserveExpiry (s : State) : Out :=
  .next { s with dev := if s.dev.rep.relFrel.isSome then (s.dev.at s.dev.rep.relUntil).endRelease else s.dev }

/-- The end of a PCS request's duration. -/
def endOf (r : Option PcsForce) : Nat := match r with | none => 0 | some x => x.until_.getD 0

/-- PCS_REQUEST_EXPIRY (R329): a continuous request does not expire. -/
def execPcsRequestExpiry (discharge : Bool) (s : State) : Out :=
  let q := s.dev.rep
  let keep := fun (r : Option PcsForce) => match r with | none => true | some x => x.until_.isNone
  let r := if discharge then q.dis else q.chg
  let d := s.dev.at (endOf r)
  .next { s with dev := if keep r then s.dev else { d with rep := if discharge then { q with dis := none, cutD := false } else { q with chg := none, cutC := false } } }

/-- The slot words of the health filter (09 R313-R314): the fields of HF2. -/
def hf2Of (relearn : Bool) (age nobs nimp : Nat) : Word :=
  BitVec.ofNat 32 (b2n relearn * 2 ^ 31 + min age 255 * 65536 + min nobs 255 * 256 + min nimp 255)

/-- The gain 2^-k applied to a difference. -/
def gain (k : Nat) (x : Int) : Int := rnd x k

/-- What a cell's HEALTH step takes: the charge and discharge of the string in q16 Ah, the run interval in ns, the new quarter hours. -/
structure HealthIn where
  qch : Int
  qds : Int
  dtn : Nat
  quarters : Nat

/-- The efficiency-weighted charge through a cell (09 R314). -/
def healthDq (c : Chem) (bleed : Int) (u : HealthIn) : Int :=
  qadd (qadd (qmul c.eta u.qch 30) u.qds) (-(satVal (rndDiv (bleed * u.dtn) 3600000000000)))

/-- One cell's health step (09 R314). -/
def Slot.health (x : Slot) (c : Chem) (t : Topo) (bleed : Int) (u : HealthIn) : Slot :=
  let rel := x.hf2.bit 31
  let nobs := x.hf2.field 15 8
  let nimp := x.hf2.field 7 0
  let age := min (x.hf2.field 23 16 + u.quarters) 255
  let qanc := qadd x.hf0 (healthDq c bleed u)
  let valid := !(x.hf1 == -2147483648) && decide (age < 4 * t.agemax)
  let seen := decide (x.p.getD 0 0 ≤ t.pzobs)
  let far := valid && decide (t.dzobs ≤ ((x.z - x.hf1).natAbs : Int))
  let qobs := qdiv (qanc * oneZ) (x.z - x.hf1)
  let good := seen && far && decide (30 * c.qnom ≤ 100 * qobs) && decide (100 * qobs ≤ 150 * c.qnom)
  let fq := if good then clampI 536870912 1181116006 (x.fq + gain (if rel then t.gqr else t.gq) (ratioZ qobs c.qnom - x.fq)) else x.fq
  let anchor := seen && (far || !valid)
  let ev := decide (t.irmin * 65536 ≤ x.icell.natAbs) && !(x.flags.bit 3) && !(x.flags.bit 2)
  let p := c.par x.z x.tcell oneZ
  let fr := if ev then clampI 536870912 2080374784 (x.fr + gain t.gr (qdiv (x.innov * 2 ^ 49) (x.icell * p.rser))) else x.fr
  { x with fq := fq, fr := fr, qeff := qmul c.qnom fq 30, hf0 := if anchor then 0 else qanc,
           hf1 := if anchor then x.z else if valid then x.hf1 else -2147483648,
           hf2 := hf2Of (rel && !good) (if anchor then 0 else age) (if good then nobs + 1 else nobs) nimp }

/-- Copy the health words of `y` into a slot (08 R292). -/
def Slot.takeHealth (y x : Slot) : Slot := { x with fq := y.fq, fr := y.fr, qeff := y.qeff, hf0 := y.hf0, hf1 := y.hf1, hf2 := y.hf2 }

/-- Write the health words of cell `j` into both pages (08 R292). -/
def Dev.putHealth (j : Nat) (y : Slot) (d : Dev) : Dev :=
  { d with cnpy := { d.cnpy with page0 := FMap.upd (fun _ => {}) d.cnpy.page0 j y.takeHealth,
                                 page1 := FMap.upd (fun _ => {}) d.cnpy.page1 j y.takeHealth } }

/-- FQ and FR at a clamp bound raise event 206 once for the cell and bound (09 R315). -/
def Dev.healthBounds (n j : Nat) (y : Slot) (d : Dev) : Dev :=
  let now := maskOf ((List.range 4).filter (fun k => (k == 0 && y.fq == 536870912) || (k == 1 && y.fq == 1181116006)
    || (k == 2 && y.fr == 536870912) || (k == 3 && y.fr == 2080374784)))
  let old := FMap.get (fun _ => 0) d.rep.healthLim j
  let new := (bitsOf 4 now).filter (fun k => !(old.testBit k))
  let d := { d with rep := { d.rep with healthLim := FMap.set (fun _ => 0) d.rep.healthLim j (old ||| now) } }
  foldOver new (fun _ d => d.raise 206 n) d

/-- The HEALTH step of every cell of a string. -/
def Dev.healthCells (n : Nat) (u : HealthIn) (d : Dev) : Dev :=
  foldOver (List.range (16 * d.ringL n)) (fun k d =>
    let j := 1024 * n + k
    let x := d.slot j
    if x.flags.bit 0 then
      let y := x.health (d.chemOf n) d.topo (d.bleedOf (d.latest n (k / 16 + 1)) (k % 16)) u
      (d.putHealth j y).healthBounds n j y
    else d) d

/-- Set RELEARN on every cell of a string (09 R312). -/
def Dev.relearnAll (n : Nat) (d : Dev) : Dev :=
  foldOver (List.range (16 * d.ringL n)) (fun k d =>
    let j := 1024 * n + k
    d.putHealth j { d.slot j with hf2 := (d.slot j).hf2.setBit 31 true }) d

/-- Some cell of a string relearns. -/
def Dev.relearning (d : Dev) (n : Nat) : Bool := (d.strSlots (d.cnpy.page d.cnpy.conf) n).any (fun p => p.2.hf2.bit 31)

/-- Set or clear CAPDIS with its register bit and event 204 (09 R312). -/
def Dev.setCapdis (n : Nat) (b : Bool) (d : Dev) : Dev :=
  let d := d.setStr n (fun y => { y with capdis := b })
  let d := if n < 32 then d.setRbit A.cnpyCapdis0 n b else d.setRbit A.cnpyCapdis1 (n - 32) b
  let d := d.raise 204 n
  if b then d.relearnAll n else d

/-- The coulomb SoC and capacity disagreement of a string (09 R311-R312). -/
def Dev.coulombSoc (n : Nat) (u : HealthIn) (d : Dev) : Dev :=
  let x := d.strCalc n
  if x.rec_.ncell = 0 then d else
  let k := x.rec_.jz % 65536
  let s := d.str n
  let lo := x.lo
  let dq := healthDq (d.chemOf n) (d.bleedOf (d.latest n (k / 16 + 1)) (k % 16)) u
  let zc := qadd s.zc (ratioZ dq lo.qeff)
  let anchor := decide (lo.p.getD 0 0 ≤ d.topo.pzobs) && lo.flags.bit 0 && !s.capdis
  let zc := if anchor then x.rec_.zmin else zc
  let ok := s.zcOk || anchor
  let d := d.setStr n (fun y => { y with zc := zc, zcOk := ok })
  let zf := x.zf x.res
  let enter := !s.capdis && ok && decide (zc ≤ zf) && decide (d.topo.dzcd ≤ x.rec_.zmin - zc)
  let leave := s.capdis && (decide (zf + d.topo.dzcd ≤ zc) || anchor)
  if enter then d.setCapdis n true else if leave then d.setCapdis n false else d

/-- Charge in q16 Ah from µC. -/
def ahOf (x : Int) : Int := rndDiv (x * 65536) 3600000000

/-- HEALTH for one string (09 R310-R314). -/
def Dev.healthStr (dtn quarters : Nat) (n : Nat) (d : Dev) : Dev :=
  let s := d.str n
  let u : HealthIn := { qch := ahOf (s.qch - s.qch0), qds := ahOf (s.qds - s.qds0), dtn := dtn, quarters := quarters }
  let was := d.relearning n
  let d := d.setStr n (fun y => { y with qch0 := s.qch, qds0 := s.qds })
  let d := (d.coulombSoc n u).healthCells n u
  d.raiseIf (!(d.relearning n == was)) 205 n

/-- HEALTH_JOB (R314): the time since the previous run. -/
def execHealthJob (s : State) : Out :=
  let d := s.dev
  let last := d.cnpy.lastHealth
  let now := d.time.now
  let q := now / 900000000000 - last / 900000000000
  let d := { d with cnpy := { d.cnpy with lastHealth := now } }
  .next { s with dev := foldOver d.ringsOn (Dev.healthStr (now - last) q) d }

end Sys2Proof.Machine
end

