-- ==== Sys2Proof/Machine/Contactor.lean ====
section
/-! DEFINITION. Main contactors and string contactors: requests, block close with pre-charge, opening, orderly shutdown, string
sequences, holds and feedbacks (10 R340-R361, R368, 16 R552, 18 R585). -/

namespace Sys2Proof.Machine
open Sys2Proof

/-- The scan header with the newest own values: the scan in progress once its results are ready, else the last one. -/
def Dev.hdrNow (d : Dev) : Hdr := if d.acq.next.hdr.val = [] then d.view0.hdr else d.acq.next.hdr

/-- High voltage `j` in mV when VALID. -/
def Dev.hvMv (d : Dev) (j : Nat) : Option Int :=
  let h := d.hdrNow
  if h.val.getD (4 + j) 6 = 0 then some (h.own.getD (4 + j) 0) else none

/-- HV1 above 1.02 × HV0 (10 R350). -/
def Dev.linkHigh (d : Dev) : Bool :=
  match d.hvMv 0, d.hvMv 1 with
  | some a, some b => decide (102 * a < 100 * b)
  | _, _ => true

/-- |HV1 − HV0| at most 0.02 × HV0 (10 R350). -/
def Dev.linkNear (d : Dev) : Bool :=
  match d.hvMv 0, d.hvMv 1 with
  | some a, some b => decide (100 * ((b - a).natAbs : Int) ≤ 2 * a)
  | _, _ => false

/-- The ramp rate in q16 V/s (10 R352), clamped to 0.9 × IPCMAX ÷ CLINK; IPCMAX in 0.5 A, CLINK in 0.1 mF, `ms` the ramp time. -/
def Dev.rampRate (d : Dev) (g r : Int) (ms : Nat) : Int :=
  let lim := rndDiv ((d.topo.ipcmax * 4500 * 65536 : Nat) : Int) d.topo.clink
  clampI (-lim) lim (rndDiv ((g - r) * 1000) ms)

/-- The ramp reference in q16 V. -/
def BlkSeq.ref (b : BlkSeq) : Int := rndDiv b.r 50000

/-- Put loops 14 and 15 under the sequencer in mode run with a history of 0 (10 R352, R372). -/
def Dev.ownLoops (d : Dev) : Dev :=
  let on : LoopSt → LoopSt := fun l => { l with mode := 1, e1 := 0, e2 := 0, w1 := 0, w2 := 0 }
  let lp := FMap.upd (fun _ => {}) (FMap.upd (fun _ => {}) d.ctl.loops 14 on) 15 on
  let d := { d with ctl := { d.ctl with gateLow := !d.authority, loops := lp } }
  let d := (d.setFld (A.ctlLstat 14) 27 26 1).setFld (A.ctlLstat 15) 27 26 1
  d.setRbit A.ctlStat 31 d.authority

/-- Start the buck stage and the ramp from HV1 towards HV0 (10 R352). -/
def Dev.startRamp (d : Dev) : Dev :=
  let g := q16Of ((d.hvMv 0).getD 0)
  let r := q16Of ((d.hvMv 1).getD 0)
  let s := d.rampRate g r d.ctl.blk.rampMs
  (d.setBlk (fun b => { b with r := 50000 * r, s := s })).ownLoops

/-- Close step 6: gates low, loops off, result OK, then RUN (10 R350, 16 R549). -/
def Dev.closeDone (d : Dev) : Dev :=
  let d := (d.gatesOff.blkStep 6).endBlk 0
  if d.base = 3 then d.settleState 4 else d

/-- Close step 5: MCP_HOLD on (10 R350). -/
def Dev.closeStep5 (d : Dev) : Dev :=
  let d := (d.setBlk (fun b => { b with hold := false })).blkStep 5
  let d := d.setHold .pos true
  if d.rbit A.ctlStat 24 then d.closeDone else d

/-- Close step 3: the link matches already, or the ramp starts, or with PCEN = 0 the PCS charges the link (10 R350). -/
def Dev.closeStep3 (d : Dev) : Dev :=
  if d.linkNear then d.blkStep 4 else if d.topo.pcen then d.startRamp.blkStep 3 else d.blkStep 3

/-- Close step 2: MCN_HOLD on (10 R350). -/
def Dev.closeStep2 (d : Dev) : Dev :=
  let d := (d.blkStep 2).setHold .neg true
  if d.rbit A.ctlStat 23 then d.closeStep3 else d

/-- Step 1 waits for a high link (10 R350); tried again at every tick boundary. -/
def Dev.closeWait (d : Dev) : Dev := if d.closing && d.ctl.blk.step == 1 && !d.linkHigh then d.closeStep2 else d

/-- This device runs sequences: it holds authority, or computes in agreement (12 R425). -/
def Dev.sequences (d : Dev) : Bool := d.authority || d.agreed

/-- An orderly shutdown runs. -/
def Dev.shutting (d : Dev) : Bool := d.ctl.blk.code == 5

/-- Close requests are refused outside STANDBY, RUN and DEGRADED and during a shutdown (10 R348). -/
def Dev.badState (d : Dev) : Bool :=
  d.shutting || d.pwr.noRun || !d.sequences || !(d.pstate == 3 || d.pstate == 4 || d.pstate == 5)

/-- The first result that refuses a close of the block or of a string alike (10 R348, in the order of its table). -/
def Dev.refuseClose (zone : Bool) (d : Dev) : Option Nat :=
  if d.prot.env = [] ∨ d.cnpy.chem = [] then some 2
  else if d.rbit A.protStat 31 then some 3
  else if zone then some 4
  else if d.badState then some 5
  else none

/-- VAUX lies below the warning level (10 R348, 16 R542). -/
def Dev.vauxLow (d : Dev) : Bool := d.rbit A.pwrStat 23 && decide (d.fld A.pwrStat 15 0 < 16500)

/-- The refusal of a block close (10 R348, R350 step 1). -/
def Dev.refuseBlock (d : Dev) : Option Nat :=
  match d.refuseClose false with
  | some r => some r
  | none =>
    if d.vauxLow then some 10
    else if d.rbit A.ctlStat 29 || d.rbit A.ctlStat 24 || d.rbit A.ctlStat 23 then some 7
    else if d.topo.pcen && !d.ctl.fltN then some 14
    else match d.hvMv 0, d.hvMv 1 with
      | some a, some _ => if a < (d.topo.vbusmin * 1000 : Nat) then some 6 else none
      | _, _ => some 6

/-- The ramp time of a close in ms, if ARG is valid (10 R345). -/
def Dev.rampTime (d : Dev) (arg : Nat) : Option Nat :=
  if arg = 0 then some d.topo.tramp else if 10 ≤ arg ∧ arg ≤ 6000 then some (10 * arg) else none

/-- Re-target the running close (10 R353): it is the newest request's from then on, and answers the older ones too. -/
def Dev.retarget (code tag src ms : Nat) (d : Dev) : Dev :=
  let g := q16Of ((d.hvMv 0).getD 0)
  let d := d.setBlk (fun b => { b with code := code, tag := tag, src := src, pre := code == 2, rampMs := ms,
                                       alsoTag := b.alsoTag ++ [(b.code, b.tag, b.src)] })
  if d.topo.pcen then d.setBlk (fun b => { b with s := d.rampRate g b.ref ms }) else d.blkStep d.ctl.blk.step

/-- A CLOSE or PRELINK reaches the block (10 R347-R351, R353); only one with a new TAG re-targets. One that would continue a running
sequence is refused while a SAFEZ zone is latched, as every close is (07 R251), and every close with WELD while that flag is set (10 R343). -/
def Dev.takeClose (code arg tag src : Nat) (d0 : Dev) : Dev :=
  let d := d0.wake
  let b := d.ctl.blk
  let no := fun (r : Nat) => d.blkResult code tag src r true
  match d.rampTime arg with
  | none => no 8
  | some ms =>
    if d.shutting then no 5
    else if d.closing then
      if d.rbit A.ctlStat 29 then no 7
      else if d.rbit A.protStat 31 ∧ ((b.hold ∧ code = 1) ∨ (b.hold = false ∧ (b.step = 3 ∨ b.step = 4) ∧ ¬(tag = b.tag))) then no 3
      else if b.hold ∧ code = 1 then
        (d.setBlk (fun b => { b with code := code, tag := tag, src := src, pre := false,
                                           alsoTag := b.alsoTag ++ [(b.code, b.tag, b.src)] })).closeStep5
      else if b.hold = false ∧ (b.step = 3 ∨ b.step = 4) ∧ ¬(tag = b.tag) ∧ (
          d.ramping = true ∨ d.topo.pcen = false) then
        d.retarget code tag src ms
      else no 1
    else if ¬(b.code = 0) then no 1
    else match d.refuseBlock with
      | some r => no r
      | none =>
        (d.setBlk (fun _ => { code := code, step := 1, tag := tag, src := src, rampMs := ms, stepT := d.time.now, pre := code == 2 })).closeWait

/-- An OPEN or OPENNOW reaches the block (10 R347, R355). -/
def Dev.takeOpen (code tag src : Nat) (d : Dev) : Dev :=
  if d.ctl.blk.code = 0 ∨ d.closing = true then d.startOpen code tag src else d.blkResult code tag src 1 true

/-- Every output at its reset level (10 R342, 11 R377, 07 R248): holds and channels off, gates and CPWM low, TRIP_N released. -/
def Dev.outputsOff (d : Dev) : Dev :=
  let d := ((d.gatesOff).setHold .pos false).setHold .neg false
  let d := ({ d with ctl := { d.ctl with pwm := [] } }).allChansOff
  { d.setFld A.protStat 15 8 0 with prot := { d.prot with restored := false, early := [] } }

/-- Enter STORAGE (16 R552): mark, STATE record, outputs, PWR_EN. -/
def Dev.enterStorage (d : Dev) : Dev :=
  let d := { d with pwr := { d.pwr with storeMark := true } }
  let d := ((d.settleNow 1).outputsOff).lhReset
  { d with pwr := { d.pwr with pwrEn := false, inReset := true }, time := { d.time with scanning := false } }

/-- Fall into reset with a cause (16 R540-R545): outputs off, the core domains held. `cause` is a bit number of PWR.RSTCAUSE. -/
def Dev.goReset (cause rail : Nat) (d : Dev) : Dev :=
  let d := (d.outputsOff).lhReset
  { d with pwr := { d.pwr with cause := d.pwr.cause ||| 2 ^ cause, rail := d.pwr.rail ||| rail, inReset := true },
           time := { d.time with scanning := false } }

/-- A shutdown ends: SHUT clears, result, STANDBY from RUN (10 R356, 16 R549). -/
def Dev.shutEnd (res : Nat) (d : Dev) : Dev :=
  let d := (d.setRbit A.ctlStat 27 false).endBlk res
  let d := { d with rep := { d.rep with openZero := false } }
  if d.base = 4 && d.mainsOpen then d.settleState 3 else d

/-- Steps S5 and S6 (10 R356): a snapshot cycle, then STORAGE, the requested reset, or STANDBY. -/
def Dev.shutS5 (d : Dev) : Dev :=
  let b := d.ctl.blk
  let d := ((d.blkStep 5).snapAll.blkStep 6).shutEnd 0
  if b.shutStore then d.enterStorage else if b.shutReset then d.goReset 5 0 else d

/-- VAUX returned during a shutdown that it started: no further step runs, STANDBY whatever the contacts read, event 232 (10 R357). -/
def Dev.shutStop (d : Dev) : Dev :=
  let d := d.shutEnd 0
  (if d.base = 4 then d.settleState 3 else d).raise 232 0

/-- Heads that report a contact closed. -/
def Dev.closedHeads (d : Dev) : List Nat := (List.range 48).filter (fun n => d.portEn n && !((d.port n).head.ctfb % 8 == 0))

/-- Step S4 (10 R356): OPEN to every head with a contact closed; a string sequence ends with ABORTED. -/
def Dev.shutS4 (d : Dev) : Dev :=
  if d.ctl.blk.finish then d.shutStop else
  let l := d.closedHeads
  let d := foldOver l (fun n d => (d.endStr n 18).sendOpen n 0x08) (d.blkStep 4)
  if l = [] then d.shutS5 else d

/-- The heads' contacts after S4: all open, or the limit of TOPEN + 40 ms has passed (10 R356). -/
def Dev.shutHeads (d : Dev) : Dev :=
  if d.shutting && d.ctl.blk.step == 4 then
    let late := decide (d.ctl.blk.stepT + (d.topo.topen + 40) * 1000000 < d.time.now)
    if d.closedHeads = [] ∨ late = true then
      let d := d.raiseIf (!d.closedHeads.isEmpty) 226 0
      if d.ctl.blk.finish then d.shutStop else d.shutS5
    else d
  else d

/-- Second half of S3: MCN_HOLD off (10 R355-R356). -/
def Dev.shutNeg (d : Dev) : Dev :=
  let d := (d.setBlk (fun b => { b with negWait := true })).setHold .neg false
  if d.rbit A.ctlStat 23 then d else d.shutS4

/-- Step S3: MCP_HOLD off, then MCN_HOLD (10 R355-R356). -/
def Dev.shutS3 (d : Dev) : Dev :=
  let d := (d.blkStep 3).setHold .pos false
  if d.rbit A.ctlStat 24 then d else d.shutNeg

/-- An orderly shutdown starts (10 R356): S1, then the current wait of S2. -/
def Dev.startShut (tag src : Nat) (vaux store reset : Bool) (d : Dev) : Dev :=
  let d := if d.ctl.blk.code = 0 then d else (d.gatesOff).endBlk 18
  let d := (d.setRbit A.ctlStat 27 true).raise 231 0
  let d := { d with rep := { d.rep with openZero := true } }
  d.setBlk (fun _ => { code := 5, step := 2, tag := tag, src := src, stepT := d.time.now, waiting := true, shutVaux := vaux, shutStore := store, shutReset := reset })

/-- A SHUTDOWN reaches the block (10 R347, R356). -/
def Dev.takeShutdown (tag src : Nat) (d : Dev) : Dev :=
  if d.shutting then d.blkResult 5 tag src 1 true else d.startShut tag src false false false

/-- A block request is taken (10 R345, R347). -/
def Dev.takeBlk (code arg tag src : Nat) (d : Dev) : Dev :=
  if code = 0 ∧ arg = 0 then d.putResult 0 tag src 0 false
  else if code = 1 ∨ code = 2 then d.takeClose code arg tag src
  else if 5 < code ∨ ¬(arg = 0) then d.blkResult code tag src 8 true
  else if code = 5 then d.takeShutdown tag src
  else d.takeOpen code tag src

/-- Enter a step of a string's sequence and send its head command (10 R360). -/
def Dev.strStep (n step cmd : Nat) (d : Dev) : Dev :=
  let q := d.strSeq n
  (d.setStrSeq n { q with step := step, stepT := d.time.now, sent := none }).headCmd n cmd

/-- The refusal of a string close (10 R348). -/
def Dev.refuseStr (n : Nat) (d : Dev) : Option Nat :=
  match d.refuseClose (!((d.strz n &&& d.latched) == 0)) with
  | some r => some r
  | none =>
    if d.arings ≤ n then some 5
    else if !(d.ringState n == 2 || d.ringState n == 3) || !d.headReached n then some 9
    else if d.vauxLow then some 10
    else none

/-- CONNECT reaches a string (10 R347, R360): step 1, then NEGCLOSE. -/
def Dev.takeConnect (n arg tag src : Nat) (d0 : Dev) : Dev :=
  let d := d0.wake
  let no := fun (r : Nat) => d.strResult n 1 tag src r true
  if ¬(arg = 0) then no 8
  else if ¬((d.strSeq n).code = 0) then no 1
  else match d.refuseStr n with
    | some r => no r
    | none =>
      let d := if (d.port n).head.kaexp then d.queueClrst n 1 55 else d
      (d.setStrSeq n { code := 1, tag := tag, src := src }).strStep n 2 1

/-- DISCONNECT (2) or DISCONNOW (3) reaches a string (10 R347, R361). -/
def Dev.takeDisconnect (n code arg tag src : Nat) (d : Dev) : Dev :=
  let q := d.strSeq n
  if ¬(arg = 0) then d.strResult n code tag src 8 true
  else if q.code = 2 ∨ q.code = 3 then d.strResult n code tag src 1 true
  else
    let d := (d.endStr n 18).setStr n (fun x => { x with discon := true })
    if code = 3 then (d.setStrSeq n { code := code, step := 3, tag := tag, src := src, stepT := d.time.now }).sendOpen n 0x08
    else d.setStrSeq n { code := code, step := 2, tag := tag, src := src, stepT := d.time.now }

/-- A string request is taken (10 R345, R347). -/
def Dev.takeStr (n code arg tag src : Nat) (d : Dev) : Dev :=
  if code = 0 ∧ arg = 0 then d.putStrResult n 0 tag src 0 false
  else if code = 1 then d.takeConnect n arg tag src
  else if code = 2 ∨ code = 3 then d.takeDisconnect n code arg tag src
  else d.strResult n code tag src 8 true

/-- A request is taken: target 0 the block, n + 1 string n. -/
def Dev.takeSeq (tgt code arg tag src : Nat) (d : Dev) : Dev :=
  if tgt = 0 then d.takeBlk code arg tag src else d.takeStr (tgt - 1) code arg tag src

/-- A waiting request is taken. -/
def SeqReq.take (r : SeqReq) (d : Dev) : Dev := d.takeSeq r.tgt (r.word % 256) (r.word / 65536 % 65536) (r.word / 256 % 256) r.src

/-- The place of a request in the order of 10 R347. -/
def SeqReq.rank (r : SeqReq) : Nat :=
  let c := r.word % 256
  let g := if r.tgt = 0 then (if c = 5 then 0 else if c = 4 then 1 else if c = 3 then 2 else 4) else if c = 2 ∨ c = 3 then 3 else 4
  (g * 2 + (if r.src = 0 then 0 else 1)) * 64 + r.tgt

/-- A request placed in the order of 10 R347, after those of the same rank. -/
def insertReq (r : SeqReq) (l : List SeqReq) : List SeqReq :=
  match l with
  | [] => [r]
  | x :: rest => if r.rank < x.rank then r :: x :: rest else x :: insertReq r rest

/-- The sequencer at a tick boundary (10 R347): due requests in its order, then a close that waits for the link. -/
def Dev.sequencer (d : Dev) : Dev :=
  let due := d.ctl.reqs.filter (fun r => d.dueNow r.due)
  let d := { d with ctl := { d.ctl with reqs := d.ctl.reqs.filter (fun r => !d.dueNow r.due) } }
  (foldOver (due.foldl (fun l r => insertReq r l) []) SeqReq.take d).closeWait

/-- A request waits for its boundary. -/
def Dev.addReq (r : SeqReq) (d : Dev) : Dev := { d with ctl := { d.ctl with reqs := d.ctl.reqs ++ [r] } }

/-- A sequence command from a task, taken now, or from FSP, checked and kept for its stamped boundary, which the partner hears of
(10 R346, 12 R416, 14 R491). -/
def State.seqCmd (src : ReqSrc) (tgt code arg tag : Nat) (s : State) : State :=
  match src with
  | .task => { s with dev := s.dev.takeSeq tgt code (arg % 65536) (tag % 256) 0 }
  | .fsp q => s.fsp q 16 1 (decide (48 < tgt)) false (fun d =>
      let r : SeqReq := { tgt := tgt, word := (arg % 65536) * 65536 + (tag % 256) * 256 + code, src := 1, due := d.stampDue }
      let d := { d with hwd := { d.hwd with seqWait := d.hwd.seqWait ++ [((tgt, code, tag % 256), q.sess, q.seq)] } }
      ((d.moorSend (.seqReq tgt r.word r.due)).addReq r, 0, []))

/-- NONE (R345): no action. -/
def execSeqNone (tgt : Nat) (tag : Nat) (src : ReqSrc) (s : State) : Out := .next (s.seqCmd src tgt 0 0 tag)

/-- CLOSE (R350). -/
def execSeqClose (arg : Nat) (tag : Nat) (src : ReqSrc) (s : State) : Out := .next (s.seqCmd src 0 1 arg tag)

/-- PRELINK (R351). -/
def execSeqPrelink (arg : Nat) (tag : Nat) (src : ReqSrc) (s : State) : Out := .next (s.seqCmd src 0 2 arg tag)

/-- OPEN (R355). -/
def execSeqOpen (arg : Nat) (tag : Nat) (src : ReqSrc) (s : State) : Out := .next (s.seqCmd src 0 3 arg tag)

/-- OPENNOW (R355). -/
def execSeqOpenNow (arg : Nat) (tag : Nat) (src : ReqSrc) (s : State) : Out := .next (s.seqCmd src 0 4 arg tag)

/-- SHUTDOWN (R356). -/
def execSeqShutdown (arg : Nat) (tag : Nat) (src : ReqSrc) (s : State) : Out := .next (s.seqCmd src 0 5 arg tag)

/-- CONNECT (R360). -/
def execStrConnect (n : Nat) (arg : Nat) (tag : Nat) (src : ReqSrc) (s : State) : Out := .next (s.seqCmd src (n + 1) 1 arg tag)

/-- DISCONNECT (R361). -/
def execStrDisconnect (n : Nat) (arg : Nat) (tag : Nat) (src : ReqSrc) (s : State) : Out := .next (s.seqCmd src (n + 1) 2 arg tag)

/-- DISCONNOW (R361). -/
def execStrDisconnow (n : Nat) (arg : Nat) (tag : Nat) (src : ReqSrc) (s : State) : Out := .next (s.seqCmd src (n + 1) 3 arg tag)

/-- A hold output's bit of CTL.STAT. -/
def holdBit (k : Contactor) : Nat :=
  match k with
  | .pos => 26
  | .neg => 25

/-- A feedback's bit of CTL.STAT. -/
def fbBit (k : Contactor) : Nat :=
  match k with
  | .pos => 24
  | .neg => 23

/-- HOLD_ECONOMY (R342). -/
def execHoldEconomy (k : Contactor) (s : State) : Out :=
  let d := s.dev
  let c := match k with
    | .pos => { d.ctl with posEco := d.ctl.posEco || d.rbit A.ctlStat 26 }
    | .neg => { d.ctl with negEco := d.ctl.negEco || d.rbit A.ctlStat 25 }
  .next { s with dev := { d with ctl := c } }

/-- Add to a life counter (10 R368): saturating, event 230 once. -/
def Dev.life (a x inst : Nat) (d : Dev) : Dev :=
  let old := (d.reg a).toNat
  let v := min (old + x) 0xFFFFFFFF
  (d.setReg a (BitVec.ofNat 32 v)).raiseIf (decide (v = 0xFFFFFFFF) && decide (old < 0xFFFFFFFF)) 230 inst

/-- The opening of a main contact (10 R368): a cycle, and the arcing charge in mC. -/
def Dev.opened (k : Contactor) (d : Dev) : Dev :=
  match k with
  | .pos =>
    let q := ((d.ctl.posArc.getD 0) / 65536000).toNat
    (({ d with ctl := { d.ctl with posArc := none } }).life (A.ctlLcyc 0) 1 0).life (A.ctlLarc 0) q 0
  | .neg =>
    let q := ((d.ctl.negArc.getD 0) / 65536000).toNat
    (({ d with ctl := { d.ctl with negArc := none } }).life (A.ctlLcyc 1) 1 0).life (A.ctlLarc 1) q 0

/-- The sequence step that a feedback advances (10 R350, R355-R356). -/
def Dev.advanceBlk (k : Contactor) (closed : Bool) (d : Dev) : Dev :=
  let b := d.ctl.blk
  if d.closing then
    if b.step = 2 ∧ k = .neg ∧ closed = true then d.closeStep3
    else if b.step = 5 ∧ k = .pos ∧ closed = true then d.closeDone
    else d
  else if b.code = 3 ∧ b.step = 2 ∧ k = .pos ∧ closed = false then d.openBoth
  else if (b.code = 3 ∨ b.code = 4) ∧ b.step = 3 ∧ d.mainsOpen = true then d.openDone
  else if b.code = 5 ∧ b.step = 3 then
    if closed then d else if b.negWait then (if k = .neg then d.shutS4 else d) else if k = .pos then d.shutNeg else d
  else d

/-- FBERR handling of a contactor whose feedback reads open with its hold wanted (10 R343): flag, event 226, and the step that waits
for it ends with NOFB. -/
def Dev.fbErr (k : Contactor) (d : Dev) : Dev :=
  let b := d.ctl.blk
  let d := (d.setRbit A.ctlStat 28 true).raise 226 0
  if d.closing ∧ ((b.step = 2 ∧ k = .neg) ∨ (b.step = 5 ∧ k = .pos)) then d.failBlk 11 else d

/-- A hold that a current limit turned off (18 R585). -/
def Dev.limited (k : Contactor) (d : Dev) : Bool :=
  match k with
  | .pos => d.ctl.limP
  | .neg => d.ctl.limN

/-- Mark or clear a hold that a current limit turned off. -/
def Dev.setLimited (k : Contactor) (b : Bool) (d : Dev) : Dev :=
  match k with
  | .pos => { d with ctl := { d.ctl with limP := b } }
  | .neg => { d with ctl := { d.ctl with limN := b } }

/-- RUN ends when both main contactors read open after an open, also where a feedback came too late for the sequence (16 R549): no
sequence runs and both holds are off. -/
def Dev.lateOpen (d : Dev) : Dev :=
  if d.base = 4 && d.ctl.blk.code == 0 && d.mainsOpen && !d.rbit A.ctlStat 26 && !d.rbit A.ctlStat 25 then d.settleState 3 else d

/-- FEEDBACK_CHANGE (R343). -/
def execFeedbackChange (k : Contactor) (closed : Bool) (s : State) : Out :=
  let d := s.dev
  let was := d.rbit A.ctlStat (fbBit k)
  let d := (d.setRbit A.ctlStat (fbBit k) closed).fbAgree
  let d := if was ∧ closed = false then d.opened k else d
  let d := if closed = false ∧ d.limited k then (d.setLimited k false).fbErr k else d
  .next { s with dev := (d.advanceBlk k closed).lateOpen }

/-- An opening contactor does not follow (10 R343, R355-R356). -/
def Dev.openStuck (k : Contactor) (d : Dev) : Dev :=
  let b := d.ctl.blk
  if (b.code = 3 ∨ b.code = 4) ∧ (b.step = 3 ∨ (b.step = 2 ∧ k = .pos)) then
    let d := ((d.setHold .pos false).setHold .neg false).endBlk 11
    { d with rep := { d.rep with openZero := false } }
  else if b.code = 5 ∧ b.step = 3 then
    let d := d.raise 226 0
    match k with
    | .pos => if b.negWait then d else d.shutNeg
    | .neg => if b.negWait then d.shutS4 else d
  else d

/-- FEEDBACK_TIMEOUT (R343): a disagreement beyond TCLOSE or TOPEN. -/
def execFeedbackTimeout (k : Contactor) (s : State) : Out :=
  let d := s.dev
  let hold := d.rbit A.ctlStat (holdBit k)
  let fb := d.rbit A.ctlStat (fbBit k)
  let e := if hold ∧ fb = false then d.fbErr k
    else if hold = false ∧ fb then ((d.setRbit A.ctlStat 29 true).raise 227 0).openStuck k
    else d
  .next { s with dev := e }

/-- HOLD_CURRENT_LIMIT (18 R585): the hold turns off; FBERR follows when its feedback reads open. -/
def execHoldCurrentLimit (k : Contactor) (s : State) : Out :=
  let d := s.dev
  let e := d.setHold k false
  let e := if d.rbit A.ctlStat (fbBit k) then e.setLimited k true else e.fbErr k
  .next { s with dev := if d.rbit A.ctlStat (holdBit k) then e else d }

/-- GATE_FAULT (R352): PC_FLT_N falls (`low`), or is high again; falling drives both gates low and ends a close with GATEFLT. -/
def execGateFault (low : Bool) (s : State) : Out :=
  let d := { s.dev with ctl := { s.dev.ctl with fltN := !low } }
  let e := if d.closing then d.failBlk 14 else d.gatesOff
  .next { s with dev := if low then e else d }

/-- LINK_MATCH (R350-R351): the match has held for 1 ms. -/
def execLinkMatch (s : State) : Out :=
  let d := s.dev
  let b := d.ctl.blk
  let e := d.blkStep 4
  let e := if b.pre then e.setBlk (fun b => { b with hold := true }) else e.closeStep5
  .next { s with dev := if d.closing ∧ (b.step = 3 ∨ b.step = 4) ∧ b.hold = false then e else d }

/-- TLINK_EXPIRY (R350). -/
def execTlinkExpiry (s : State) : Out :=
  .next { s with dev := if s.dev.closing ∧ s.dev.ctl.blk.step = 1 then s.dev.failBlk 12 else s.dev }

/-- RAMP_TIMEOUT (R350). -/
def execRampTimeout (s : State) : Out :=
  let b := s.dev.ctl.blk
  .next { s with dev := if s.dev.closing ∧ (b.step = 3 ∨ b.step = 4) ∧ b.hold = false then s.dev.failBlk 15 else s.dev }

/-- THOLD_EXPIRY (R351). -/
def execTholdExpiry (s : State) : Out :=
  .next { s with dev := if s.dev.closing ∧ s.dev.ctl.blk.hold = true then s.dev.failBlk 15 else s.dev }

/-- OPEN step 2 (10 R355). -/
def Dev.openStep2 (d : Dev) : Dev :=
  let d := (d.setBlk (fun b => { b with waiting := false })).blkStep 2
  let d := d.setHold .pos false
  if d.rbit A.ctlStat 24 then d else d.openBoth

/-- The current wait of the block (10 R355-R356) or of a string (R361) ends. -/
def Dev.waitEnd (tgt : Nat) (d : Dev) : Dev :=
  let b := d.ctl.blk
  let q := d.strSeq (tgt - 1)
  if tgt = 0 then
    if b.code = 3 ∧ b.step = 1 then d.openStep2
    else if b.code = 5 ∧ b.step = 2 then (d.setBlk (fun b => { b with waiting := false })).shutS3
    else d
  else if q.code = 2 ∧ q.step = 2 then
    (d.setStrSeq (tgt - 1) { q with step := 3, stepT := d.time.now }).sendOpen (tgt - 1) 0x08
  else d

/-- CURRENT_WAIT_END (R355, R356, R361): the block's wait, or that of string `tgt` − 1. -/
def execCurrentWaitEnd (tgt : Nat) (s : State) : Out := .next { s with dev := s.dev.waitEnd tgt }

/-- The string's records allow forming Vstr (10 R360): every module delivered in the latest scan, no cell INVALID or ABSENT. -/
def Dev.strFormed (d : Dev) (n : Nat) : Bool :=
  (d.hopsOf n).all (fun h =>
    let r := d.latest n h
    !(r.deliv == 3) && (List.range 16).all (fun i => !(r.valid.getD i 6 == 5) && !(r.valid.getD i 6 == 6)))

/-- Vstr in 100 µV (10 R360): the sum of MODV. -/
def Dev.vstr (d : Dev) (n : Nat) : Nat := (d.hopsOf n).foldl (fun a h => a + (d.latest n h).modv) 0

/-- The voltage match of CONNECT, then POSCLOSE (10 R360 steps 4 and 5). -/
def Dev.strMatch (n : Nat) (d : Dev) : Dev :=
  match d.strFormed n, d.hvMv 0 with
  | true, some v => if 1000 * ((10 * v - d.vstr n).natAbs) ≤ d.topo.vsmatch * d.vstr n then d.strStep n 5 3 else d.failStr n 16
  | _, _ => d.failStr n 17

/-- TSPRE_EXPIRY (R360). -/
def execTspreExpiry (n : Nat) (s : State) : Out :=
  let d := s.dev
  let q := d.strSeq n
  .next { s with dev := if q.code = 1 ∧ q.step = 3 ∧ (d.port n).head.conPre = true then d.strMatch n else d }

/-- The contact feedback of a string's head in a scan (10 R360-R361): the running step advances or fails. -/
def Dev.strFeed (n : Nat) (d : Dev) : Dev :=
  let q := d.strSeq n
  let h := (d.port n).head
  let late := fun (ms : Nat) => decide (q.stepT + ms * 1000000 < d.time.now)
  if q.code = 1 then
    if q.step = 2 then (if h.conN then d.strStep n 3 2 else if late d.topo.tclose then d.failStr n 11 else d)
    else if q.step = 3 then
      (if h.conPre then (if q.sent.isNone then d.setStrSeq n { q with sent := some d.time.now } else d)
       else if late d.topo.tclose then d.failStr n 11 else d)
    else if q.step = 5 then (if h.conP then d.strStep n 6 4 else if late d.topo.tclose then d.failStr n 11 else d)
    else if q.step = 6 then (if !h.conPre then d.endStr n 0 else if late d.topo.topen then d.failStr n 11 else d)
    else d
  else if (q.code = 2 ∨ q.code = 3) ∧ q.step = 3 then
    if h.ctfb % 8 = 0 then (d.endStr n 0).setStr n (fun x => { x with discon := false })
    else if late (d.topo.topen + 20) then (d.endStr n 11).setStr n (fun x => { x with discon := false })
    else d
  else d

/-- TVSD_EXPIRY (R356): VAUX below the warning level for TVSD. -/
def execTvsdExpiry (s : State) : Out :=
  let d := s.dev
  let e := d.setRbit A.pwrStat 21 false
  let e := if e.shutting then e else e.startShut 0 2 true false false
  .next { s with dev := if d.rbit A.pwrStat 21 then e else d }

end Sys2Proof.Machine
end

