-- ==== Sys2Proof/Machine/Dwell.lean ====
section
/-! DEFINITION. The check element and its leaky dwell counter, shared by CHK, the Layer 0 compare unit and the grant-excess check
(07 R233-R235). -/

namespace Sys2Proof.Machine

/-- Class of an evaluation (07 R234). -/
inductive Cls
  | up | hold | down
deriving DecidableEq, Repr

/-- Class by the value (07 R235): `below` is DIR. -/
def classByValue (below : Bool) (thr : Int) (hyst : Nat) (v : Int) : Cls :=
  if below then (if v < thr then .up else if thr + hyst ≤ v then .down else .hold)
  else (if thr < v then .up else if v ≤ thr - hyst then .down else .hold)

/-- Class by the validity code (07 R234); `v` is the class by the value. -/
def classByCode (code : Nat) (invact : Bool) (v : Cls) : Cls :=
  if code = 0 ∨ code = 4 then v
  else if code = 5 ∨ code = 7 then (if invact then .hold else .up)
  else .hold

/-- The counter after an evaluation (07 R235). -/
def dwellNext (k : Cls) (cap cnt : Nat) : Nat :=
  match k with
  | .up => min (cnt + 1) cap
  | .hold => cnt
  | .down => cnt - 1

/-- A CHK element's class, for the value word `w` (07 R233-R235). -/
def chkClass (thr hyst ctl w : BitVec 32) : Cls :=
  let below := ctl.getLsbD 31
  let invact := ctl.getLsbD 28
  let form := (ctl.toNat >>> 29) % 4
  let code := w.toNat >>> 29
  if form = 0 then classByCode code invact (classByValue below thr.toInt hyst.toNat ((w.toNat % 65536 : Nat) : Int))
  else if form = 1 then classByCode code invact (classByValue below thr.toInt hyst.toNat (sext16 w.toNat))
  else if form = 2 then classByValue below thr.toInt hyst.toNat w.toInt
  else .up

/-- LIM as CHK takes it: 0 counts as 1 (07 R233). -/
def chkLim (ctl : BitVec 32) : Nat := max 1 ((ctl.toNat >>> 8) % 256)

/-- CAP as CHK takes it: at least LIM (07 R233). -/
def chkCap (ctl : BitVec 32) : Nat := max (chkLim ctl) ((ctl.toNat >>> 16) % 256)

end Sys2Proof.Machine
end

