-- ==== Sys2Proof/Machine/Loops.lean ====
section
/-! DEFINITION. The control engine (10 R362-R367): the loop law, its sinks, missed evaluations and the following-error element. -/

namespace Sys2Proof.Machine
open Sys2Proof

/-- A loop's live state. -/
def Dev.loop (d : Dev) (n : Nat) : LoopSt := FMap.get (fun _ => {}) d.ctl.loops n

/-- Change a loop's live state. -/
def Dev.setLoop (n : Nat) (f : LoopSt → LoopSt) (d : Dev) : Dev :=
  { d with ctl := { d.ctl with loops := FMap.upd (fun _ => {}) d.ctl.loops n f } }

/-- The sequencer owns loops 14 and 15 with PCEN = 1 (10 R352). -/
def Dev.seqLoop (d : Dev) (n : Nat) : Bool := d.topo.pcen && (n == 14 || n == 15)

/-- A loop's configuration (10 R352, R362): the cascade of the pre-charge has the clamps and sinks that R352 gives. -/
def Dev.loopCfg (d : Dev) (n : Nat) : LoopCfg :=
  let c := d.topo.loops.getD n {}
  if !d.seqLoop n then c
  else if n = 14 then { c.cascade with src := 1, sink := 3, sinkIx := 15, umin := 0, umax := d.topo.ipcmax * 32768 }
  else { c.cascade with src := 8, sink := 2, umin := 0, umax := rndDiv ((d.topo.dmax * 65536 : Nat) : Int) 100 }

/-- HV1 ÷ HV0 in q16 (10 R352), 0 while either is not VALID. -/
def Dev.linkRatio (d : Dev) : Int :=
  match d.hvMv 0, d.hvMv 1 with
  | some a, some b => qdiv (b * 65536) a
  | _, _ => 0

/-- Advance the ramp by S × 20 µs towards HV0, without passing it (10 R352). -/
def Dev.advanceRamp (d : Dev) : Dev :=
  match d.hvMv 0 with
  | none => d
  | some v =>
    let g := q16Of v * 50000
    d.setBlk (fun b =>
      let st : Int := (b.s.natAbs : Int)
      { b with r := if b.r < g then min g (b.r + st) else max g (b.r - st) })

/-- Set-point and feed-forward of a loop (10 R352, R363). -/
def Dev.loopIn (d : Dev) (n : Nat) : Int × Int :=
  let l := d.loop n
  if !d.seqLoop n then (l.sp, l.ff)
  else if n = 14 then (d.ctl.blk.ref, rndDiv (d.ctl.blk.s * d.topo.clink) 10000)
  else (l.sp, d.linkRatio)

/-- A loop's output reaches its sink (10 R362, R364). -/
def Dev.drive (n : Nat) (u : Int) (d : Dev) : Dev :=
  let c := d.loopCfg n
  let d := d.setReg (A.ctlLout n) (Word.ofInt u)
  if c.sink = 1 then { d with ctl := { d.ctl with pwm := FMap.set (fun _ => 0) d.ctl.pwm c.sinkIx u } }
  else if c.sink = 2 then { d with ctl := { d.ctl with duty := u } }
  else if c.sink = 3 then d.setLoop c.sinkIx (fun l => { l with sp := u })
  else d

/-- Put a loop into a mode (10 R367): off drives the sink to 0 and clears the history. -/
def Dev.loopMode (n m : Nat) (d : Dev) : Dev :=
  let f : LoopSt → LoopSt := fun l => if m = 0 then { l with mode := 0, e1 := 0, e2 := 0, w1 := 0, w2 := 0 } else { l with mode := m }
  let d := (d.setLoop n f).setFld (A.ctlLstat n) 27 26 m
  if m = 0 then d.drive n 0 else d

/-- The law of a loop (10 R363): the new state and the output. -/
def LoopSt.law (c : LoopCfg) (sp ff y : Int) (l : LoopSt) : LoopSt × Int :=
  let e0 := satVal (sp - y)
  let acc := c.b0 * e0 + c.b1 * l.e1 + c.b2 * l.e2 - c.a1 * l.w1 - c.a2 * l.w2
  let w0 := satVal (rnd acc 28)
  let u := min (max (satVal (w0 + ff)) c.umin) c.umax
  ({ l with e1 := e0, e2 := l.e1, w1 := satVal (u - ff), w2 := l.w1 }, u)

/-- The following-error element (10 R366): counter in LSTAT[15:0], active flag in [29], sticky flag in [30]. -/
def Dev.followErr (n : Nat) (sp y : Int) (d : Dev) : Dev :=
  let c := d.loopCfg n
  let k := classByValue false c.felim c.fehyst.toNat ((sp - y).natAbs : Int)
  let cnt := dwellNext k c.fetime (d.fld (A.ctlLstat n) 15 0)
  let was := d.rbit (A.ctlLstat n) 29
  let is := decide (c.fetime ≤ cnt)
  let d := (d.setFld (A.ctlLstat n) 15 0 cnt).setRbit (A.ctlLstat n) 29 is
  if is = was then d
  else if !is then d.raise (240 + n) n
  else
    let d := (d.setRbit (A.ctlLstat n) 30 true).raise (240 + n) n
    if d.seqLoop n then (if d.closing then d.failBlk 13 else d)
    else if c.feact = 1 then d.loopMode n 2 else if c.feact = 2 then d.loopMode n 0 else d

/-- A missed evaluation (10 R365): flag, count, and event 240 + n at most once a scan. -/
def Dev.loopMiss (n : Nat) (d : Dev) : Dev :=
  let first := !(d.loop n).missed
  let d := (d.setRbit (A.ctlLstat n) 31 true).bump (A.ctlLmiss n) (A.ctlLstat n) 28
  (d.setLoop n (fun l => { l with missed := true })).raiseIf first (240 + n) n

/-- A loop in mode run computes its law and drives its sink; in mode hold it keeps both (10 R363, R367). -/
def Dev.lawStep (n : Nat) (sp ff y : Int) (d : Dev) : Dev :=
  if (d.loop n).mode = 1 then
    let r := (d.loop n).law (d.loopCfg n) sp ff y
    (d.setLoop n (fun _ => r.1)).drive n r.2
  else d

/-- The pre-charge gates in a PWM period of FPWM (10 R352): how long PC_GATE_H and then PC_GATE_L are high, in ns, with DEADT between them; both low
while the gates are off. The buck duty is PC_GATE_H's (DESIGN CHOICE, log entry 200: R352 does not say whose half of the dead time it includes). -/
def Dev.gateTimes (d : Dev) : Nat × Nat :=
  if d.ctl.gateLow then (0, 0) else
  let per := 1000000 / d.topo.fpwm
  let on := (rndDiv (d.ctl.duty * per) 65536).toNat
  (on, per - on - 2 * d.topo.deadt)

/-- One evaluation of a loop (10 R363-R366). Loops are driven by the twin with authority (R342, R367); the ramp reference is sequence state and
advances on both twins (R342, R352; DEDUCED, log entry 200). -/
def Dev.evalLoop (n : Nat) (sample : Option Int) (d : Dev) : Dev :=
  let c := d.loopCfg n
  if !c.en || (d.loop n).mode == 0 then d
  else if !d.authority then (if d.seqLoop n && n == 14 then d.advanceRamp else d)
  else match (if c.src = 9 then some (0 : Int) else sample) with
    | none => d.loopMiss n
    | some y =>
      let d := if d.seqLoop n && n == 14 then d.advanceRamp else d
      let x := d.loopIn n
      (d.lawStep n x.1 x.2 y).followErr n x.1 y

/-- CONTROL_LOOP_EVAL (R363): `sample` is the newest sample of the source in q16, none when it is not fresh (R365). -/
def execControlLoopEval (n : Nat) (sample : Option Int) (s : State) : Out :=
  present (decide (n < 16)) (s.onDev (fun d => d.evalLoop n sample))

end Sys2Proof.Machine
end

