-- ==== Sys2Proof/Machine/Impedance.lean ====
section
/-! DEFINITION. Impedance captures: arming, arming time-out, and the fit of the recorded step (09 R317-R325). -/

namespace Sys2Proof.Machine
open Sys2Proof

/-- Cell `c` and its neighbours in the module have a bit of `mask` clear. -/
def clearAround (mask c : Nat) : Bool := !((decide (0 < c) && mask.testBit (c - 1)) || mask.testBit c || (decide (c < 15) && mask.testBit (c + 1)))

/-- The reference cell of a module, 0-15, or 16 when it is not armed (09 R317). -/
def Dev.refCell (d : Dev) (n h k : Nat) : Nat :=
  if ((d.port n).mod h).ver = 2 then 16 else
  let bal := (d.latest n h).status.toNat / 2 ^ 16 % 2 ^ 16
  let bar := FMap.get (fun _ => 0) (d.port n).barred h
  (((List.range 16).map (fun i => (k + i) % 16)).find? (fun c => clearAround bal c && clearAround bar c)).getD 16

/-- The string may be armed (09 R317, 16 R551, R556). -/
def Dev.mayArm (d : Dev) (n : Nat) : Bool :=
  let x := d.str n
  d.hasImp && d.rbit A.cnpyImpctl 31 && d.connected n && !x.armed && !(d.pstate == 2) && !d.rbit A.thermStat 31
    && (match x.capT with
        | none => true
        | some t => decide (t + d.topo.impint * 60000000000 ≤ d.time.now))

/-- Arm a string with its rotation index (09 R317). -/
def Dev.arm (n : Nat) (d : Dev) : Dev :=
  let refs := (d.hopsOf n).map (fun h => d.refCell n h ((d.str n).rot % 16))
  let miss := d.cnpy.smiss.filter (fun p => !(p.1 / 64 == n))
  let d := { d with cnpy := { d.cnpy with refs := FMap.set (fun _ => []) d.cnpy.refs n refs, smiss := miss } }
  (d.setStr n (fun x => { x with armed := true, frozen := false, reading := false })).sendBurst n 0

/-- IMPEDANCE_ARM (R317). -/
def execImpedanceArm (port : Nat) (s : State) : Out :=
  present (decide (port < s.dev.rings)) (s.onDev (fun d => if d.mayArm port then d.arm port else d))

/-- ARM_TIMEOUT (R317): no capture came; BURST DISARM, then armed again with the next index. -/
def execArmTimeout (port : Nat) (s : State) : Out :=
  present (decide (port < s.dev.rings)) (s.onDev (fun d =>
    if (d.str port).armed && !(d.str port).reading then
      let e := (d.disarm port).setStr port (fun x => { x with rot := x.rot + 1 })
      if e.mayArm port then e.arm port else e
    else d))

/-- Sample times from an instant to the next, 100 µs apart (09 R318). -/
def spread (t next : Nat) : List Nat := (List.range ((next - t + 99999) / 100000)).map (fun i => t + 100000 * i)

/-- Sample times of consecutive instants, oldest first; after the last one they go on. -/
def timesFrom (l : List Nat) : List Nat :=
  match l with
  | [] => []
  | [t] => (List.range 500).map (fun i => t + 100000 * i)
  | t :: u :: rest => spread t u ++ timesFrom (u :: rest)

/-- Sample times before the newest of the instants, newest first; `l` is newest first. -/
def timesBack (l : List Nat) : List Nat :=
  match l with
  | t :: u :: rest => (spread u t).reverse ++ timesBack (u :: rest)
  | _ => []

/-- The load step of a string's capture (09 R320). -/
def Dev.stepOf (d : Dev) (n : Nat) : StepSt := FMap.get (fun _ => {}) d.cnpy.steps (d.str n).frz

/-- The times of samples 0-999 of a module's capture (09 R318, R320): index 500 at the freeze instant; none where no instant is known. -/
def Dev.burstTimes (d : Dev) (n h : Nat) : List (Option Nat) :=
  let k := d.scan - d.frzOf n h
  if d.cnpy.tinsts.length ≤ k then List.replicate 1000 none else
  let after := (timesFrom ((d.cnpy.tinsts.take (k + 1)).reverse)).take 500
  let before := (timesBack (d.cnpy.tinsts.drop k)).take 500
  (List.replicate (500 - before.length) none ++ before.reverse.map some ++ after.map some)

/-- A sample used by the fit: time after ts in ns, and the cell voltage in Q4.28 V. -/
abbrev FitPoint := Int × Int

/-- The samples of a module that are present, with their times (09 R322). -/
def Dev.fitPoints (d : Dev) (j : Nat) : List FitPoint :=
  let v := FMap.get (fun _ => []) d.cnpy.bursts j
  ((d.burstTimes (j / 64) (j % 64 + 1)).zip v).filterMap (fun p => match p.1 with
    | none => none
    | some t => if p.2 = 0xFFFF then none else some (((t : Int) - (d.stepOf (j / 64)).t), voltOf p.2))

/-- Sums of the normal equations in rising order of samples (09 R322). -/
structure Normal where
  s11 : Int := 0
  s12 : Int := 0
  s13 : Int := 0
  s22 : Int := 0
  s23 : Int := 0
  s33 : Int := 0
  y1 : Int := 0
  y2 : Int := 0
  y3 : Int := 0

/-- The regressors of a sample: current through the two RC pairs in q16 A, and the time in UQ4.28 s. -/
def regress (di : Int) (ta tb : Nat) (t : Nat) : Int × Int × Int :=
  let part := fun (tau : Nat) => qmul di (2147483648 - expn (uq28 (t * 2 ^ 28) (tau * 1000))) 31
  (part ta, part tb, qmul t 0x44B82FA1 32)

/-- Add a sample. -/
def Normal.add (x : Int × Int × Int) (y : Int) (m : Normal) : Normal :=
  { s11 := m.s11 + x.1 * x.1, s12 := m.s12 + x.1 * x.2.1, s13 := m.s13 + x.1 * x.2.2, s22 := m.s22 + x.2.1 * x.2.1,
    s23 := m.s23 + x.2.1 * x.2.2, s33 := m.s33 + x.2.2 * x.2.2, y1 := m.y1 + x.1 * y, y2 := m.y2 + x.2.1 * y, y3 := m.y3 + x.2.2 * y }

/-- `a - f b` for a factor in Q4.28, a 64-bit sum (08 R267). -/
def elim (a f b : Int) : Int := clampI (smin 64) (smax 64) (a - rnd (f * b) 28)

/-- The solution (ra in Q1.31, rb in Q1.31, c in Q4.28) of the normal equations (09 R322): elimination without pivoting of ra and then rb, each
division as R267 states, the factors of the rows in Q4.28 (log entry 13). -/
def Normal.solve (m : Normal) : Int × Int × Int :=
  let f2 := qdiv (m.s12 * 2 ^ 28) m.s11
  let f3 := qdiv (m.s13 * 2 ^ 28) m.s11
  let b22 := elim m.s22 f2 m.s12
  let b23 := elim m.s23 f2 m.s13
  let z2 := elim m.y2 f2 m.y1
  let g := qdiv (b23 * 2 ^ 28) b22
  let c := qdiv (elim (elim m.y3 f3 m.y1) g z2 * 2 ^ 28) (elim (elim m.s33 f3 m.s13) g b23)
  let rb := qdiv (elim z2 c b23 * 2 ^ 19) b22
  let ra := qdiv (elim (clampI (smin 64) (smax 64) (m.y1 - rnd (m.s12 * rb) 19)) c m.s13 * 2 ^ 19) m.s11
  (ra, rb, c)

/-- A fit: time constants in µs, ra, rb, c, and the exact residual sum. -/
structure Fit where
  ta : Nat
  tb : Nat
  ra : Int
  rb : Int
  res : Int

/-- Fit one pair of time constants to (time, y) samples. -/
def fitOne (di : Int) (l : List (Nat × Int)) (ta tb : Nat) : Fit :=
  let xs := l.map (fun p => (regress di ta tb p.1, p.2))
  let q := (xs.foldl (fun m p => m.add p.1 p.2) ({} : Normal)).solve
  let r := xs.foldl (fun a p =>
    let e := qadd (qadd (qadd p.2 (-(qmul q.1 p.1.1 19))) (-(qmul q.2.1 p.1.2.1 19))) (-(qmul q.2.2 p.1.2.2 28))
    a + e * e) 0
  { ta := ta, tb := tb, ra := q.1, rb := q.2.1, res := r }

/-- The pairs of time constants in their order, µs (09 R322). -/
def tauPairs : List (Nat × Nat) :=
  [1000, 1500, 2200, 3300, 4700, 6800].flatMap (fun a => [10000, 15000, 22000, 33000, 47000, 68000].map (fun b => (a, b)))

/-- The fit with the lowest residual sum; ties go to the earlier pair. -/
def bestFit (di : Int) (l : List (Nat × Int)) : Fit :=
  let fits := tauPairs.map (fun p => fitOne di l p.1 p.2)
  match fits with
  | [] => { ta := 1000, tb := 10000, ra := 0, rb := 0, res := 0 }
  | f :: rest => rest.foldl (fun b x => if x.res < b.res then x else b) f

/-- A capacitance in UQ24.8 F (09 R323), for a resistance above 0. -/
def capOf (tau : Nat) (r : Int) : Nat := (clampI 0 (2 ^ 32 - 1) (rndDiv ((tau * 2 ^ 39 : Nat) : Int) (1000000 * r))).toNat

/-- What the fit of one hop gives: the status, and the six result words when it is 0. -/
abbrev FitOut := Nat × List Nat

/-- The string's share of the step in q16 A (09 R322). -/
def Dev.strStep_di (d : Dev) (n : Nat) : Int :=
  let st := d.stepOf n
  let sum := st.istr.foldl (fun a p => a + p.2) 0
  if sum = 0 then 0 else rndDiv (st.di * FMap.get (fun _ => 0) st.istr n) sum

/-- The currents of the capture: SHARE and STEADY (09 R323). -/
def Dev.stepStatus (d : Dev) (n : Nat) : Nat :=
  let st := d.stepOf n
  let sum := st.istr.foldl (fun a p => a + p.2) 0
  let i := rndDiv (st.blk * 1000) 65536
  if 2 * (i.natAbs : Int) < 100 * ((sum - i).natAbs : Int) then 5
  else
    let a := (20 * st.n * st.lo - 20 * st.sum).natAbs
    let b := (20 * st.n * st.hi - 20 * st.sum).natAbs
    if st.sum.natAbs < a ∨ st.sum.natAbs < b then 6 else 0

/-- The module repeated a sample at an instant of the capture (09 R323): `smiss` holds the scan of the last one, plus one. -/
def Dev.missed (d : Dev) (j : Nat) : Bool :=
  let frz := d.frzOf (j / 64) (j % 64 + 1)
  let k := d.scan - frz
  let t := d.cnpy.tinsts.getD k 0
  let back := ((d.cnpy.tinsts.drop (k + 1)).filter (fun x => decide (t ≤ x + 50000000))).length
  let v := FMap.get (fun _ => 0) d.cnpy.smiss j
  decide (frz < v + back) && decide (0 < v)

/-- The fit of a hop's reference cell (09 R322-R323). -/
def Dev.fitHop (d : Dev) (n h : Nat) : FitOut :=
  let j := 64 * n + h - 1
  let ref := (FMap.get (fun _ => []) d.cnpy.refs n).getD (h - 1) 16
  let pts := d.fitPoints j
  let pre := pts.filter (fun p => decide (-10000000 ≤ p.1) && decide (p.1 < 0))
  let post := pts.filter (fun p => decide (100000 ≤ p.1))
  if ((d.port n).mod h).ver = 2 then (1, [])
  else if 16 ≤ ref then (2, [])
  else if FMap.get (fun _ => []) d.cnpy.bursts j = [] then (9, [])
  else if pts.length + 50 < 1000 ∨ pre.length = 0 ∨ post.length = 0 then (3, [])
  else if d.missed j then (4, [])
  else if ¬(d.stepStatus n = 0) then (d.stepStatus n, [])
  else
    let di := d.strStep_di n
    let vpre := rndDiv (pre.foldl (fun a p => a + p.2) 0) pre.length
    let rser := qdiv (qadd (post.headD (0, 0)).2 (-vpre) * 2 ^ 19) di
    let off := qadd vpre (qmul di rser 19)
    let l := post.map (fun p => (p.1.toNat, qadd p.2 (-off)))
    let f := bestFit di l
    let rms := Nat.sqrt (f.res.toNat / post.length)
    if f.ra ≤ 0 ∨ f.rb ≤ 0 then (7, [])
    else if d.topo.resmax * 2 ^ 28 < rms * 10000 then (8, [])
    else (0, [toU 32 rser, toU 32 f.ra, capOf f.ta f.ra, toU 32 f.rb, capOf f.tb f.rb, rms])

/-- The 32-byte record of a hop (09 R323); a STATUS other than 0 keeps the previous results. -/
def Dev.impRecord (d : Dev) (n h : Nat) (o : FitOut) : List Nat :=
  let old := padTo 8 0 (FMap.get (fun _ => []) d.cnpy.imp (64 * n + h - 1))
  let ref := (FMap.get (fun _ => []) d.cnpy.refs n).getD (h - 1) 0 % 16
  let w := toU 16 (rnd (d.strStep_di n) 16) * 65536 + ref * 4096 + o.1
  [d.frzOf n h, w] ++ (if o.1 = 0 then o.2 else old.drop 2)

/-- The string is frozen and its modules have been read (09 R321). -/
def Dev.burstsRead (d : Dev) (n : Nat) : Bool :=
  (d.str n).frozen && (d.str n).reading && !((d.port n).txns ++ (d.port n).backlog).any (fun t => t.code == 0x31 && t.holder == 0)

/-- FIT_JOB (R321-R322): every frozen module has been read; the string is disarmed and its capture time kept. -/
def execFitJob (port : Nat) (s : State) : Out :=
  present (decide (port < s.dev.rings)) (s.onDev (fun d =>
    if !d.burstsRead port then d else
    let w := foldOver (d.hopsOf port) (fun h m => FMap.set (fun _ => []) m (64 * port + h - 1) (d.impRecord port h (d.fitHop port h))) d.cnpy.impWork
    let b := d.cnpy.bursts.filter (fun p => !(p.1 / 64 == port))
    let d := { d with cnpy := { d.cnpy with impWork := w, bursts := b } }
    (d.disarm port).setStr port (fun x => { x with capT := some d.time.now, rot := x.rot + 1 })))

/-- The slot update of a fit with STATUS 0 (09 R324). -/
def Dev.fitSlot (n h : Nat) (rec8 : List Nat) (d : Dev) : Dev :=
  if ¬(rec8.getD 1 0 % 256 = 0) then d else
  let j := cellIdx n h (rec8.getD 1 0 / 4096 % 16)
  let zt := FMap.get (fun _ => (0, 0)) d.cnpy.frzZ (64 * n + h - 1)
  let x := d.slot j
  let p := (d.chemOf n).par zt.1 zt.2 oneZ
  let rr := qdiv (sextB 32 (rec8.getD 2 0) * oneZ) p.rser
  let fr := clampI 536870912 2080374784 (x.fr + gain d.topo.gri (rr - x.fr))
  let y := { x with fr := fr, hf2 := x.hf2.setField 7 0 (min 255 (x.hf2.field 7 0 + 1)) }
  (d.putHealth j y).healthBounds n j y

/-- FIT_JOB_END (R323-R324, R333): the records appear, FR is updated in both pages, the scan of a capture with a STATUS 0 record is
kept, event 208. -/
def execFitJobEnd (port : Nat) (s : State) : Out :=
  present (decide (port < s.dev.rings)) (s.onDev (fun d =>
    let todo := d.cnpy.impWork.filter (fun p => p.1 / 64 == port)
    if todo = [] then d else
    let rest := d.cnpy.impWork.filter (fun p => !(p.1 / 64 == port))
    let imp := foldOver todo (fun p m => FMap.set (fun _ => []) m p.1 p.2) d.cnpy.imp
    let d := { d with cnpy := { d.cnpy with impWork := rest, imp := imp } }
    let good := todo.find? (fun p => p.2.getD 1 0 % 256 == 0)
    let d := match good with
      | none => d
      | some p => d.setStr port (fun x => { x with capScan := p.2.getD 0 0 })
    (foldOver todo (fun p d => d.fitSlot port (p.1 % 64 + 1) p.2) d).raise 208 port))

end Sys2Proof.Machine
end

