-- ==== Sys2Proof/Machine/TwinOps.lean ====
section
/-! DEFINITION. Roles of a twin, giving up authority, yielding, CONSERVATIVE mode and the Graft (12 R412-R428). -/

namespace Sys2Proof.Machine
open Sys2Proof

/-- Enter a twin state (12 R425, R435): event 288 at a change. -/
def Dev.setTwin (st : Nat) (d : Dev) : Dev :=
  if d.twinState = st then d else (d.setFld A.twinStat 31 28 st).raise 288 st

/-- The partner hears whether this twin holds authority and drives GRAFT_OUT (12 R423, R434, R437; DEDUCED, log entry 191). -/
def Dev.tellAuthority (d : Dev) : Dev := d.moorSend (.authority d.authority (d.rbit A.twinStat 20))

/-- Give up authority (12 R414): gates and CPWM low, launching and dispatch stop, GRAFT_OUT high until the device's own reset. -/
def Dev.giveUp (d : Dev) : Dev :=
  if d.rbit A.twinStat 27 then
    let d := d.gatesOff
    let d := { d with ctl := { d.ctl with pwm := [] } }
    let d := (((d.setRbit A.twinStat 27 false).setRbit A.twinStat 20 true).setRbit (A.ethStat 0) 28 false).setRbit (A.ethStat 1) 28 false
    d.tellAuthority
  else d

/-- Restart the limp-home unit's deadline accounting when a device stops running activations: its holds go off (12 R423). -/
def Dev.holdsOff (d : Dev) : Dev := ((d.gatesOff).driveHold .pos false).driveHold .neg false

/-- A core stops: its running and waiting activations end with their read locks, without counting a miss (12 R423). -/
def Dev.stopCore (c : Core) (d : Dev) : Dev :=
  let k := d.core c
  let d := foldOver (k.cur.task :: k.susp.map (fun x => x.task)) (fun e d => d.unlockCan (lockKey (pairOf c) e)) d
  d.setCore c (fun k => { k.endAct with susp := [] })

/-- Every core stops. -/
def Dev.stopCores (d : Dev) : Dev := foldOver [Core.k0, Core.k1, Core.k0b, Core.k1b] Dev.stopCore d

/-- This twin yields (12 R422-R423): authority goes by a Graft, activations, holds, gates and CPWM end, event 299; its limp-home unit takes
it as dead at once. -/
def Dev.yield_ (d : Dev) : Dev := (((((d.giveUp).holdsOff).stopCores).setTwin 7).raise 299 0).lhSync

/-- TWIN_ALIVE_OUT toggles (12 R413): out of reset, not YIELDED, not in recovery (13 R448), and a pair completes its ticks: one runs, and
the limp-home watchdog that ends of ticks restart has not run out. -/
def Dev.aliveOut (d : Dev) : Bool :=
  d.isTwin && !d.pwr.inReset && !d.yielded && d.pairsTick && !d.hwd.recovery && !d.lh.inReset && !d.lh.wdog

/-- A failed twin self-test, a halted pair, or too few SRAM banks (12 R406, R414, R421): a twin that computes with a partner yields.
A single device, and one that runs ALONE, goes on. -/
def Dev.twinFail (d : Dev) : Dev :=
  if d.isTwin && (d.twinState == 3 || d.twinState == 4 || d.twinState == 5) then d.yield_ else d

/-- CONSERVATIVE mode begins (12 R421-R422); with `svc` service is called and event 292 raised. -/
def Dev.consBegin (svc : Bool) (d : Dev) : Dev :=
  let d := d.setRbit A.twinStat 26 true
  if svc then (d.setRbit A.twinStat 25 true).raise 292 0 else d

/-- CONSERVATIVE mode ends with event 292 (12 R424). -/
def Dev.consEnd (d : Dev) : Dev :=
  if d.rbit A.twinStat 26 then ((d.setRbit A.twinStat 26 false).setRbit A.twinStat 25 false).raise 292 0 else d

/-- The partner begins to join (12 R430): the bulk state is to go out. -/
def Dev.joinBegin (d : Dev) : Dev := { d with twin := { d.twin with joining := true, matches_ := 0, bulkSent := false } }

/-- A life counter of the twin block (12 R440): saturating, event 301 once. -/
def Dev.twinLife (a x : Nat) (d : Dev) : Dev :=
  let old := (d.reg a).toNat
  let v := min (old + x) 0xFFFFFFFF
  (d.setReg a (BitVec.ofNat 32 v)).raiseIf (decide (v = 0xFFFFFFFF) && decide (old < 0xFFFFFFFF)) 301 0

/-- The new authority takes the block addresses (14 R485): event 359. -/
def Dev.takeAddresses (d : Dev) : Dev :=
  let d := if d.hasEth 0 then d.setRbit (A.ethStat 0) 28 true else d
  let d := if d.hasEth 1 then d.setRbit (A.ethStat 1) 28 true else d
  d.raise 359 0

/-- Loops start in their published modes with a history of 0; a ramp restarts from HV1 at the rate in force (10 R354, R367). -/
def Dev.restartLoops (d : Dev) : Dev :=
  let f : LoopSt → LoopSt := fun l => { l with e1 := 0, e2 := 0, w1 := 0, w2 := 0 }
  let d := { d with ctl := { d.ctl with loops := d.ctl.loops.map (fun p : Nat × LoopSt => (p.1, f p.2)) } }
  if d.ramping then
    let r := q16Of (d.acq.ownHv1.getD ((d.hvMv 1).getD 0))
    ((d.setBlk (fun b => { b with r := 50000 * r })).ownLoops)
  else d

/-- Controllers leave restricted operation as their agreed modes say (14 R480). -/
def Dev.canModes (d : Dev) : Dev :=
  foldOver (List.range 4) (fun c d =>
    if d.hasCan c then d.setRbit (A.canStat c) 29 (FMap.get (fun _ => {}) d.cans c).ropMode else d) d

/-- Take authority (12 R425, R427): AUTH, block addresses, full buckets (13 R455), CAN modes. -/
def Dev.takeAuth (d : Dev) : Dev :=
  let d := d.setRbit A.twinStat 27 true
  let d := { d with hwd := { d.hwd with tokens := [] } }
  d.takeAddresses.canModes.tellAuthority

/-- Authority at a start, without a Graft (12 R425, R429): AUTH, block addresses, CAN modes, discovery of the rings. -/
def Dev.startAuth (d : Dev) : Dev :=
  let d := d.setRbit A.twinStat 27 true
  let d := if d.hasEth 0 then d.setRbit (A.ethStat 0) 28 true else d
  let d := (if d.hasEth 1 then d.setRbit (A.ethStat 1) 28 true else d).tellAuthority
  foldOver d.ringsOn (fun n d => if d.ringState n = 1 ∧ d.rbit (A.ringStat n) 12 then d.discoverRing n else d) d.canModes

/-- A Graft begins (12 R426-R427): GRAFTING, GRAFT_OUT high, event 293, authority, control loops. -/
def Dev.graftStart (d : Dev) : Dev :=
  let d := ((d.setTwin 6).setRbit A.twinStat 20 true).raise 293 0
  ((d.twinLife A.twinGrafts 1).takeAuth).restartLoops

/-- The state from which a mirror may graft (12 R426): MIRROR, or DETACHED (R412). -/
def Dev.mayGraft (d : Dev) : Bool := d.isTwin && (d.twinState == 3 || d.twinState == 5)

end Sys2Proof.Machine
end

