-- ==== Sys2Proof/Machine/Prot.lean ====
section
/-! DEFINITION. Protection: the Layer 0 verdict, its channels and self-test, the grant-excess check, zone lines and trip release
(07 R233-R262). -/

namespace Sys2Proof.Machine
open Sys2Proof

/-- An element of the compare unit in one scan (07 R239-R240): ring, kind, hop, input − 1, check record, and class. -/
structure Elem where
  n : Nat
  kind : Nat
  hop : Nat
  inp : Nat
  rec_ : EnvRec
  cls : Cls

/-- The number of an element's counter. -/
def Elem.key (e : Elem) : Nat := ((64 * e.n + e.hop - 1) * 8 + e.kind) * 16 + e.inp

/-- The class of a string-current element (07 R239). -/
def Dev.curClass (d : Dev) (v : View) (n kind : Nat) (r : EnvRec) : Cls :=
  let i := (v.modRec n 1).istr
  classByCode (d.istrCodeIn v n) r.invact (classByValue false r.thr r.hyst (if kind = 5 then i else -i))

/-- The class of a cell element (07 R239). -/
def cellClass (m : ModRec) (kind c : Nat) (r : EnvRec) : Cls :=
  classByCode (m.valid.getD c 6) r.invact (classByValue (kind == 1) r.thr r.hyst ((m.cells.getD c 0 : Nat) : Int))

/-- The class of a temperature element (07 R239); kind 3 counts only while the string charges above ICOND. -/
def Dev.tempClass (d : Dev) (v : View) (n : Nat) (m : ModRec) (kind t : Nat) (r : EnvRec) : Cls :=
  let k := classByCode (m.valid.getD (16 + t) 6) r.invact (classByValue (kind != 2) r.thr r.hyst (m.temps.getD t 0))
  let code := d.istrCodeIn v n
  if kind = 3 then
    if ¬(code = 0 ∨ code = 4) then .hold else if (v.modRec n 1).istr ≤ r.icond then .down else k
  else k

/-- The check record of a kind for a ring's string. -/
def Dev.envRec (d : Dev) (n kind : Nat) : EnvRec := (d.prot.env.getD (d.ringCfgOf n).envSet []).getD kind {}

/-- The elements of a ring in the order of 07 R261: string currents, then by hop, kind and input. -/
def Dev.ringElems (d : Dev) (v : View) (n : Nat) : List Elem :=
  let cur : List Elem := [5, 6].map (fun k =>
    let r := d.envRec n k
    { n := n, kind := k, hop := 1, inp := 0, rec_ := r, cls := d.curClass v n k r })
  let hop : Nat → List Elem := fun h =>
    let m := v.modRec n h
    (List.range 5).flatMap (fun k =>
      let r := d.envRec n k
      (List.range (if k < 2 then 16 else 8)).map (fun i =>
        { n := n, kind := k, hop := h, inp := i, rec_ := r, cls := if k < 2 then cellClass m k i r else d.tempClass v n m k i r }))
  (cur ++ (d.hopsOf n).flatMap hop).filter (fun e => e.rec_.en)

/-- The zones of an element (07 R241). -/
def Dev.elemZones (d : Dev) (e : Elem) : Nat := if e.rec_.blockScope then d.fld A.protBlkz 7 0 else d.strz e.n

/-- What a verdict gathers: counters of both channels, active elements by the rule in force, zone masks and counts of the channels,
newly active elements in order, elements that ceased. -/
structure Verdict where
  a : FMap Nat
  b : FMap Nat
  act : FMap Bool
  zoneA : Nat := 0
  zoneB : Nat := 0
  cntA : Nat := 0
  cntB : Nat := 0
  new : List Elem := []
  gone : List Nat := []

/-- One element of the verdict (07 R235, R240-R242). -/
def Dev.judgeElem (d : Dev) (either : Bool) (v : Verdict) (e : Elem) : Verdict :=
  let k := e.key
  let ca := dwellNext e.cls e.rec_.cap (FMap.get (fun _ => 0) v.a k)
  let cb := dwellNext e.cls e.rec_.cap (FMap.get (fun _ => 0) v.b k)
  let aa := decide (e.rec_.lim ≤ ca)
  let ab := decide (e.rec_.lim ≤ cb)
  let z := d.elemZones e
  let was := FMap.get (fun _ => false) v.act k
  let is := if either then aa || ab else aa && ab
  { a := FMap.set (fun _ => 0) v.a k ca, b := FMap.set (fun _ => 0) v.b k cb, act := FMap.set (fun _ => false) v.act k is,
    zoneA := if aa then v.zoneA ||| z else v.zoneA, zoneB := if ab then v.zoneB ||| z else v.zoneB,
    cntA := v.cntA + b2n aa, cntB := v.cntB + b2n ab, new := if is && !was then v.new ++ [e] else v.new,
    gone := if was && !is then v.gone ++ [e.n] else v.gone }

/-- PROT.L0FIRST of an element (07 R261). -/
def Elem.first (e : Elem) : Word :=
  BitVec.ofNat 32 (e.kind * 2 ^ 29 + e.n * 2 ^ 23 + (e.hop - 1) * 2 ^ 17 + e.inp * 2 ^ 12 + 1)

/-- The channels' signatures differ (07 R242): L0FAULT, event 165, and the self-test is due. -/
def Dev.signatures (d : Dev) : Dev :=
  if d.prot.cntA = d.prot.cntB ∨ d.rbit A.protStat 29 = true then d
  else (d.setRbit A.protStat 29 true).raise 165 0

/-- The Layer 0 part of a verdict (07 R240-R242, R261). -/
def Dev.layer0 (d : Dev) : Dev :=
  let v := d.acq.next
  let fault := d.rbit A.protStat 29
  let x := (d.ringsOn.flatMap (d.ringElems v)).foldl (d.judgeElem fault) { a := d.prot.cntA, b := d.prot.cntB, act := d.prot.active }
  let d := { d with prot := { d.prot with cntA := x.a, cntB := x.b, active := x.act } }
  let d := d.setReg A.protL0act (BitVec.ofNat 32 (min x.cntA x.cntB))
  let d := match x.new with
    | [] => d
    | e :: _ => if d.rbit A.protL0first 0 then d else d.setReg A.protL0first e.first
  let d := foldOver x.new (fun e d => d.raise 160 e.n) d
  let d := foldOver x.gone (fun n d => d.raise 161 n) d
  let d := if x.new = [] then d else d.wake
  let m := if fault then x.zoneA ||| x.zoneB else x.zoneA &&& x.zoneB
  (if m = 0 then d else d.requestZones m 0 0).signatures

/-- The block current that the check takes (07 R245, R255): the stream's, or in a twin pair in agreement the agreed value of the scan header
(DEDUCED, log entry 175), in q16 A. The number is classed whatever the channel's validity code (DESIGN CHOICE, log entry
193: R245 is silent). -/
def Dev.checkI (d : Dev) : Int := if d.agreed then q16Of (d.acq.next.hdr.own.getD d.topo.blkCur 0) else d.acq.lastI

/-- Grants in force for the grant-excess check (07 R245): the current ones, or the higher of those that fell within GGRACE. -/
def Dev.checkGrants (d : Dev) : Nat × Nat :=
  (d.prot.gPend.filter (fun p => decide (d.time.now < p.1))).foldl (fun a p => (max a.1 p.2.1, max a.2 p.2.2)) (d.rep.blk0.icg, d.rep.blk0.idg)

/-- The grant-excess element (07 R245). The excess is taken over both bounds, in 10^-5 A × 2^16, with threshold 0 and GHYST in A. R245 gives LIM and CAP no range: they are taken as the topology has
them (DESIGN CHOICE, log entry 192). -/
def Dev.grantCheck (d : Dev) : Dev :=
  let t := d.topo
  let g := d.checkGrants
  let bound := fun (i : Nat) => ((i * (100 + t.gmarg) + t.gabs * 100000) * 65536 : Nat)
  let i := d.checkI * 100000
  let e := max (i - bound g.1) (-i - bound g.2)
  let k := classByValue false 0 (t.ghyst * 100000 * 65536) e
  let cnt := dwellNext k t.gcap d.prot.gxCnt
  let is := decide (t.glim ≤ cnt)
  let was := d.prot.gxActive
  let d := { d with prot := { d.prot with gxCnt := cnt, gxActive := is } }
  let d := d.raiseIf (is && !was) 168 0
  let z := d.fld A.protBlkz 23 16
  if is && !(z == 0) then d.requestZones z 3 0 else d

/-- L0_VERDICT (R240). -/
def execL0Verdict (s : State) : Out := .next { s with dev := (s.dev.layer0).grantCheck }

/-- Drop grants whose GGRACE has passed. -/
def ProtSt.dropGrants (now : Nat) (p : ProtSt) : ProtSt := { p with gPend := p.gPend.filter (fun x => decide (now < x.1)) }

/-- GGRACE_EXPIRY (R245): the oldest grant that fell leaves the check. -/
def execGgraceExpiry (s : State) : Out :=
  .next { s with dev := match s.dev.prot.gPend with
    | [] => s.dev
    | x :: _ => let d := s.dev.at x.1
                { d with prot := d.prot.dropGrants d.time.now } }

/-- The higher counter of each element (07 R242). -/
def mergeCounts (a b : FMap Nat) : FMap Nat := b.foldl (fun m p => FMap.upd (fun _ => 0) m p.1 (fun x => max x p.2)) a

/-- The channel self-test ends (07 R242): on a pass of both channels L0FAULT ends with merged counters, and an EVENT record of event 165
logs the mismatch as transient (DESIGN CHOICE, log entry 171); a failed channel keeps a
starting device out of RUN, and is a failed self-test of a twin. -/
def Dev.l0SelfTest (passA passB : Bool) (d : Dev) : Dev :=
  let d := d.raise 166 0
  let m := mergeCounts d.prot.cntA d.prot.cntB
  let fixed := (({ d with prot := { d.prot with cntA := m, cntB := m } }).setRbit A.protStat 29 false).logRec 0 165 (leBytes 4 1 ++ leBytes 4 0) []
  let good := if d.rbit A.protStat 29 then fixed else d
  let start := { d with pwr := { d.pwr with noRun := true } }
  if passA && passB then good else if d.pstate = 7 then start else d.twinFail

/-- L0_SELFTEST_END (R242). -/
def execL0SelftestEnd (passA : Bool) (passB : Bool) (s : State) : Out := .next { s with dev := s.dev.l0SelfTest passA passB }

/-- L0_SELFTEST_DAILY (R242): the same test, every 24 h. -/
def execL0SelftestDaily (passA : Bool) (passB : Bool) (s : State) : Out := .next { s with dev := s.dev.l0SelfTest passA passB }

/-- ZONE_LINE_LOW (R249): a line seen low for 10 µs while this device does not drive it. -/
def execZoneLineLow (z : Nat) (s : State) : Out :=
  present (decide (z < 8)) (s.onDev (fun d =>
    let d := d.setRbit A.protStat (16 + z) true
    if d.rbit A.protStat (8 + z) then d else d.requestZones (2 ^ z) 5 0))

/-- READBACK_FAULT (R249): a driven line read high for 20 µs. -/
def execReadbackFault (z : Nat) (s : State) : Out :=
  present (decide (z < 8)) (s.onDev (fun d =>
    if d.rbit A.protStat (8 + z) then ((d.setRbit A.protStat (16 + z) false).setRbit A.protStat 28 true).raise 172 z else d))

/-- Zones with an active Layer 0 element in either channel (07 R252). -/
def Dev.l0Zones (d : Dev) : Nat :=
  let v := d.acq.next
  (d.ringsOn.flatMap (d.ringElems v)).foldl (fun m e =>
    let c := max (FMap.get (fun _ => 0) d.prot.cntA e.key) (FMap.get (fun _ => 0) d.prot.cntB e.key)
    if e.rec_.lim ≤ c then m ||| d.elemZones e else m) 0

/-- A zone that some source requested in the current scan (07 R253). -/
def Dev.requestedNow (d : Dev) (z : Nat) : Bool := FMap.get (fun _ => 0) d.prot.reqAt z == d.scan + 1

/-- The conditions of a release that hold before the line check (07 R252-R253). -/
def Dev.mayRelease (d : Dev) (m seen : Nat) : Bool :=
  (bitsOf 8 m).all (fun z => decide (FMap.get (fun _ => 0) d.prot.latchT z + 1000000000 ≤ d.time.now) && !d.requestedNow z)
    && (m &&& (d.l0Zones ||| (if d.prot.gxActive then d.fld A.protBlkz 23 16 else 0) ||| seen)) == 0

/-- The answer of a release request (07 R252): OK or NOTCLEAR. -/
def Dev.releaseAnswer (r : RelReq) (ok : Bool) (d : Dev) : Dev := d.lateReply r.sess r.seq (if ok then 0 else 7) []

/-- TRIP_RELEASE_EVAL (R252): the first request that is due, unless a line check runs. -/
def execTripReleaseEval (s : State) : Out :=
  let d := s.dev
  .next { s with dev := match d.prot.check, d.prot.rels with
    | none, r :: rest =>
      if !d.dueNow r.due then d else
      let m := r.mask &&& d.latched
      let e := { d with prot := { d.prot with rels := rest } }
      if m = 0 then e.releaseAnswer r true
      else if d.mayRelease m r.seen then
        let f := { e with prot := { e.prot with check := some r } }
        foldOver (bitsOf 8 m) (fun z d => d.setRbit A.protStat (8 + z) false) f
      else e.releaseAnswer r false
    | _, _ => d }

/-- Release one zone (07 R252): line, source and latch clear, event 163. -/
def Dev.releaseZone (z : Nat) (d : Dev) : Dev :=
  let d := ((d.setRbit A.protStat z false).setRbit A.protStat (8 + z) false).setRbit A.protStat (16 + z) false
  (d.setReg (A.protSrc z) 0).raise 163 z

/-- A granted release (07 R252, R259, R261, R263): when no SAFEZ zone stays latched, SAFE ends. -/
def Dev.granted (m : Nat) (d : Dev) : Dev :=
  let d := foldOver (bitsOf 8 m) Dev.releaseZone d
  let d := (d.setRbit A.protStat 28 false).setReg A.protL0first 0
  let d := if d.latched = 0 then d.setRbit A.protOvf 0 false else d
  let d := { d with prot := { d.prot with mramLatch := d.latched } }
  if d.rbit A.protStat 31 && (d.latched &&& d.fld A.protBlkz 15 8) == 0 then (d.setRbit A.protStat 31 false).settleState 3 else d

/-- RELEASE_LINE_CHECK_END (R252-R253): `high` has a bit for each line that read high for the 20 µs, `partner` tells whether the other
twin grants the release. -/
def execReleaseLineCheckEnd (high : Nat) (partner : Bool) (s : State) : Out :=
  let d := s.dev
  .next { s with dev := match d.prot.check with
    | none => d
    | some r =>
      let m := r.mask &&& d.latched
      let e := { d with prot := { d.prot with check := none } }
      if (m &&& high) = m ∧ (r.seen &&& m) = 0 ∧ (partner = true ∨ d.agreed = false) then (e.granted m).releaseAnswer r true
      else (foldOver (bitsOf 8 m) (fun z d => d.setRbit A.protStat (8 + z) true) e).releaseAnswer r false }

end Sys2Proof.Machine
end

