-- ==== Sys2Proof/Machine/Job.lean ====
section
/-! DEFINITION. The end of the Canopy scan job, the state digest and its comparison, and the twin self-test (08 R282-R286, 12 R416-R424,
13 R462-R463). -/

namespace Sys2Proof.Machine
open Sys2Proof

/-- Four little-endian bytes of a signed value. -/
def sw (x : Int) : List Nat := leBytes 4 (toU 32 x)

/-- Four little-endian bytes. -/
def uw (x : Nat) : List Nat := leBytes 4 x

/-- The bytes of a table of numbers, with its keys. -/
def mapBytes (m : FMap Nat) : List Nat := m.flatMap (fun p => uw p.1 ++ uw p.2)

/-- Section 1 (12 R417, 07 R240): the signature of channel A's counters (R242), the active count and the first-active element, and the grant-excess
element. -/
def Dev.section1 (d : Dev) : List Nat := leBytes 8 (Config.counterSig (mapBytes d.prot.cntA)) ++ uw (d.reg A.protL0act).toNat ++ uw (d.reg A.protL0first).toNat ++ uw d.prot.gxCnt ++ uw (b2n d.prot.gxActive)

/-- Section 2 (12 R417): task status without its sticky bits, miss counts, and the split state of both pairs. -/
def Dev.section2 (d : Dev) : List Nat :=
  (List.range 128).flatMap (fun e => uw (d.reg (A.sysTstat e) &&& 0xC60000FF#32).toNat ++ uw (d.reg (A.sysTmiss e)).toNat)
    ++ uw (b2n (d.kstate 0 == 1)) ++ uw (b2n (d.kstate 1 == 1))

/-- Section 3 (12 R417-R418): the publications that this digest cuts off, in order. -/
def Dev.section3 (d : Dev) : List Nat := d.twin.pubsCut.flatMap (fun o => uw o.cls ++ uw o.idx ++ uw o.val.toNat)

/-- A PCS request in force, as digest bytes. -/
def forceBytes (r : Option PcsForce) : List Nat :=
  match r with
  | none => uw 0
  | some x => uw 1 ++ uw x.preq ++ leBytes 8 (x.until_.getD 0) ++ uw x.fromScan

/-- Section 4 (12 R417): SOCM and its rest timer, every ZC and CAPDIS, release, requests in force, grants. -/
def Dev.section4 (d : Dev) : List Nat :=
  sw d.rep.socm ++ leBytes 8 (d.rep.restT.getD 0)
    ++ (List.range 48).flatMap (fun n => sw (d.str n).zc ++ uw (b2n (d.str n).capdis)) ++ uw (d.rep.relFrel.getD 0)
    ++ forceBytes d.rep.chg ++ forceBytes d.rep.dis ++ uw d.rep.blk0.icg ++ uw d.rep.blk0.idg ++ uw d.rep.blk0.pcg ++ uw d.rep.blk0.pdg

/-- Section 5 (12 R417): bleed timers, identity states, configuration-tag states. -/
def Dev.section5 (d : Dev) : List Nat :=
  d.cnpy.timers.flatMap (fun p => uw p.1 ++ p.2.flatMap uw)
    ++ (List.range 48).flatMap (fun n => mapBytes (d.port n).identity ++ mapBytes (d.port n).cfgFails
      ++ (d.port n).cfgStale.flatMap (fun p => uw p.1))

/-- Section 6 (12 R417): sequences, holds, latches, agreed load switch flags. -/
def Dev.section6 (d : Dev) : List Nat :=
  uw d.ctl.blk.code ++ uw d.ctl.blk.step ++ uw (2 * b2n d.ctl.agrPos + b2n d.ctl.agrNeg)
    ++ (List.range 48).flatMap (fun n => uw (d.strSeq n).code ++ uw (d.strSeq n).step) ++ uw d.latched
    ++ (List.range 32).flatMap (fun n => uw (d.chan n).agr)

/-- Section 7 (12 R417): SCAN, TINST, own values, their codes and QCNT of the scan header, and the map of delivered slots. -/
def Dev.section7 (d : Dev) : List Nat :=
  let h := d.view0.hdr
  uw h.scan ++ leBytes 8 h.tinst ++ h.own.flatMap sw ++ leBytes 12 (packCodes 32 h.val) ++ leBytes 8 (toU 64 h.qcnt)
    ++ d.ringsOn.flatMap (fun n => (d.hopsOf n).map (fun h => (d.latest n h).deliv % 4))

/-- The eight section hashes (12 R417). How a section's content is laid out in bytes is the model's choice. -/
def Dev.hashes (d : Dev) : List (List Nat) :=
  [d.cnpy.sig, d.section1, d.section2, d.section3, d.section4, d.section5, d.section6, d.section7].map sha256

/-- The state digest over the section hashes (12 R417). -/
def Dev.digest (d : Dev) : List Nat := sha256 d.hashes.flatten

/-- The sections whose hashes differ from the partner's (12 R419), and section 0 when this device abandoned its scan job (08 R286). -/
def Dev.sectDiffer (d : Dev) (p : Partner) : Nat :=
  maskOf ((List.range 8).filter (fun k => !(d.hashes.getD k [] == p.hashes.getD k []) || (k == 0 && d.cnpy.abandoned)))

/-- Write a digest into eight registers from `a`. -/
def Dev.putDigest (a : Nat) (bs : List Nat) (d : Dev) : Dev :=
  foldOver (List.range 8) (fun k d => d.setReg (a + 4 * k) (BitVec.ofNat 32 (wordAt bs k))) d

/-- HWD.BDIG as bytes. -/
def Dev.blockDigest (d : Dev) : List Nat := (List.range 8).flatMap (fun k => leBytes 4 (d.reg (A.hwdBdig k)).toNat)

/-- The written page is confirmed and the reports follow (08 R286, 09 R332); a job that was abandoned leaves the page as it is. -/
def Dev.finishJob (d : Dev) : Dev :=
  if d.cnpy.wrote then (d.confirm d.view0.hdr.scan).report else { d with cnpy := { d.cnpy with job := none, repeated := false } }

/-- SCAN_JOB_END (R282, R286): in agreement with a partner the page waits for the digests. -/
def execScanJobEnd (s : State) : Out :=
  let d := s.dev
  .next { s with dev := match d.cnpy.job with
    | none => d
    | some _ =>
      let e := d.runScanJob d.view0
      if d.agreed then { e with cnpy := { e.cnpy with job := none } } else e.finishJob }

/-- SCAN_JOB_OVERRUN (R286): the job is abandoned and the confirmed page stays; event 200. -/
def execScanJobOverrun (s : State) : Out :=
  let d := s.dev
  .next { s with dev := match d.cnpy.job with
    | none => d
    | some _ => ({ d with cnpy := { d.cnpy with job := none, wrote := false, abandoned := true } }).raise 200 0 }

/-- A lasting mismatch (12 R421): own page, event 291, CONSERVATIVE rules pending judgement, self-test due. -/
def Dev.lasting (d : Dev) : Dev :=
  let d := ((d.finishJob).raise 291 0).consBegin false
  { d with twin := { d.twin with selftest := true, transT := [] } }

/-- A transient mismatch (12 R420): the page is confirmed; the third within 60 s counts as lasting. -/
def Dev.transient (d : Dev) : Dev :=
  let d := (((d.finishJob).bump A.twinTrans A.twinOvf 0)).raise 290 (d.fld A.twinSect 7 0)
  let l := d.time.now :: d.twin.transT.filter (fun t => decide (d.time.now < t + 60000000000))
  let d := { d with twin := { d.twin with transT := l } }
  if 3 ≤ l.length then d.lasting else d

/-- A joiner and its partner count matching digests; eight in a row make the joiner MIRROR with its holds on from the agreed state,
and an authority that was alone PRIMARY (12 R430). -/
def Dev.joinMatch (ok : Bool) (d : Dev) : Dev :=
  let k := if ok then d.twin.matches_ + 1 else 0
  let d := { d with twin := { d.twin with matches_ := k } }
  if k < 8 then d else
  let d := { d with twin := { d.twin with matches_ := 0, resyncTry := 0, joining := false } }
  (if d.twinState = 2 then ((d.setTwin 3).takeHolds).raise 296 0 else d.setTwin 4).consEnd

/-- The block digests differ (13 R463): event 308, once until they agree again. -/
def Dev.blockDiffers (p : Partner) (d : Dev) : Dev × Bool :=
  let bad := !(p.blockDigest == d.blockDigest)
  let new := bad && !d.twin.bdigBad
  (({ d with twin := { d.twin with bdigBad := bad } }).raiseIf new 308 0, bad)

/-- What the digests of a pair in agreement lead to (12 R419-R420, R424). -/
def Dev.judgeDigest (p : Partner) (same differs : Bool) (d : Dev) : Dev :=
  if d.conservative then
    (if same then d else d.setReg A.twinSect (BitVec.ofNat 32 (d.sectDiffer p))).finishJob
  else if differs then d.lasting
  else if same then d.finishJob
  else
    let sect := d.sectDiffer p
    let d := d.setReg A.twinSect (BitVec.ofNat 32 sect)
    { d with cnpy := { d.cnpy with repeated := true, job := if sect % 2 = 1 then some d.view0.hdr.scan else none } }

/-- DIGEST_COMPARE (R419). -/
def execDigestCompare (partner : Partner) (s : State) : Out :=
  let d := s.dev
  let join := d.isTwin && (d.twinState == 2 || d.twin.joining)
  if !(d.agreed || join) then .next s else
  let own := d.digest
  let d := (((d.putDigest (A.twinDig 0) own).putDigest (A.twinPdig 0) partner.digest)).setReg A.twinDscan (BitVec.ofNat 32 d.view0.hdr.scan)
  let d := { d with rep := { d.rep with partner := partner.limits } }
  let same := (own == partner.digest) && (!d.cnpy.abandoned || join)
  if join then .next { s with dev := d.joinMatch same }
  else
    let b := d.blockDiffers partner
    .next { s with dev := b.1.judgeDigest partner same b.2 }

/-- REPEAT_JOB_END (R419-R421): the second comparison. -/
def execRepeatJobEnd (partner : Partner) (s : State) : Out :=
  let d := s.dev
  .next { s with dev :=
    if d.cnpy.repeated then
      let e := if d.cnpy.job.isSome then d.runScanJob d.view0 else d
      let e := (e.putDigest (A.twinDig 0) e.digest).putDigest (A.twinPdig 0) partner.digest
      if e.digest == partner.digest then e.transient else e.lasting
    else d }

/-- TWIN_SELFTEST_END (R421-R422): event 297; exactly one failure makes that twin yield, and the other carries on alone. -/
def execTwinSelftestEnd (own : Bool) (partner : Bool) (s : State) : Out :=
  let d := s.dev.raise 297 (b2n own)
  let due := d.twin.selftest
  let d := { d with twin := { d.twin with selftest := false } }
  .next { s with dev :=
    if !(d.agreed) then d
    else if own = partner then (if due || !own then d.consBegin true else d)
    else if own = false then d.yield_
    else
      let e := if d.rbit A.twinStat 25 then d.consEnd else d.setRbit A.twinStat 26 false
      if e.twinState = 4 then e.setTwin 0 else e }

end Sys2Proof.Machine
end

