-- ==== Sys2Proof/Machine/Lockstep.lean ====
section
/-! DEFINITION. The Keeper pairs: mismatch, injection test, halt, split and join (12 R401-R410), and the dispatcher's start, resume
and end of segments (02 R78, 03 R88-R93, R106-R107). -/

namespace Sys2Proof.Machine
open Sys2Proof

/-- The first core of a pair. -/
def leadCore (p : Nat) : Core := if p = 0 then .k0 else .k1

/-- The second core of a pair while it is split. -/
def splitCore (p : Nat) : Core := if p = 0 then .k0b else .k1b

/-- The enabled tasks of a pair that are not faulty yet. -/
def Dev.soundTasks (d : Dev) (p : Nat) : List Nat :=
  (span (64 * p) 64).filter (fun e => (d.task e).en && !d.rbit (A.sysTstat e) 31)

/-- A pair halts (12 R406): its tasks become faulty with their fault actions, its cores run nothing, and no SPLIT or JOIN of it is pending.
In a twin pair it counts as a failed self-test. -/
def Dev.haltPair (p : Nat) (d : Dev) : Dev :=
  let d := (d.setFld (A.sysKstat p) 31 30 3).setRbit (A.sysKstat p) 28 false
  let d := d.setPair p (fun q => { q with pend := none })
  let d := foldOver (d.soundTasks p) Dev.taskFaulty d
  let d := (d.stopCore (leadCore p)).stopCore (splitCore p)
  ((d.raise 383 p).twinFail).lhSync

/-- The times of a pair's mismatches within the last 10 s (12 R406). -/
def Dev.recentMism (p : Nat) (d : Dev) : List Nat :=
  ((d.pair p).mism.filter (fun t => decide (d.time.now < t + 10000000000))) ++ [d.time.now]

/-- A pair's instruction caches are loaded anew and its data caches invalidated (12 R404). -/
def Dev.reloadCode (p : Nat) (d : Dev) : Dev :=
  { d with ram := { d.ram with badCode := d.ram.badCode.filter (fun x => !(x.1 / 65536 == p)),
                               badData := d.ram.badData.filter (fun x => !(x.1 / 536870912 == p)) } }

/-- A mismatch of an unsplit pair (12 R404): the running activation ends as a miss, the group is recorded, and the pair enters TEST, or
halts at its third mismatch within 10 s. In TEST its instruction caches are loaded anew and its data caches are
invalidated. -/
def Dev.mismatch (p group : Nat) (d : Dev) : Dev :=
  let c := leadCore p
  let d := d.bump (A.sysKcmp p) (A.sysKstat p) 27
  let d := (d.setFld (A.sysKstat p) 21 16 group).setFld (A.sysKstat p) 31 30 2
  let k := d.core c
  let d := if k.run then (d.endAct c).countMiss p k.cur.task else d
  let ts := d.recentMism p
  let d := d.setPair p (fun q => { q with mism := ts, resume := false })
  if 3 ≤ ts.length then d.haltPair p else ((d.reloadCode p).setFld (A.sysKstat p) 31 30 2).raise 383 p

/-- LOCKSTEP_MISMATCH (R404): only an unsplit pair that runs compares its cores. -/
def execLockstepMismatch (p group : Nat) (t : Nat) (s : State) : Out :=
  present (decide (p < 2)) (s.onDev (fun d =>
    let d := d.at t
    if d.kstate p = 0 then d.mismatch p group else d))

/-- The end of an injection test (12 R405-R406): a pass lets a pair in TEST resume at the next boundary, a failure halts the pair and
keeps a starting device out of RUN. -/
def Dev.injectionEnd (p : Nat) (ok : Bool) (d : Dev) : Dev :=
  let d := d.setRbit (A.sysKstat p) 29 ok
  if ok then d.setPair p (fun q => { q with resume := q.resume || d.kstate p == 2 })
  else
    let d := if d.pstate = 7 then { d with pwr := { d.pwr with noRun := true } } else d
    d.haltPair p

/-- INJECTION_TEST_END (R405). -/
def execInjectionTestEnd (p : Nat) (ok : Bool) (s : State) : Out :=
  present (decide (p < 2)) (s.onDev (fun d => if d.kstate p = 3 then d else d.injectionEnd p ok))

/-- INJECTION_TEST_DAILY (R405): the same test, every 24 h, on a pair whose cores are compared. -/
def execInjectionTestDaily (p : Nat) (ok : Bool) (s : State) : Out :=
  present (decide (p < 2)) (s.onDev (fun d => if d.kstate p = 0 then d.injectionEnd p ok else d))

/-- The tasks a core runs or holds suspended. -/
def CoreSt.tasksIn (k : CoreSt) : List Nat := (if k.run then [k.cur.task] else []) ++ k.susp.map (fun x => x.task)

/-- Stop a core whose activations are abandoned (02 R78). -/
def Dev.abandonCore (c : Core) (d : Dev) : Dev := (foldOver (d.core c).tasksIn Dev.abandon d).stopCore c

/-- Leave or enter the split and clear the pending request. -/
def Dev.setSplit (p st : Nat) (d : Dev) : Dev :=
  let d := d.setPair p (fun q => { q with pend := none })
  ((d.setFld (A.sysKstat p) 31 30 st).setRbit (A.sysKstat p) 28 false).raise 383 p

/-- AUTO_JOIN (R410): the split pair joins because the other one halted; activations of its cores are abandoned. -/
def execAutoJoin (p : Nat) (s : State) : Out :=
  present (decide (p < 2)) (s.onDev (fun d =>
    if d.kstate p = 1 ∧ d.kstate (1 - p) = 3 then ((d.abandonCore (leadCore p)).abandonCore (splitCore p)).setSplit p 0 else d))

/-- An accepted SPLIT of a pair in lockstep, or JOIN of a split one, is due (12 R407): at tick 0 of its scan or a later one, before any
activation runs. -/
def Dev.pairDue (d : Dev) (p : Nat) (j : Bool) : Bool :=
  match (d.pair p).pend with
  | none => false
  | some x => x.1 == j && d.kstate p == b2n j && reached d.time.tickScan x.2 && d.tickFresh

/-- SPLIT_EFFECT (R407). -/
def execSplitEffect (p : Nat) (s : State) : Out :=
  present (decide (p < 2)) (s.onDev (fun d => if d.pairDue p false then d.setSplit p 1 else d))

/-- JOIN_EFFECT (R407). -/
def execJoinEffect (p : Nat) (s : State) : Out :=
  present (decide (p < 2)) (s.onDev (fun d => if d.pairDue p true then d.setSplit p 0 else d))

/-- The core on which an entry's task runs (12 R408-R409): its own pair's, a SAFETY task of a split pair on the other pair, a SPLITOK task
of a split pair on the core of its parity. -/
def Dev.coreOf (d : Dev) (e : Nat) : Option Core :=
  let p := e / 64
  let t := d.task e
  if d.kstate p = 1 then
    if t.splitOk then some (if e % 2 = 0 then leadCore p else splitCore p)
    else if t.cls = 0 ∧ (d.task (e ^^^ 64)).migr = true then some (leadCore (1 - p))
    else none
  else some (leadCore p)

/-- The entry whose code a task runs: its migration entry while its pair is split and it is a SAFETY task (12 R408). -/
def Dev.codeEntry (d : Dev) (e : Nat) : Nat := if d.kstate (e / 64) = 1 ∧ (d.task e).splitOk = false then e ^^^ 64 else e

/-- The timing fields of a task match this tick (03 R88-R89). -/
def Dev.activates (d : Dev) (e : Nat) : Bool :=
  let t := d.task e
  d.time.ticksOn && decide (d.time.tick < d.ticksPer) && t.en && d.time.tickScan % (t.sdivm1 + 1) == t.sphase
    && decide (t.offset ≤ d.time.tick) && (d.time.tick - t.offset) % t.period == 0

/-- A core runs its pair's program: the pair has passed its injection test and is in RUN or SPLIT, and the twin has not yielded (12 R404-R406,
R423). -/
def Dev.mayRun (d : Dev) (c : Core) : Bool :=
  decide (d.kstate (pairOf c) < 2) && d.rbit (A.sysKstat (pairOf c)) 29 && !d.yielded

/-- The order of the dispatcher within a tick (03 R93, 12 R408): class, then task number; a SAFETY task that has migrated, `moved`, runs
after its host's own SAFETY tasks. -/
def TaskEnt.rank (t : TaskEnt) (moved : Bool) (e : Nat) : Nat := ((if t.cls = 0 then b2n moved else t.cls + 1) * 128) + e % 64

/-- A segment of entry `e` is still to run on core `c` in this tick: a suspended one, or the first of an activation; a faulty task's is
skipped (03 R93). -/
def Dev.segmentDue (d : Dev) (c : Core) (e : Nat) : Bool :=
  let k := d.core c
  !d.rbit (A.sysTstat e) 31 && (k.susp.any (fun x => x.task == e && x.wake == d.time.tick)
    || (d.coreOf e == some c && d.activates e && !k.started.contains e))

/-- Entry `e` is next on core `c` (03 R93): no segment before it in the order is still to run in this tick. -/
def Dev.segmentNext (d : Dev) (c : Core) (e : Nat) : Bool :=
  let rank := fun (f : Nat) => (d.task f).rank (!(pairOf c == f / 64)) f
  (List.range 128).all (fun f => decide (rank e ≤ rank f) || !d.segmentDue c f)

/-- ACTIVATION_START (R88): the core runs no other segment, the task is neither faulty nor started in this tick, and it is next in the
order of R93. The pair's cycle count goes on by what the dispatcher takes (R92, 12 R415). -/
def execActivationStart (c : Core) (task : Nat) (s : State) : Out :=
  let d := s.dev
  let k := d.core c
  let ok := d.coreOf task == some c && d.mayRun c && d.activates task && !d.rbit (A.sysTstat task) 31 && !k.run && !k.started.contains task
    && d.segmentNext c task
  let e := (d.setCore c (fun k => { k with cyc := k.cyc + Config.dispatchCycles d.freeCnt })).takeFree
  let x : Ctx := { task := task, pc := 4 * (d.task (d.codeEntry task)).entry, snap := e.mfsTime c }
  .next { s with dev := if ok then e.setCore c (fun k => { k with run := true, cur := x, started := k.started ++ [task] }) else d }

/-- A suspended activation of a core that waits for tick `w` or an earlier one. -/
def CoreSt.waiting (k : CoreSt) (task w : Nat) : Option Ctx := k.susp.find? (fun x => x.task == task && decide (x.wake ≤ w))

/-- Take a suspended activation off a core. -/
def CoreSt.dropSusp (task : Nat) (k : CoreSt) : CoreSt := { k with susp := k.susp.filter (fun x => !(x.task == task)) }

/-- SEGMENT_RESUME (R78): 4 cycles of resume begin the segment (03 R90), in the order of 03 R93; a segment of a faulty task is
skipped. -/
def execSegmentResume (c : Core) (task : Nat) (s : State) : Out :=
  let d := s.dev
  .next { s with dev := match (d.core c).waiting task d.time.tick with
    | none => d
    | some x =>
      if d.rbit (A.sysTstat task) 31 then (d.unlockCan (lockKey (pairOf c) task)).setCore c (CoreSt.dropSusp task)
      else if d.mayRun c && !(d.core c).run && decide (x.wake = d.time.tick) && d.segmentNext c task then
        (d.setCore c (fun k =>
          { k.dropSusp task with run := true, cur := { x with cyc := 4 }, cyc := k.cyc + 4 + Config.dispatchCycles d.freeCnt })).takeFree
      else d }

/-- A segment that its tick's end cut off (03 R106-R107): shed under the throttle when its task is no SAFETY task, else a miss. -/
def Dev.cutSegment (p e : Nat) (d : Dev) : Dev :=
  if d.rbit A.pwrStat 22 && !((d.task e).cls == 0) then (d.setRbit (A.sysTstat e) 28 true).raise 382 e else d.countMiss p e

/-- DEADLINE_MISS (R106): of a running segment, of one that did not resume, or of one that did not start. -/
def execDeadlineMiss (c : Core) (task : Nat) (s : State) : Out :=
  let d := s.dev
  let k := d.core c
  let p := pairOf c
  .next { s with dev :=
    if k.run && k.cur.task == task then (d.endAct c).cutSegment p task
    else match k.waiting task d.time.tick with
      | some _ =>
        let e := (d.unlockCan (lockKey p task)).setCore c (CoreSt.dropSusp task)
        if d.rbit (A.sysTstat task) 31 then e else e.cutSegment p task
      | none =>
        if d.coreOf task == some c && d.activates task && !k.started.contains task && !d.rbit (A.sysTstat task) 31 && !d.yielded then
          (d.setCore c (fun k => { k with started := k.started ++ [task] })).cutSegment p task
        else d }

end Sys2Proof.Machine
end

