-- ==== Sys2Proof/Machine/CanBus.lean ====
section
/-! DEFINITION. The CAN FD controllers, their message objects, filters and FIFOs, transmission, and the CAN dispatch profile
(14 R471-R483). -/

namespace Sys2Proof.Machine
open Sys2Proof

/-- Raise event `k` of controller `c` (14 R496). -/
def Dev.canEvent (c k : Nat) (d : Dev) : Dev := d.raise (320 + 8 * c + k) c

/-- CAN.STAT.STATE of a controller. -/
def Dev.canState (d : Dev) (c : Nat) : Nat := d.fld (A.canStat c) 31 30

/-- Two identifiers agree under a mask. -/
def idMatch (a b mask : Nat) : Bool := ((a ^^^ b) &&& mask) == 0

/-- The lowest-numbered receive object that takes a frame (14 R474). -/
def CanSt.rxObj (c : CanSt) (f : CanFrame) : Option Nat :=
  (List.range 128).find? (fun m => let o := c.obj m
                                   o.kind == 2 && o.ide == f.ide && idMatch o.ident f.ident o.mask)

/-- The lowest-numbered filter that takes a frame, with its action (14 R474). -/
def CanSt.filter (c : CanSt) (f : CanFrame) : Option (Nat × Nat) :=
  (findIdxFrom (fun x : Bool × Nat × Nat × Nat => x.1 == f.ide && idMatch x.2.1 f.ident x.2.2.1) 0 c.filters).map
    (fun p => (p.1, p.2.2.2.2))

/-- A frame reaches a receive object (14 R474, R476): a locked object keeps it in its shadow; a frame that replaces an unread one or a
shadow raises the overrun event. -/
def Dev.canObjRx (c m : Nat) (f : CanFrame) (d : Dev) : Dev :=
  let o := (d.can c).obj m
  let d := if o.lock.isSome then d.setCan c (fun x => x.setObj m (fun o => { o with shadow := some f }))
           else d.setCan c (fun x => x.setObj m (fun o => o.place f m))
  if (if o.lock.isSome then o.shadow.isSome else o.unread) then d.canEvent c 4 else d

/-- A frame reaches a FIFO with its MATCH (14 R474): a full FIFO discards it. -/
def Dev.canFifoRx (c i mtch : Nat) (f : CanFrame) (d : Dev) : Dev :=
  let x := d.can c
  let n := if i = 0 then x.fifo0.length else x.fifo1.length
  if 32 ≤ n then (d.bump (A.canRxlost c) (A.canOvf c) 0).canEvent c (2 + i)
  else d.setCan c (fun x => if i = 0 then { x with fifo0 := x.fifo0 ++ [f], match0 := x.match0 ++ [mtch] }
                            else { x with fifo1 := x.fifo1 ++ [f], match1 := x.match1 ++ [mtch] })

/-- A frame is placed by the first rule that matches (14 R474); actions 2 and above reject. -/
def Dev.canPlace (c : Nat) (f : CanFrame) (d : Dev) : Dev :=
  match (d.can c).rxObj f with
  | some m => d.canObjRx c m f
  | none =>
    let r := ((d.can c).filter f).map (fun p => (128 + p.1, p.2))
    let x := r.getD (255, (d.can c).dflt)
    if x.2 < 2 then d.canFifoRx c x.2 x.1 f else d

/-- The same frame, as two twins receive it: identifier and content, whatever its time. -/
def sameFrame (a b : CanFrame) : Bool := a.ide == b.ide && a.ident == b.ident && a.fdf == b.fdf && a.dlc == b.dlc && a.data == b.data

/-- Frames whose end lies at least 20 µs back become visible; on a twin without authority, frames it received itself that the
authority did not forward are counted (14 R475, R500). -/
def Dev.canVisible (c : Nat) (d : Dev) : Dev :=
  let x := d.can c
  let now := d.time.now
  let old : CanFrame × Nat → Bool := fun p => decide (p.2 + 20000 ≤ now)
  let due := x.waiting.filter old
  let missed := (x.seen.filter old).filter (fun p => !(due.any (fun q => sameFrame p.1 q.1)))
  let d := d.setCan c (fun x => { x with waiting := x.waiting.filter (fun p => !old p), seen := x.seen.filter (fun p => !old p) })
  let d := foldOver missed (fun _ d => d.bump (A.canMissa c) (A.canOvf c) 1) d
  foldOver due (fun p d => d.canPlace c p.1) d

/-- Controller `c` carries the dispatch profile (14 R481). -/
def Dev.dispatches (d : Dev) (c : Nat) : Bool := d.img.topo.isSome && d.topo.dispCtl == c && d.hasCan c

/-- The data bytes of a frame. -/
def frameBytes (f : CanFrame) : List Nat := f.data.flatMap (fun w => leBytes 4 w.toNat)

/-- The bytes of a profile frame's length, by identifier offset, for the frames from the PCS (14 R481). -/
def profileLen (off : Nat) : Option Nat := if off = 0 ∨ off = 2 then some 8 else if off = 8 then some 16 else none

/-- The data length code that carries a profile length in an FD frame. -/
def profileDlc (n : Nat) : Nat := if n = 16 then 10 else n

/-- A frame is a profile frame, and whether its length and CRC are right (14 R481). -/
def Dev.profileFrame (d : Dev) (c : Nat) (f : CanFrame) : Option Bool :=
  if d.dispatches c && f.ide && decide (d.topo.pbase ≤ f.ident) then
    (profileLen (f.ident - d.topo.pbase)).map (fun n =>
      let bs := frameBytes f
      f.fdf && f.brs && f.dlc == profileDlc n && crc16 (bs.take (n - 2)) == ofLe ((bs.drop (n - 2)).take 2))
  else none

/-- CAN.STAT of a controller becomes `v` (14 R479): an event on entering and on leaving bus-off, one on entering and on leaving
error-passive. -/
def Dev.canStatTo (c : Nat) (v : Word) (d : Dev) : Dev :=
  let o := d.canState c
  let n := v.field 31 30
  let d := (d.setReg (A.canStat c) v).raiseIf (!(o == n) && (n == 2 || o == 3)) (320 + 8 * c) c
  d.raiseIf (!(o == n) && (n == 1 || o == 1)) (321 + 8 * c) c

/-- A controller of a twin without authority stays in restricted operation and shows what the authority's controller shows (14 R475,
R480); the authority tells its partner of a change. -/
def Dev.canGo (c : Nat) (v : Word) (d : Dev) : Dev :=
  if d.follows || v == d.reg (A.canStat c) then d else (d.canStatTo c v).moorSend (.canStat c v)

/-- A received frame lowers the receive error counter (ISO 11898-1, 14 R471); above 127 the counter is what CAN_ERROR_PASSIVE tells. -/
def Dev.canHeard (c : Nat) (d : Dev) : Dev :=
  let n := d.fld (A.canStat c) 15 8
  if n ≤ 127 then d.canGo c ((d.reg (A.canStat c)).setField 15 8 (n - 1)) else d

/-- CAN_FRAME_RX (R474): the frame waits until tasks may see it. A good profile frame is the profile's own command; a bad one is
counted. `exc` tells that the controller met a protocol exception in place of a frame (R496). -/
def execCanFrameRx (c : Nat) (exc : Bool) (f : CanFrame) (s : State) : Out :=
  present (s.dev.hasCan c) (s.onDev (fun d =>
    let d := d.at f.t
    if exc then d.canEvent c 6 else
    let d := d.canHeard c
    match d.profileFrame c f with
    | some ok => if ok || d.follows then d else (d.bump (A.canRxlost c) (A.canOvf c) 0).moorSend (.canLost c)
    | none =>
      let now := d.time.now
      if d.authority then (d.setCan c (fun x => { x with waiting := x.waiting ++ [(f, now)] })).moorSend (.canFrame c f)
      else d.setCan c (fun x => { x with seen := x.seen ++ [(f, now)] })))

/-- The object's frame that won arbitration at `start` completes (14 R477): one requested after that waits on. -/
def CanObj.complete (start : Nat) (o : CanObj) : CanObj :=
  if o.pend.isNone then o else if o.reqT ≤ start then { o with pend := none, txs := 2 } else { o with txs := 1 }

/-- The delay of an FD frame that a controller measured with TDCEN set (14 R472): beyond 127 units event 326 + 8c, and no measurement. -/
def Dev.canDelay (c delay : Nat) (fd : Bool) (d : Dev) : Dev :=
  if !fd || !d.rbit (A.canDbt c) 13 then d
  else if 127 < delay then d.canEvent c 6
  else d.canGo c (((d.reg (A.canStat c)).setField 28 28 1).setField 27 21 delay)

/-- Another object's frame, requested by `start` too, goes before the frame of `obj` (14 R477): its identifier is lower, or it is the same
and the object number is lower. -/
def CanSt.outranked (obj start : Nat) (x : CanSt) : Bool :=
  let id := (x.obj obj).ident
  x.objs.any (fun p => p.2.pend.isSome && decide (p.2.reqT ≤ start) &&
    (decide (p.2.ident < id) || (p.2.ident == id && decide (p.1 < obj))))

/-- CAN_FRAME_SENT (R477): the object's frame completes and lowers the transmit error counter; nothing leaves a controller in bus-off or
in restricted operation (R471, R480), and no frame leaves before one that goes first. -/
def execCanFrameSent (c : Nat) (obj : Nat) (start : Nat) (delay : Nat) (s : State) : Out :=
  present (s.dev.hasCan c) (s.onDev (fun d =>
    let o := (d.can c).obj obj
    if decide (2 ≤ d.canState c) || d.follows || (d.can c).ropMode || o.pend.isNone || (d.can c).outranked obj start then d
    else
      let d := d.canGo c ((d.reg (A.canStat c)).setField 7 0 (d.fld (A.canStat c) 7 0 - 1))
      let d := d.canDelay c delay (o.fdf && o.brs)
      (d.setCan c (fun x => x.setObj obj (CanObj.complete start))).moorSend (.canSent c obj start)))

/-- CAN_BUS_OFF (R479). -/
def execCanBusOff (c : Nat) (s : State) : Out :=
  present (s.dev.hasCan c) (s.onDev (fun d =>
    if d.canState c = 2 then d else d.canGo c ((d.reg (A.canStat c)).setField 31 30 2)))

/-- CAN_ERROR_PASSIVE (R479), with the error counters that the controller has reached. -/
def execCanErrorPassive (c : Nat) (enter : Bool) (rec_ : Nat) (tec : Nat) (s : State) : Out :=
  present (s.dev.hasCan c) (s.onDev (fun d =>
    if d.canState c = 1 - b2n enter then
      d.canGo c ((((d.reg (A.canStat c)).setField 31 30 (b2n enter)).setField 15 8 rec_).setField 7 0 tec)
    else d))

/-- Start bus-off recovery (14 R478-R479): nothing outside bus-off. -/
def Dev.busOffRecovery (c : Nat) (d : Dev) : Dev := if d.canState c = 2 then d.setFld (A.canStat c) 31 30 3 else d

/-- BUS_OFF_RECOVERY (R478). -/
def execBusOffRecovery (c : Nat) (s : State) : Out := present (s.dev.hasCan c) (s.onDev (Dev.busOffRecovery c))

/-- BUS_OFF_RECOVERED (R479): error-active with both error counters at 0. -/
def execBusOffRecovered (c : Nat) (s : State) : Out :=
  present (s.dev.hasCan c) (s.onDev (fun d =>
    if d.canState c = 3 then d.canGo c (((d.reg (A.canStat c)).setField 31 30 0).setField 15 0 0) else d))

/-- The agreed mode of a controller (14 R475, R478, R480): a twin without authority keeps it for the Graft, its own controller stays
restricted. -/
def Dev.setRop (c : Nat) (b : Bool) (d : Dev) : Dev :=
  (d.setCan c (fun x => { x with ropMode := b })).setRbit (A.canStat c) 29 b

/-- RESTRICTED_ENTER (R478). -/
def execRestrictedEnter (c : Nat) (s : State) : Out := present (s.dev.hasCan c) (s.onDev (Dev.setRop c true))

/-- RESTRICTED_LEAVE (R478). -/
def execRestrictedLeave (c : Nat) (s : State) : Out := present (s.dev.hasCan c) (s.onDev (Dev.setRop c false))

/-- A publication may reach transmit objects that the profile does not reserve (14 R477, R481). -/
def Dev.canTxOk (d : Dev) (c m : Nat) : Bool := ((d.can c).obj m).kind == 1 && !(d.dispatches c && decide (120 ≤ m))

/-- A data word for an object (14 R477, class 7). -/
def Dev.canWord (idx : Nat) (v : Word) (d : Dev) : Dev :=
  let c := idx / 2048 % 4
  let m := idx / 16 % 128
  if d.canTxOk c m then
    d.setCan c (fun x => x.setObj m (fun o => { o with staged := updAt (padTo 16 0 o.staged) (idx % 16) (fun _ => v) }))
  else d.canEvent c 5

/-- Data bytes a data length code stands for. -/
def dlcLen (fdf : Bool) (dlc : Nat) : Nat :=
  if dlc ≤ 8 then dlc else if !fdf then 8 else [12, 16, 20, 24, 32, 48, 64].getD (dlc - 9) 64

/-- Data words of which the bytes beyond the length read 0 (14 R473). -/
def clipWords (n : Nat) (ws : List Word) : List Word :=
  (List.range 16).map (fun i => BitVec.ofNat 32 (wordAt ((ws.flatMap (fun w => leBytes 4 w.toNat)).take n) i))

/-- The object takes a frame request (14 R477): a pending frame is replaced. -/
def CanObj.request (dlc now : Nat) (o : CanObj) : CanObj :=
  let ws := clipWords (dlcLen o.fdf dlc) (padTo 16 0 o.staged)
  { o with pend := some (dlc, ws), reqT := now, dlc := dlc, data := ws, txs := if o.pend.isSome then 3 else 1 }

/-- A transmit request or controller command (14 R477-R478, class 8). -/
def Dev.canTx (idx : Nat) (v : Word) (d : Dev) : Dev :=
  let c := idx / 2048 % 4
  let m := idx / 16 % 128
  if v.bit 31 then
    let k := v.field 30 28
    if k = 1 then d.busOffRecovery c else if k = 2 then d.setRop c true else if k = 3 then d.setRop c false else d.canEvent c 5
  else if d.canTxOk c m then d.setCan c (fun x => x.setObj m (CanObj.request (v.field 3 0) d.time.now))
  else d.canEvent c 5

/-- The CAN publications of a tick: all data words, then the requests (14 R477). -/
def Dev.canPublish (l : List OutVal) (d : Dev) : Dev :=
  let d := foldOver (l.filter (fun o => o.cls == 7)) (fun o d => d.canWord o.idx o.val) d
  foldOver (l.filter (fun o => o.cls == 8)) (fun o d => d.canTx o.idx o.val) d

/-- Hand a profile frame to the controller: identifier offset and bytes with their CRC-16 (14 R481). CNT counts it (R483). -/
def Dev.sendProfile (off : Nat) (bs : List Nat) (d : Dev) : Dev :=
  let p := d.disp
  let l := if d.authority then p.sent ++ [off :: bs ++ leBytes 2 (crc16 bs)] else p.sent
  { d with disp := { p with sent := l, cnt := (p.cnt + 1) % 256 } }

/-- A good profile frame arrived from the PCS: PTO starts again, and event 327 + 8c marks its recovery (14 R482-R483, R496). -/
def Dev.pcsAlive (d : Dev) : Dev :=
  let was := d.disp.ptoOut
  let d := { d with disp := { d.disp with ptoOut := false, lastT := d.time.now } }
  if was then d.canEvent d.topo.dispCtl 7 else d

/-- A profile command concerns a device whose topology names a fitted dispatch controller (14 R481). -/
def profileCmd (f : Dev → Dev) (s : State) : Out := .next (if s.dev.dispatches s.dev.topo.dispCtl then s.onDev f else s)

/-- The version chosen for a HELLO mask (14 R482). -/
def chooseVer (mask pmax : Nat) : Nat := if mask.testBit 2 && decide (2 ≤ pmax) then 2 else if mask.testBit 1 && decide (1 ≤ pmax) then 1 else 0

/-- The twin without authority keeps the profile's state from the authority's frames (14 R483). -/
def Dev.tellProfile (d : Dev) : Dev := if d.authority then d.moorSend (.profile d.disp.ver d.disp.cnt d.disp.lastSeq) else d

/-- The authority's profile state reaches its partner (14 R483). -/
def Dev.takeProfile (ver cnt : Nat) (last : Option Nat) (d : Dev) : Dev :=
  if !d.follows then d else
  let old := d.disp.ver
  let e := d.pcsAlive
  let e := { e with disp := { e.disp with ver := ver, cnt := cnt, lastSeq := last } }
  e.raiseIf (!(old == ver) && decide (1 ≤ ver)) (327 + 8 * d.topo.dispCtl) d.topo.dispCtl

/-- PROFILE_HELLO (R483); it wakes the device from WATCH (16 R550), as a REQUEST does. -/
def execProfileHello (mask : Nat) (s : State) : Out :=
  profileCmd (fun d =>
    if d.follows then d.wake else
    let v := chooseVer mask d.topo.pmax
    let d := d.pcsAlive.wake
    let d := ({ d with disp := { d.disp with ver := v } }).sendProfile 1 [v, 0, 0, 0, 0, 0]
    (if v = 0 then d else d.canEvent d.topo.dispCtl 7).tellProfile) s

/-- HEARTBEAT (R482). -/
def execHeartbeat (s : State) : Out := profileCmd (fun d => if d.follows then d else d.pcsAlive.tellProfile) s

/-- A PCS request breaks a rule of 14 R482. -/
def badPcs (r : PcsReq) : Bool := r.reserved || decide (86400 < r.dur) || (!r.withdraw && r.preq == 0)

/-- Accept a PCS request: it applies from the stamped scan, and the authority sends it to its partner (09 R331, 12 R416). -/
def Dev.acceptPcs (r : PcsReq) (due : Nat) (d : Dev) : Dev :=
  let e := { d with rep := { d.rep with pcsQ := d.rep.pcsQ ++ [(due, r)] } }
  if d.authority then e.moorSend (.pcs r due) else e

/-- REQACK bytes 0-13 (14 R482). -/
def reqAck (seq res scan : Nat) : List Nat := [seq % 256, res, 0, 0] ++ leBytes 4 scan ++ [0, 0, 0, 0, 0, 0]

/-- A REQUEST frame (14 R482-R483): ignored before a version is chosen; BADARG, then DUP, then accepted. A request that a twin
without authority receives alone is ignored (09 R331). -/
def Dev.profileReq (r : PcsReq) (d : Dev) : Dev :=
  if d.follows then d.wake else
  let d := d.pcsAlive.wake
  (if d.disp.ver = 0 ∨ d.authority = false then d
  else if badPcs r then d.sendProfile 9 (reqAck r.seq 1 0)
  else if d.disp.lastSeq = some r.seq then d.sendProfile 9 (reqAck r.seq 2 0)
  else
    let due := d.reportDue
    let d := { d with disp := { d.disp with lastSeq := some r.seq } }
    (d.acceptPcs r due).sendProfile 9 (reqAck r.seq 0 due)).tellProfile

/-- PROFILE_REQUEST (R482): a REQUEST without withdraw. -/
def execProfileRequest (dr : PcsReq) (s : State) : Out := profileCmd (Dev.profileReq { dr with withdraw := false }) s

/-- PROFILE_WITHDRAW (R482): a REQUEST with withdraw set. -/
def execProfileWithdraw (dr : PcsReq) (s : State) : Out := profileCmd (Dev.profileReq { dr with withdraw := true }) s

/-- A SoC form of the latest block record (09 R308). -/
def BlkRec.form (b : BlkRec) (k : Nat) : Int := if k = 0 then b.socf else if k = 1 then b.socm else b.socr

/-- A remaining duration of a record in ms (09 R332) as whole seconds, rounded up so that only a continuous one shows 0. -/
def secOf (ms : Nat) : Nat := (ms + 999) / 1000

/-- GRANT (14 R482). -/
def Dev.grantFrame (d : Dev) : List Nat :=
  let b := d.rep.blk0
  let fl := b2n d.prot.gxActive + 2 * b2n (d.rep.cutC || d.rep.cutD) + 4 * b2n (d.rbit A.protStat 31) + 8 * b2n d.rep.noString
    + 16 * b2n d.conservative
  uw b.scan ++ [d.disp.cnt, fl, 0, 0] ++ uw b.icg ++ uw b.idg ++ uw b.pcg ++ uw b.pdg
    ++ leBytes 2 (min (secOf b.remC) 65535) ++ leBytes 2 (min (secOf b.remD) 65535) ++ [0, 0]

/-- STATE (14 R482). -/
def Dev.stateFrame (d : Dev) : List Nat :=
  let b := d.rep.blk0
  let h := d.view0.hdr
  uw b.scan ++ [d.disp.cnt, d.topo.pform, 0, 0] ++ sw (b.form d.topo.pform) ++ uw b.edis ++ uw b.echg ++ sw (h.own.getD 4 0)
    ++ sw (h.own.getD 0 0) ++ [0, 0]

/-- LIMITS (14 R482). -/
def Dev.limitsFrame (d : Dev) : List Nat :=
  let b := d.rep.blk0
  uw b.scan ++ [d.disp.cnt, 0, 0, 0] ++ (padTo 6 0 b.ilim).flatMap uw ++ (padTo 6 0 b.plim).flatMap uw ++ [0, 0, 0, 0, 0, 0]

/-- PROFILE_REPORT_SEND (R483): in every PDIV-th scan whose records are written, once a version is chosen. -/
def execProfileReportSend (s : State) : Out :=
  profileCmd (fun d =>
    let k := d.disp.scansTo + 1
    let due := decide (d.topo.pdiv ≤ k)
    let d := { d with disp := { d.disp with scansTo := if due then 0 else k } }
    if due ∧ 1 ≤ d.disp.ver then
      let d := d.sendProfile 0x10 d.grantFrame
      let d := d.sendProfile 0x11 d.stateFrame
      if d.disp.ver = 2 then d.sendProfile 0x12 d.limitsFrame else d
    else d) s

/-- PTO_EXPIRY (R483): PTO after the last good frame of the PCS, the requests in force in both directions end; event 327 + 8c. -/
def execPtoExpiry (s : State) : Out :=
  profileCmd (fun d =>
    if d.disp.ptoOut then d else
    let d := d.at (d.disp.lastT + 1000000 * d.topo.pto)
    let d := { d with disp := { d.disp with ptoOut := true }, rep := { d.rep with chg := none, dis := none, cutC := false, cutD := false } }
    d.canEvent d.topo.dispCtl 7) s

end Sys2Proof.Machine
end

