-- ==== Sys2Proof/Machine/Eth.lean ====
section
/-! DEFINITION. The Ethernet ports and 802.1AS time (14 R484-R487, R501-R503). -/

namespace Sys2Proof.Machine
open Sys2Proof

/-- ETH_LINK_CHANGE (R484): SPEED in Mbit/s; event 352 + p at a change. -/
def execEthLinkChange (p : Nat) (up : Bool) (speed : Nat) (s : State) : Out :=
  present (s.dev.hasEth p) (s.onDev (fun d =>
    let was := d.rbit (A.ethStat p) 31
    let d := d.setRbit (A.ethStat p) 31 up
    let d := if up then d.setFld (A.ethStat p) 30 29 (if speed = 1000 then 2 else if speed = 100 then 1 else 0) else d
    d.raiseIf (!(was == up)) (352 + p) p))

/-- ETH_FRAME_RX (R484-R486): other frames are dropped and counted; a lease shows in DHCP; a connection beyond 72 is reset. -/
def execEthFrameRx (p : Nat) (kind : EthKind) (s : State) : Out :=
  present (s.dev.hasEth p) (s.onDev (fun d =>
    let n := d.fld (A.ethStat p) 6 0
    match kind with
    | .arp => d
    | .icmp4Echo => d
    | .icmp6 => d
    | .ptp => d
    | .dhcpLease => d.setRbit (A.ethStat p) 27 true
    | .tcpOpen => if d.fld (A.ethStat 0) 6 0 + d.fld (A.ethStat 1) 6 0 < 72 then d.setFld (A.ethStat p) 6 0 (n + 1) else d
    | .tcpClose => d.setFld (A.ethStat p) 6 0 (n - 1)
    | .other => d.bump A.ethDrop A.ethOvf 0))

/-- Set or clear 802.1AS synchronisation: event 354 at a change (14 R496). -/
def Dev.setSync (b : Bool) (d : Dev) : Dev :=
  let was := d.rbit A.ethPtp 31
  (d.setRbit A.ethPtp 31 b).raiseIf (!(was == b)) 354 0

/-- Set or clear UTCOK: event 355 at a change (14 R487). -/
def Dev.setUtcOk (b : Bool) (d : Dev) : Dev :=
  let was := d.rbit A.ethPtp 30
  (d.setRbit A.ethPtp 30 b).raiseIf (!(was == b)) 355 0

/-- The authority tells its partner the agreed offset (14 R487). -/
def Dev.tellUtc (d : Dev) : Dev :=
  if d.authority then d.moorSend (.utc d.eth.offset (d.fld A.ethPtp 15 0) (d.rbit A.ethPtp 31) (d.rbit A.ethPtp 30)) else d

/-- The authority's offset reaches its partner, adjusted by the difference between the device times (14 R487, 12 R415). -/
def Dev.takeUtc (off : Int) (ofs : Nat) (sync ok : Bool) (d : Dev) : Dev :=
  if !d.follows then d else
  let d := { d with eth := { offset := off + d.twin.diff, offsetOk := ok, lastSync := d.time.now } }
  ((d.setFld A.ethPtp 15 0 ofs).setSync sync).setUtcOk ok

/-- PTP_SYNC_RX (R487), in a twin pair at the authority: the offset is gPTP time less currentUtcOffset less device time; `gptp` in ns is the time at this moment. -/
def execPtpSyncRx (gptp : Nat) (utcOffset : Nat) (s : State) : Out :=
  .next (s.onDev (fun d =>
    if d.follows then d else
    let o : Int := (gptp : Int) - utcOffset * 1000000000 - d.time.now
    let d := { d with eth := { offset := o, offsetOk := true, lastSync := d.time.now } }
    (((d.setFld A.ethPtp 15 0 utcOffset).setSync true).setUtcOk true).tellUtc))

/-- UTC_TIMEOUT (R487): no Sync for 600 s. -/
def execUtcTimeout (s : State) : Out :=
  .next (s.onDev (fun d =>
    if d.eth.offsetOk then
      let d := d.at (d.eth.lastSync + 600000000000)
      (({ d with eth := { d.eth with offsetOk := false } }).setUtcOk false).tellUtc
    else d))

/-- PTP_SYNC_LOSS (R487). -/
def execPtpSyncLoss (s : State) : Out := .next (s.onDev (fun d => if d.follows then d else (d.setSync false).tellUtc))

/-- ADDRESS_CONFLICT (R485): event 356; the device keeps its address. -/
def execAddressConflict (p : Nat) (s : State) : Out :=
  present (s.dev.hasEth p) (s.onDev (fun d => (d.setRbit (A.ethStat p) 26 true).raise 356 p))

end Sys2Proof.Machine
end

