-- ==== Sys2Proof/Machine/LogUnit.lean ====
section
/-! DEFINITION. The Growth log writer and its records (15 R530-R534). -/

namespace Sys2Proof.Machine
open Sys2Proof

/-- A 32-byte entry with its CRC-32C (15 R531). -/
def logEntry (bs : List Nat) : List Nat :=
  let b := padTo 28 0 bs
  b ++ leBytes 4 (crc32c b)

/-- The entries of a record: itself, then its continuations in order (15 R531). -/
def LogRec.entryBytes (r : LogRec) : List (List Nat) :=
  let n := r.conts.length
  let head := leBytes 4 r.seq ++ [r.ty, b2n (decide (0 < n)) + 2 * b2n r.gap + 4 * b2n r.utc] ++ leBytes 2 r.event
    ++ leBytes 8 r.time ++ leBytes 4 r.scan ++ padTo 8 0 r.detail
  let cont := fun (i : Nat) =>
    logEntry (leBytes 4 r.seq ++ [0xFF, b2n (decide (i + 1 < n)) + 4 * b2n r.utc] ++ padTo 22 0 (r.conts.getD i []))
  logEntry head :: (List.range n).map cont

/-- The SEQ after a SEQ (15 R531). -/
def seqAfter (n : Nat) : Nat := if n = 0xFFFFFFFF then 1 else n + 1

/-- The oldest records go until the log's 131,072 entries hold the rest (15 R530). -/
def trimLog (cap : Nat) (l : List LogRec) : List LogRec :=
  match l with
  | [] => []
  | r :: rest => if cap < l.foldl (fun n x => n + x.entries) 0 then trimLog cap rest else r :: rest

/-- Where entry `k` of the log lies in MRAM (15 R519). -/
def logAddr (k : Nat) : Nat := 0x20400000 + 32 * (k % 131072)

/-- Write entries from position `k` into the log's MRAM area. -/
def writeEntries (k : Nat) (l : List (List Nat)) (m : FMap Byte) : FMap Byte :=
  match l with
  | [] => m
  | e :: rest => writeEntries (k + 1) rest (writeBytes (logAddr k) (toBytes e) m)

/-- LOG_RECORD_WRITE (R530): the oldest queued record takes the next SEQ and goes to MRAM. With `fail`, word `k` of it failed its
read-back three times (R520): the word holds a free value, the record fails its own check, and event 365 with a MEMORY record tells. -/
def execLogRecordWrite (fail : Option Nat) (s : State) : Out :=
  let l := s.dev.log
  match l.queue with
  | [] => .next s
  | r :: rest =>
    let x := { r with seq := l.nextSeq, bad := fail.isSome }
    let l' := { l with queue := rest, recs := trimLog 131072 (l.recs ++ [x]), nextSeq := seqAfter l.nextSeq, pos := l.pos + x.entries }
    let d := { s.dev with log := l' }
    let m := writeEntries l.pos x.entryBytes s.mem
    .next (match fail with
      | none => { s with dev := d, mem := m }
      | some k =>
        let a := logAddr (l.pos + k / 8 % x.entries) + 4 * (k % 8)
        let v := (Config.freeWord d.freeCnt).toNat
        { s with dev := ((d.takeFree).raiseNoLog 365).logRec 6 365 ([4, 0, 0, 0] ++ leBytes 4 a) [], mem := writeBytes a (toBytes (leBytes 4 v)) m })

/-- EVENT_WINDOW_END (R530): a counted window writes its count record, which opens the next window; an empty one just ends. -/
def execEventWindowEnd (e : Nat) (s : State) : Out :=
  .next (s.onDev (fun d =>
    match FMap.get (fun _ => none) d.log.wins e with
    | none => d
    | some w =>
      let d := d.at (w.opened + 1000000000)
      let next : Option EvtWin := if w.count = 0 then none else some { opened := d.time.now }
      let d := { d with log := { d.log with wins := FMap.set (fun _ => none) d.log.wins e next } }
      if w.count = 0 then d else
      let r := d.logTry (eventRec e w.count w.inst w.time w.scan)
      if r.2 then r.1 else r.1.dropEvent))

/-- TIME_RECORD (R532): UTC − device time in ns, every hour while UTCOK is 1. -/
def execTimeRecord (s : State) : Out :=
  .next (s.onDev (fun d =>
    if d.rbit A.ethPtp 30 then d.logRec 8 0xFFFF (leBytes 8 d.utcOfs) [] else d))

/-- A SEQ newer than the newest record (15 R531, R534). Once SEQ has wrapped, the records run from `oldest` over 0xFFFFFFFF to `newest`,
and every other SEQ counts as newer. -/
def logNewer (oldest newest first : Nat) : Bool :=
  decide (newest < first) && (decide (oldest ≤ newest) || decide (first < oldest))

/-- LOGREAD's response (15 R534): oldest and newest SEQ held, records returned and skipped for a failed check, then the records that fit whole. -/
def logRead (l : LogSt) (first count ver : Nat) : Nat × List Nat :=
  let good := l.recs.filter (fun r => !r.bad)
  let newest := match good.getLast? with | some r => r.seq | none => 0
  let oldest := match good.head? with | some r => r.seq | none => 0
  let limit := if ver < 2 then 127 else 2000
  let room := (if ver < 2 then 4080 else 17 * 4080) - 12
  if count = 0 then (6, [])
  else if limit < count then (1, [])
  else if logNewer oldest newest first then (6, [])
  else
    let from_ := l.recs.dropWhile (fun r => !(r.seq == first))
    let pick := if from_ = [] then l.recs else from_
    let r := pick.foldl (fun (a : Bool × Nat × Nat × List Nat) x =>
      let b := x.entryBytes.flatten
      if !a.1 || decide (count ≤ a.2.1) then (false, a.2)
      else if x.bad then (true, a.2.1, a.2.2.1 + 1, a.2.2.2)
      else if a.2.2.2.length + b.length ≤ room then (true, a.2.1 + 1, a.2.2.1, a.2.2.2 ++ b) else (false, a.2)) (true, 0, 0, [])
    (0, leBytes 4 oldest ++ leBytes 4 newest ++ leBytes 2 r.2.1 ++ leBytes 2 (min r.2.2.1 65535) ++ r.2.2.2)

end Sys2Proof.Machine
end

