-- ==== Sys2Proof/Machine/Fsp.lean ====
section
/-! DEFINITION. The Filnar Session Protocol: version, reading, subscriptions, the operations that take effect at a stamped boundary,
streams and notifications (13 R451, R462, 14 R488-R495, 15 R534). -/

namespace Sys2Proof.Machine
open Sys2Proof

/-- The highest FSP version of a range that FSPMAX allows (14 R489). -/
def fspVersion (lo hi maxv : Nat) : Option Nat :=
  let v := min hi (min maxv 3)
  if 1 ≤ v ∧ lo ≤ v then some v else none

/-- FSP_HELLO (R489): the first message of a session; without a common version STATUS VERSION closes it. -/
def execFspHello (sess : Nat) (lo : Nat) (hi : Nat) (s : State) : Out :=
  .next (match s.dev.session sess with
    | none => s
    | some x =>
      if 0 < x.ver then s.protoClose sess
      else match fspVersion lo hi s.dev.topo.fspmax with
        | some v => s.onDev (fun d => ((d.setSession sess (some { x with ver := v, idle := d.time.now })).tellSession sess).answer 0 [v])
        | none => (s.closeSession sess).onDev (fun d => d.answer 9 []))

/-- FSP_BYE (R488). -/
def execFspBye (sess : Nat) (seq : Nat) (s : State) : Out :=
  let _ := seq
  .next (s.closeSession sess)

/-- The capability that READ of an address needs (14 R493). -/
def readCap (a : Nat) : Nat := if 0x60F00000 ≤ a ∧ a < 0x60F02000 then 0 else if 0x60000000 ≤ a then 1 else 0

/-- The blocks of control space that READ serves (14 R493). -/
def readBlocks : List Nat :=
  [0x4000, 0x4004, 0x4005, 0x4006, 0x4007, 0x4008, 0x4009, 0x400A, 0x400B, 0x400C, 0x400D, 0x400E, 0x400F, 0x4010, 0x4011]

/-- A range lies wholly inside one region that READ serves (14 R493). -/
def readRegion (a n : Nat) : Bool :=
  (decide (0x60F00000 ≤ a) && decide (a + n ≤ 0x60F02000))
    || (decide (0x60000000 ≤ a) && decide (a + n ≤ 0x60F00000))
    || (decide (0x60F02000 ≤ a) && decide (a + n ≤ 0x62000000))
    || (readBlocks.contains (a / 0x10000) && (a + n - 1) / 0x10000 == a / 0x10000)

/-- Words of control space as FSP reads them (14 R493): no lock, no clearing. Each word is an access of its own (19 R593), so that each absent
one reads 0 and counts (00 R10). -/
def Dev.fspWords (l : List Nat) (d : Dev) : Dev × List Nat :=
  let r := l.foldl (fun (x : Dev × List Nat) a =>
    if x.1.absentAt a then (x.1.raiseAbsent, x.2 ++ [0])
    else
      let y := x.1.ctlRead .fsp none a
      (y.1, x.2 ++ [y.2.toNat])) (d, [])
  r

/-- READ (14 R493, 19 R593): all data of one instant. -/
def readOp (a n ver : Nat) : FspOp := fun d =>
  if 65536 < n ∨ (ver < 2 ∧ 4080 < n) then (d, 1, [])
  else if n < 4 ∨ ¬(n % 4 = 0) ∨ (a < 0x60000000 ∧ ¬(a % 4 = 0)) ∨ readRegion a n = false then (d, 6, [])
  else
    let l := (List.range (n / 4)).map (fun i => a + 4 * i)
    if 0x60000000 ≤ a then
      let ws := (List.range (n / 4 + 1)).flatMap (fun i => leBytes 4 (d.viewWord (a / 4 * 4 + 4 * i)))
      (d, 0, (ws.drop (a % 4)).take n)
    else
      let r := d.fspWords l
      (r.1, 0, r.2.flatMap (leBytes 4))

/-- The version of a session, 0 if it is not open. -/
def Dev.sessVer (d : Dev) (n : Nat) : Nat := match d.session n with | some x => x.ver | none => 0

/-- READ (R493). -/
def execFspRead (req : Req) (addr : Nat) (len : Nat) (s : State) : Out :=
  .next (s.fsp req (readCap addr) 1 false true (readOp addr len (s.dev.sessVer req.sess)))

/-- LOGREAD (R534). -/
def execFspLogread (req : Req) (first : Nat) (count : Nat) (s : State) : Out :=
  .next (s.fsp req 2 1 false true (fun d =>
    let r := logRead d.log first count (s.dev.sessVer req.sess)
    (d, r.1, r.2)))

/-- A 32-byte number as bytes, or zeros for an empty slot. -/
def keyField (k : Nat) : List Nat := beBytes 32 k

/-- The bytes of a tenant slot's content, in the order of its table (13 R453, R462). -/
def slotBytes (c : Option TenantSlot) : List Nat :=
  match c with
  | none => padTo 60 0 []
  | some x => keyField x.keyh ++ [x.role] ++ leBytes 8 x.cap ++ leBytes 2 x.rate ++ [x.burst, b2n x.emerg] ++ leBytes 2 x.notify
      ++ leBytes 5 x.nbef ++ leBytes 5 x.naft ++ [0, 0, 0]

/-- POLH (13 R462): Owner key hashes, role key hashes, tenant slots, in slot order, empty entries as 0. -/
def HwdSt.polh (h : HwdSt) : List Nat :=
  sha256 ((List.range 2).flatMap (fun k => keyField (FMap.get (fun _ => 0) h.ownerKeys k))
    ++ (List.range 4).flatMap (fun k => keyField (FMap.get (fun _ => 0) h.roleKeys k))
    ++ (List.range 256).flatMap (fun k => slotBytes (FMap.get (fun _ => none) h.slots k)))

/-- TAGH (13 R462): the expected tags of every commissioned hop in ring order and hop order, 0 without a commissioned UID. -/
def Dev.tagh (d : Dev) : List Nat :=
  sha256 (d.ringsOn.flatMap (fun n => (d.hopsOf n).flatMap (fun h =>
    if FMap.get (fun _ => 0) (d.port n).uidWanted h = 0 then [0, 0, 0, 0] else leBytes 4 (d.expectTag n h).toNat)))

/-- A component hash, 0 where no image is in force (13 R451). -/
def hashField (l : List Nat) : List Nat := padTo 32 0 l

/-- The six component hashes of a quote (13 R451). -/
def Dev.components (d : Dev) : List Nat :=
  let h := d.hwd
  let on := fun (b : Bool) (l : List Nat) => if b then l else []
  [h.fwh, on (d.rbit A.protStat 30) h.envh, on (d.rbit A.cnpyStat 31) h.chemh, on d.img.prog.isSome h.progh, on d.img.topo.isSome h.toph,
   h.polh].flatMap hashField

/-- The block digest is formed again (13 R462), at the boundaries where it may change. -/
def Dev.formBdig (d : Dev) : Dev := d.putDigest (A.hwdBdig 0) (sha256 (d.components ++ d.tagh))

/-- The firmware of a slot at manufacture (log entry 4). -/
def fwFactory (k : Nat) : Fw :=
  let f := Config.firmware k
  { valid := true, release := f.1, twinLevel := f.2.1, svn := f.2.2.1, hash := beBytes 32 f.2.2.2 }

/-- The firmware a slot holds. -/
def HwdSt.fwOf (h : HwdSt) (k : Nat) : Fw := FMap.get fwFactory h.fw k

/-- The running firmware. -/
def Dev.fwRun (d : Dev) : Fw := d.hwd.fwOf (b2n (d.rbit A.hwdStat 27))

/-- A quote without its signature (13 R451). -/
def Dev.quoteBytes (nonce : List Nat) (d : Dev) : List Nat :=
  leBytes 4 0x41545101 ++ leBytes 4 (d.role + 256 * d.fld A.hwdStat 23 16 + 65536 * (d.fwRun).twinLevel) ++ leBytes 4 d.hwd.boots
    ++ leBytes 4 d.scan ++ leBytes 8 d.time.now ++ padTo 32 0 nonce ++ d.components ++ padTo 32 0 d.blockDigest

/-- QUOTE (R451): REFUSED while a Heartwood test has failed. -/
def execFspQuote (req : Req) (nonce : List Nat) (s : State) : Out :=
  .next (s.fsp req 3 1 (!(nonce.length == 32)) true (fun d =>
    if d.hwdOk then
      let q := d.quoteBytes nonce
      (d, 0, q ++ padTo 96 0 (Config.sign 0 q))
    else (d, 8, [])))

/-- Change an open session. -/
def Dev.onSession (n : Nat) (f : Session → Session) (d : Dev) : Dev :=
  match d.session n with
  | none => d
  | some x => d.setSession n (some (f x))

/-- SUBSCRIBE (R494): the mask replaces the session's subscriptions. -/
def execFspSubscribe (req : Req) (mask : Nat) (dec : Nat) (s : State) : Out :=
  .next (s.fsp req 4 2 (decide (dec = 0) || decide (1000 < dec)) false (fun d =>
    let m : FMap Nat := (bitsOf 64 mask).map (fun i => (i, dec))
    (d.onSession req.sess (fun x => { x with subs := m, due := [] }), 0, [])))

/-- NOTIFYCTL_ON (R495). -/
def execNotifyctlOn (req : Req) (s : State) : Out :=
  .next (s.fsp req 5 3 false false (fun d => (d.onSession req.sess (fun x => { x with notify := true }), 0, [])))

/-- NOTIFYCTL_OFF (R495). -/
def execNotifyctlOff (req : Req) (s : State) : Out :=
  .next (s.fsp req 5 3 false false (fun d => (d.onSession req.sess (fun x => { x with notify := false }), 0, [])))

/-- DISPATCH (R329): stamped with the scan from which it applies; the response is REQACK bytes 0-7. -/
def execFspDispatch (req : Req) (dr : PcsReq) (s : State) : Out :=
  .next (s.fsp req 8 1 (badPcs dr) false (fun d => (d.acceptPcs dr d.reportDue, 0, (reqAck dr.seq 0 d.reportDue).take 8)))

/-- DLIMIT_SET (R244). -/
def execDlimitSet (req : Req) (limit : Nat) (value : Nat) (s : State) : Out :=
  .next (s.fsp req 9 1 (decide (5 < limit)) false (stampOp req (.dlimit limit (some value))))

/-- DLIMIT_WITHDRAW (R244). -/
def execDlimitWithdraw (req : Req) (limit : Nat) (s : State) : Out :=
  .next (s.fsp req 9 1 (decide (5 < limit)) false (stampOp req (.dlimit limit none)))

/-- RESERVE_RELEASE (R307): FREL below FRES in 0.1 %, 1 min to 24 h. -/
def execReserveRelease (req : Req) (frel : Nat) (dur : Nat) (s : State) : Out :=
  .next (s.fsp req 10 1 (decide (s.dev.topo.fres ≤ frel) || decide (dur < 60) || decide (86400 < dur)) false
    (stampOp req (.reserve (some frel) dur)))

/-- RESERVE_WITHDRAW (R307). -/
def execReserveWithdraw (req : Req) (s : State) : Out := .next (s.fsp req 10 1 false false (stampOp req (.reserve none 0)))

/-- CTLCLR_WELD (R343). -/
def execCtlclrWeld (req : Req) (s : State) : Out := .next (s.fsp req 17 1 false false (stampOp req .weld))

/-- CTLCLR_LOOP (R372). -/
def execCtlclrLoop (req : Req) (n : Nat) (s : State) : Out := .next (s.fsp req 17 1 (decide (16 ≤ n)) false (stampOp req (.loopClr n)))

/-- A trip release request waits for its boundary (07 R252). -/
def Dev.addRel (r : RelReq) (d : Dev) : Dev := { d with prot := { d.prot with rels := d.prot.rels ++ [r] } }

/-- TRIPREL (R252): judged at the stamped boundary on both twins; its response follows. -/
def execFspTriprel (req : Req) (mask : Nat) (s : State) : Out :=
  .next (s.fsp req 18 1 (decide (mask = 0) || decide (256 ≤ mask)) false (fun d =>
    let r : RelReq := { sess := req.sess, seq := req.seq, mask := mask, due := d.stampDue }
    ((d.addRel r).moorSend (.tripRel mask r.due), 0, [])))

/-- UNLOCK (R389). -/
def execFspUnlock (req : Req) (mask : Nat) (s : State) : Out :=
  .next (s.fsp req 19 1 false false (stampOp req (.unlock (mask % 2 ^ 32))))

/-- REARM (R108). -/
def execFspRearm (req : Req) (e : Nat) (s : State) : Out :=
  .next (s.fsp req 20 1 (decide (128 ≤ e)) false (stampOp req (.rearm e)))

/-- BALTEST (R210): of an authenticated module. -/
def execFspBaltest (req : Req) (ring : Nat) (hop : Nat) (s : State) : Out :=
  .next (s.fsp req 21 1 (decide (s.dev.rings ≤ ring) || decide (hop = 0) || decide (64 < hop)) false (fun d =>
    if d.authentic ring hop then (d.stamp req (.baltest ring hop), 0, []) else (d, 8, [])))

/-- STORAGE is refused (16 R552). -/
def Dev.refuseStorage (d : Dev) : Bool :=
  d.rbit A.pwrStat 20 || !(d.latched == 0) || !(d.pstate == 2 || d.pstate == 3 || d.pstate == 4)

/-- STORAGE (R552). -/
def execFspStorage (req : Req) (s : State) : Out :=
  .next (s.fsp req 23 1 false false (fun d => if d.refuseStorage then (d, 8, []) else (d.stamp req .storage, 0, [])))

/-- A pair whose digests agree is in service: this twin is MIRROR, or PRIMARY with a MIRROR partner. -/
def Dev.paired (d : Dev) : Bool := d.agreed

/-- TWINSVC_RESYNC (R432). -/
def execTwinsvcResync (req : Req) (s : State) : Out :=
  .next (s.fsp req 24 1 false false (fun d => if d.paired then (d.stamp req .resync, 0, []) else (d, 8, [])))

/-- TWINSVC_RESET (R449). -/
def execTwinsvcReset (req : Req) (s : State) : Out := .next (s.fsp req 24 1 false false (stampOp req .reset))

/-- TWINSVC_HANDOVER (R450): REFUSED unless the partner is MIRROR. -/
def execTwinsvcHandover (req : Req) (s : State) : Out :=
  .next (s.fsp req 24 1 false false (fun d =>
    if d.paired && d.authority then (d.stamp req .handover, 0, []) else (d, 8, [])))

/-- A reserve release begins (09 R307): event 210; one in force ends first. -/
def Dev.beginRelease (frel dur : Nat) (d : Dev) : Dev :=
  let d := d.endRelease
  let d := { d with rep := { d.rep with relFrel := some frel, relUntil := d.time.now + dur * 1000000000 } }
  ((d.setRbit A.cnpyRsv 31 true).setFld A.cnpyRsv 9 0 frel).raise 210 0

/-- Clear the W1C bits of a register (14 R491, CTLCLR). -/
def Dev.clearW1c (a : Nat) (d : Dev) : Dev :=
  match regRow a with
  | none => d
  | some r => d.setReg a (d.reg a &&& ~~~(BitVec.ofNat 32 r.w1c))

/-- A faulty task is armed again with its count at 0 and its sticky bits clear (03 R108, 19 R598). -/
def Dev.rearm (e : Nat) (d : Dev) : Dev := ((d.clearW1c (A.sysTstat e)).setRbit (A.sysTstat e) 31 false).setFld (A.sysTstat e) 26 25 0

/-- The channels of a mask whose unlock is refused (11 R383, R389). -/
def Dev.unlockRefused (d : Dev) (mask : Nat) : Nat :=
  maskOf ((bitsOf 32 mask).filter (fun n => d.switches n && d.rbit (A.lswCfg n) 26 && (d.chan n).ot && (d.chan n).otHot))

/-- The agreed state that a resynchronisation discards (12 R432): outputs, pages and reductions, sequences, counters, reports. -/
def Dev.discard (d : Dev) : Dev :=
  { d with pubs := [], pubSet := [], committed := [],
           cnpy := { d.cnpy with page0 := [], page1 := [], job := none, wrote := false, repeated := false, running := none, q0 := {}, q1 := {},
                                 rec0 := [], rec1 := [], rec2 := [], recW := [], insts := [], timers := [], imp := [], impWork := [] },
           rep := {}, ctl := { d.ctl with blk := {}, strs := [], reqs := [], agrPos := false, agrNeg := false },
           prot := { d.prot with cntA := [], cntB := [], active := [], limits := [], gxCnt := 0, gxActive := false } }

/-- An in-place resynchronisation (12 R424, R432): the mirror discards its state and joins again. -/
def Dev.resync (d : Dev) : Dev :=
  let d := { d with twin := { d.twin with matches_ := 0, resyncTry := 0 } }
  if d.twinState = 3 ∨ d.twinState = 5 then
    ((((d.holdsOff).stopCores).discard).setTwin 2).raise 296 0
  else d.joinBegin

/-- A requested reset (13 R449-R450). A device alone with authority runs an orderly shutdown first. While the partner is MIRROR, a request at
the authority resets the mirror, which is the device to update and takes no such request on its own address (14 R486; DEDUCED, log entry
201). -/
def Dev.resetReq (d : Dev) : Dev :=
  if d.authority then (if d.paired then d.moorSend .resetMirror else d.startShut 0 2 false false true) else d.goReset 5 0

/-- An operation takes effect at its boundary (14 R491): the device after it, the status and the body of the response. -/
def Dev.applyFsp (a : FspAct) (d : Dev) : Dev × Nat × List Nat :=
  match a with
  | .dlimit l v =>
    let k := match v with | none => 0 | some x => x + 1
    ({ d with prot := { d.prot with limits := FMap.set (fun _ => 0) d.prot.limits l k } }, 0, [])
  | .reserve frel dur => (match frel with | none => d.endRelease | some f => d.beginRelease f dur, 0, [])
  | .weld => if d.mainsOpen then (d.setRbit A.ctlStat 29 false, 0, []) else (d, 8, [])
  | .loopClr n => (d.clearW1c (A.ctlLstat n), 0, [])
  | .unlock m => (d.unlock m, 0, leBytes 4 (d.unlockRefused m))
  | .rearm e => (d.rearm e, 0, [])
  | .baltest n h => (d.queueTest n h, 0, [])
  | .cal m => (d.calAsk m, 0, [])
  | .storage => if d.refuseStorage then (d, 8, []) else (d.startShut 0 2 false true false, 0, [])
  | .resync => if d.paired then (d.resync, 0, []) else (d, 8, [])
  | .reset => (d.resetReq, 0, [])
  | .handover => if d.paired && d.authority then (d.yield_, 0, []) else (d, 8, [])

/-- The operations stamped for this scan or an earlier one take effect in the order they came (14 R491). -/
def Dev.applyFspActs (d : Dev) : Dev :=
  let due := d.hwd.fspActs.filter (fun x => d.dueNow x.1)
  let d := { d with hwd := { d.hwd with fspActs := d.hwd.fspActs.filter (fun x => !d.dueNow x.1) } }
  foldOver due (fun x d =>
    let r := d.applyFsp x.2.2.2
    r.1.lateReply x.2.1 x.2.2.1 r.2.1 r.2.2) d

/-- The body of a STREAM message without its GAP (14 R494). -/
def Dev.streamBody (k n : Nat) (d : Dev) : List Nat :=
  let form := d.topo.forms.getD k 0
  leBytes 4 d.time.tickScan ++ [k, form] ++ leBytes 2 n ++ sw (d.rep.blk0.form form) ++ [0, 0, 0, 0]
    ++ (List.range n).flatMap (fun i => leBytes 4 (d.pub 9 (256 * k + i)).toNat)

/-- A session takes a published stream record (14 R494): the decimation counts, and a full queue displaces its oldest record. The flag
tells that a record was dropped. -/
def Session.stream (k : Nat) (body : List Nat) (x : Session) : Session × Bool :=
  let dec := FMap.get (fun _ => 0) x.subs k
  if dec = 0 ∨ x.ver < 2 then (x, false) else
  let n := FMap.get (fun _ => 0) x.due k + 1
  if n < dec then ({ x with due := FMap.set (fun _ => 0) x.due k n }, false) else
  let x := { x with due := FMap.set (fun _ => 0) x.due k 0 }
  match x.streamQ with
  | [] => ({ x with streamQ := [(k, body)] }, false)
  | o :: rest =>
    if x.streamQ.length < 8 then ({ x with streamQ := x.streamQ ++ [(k, body)] }, false)
    else ({ x with streamQ := rest ++ [(k, body)], gap := FMap.upd (fun _ => 0) x.gap o.1 (fun g => min (g + 1) 0xFFFFFFFF) }, true)

/-- Event 358 at most once per minute per session (14 R494). -/
def Dev.streamDrop (n : Nat) (d : Dev) : Dev :=
  match d.session n with
  | none => d
  | some x =>
    let due := match x.dropT with | none => true | some t => decide (t + 60000000000 ≤ d.time.now)
    if due then (d.setSession n (some { x with dropT := some d.time.now })).raise 358 n else d

/-- Stream `k` is published with `n` words (14 R494, class 10). -/
def Dev.publishStream (k n : Nat) (d : Dev) : Dev :=
  let body := d.streamBody k n
  foldOver (d.hwd.sessions.map (fun p : Nat × Option Session => p.1)) (fun i d =>
    match d.session i with
    | none => d
    | some x =>
      let r := x.stream k body
      let d := d.setSession i (some r.1)
      if r.2 then d.streamDrop i else d) d

/-- The stream publications of a tick. A word count outside 1-256, of which the manual says nothing, publishes no word for 0 and 256
words above 256 (DESIGN CHOICE, log entry 165). -/
def Dev.streamPublish (l : List OutVal) (d : Dev) : Dev :=
  foldOver (l.filter (fun o => o.cls == 10)) (fun o d => d.publishStream o.idx (min o.val.toNat 256)) d

/-- STREAM_SEND (R494): the oldest queued record goes out with its stream's GAP. -/
def execStreamSend (sess : Nat) (s : State) : Out :=
  .next (s.onDev (Dev.onSession sess (fun x =>
    match x.streamQ with
    | [] => x
    | p :: rest =>
      let g := FMap.get (fun _ => 0) x.gap p.1
      let b := p.2.take 12 ++ leBytes 4 g ++ p.2.drop 16
      { x with streamQ := rest, gap := FMap.set (fun _ => 0) x.gap p.1 0, sent := x.sent ++ [3 :: b] }.sendsOut 1))
    |>.onDev (Dev.tellSession sess))

/-- NOTIFY_SEND (R495). -/
def execNotifySend (sess : Nat) (s : State) : Out :=
  .next (s.onDev (Dev.onSession sess (fun x =>
    match x.notifyQ with
    | [] => x
    | p :: rest =>
      let b := leBytes 2 p.1 ++ leBytes 2 x.notifyDrop ++ leBytes 4 p.2.1 ++ leBytes 8 p.2.2
      { x with notifyQ := rest, notifyDrop := 0, sent := x.sent ++ [4 :: b] }.sendsOut 1))
    |>.onDev (Dev.tellSession sess))

end Sys2Proof.Machine
end

