-- ==== Sys2Proof/Machine/Heartwood.lean ====
section
/-! DEFINITION. Heartwood: claim, sessions, Owner records, self-tests, and the pairing check of a twin (12 R429, 13 R441-R468,
20 R606-R608). -/

namespace Sys2Proof.Machine
open Sys2Proof

/-- A resynchronisation begins at the joiner (12 R430): event 296. -/
def Dev.joinStart (d : Dev) : Dev :=
  let d := { d with twin := { d.twin with matches_ := 0, joining := false } }
  ((((d.holdsOff).stopCores).discard).setTwin 2).raise 296 0

/-- The reason for which a pairing check refuses, 0 when it passes (12 R429, 13 R452). -/
def Dev.pairReason (d : Dev) (x : PairInfo) : Nat :=
  let want := d.hwd.twinPair.map (fun p => if x.endB then p.2 else p.1)
  if !(x.unitmap == d.reg A.sysUnitmap) then 1
  else if !(x.twinLevel == d.fwRun.twinLevel) then 2
  else if x.endB == d.rbit A.twinStat 19 then 3
  else if d.img.topo.isNone || !d.topo.twin then 4
  else if !x.attested || !(want == some x.kaHash) then 5
  else if x.image = 2 then 6
  else 0

/-- The X25519 secret that this device uses at pairing (13 R452): drawn anew at every start. -/
def Dev.pairSecret (d : Dev) : Nat := Config.trng d.hwd.boots

/-- At pairing each Heartwood asks for a quote over its fresh nonce (13 R452); what the partner's quote and share say comes with `PairInfo`. -/
def Dev.askQuote (d : Dev) : Dev := ((d.moorSend (.pairNonce (Config.trng d.freeCnt))).takeFree)

/-- The quote over the partner's nonce, with the X25519 share, both signed by KA (13 R451-R452); none while Heartwood's tests fail (R464). -/
def Dev.sendQuote (nonce : Nat) (d : Dev) : Dev :=
  if !d.hwdOk then d else
  let q := d.quoteBytes (leBytes 32 nonce)
  let share := Config.x25519Share d.pairSecret
  d.moorSend (.pairQuote q (padTo 96 0 (Config.sign 0 q)) share (padTo 96 0 (Config.sign 0 (leBytes 32 share))))

/-- The pairing check (12 R429, 20 R606): a refusal leaves its reason in TWIN.PAIR with event 295. When it passes, a twin joins a
partner in authority; with no authority on either side the end-A twin becomes PRIMARY and the end-B twin joins it. The two Heartwoods then hold
KP (13 R452). -/
def Dev.pairCheck (x : PairInfo) (d : Dev) : Dev :=
  let r := d.pairReason x
  let d := d.askQuote.setFld A.twinPair 7 0 r
  if 0 < r then d.raise 295 r else
  let d := { d with twin := { d.twin with paired := true, everPaired := true, timeSet := false }, hwd := { d.hwd with kp := some (Config.x25519 d.pairSecret x.share) } }
  let join := d.joinBegin
  if d.authority then join
  else if x.inAuthority || d.rbit A.twinStat 19 then d.joinStart
  else (join.startAuth).setTwin 4

/-- A twin whose start-up tests have passed begins PAIRING when Mooring has trained, and one in PAIRING runs its check again (12 R429). -/
def Dev.pairRetry (d : Dev) : Dev :=
  if d.isTwin && (d.twinState == 0 || d.twinState == 1) && !d.authority && !(d.pstate == 7) && (d.rbit A.twinStat 23 || d.rbit A.twinStat 24) then
    match d.twin.info with
    | none => d
    | some x => (d.setTwin 1).pairCheck x
  else d

/-- The alerts of 13 R459 with their numbers in RFC 8446. -/
inductive Alert
  | handshakeFailure | certificateExpired | certificateUnknown | decryptError | protocolVersion | userCanceled
deriving DecidableEq, Repr

/-- The number of an alert (RFC 8446, section 6). -/
def Alert.code (a : Alert) : Nat :=
  match a with
  | .handshakeFailure => 40
  | .certificateExpired => 45
  | .certificateUnknown => 46
  | .decryptError => 51
  | .protocolVersion => 70
  | .userCanceled => 90

/-- Refuse a session (13 R459, R469) with its step's alert, if the manual gives one: event 305, counted. -/
def Dev.refuseSession (a : Option Alert) (d : Dev) : Dev :=
  (({ d with hwd := { d.hwd with alert := a.map Alert.code } }).bump A.hwdRefuse A.hwdOvf 0).raise 305 0

/-- Step 1 of 13 R459 by the profile of R458: TLS 1.3; one of the two suites, one of the two groups, and ECDSA P-256 with SHA-256, with which the
device signs. -/
def profileAlert (hs : Handshake) : Option Alert :=
  if !hs.versions.contains 0x0304 then some .protocolVersion
  else if (hs.suites.contains 0x1301 || hs.suites.contains 0x1303) && (hs.groups.contains 23 || hs.groups.contains 29) && hs.schemes.contains 0x0403
    then none
  else some .handshakeFailure

/-- The client's CertificateVerify is of one of the three schemes and verifies (13 R458-R459 step 3). -/
def clientSigned (hs : Handshake) : Bool := hs.verifyOk && [0x0403, 0x0503, 0x0807].contains hs.scheme

/-- UTC in s, when known (14 R487). -/
def Dev.utcSec (d : Dev) : Option Int :=
  if d.rbit A.ethPtp 30 then some (((d.time.now : Int) + d.eth.offset) / 1000000000) else none

/-- The validity bounds of a slot hold (13 R453): without UTC neither is checked. -/
def Dev.slotValid (d : Dev) (c : TenantSlot) : Bool :=
  match d.utcSec with
  | none => true
  | some t => decide ((c.nbef : Int) ≤ t) && decide (t < (c.naft : Int))

/-- The slot that holds a key hash (13 R459). -/
def HwdSt.slotByKey (h : HwdSt) (k : Nat) : Option (Nat × TenantSlot) :=
  h.slots.findSome? (fun p => match p.2 with | some c => if c.keyh = k then some (p.1, c) else none | none => none)

/-- A free number for a session without a slot. -/
def Dev.freeSession (d : Dev) : Nat := ((span 256 65).find? (fun n => (d.session n).isNone)).getD 320

/-- The non-emergency session that has been idle longest (13 R457). -/
def Dev.idlest (d : Dev) : Option Nat :=
  (d.hwd.sessions.foldl (fun (b : Option (Nat × Nat)) p => match p.2 with
    | none => b
    | some x =>
      let em := match d.hwd.slotOf x with | some c => c.emerg | none => false
      if em then b else match b with
        | none => some (p.1, x.idle)
        | some y => if x.idle < y.2 then some (p.1, x.idle) else b) none).map (fun p => p.1)

/-- Open session `n`: its window is zeroed, FSP negotiation follows (13 R459): event 305. A device in WATCH wakes (16 R550). The partner
takes its traffic secrets (R460). -/
def State.openSession (n : Nat) (x : Session) (s : State) : State :=
  let s := s.closeSession n
  let y := { x with idle := s.dev.time.now, secret := Config.trng s.dev.freeCnt }
  let d := ((((s.dev.takeFree).setSession n (some y)).raise 305 n).wake).tellSession n
  { s with dev := d, mem := zeroWindow n s.mem }

/-- Open a session within the limit of 64 (13 R457): a 65th needs an emergency slot, and closes the idlest other session. -/
def State.seat (n : Nat) (emerg : Bool) (x : Session) (s : State) : State :=
  if s.dev.openSessions < 64 ∨ (s.dev.session n).isSome = true then s.openSession n x
  else if emerg then match s.dev.idlest with
    | none => s.onDev (Dev.refuseSession (some .userCanceled))
    | some k => (s.closeSession k).openSession n x
  else s.onDev (Dev.refuseSession (some .userCanceled))

/-- The handshake of 13 R459, with R442 and 20 R607; each refusal sends its step's alert. While Heartwood refuses new sessions (R464) no alert is
given. Recovery is served on Ethernet port 0 alone (R448). -/
def State.handshake (hs : Handshake) (s : State) : State :=
  let d := s.dev
  let no := fun (a : Option Alert) => s.onDev (Dev.refuseSession a)
  let last := fun (n : Nat) (em : Bool) (x : Session) => if hs.finishedOk then s.seat n em x else no (some .decryptError)
  if d.hwd.recovery && !(hs.port == 0) then s
  else if !d.hwdOk then no none
  else if (profileAlert hs).isSome then no (profileAlert hs)
  else if !clientSigned hs then no (some .decryptError)
  else if d.rbit A.hwdStat 31 = false then last d.freeSession false { unclaimed := true, ownAddr := hs.ownAddress }
  else if d.hwd.ownerKeys.any (fun p => p.2 == hs.keyHash) then last d.freeSession false { owner := true, ownAddr := hs.ownAddress }
  else match d.hwd.slotByKey hs.keyHash with
    | none => no (some .certificateUnknown)
    | some p =>
      if d.slotValid p.2 then last p.1 p.2.emerg { slot := p.1, ownAddr := hs.ownAddress } else no (some .certificateExpired)

/-- SESSION_HANDSHAKE (R459); with TMODE at 1 the device serves no interface (17 R574). -/
def execSessionHandshake (hs : Handshake) (s : State) : Out := .next (if s.dev.rbit A.sysStrap 2 then s else s.handshake hs)

/-- HANDSHAKE_TIMEOUT (R458): a handshake not complete after 10 s fails. -/
def execHandshakeTimeout (s : State) : Out := .next (s.onDev (Dev.refuseSession none))

/-- KEYUPDATE (R458, R460): the session's traffic keys take the next generation, which the partner takes too. -/
def execKeyupdate (sess : Nat) (s : State) : Out :=
  .next (if (s.dev.session sess).isNone then s else s.onDev (fun d => ((d.takeFree).onSession sess (fun x =>
    { x with keyGen := x.keyGen + 1, secret := Config.trng d.freeCnt, recs := 0, rekey := false })).tellSession sess))

/-- SESSION_EXPIRY (R457): at NAFT, which is checked only while UTC is known (R453). -/
def execSessionExpiry (slot : Nat) (s : State) : Out :=
  .next (match s.dev.session slot with
    | none => s
    | some x => if s.dev.rbit A.ethPtp 30 && (s.dev.hwd.slotOf x).isSome then s.closeSession slot else s)

/-- The failed CLAIMs of the last hour (13 R442). -/
def Dev.claimFails (d : Dev) : List Nat := d.hwd.failT.filter (fun t => decide (d.time.now < t + 3600000000000))

/-- The HMAC that a CLAIM must carry (13 R442). -/
def claimMac (keyBytes : List Nat) : List Nat := hmacSha256 (sha256 Config.claimDigits) keyBytes

/-- Take an Owner key by CLAIM (13 R442): Owner key 0, KT, CLAIMED, event 312. -/
def Dev.takeClaim (keyBytes : List Nat) (d : Dev) : Dev :=
  let h := d.hwd
  let d := { d with hwd := { h with ownerKeys := FMap.set (fun _ => 0) h.ownerKeys 0 (ofBe (sha256 keyBytes)), ktGen := h.ktGen + 1,
                                    kt := Config.trng d.freeCnt } }
  (((d.takeFree).setRbit A.hwdStat 31 true).raise 312 0).answer 0 []

/-- CLAIM (R442): one in a session of an UNCLAIMED device, of a key of one of the three kinds (`kind` 1 to 3 as SIGALG numbers them); five failures
within an hour bar further ones. -/
def execClaim (sess : Nat) (kind : Nat) (keyBytes : List Nat) (mac : List Nat) (s : State) : Out :=
  .next (match s.dev.session sess with
    | none => s
    | some x =>
      let d := s.dev
      if d.rbit A.hwdStat 31 ∨ x.unclaimed = false ∨ x.tried ∨ d.hwd.recovery ∨ 5 ≤ d.claimFails.length then s.onDev (fun d => d.answer 8 [])
      else if mac = claimMac keyBytes ∧ 1 ≤ kind ∧ kind ≤ 3 then
        (s.onDev (Dev.takeClaim keyBytes)).closeWhere (fun y => y.unclaimed)
      else s.onDev (fun d =>
        (({ d with hwd := { d.hwd with failT := d.claimFails ++ [d.time.now] } }).setSession sess (some { x with tried := true })).answer 8 []))

/-- The capabilities a role may hold (13 R454): operator, technician, SCADA, dispatcher, auditor, publisher. -/
def roleCaps (r : Nat) : List Nat :=
  if r = 0 then [0, 1, 2, 3, 4, 5, 9, 10, 16, 18, 19, 23]
  else if r = 1 then [0, 1, 2, 3, 4, 5, 17, 18, 19, 20, 21, 22, 23, 24, 25, 26]
  else if r = 2 then [0, 1, 3, 4, 5, 8, 9, 16]
  else if r = 3 then [0, 3, 4, 5, 8, 9, 10]
  else if r = 4 then [0, 1, 2, 3, 4, 5]
  else [0, 1, 3, 4]

/-- A tenant slot's content breaks no rule (13 R453). -/
def Dev.tenantOk (d : Dev) (slot : Nat) (c : TenantSlot) : Bool :=
  decide (c.role ≤ 5) && decide (c.cap < 2 ^ 64) && (c.cap &&& maskOf (roleCaps c.role)) == c.cap
    && decide (1 ≤ c.rate) && decide (c.rate ≤ 1000) && decide (1 ≤ c.burst) && decide (c.burst ≤ 255) && decide (c.notify < 2 ^ 13)
    && d.hwd.slots.all (fun p => p.1 == slot || (match p.2 with | none => true | some y => !(y.keyh == c.keyh)))

/-- The Owner keys would not all be gone after key `slot` becomes `key` (13 R446). -/
def HwdSt.keyStays (h : HwdSt) (slot key : Nat) : Bool := !(key == 0) || !(FMap.get (fun _ => 0) h.ownerKeys (1 - slot) == 0)

/-- The floor of a kind of image: 0 envelope, 1 chemistry, 2 program set, 3 topology. -/
def HwdSt.floor (h : HwdSt) (k : Nat) : Nat := FMap.get (fun _ => 0) h.floors k

/-- The checks particular to a record's type (13 R446, R453). -/
def Dev.ownActOk (d : Dev) (a : OwnAct) : Bool :=
  match a with
  | .ownerKey k key => decide (k < 2) && d.hwd.keyStays k key
  | .roleKey r k _ => (r == 2 || r == 3) && decide (k < 2)
  | .tenant k c => decide (k < 256) && (match c with | none => true | some x => d.tenantOk k x)
  | .accept n h _ _ => decide (n < d.rings) && decide (1 ≤ h) && decide (h ≤ 64)
  | .floor k f => decide (k < 4) && decide (f ≤ d.hwd.floor k)
  | .twinPair _ _ => true
  | .ktRotate => true
  | .release => d.pstate == 3

/-- The type code of an Owner record (13 R446). -/
def ownType (a : OwnAct) : Nat :=
  match a with
  | .ownerKey _ _ => 1
  | .roleKey _ _ _ => 2
  | .tenant _ _ => 3
  | .accept _ _ _ _ => 4
  | .floor _ _ => 5
  | .twinPair _ _ => 6
  | .ktRotate => 7
  | .release => 8

/-- OWNSEQ of a record (13 R446). -/
def ownSeq (r : OwnRec) : Nat := r.head.getD 3 0

/-- The bytes of a signature of a SIGALG (03 R102). -/
def sigLen (alg : Nat) : Nat := if alg = 2 then 96 else 64

/-- The header of an Owner record is right (13 R446): MAGIC, FORMAT, TYPE, SIGALG, SIGNER, and IMAGELEN with the signature. -/
def ownHeaderOk (r : OwnRec) (a : OwnAct) : Bool :=
  let w : Word := BitVec.ofNat 32 (r.head.getD 1 0)
  let alg := w.field 7 4
  r.head.getD 0 0 == 0x4F574E01 && w.field 31 16 == 1 && w.field 15 8 == ownType a && decide (1 ≤ alg) && decide (alg ≤ 3) && w.field 3 0 == 4
    && decide (16 ≤ r.head.getD 2 0) && r.head.getD 2 0 + sigLen alg == r.length

/-- The checks that every Owner record must pass (13 R446): header, a signature under an Owner key, OWNSEQ above every accepted one. -/
def Dev.ownRecOk (d : Dev) (r : OwnRec) (a : OwnAct) : Bool :=
  !d.hwd.recovery && ownHeaderOk r a && !(r.sigKey == 0) && d.hwd.ownerKeys.any (fun p => p.2 == r.sigKey) && decide ((d.reg A.hwdOwnseq).toNat < ownSeq r)
    && decide (ownSeq r < 2 ^ 32)

/-- Heartwood judges an Owner record (13 R446): event 310 either way; an accepted one waits for the boundary of scan `due`. Each twin of a pair
checks it. -/
def Dev.judgeRecord (due : Nat) (r : OwnRec) (a : OwnAct) (d : Dev) : Dev × Bool :=
  let ok := d.ownRecOk r a && d.ownActOk a
  let d := d.raise 310 0
  if ok then
    (({ d with hwd := { d.hwd with ownActs := d.hwd.ownActs ++ [(due, a)] } }).setReg A.hwdOwnseq (BitVec.ofNat 32 (ownSeq r)), true)
  else (d, false)

/-- An Owner record reaches Heartwood (13 R446); the authority forwards an accepted one over Mooring. -/
def Dev.takeRecord (r : OwnRec) (a : OwnAct) : FspOp := fun d =>
  let due := d.stampDue
  let x := d.judgeRecord due r a
  if x.2 then (if d.authority then x.1.moorSend (.ownAct due r a) else x.1, 0, [0]) else (x.1, 8, [1])

/-- A session carries an Owner record (13 R444, 20 R607): a request like another, with a token of its bucket (R455), which needs the IMAGE
capability and is answered SUSPENDED while tenant service is suspended (R457). -/
def ownCmd (r : OwnRec) (a : OwnAct) (s : State) : Out :=
  .next (match s.dev.session r.sess with
    | none => s
    | some x => s.onDev (fun d =>
      let y := d.checkReq r.sess 0 25 0 false x (Dev.takeRecord r a)
      y.1.answer y.2.1 y.2.2))

/-- OWNERKEY (R446). -/
def execOwnOwnerkey (r : OwnRec) (slot : Nat) (key : Nat) (s : State) : Out := ownCmd r (.ownerKey slot key) s

/-- ROLEKEY (R446). -/
def execOwnRolekey (r : OwnRec) (role : Nat) (slot : Nat) (key : Nat) (s : State) : Out := ownCmd r (.roleKey role slot key) s

/-- TENANT (R453). -/
def execOwnTenant (r : OwnRec) (slot : Nat) (content : Option TenantSlot) (s : State) : Out := ownCmd r (.tenant slot content) s

/-- ACCEPT (R222). -/
def execOwnAccept (r : OwnRec) (ring : Nat) (hop : Nat) (uid : Nat) (tkey : Option Nat) (s : State) : Out :=
  ownCmd r (.accept ring hop uid tkey) s

/-- FLOOR (R446). -/
def execOwnFloor (r : OwnRec) (kind : Nat) (floor : Nat) (s : State) : Out := ownCmd r (.floor kind floor) s

/-- TWINPAIR (R452). -/
def execOwnTwinpair (r : OwnRec) (hashA : Nat) (hashB : Nat) (s : State) : Out := ownCmd r (.twinPair hashA hashB) s

/-- KTROTATE (R446). -/
def execOwnKtrotate (r : OwnRec) (s : State) : Out := ownCmd r .ktRotate s

/-- RELEASE (R446). -/
def execOwnRelease (r : OwnRec) (s : State) : Out := ownCmd r .release s

/-- The 48 bytes of KEYSET (06 R223): generation, nonce, ciphertext and tag with additional data uid || generation, as Heartwood forms
them (13 R461). -/
def Dev.keysetBytes (tkey gen uid : Nat) (d : Dev) : List Nat :=
  let i := d.freeCnt
  let nonce := Config.trng (i + 1)
  let c := Config.sealed tkey nonce (ofLe (leBytes 8 uid ++ leBytes 4 gen)) (Config.trng i)
  leBytes 4 gen ++ leBytes 12 nonce ++ leBytes 16 c ++ leBytes 16 (c / 2 ^ 128)

/-- A hop is ACCEPTED (06 R222, 13 R461): without a transport key the device holds no key for it, with one it installs a new key. While
Heartwood refuses key installations (R464) there is no KEYSET that returns OK, so the hop is FAILED. -/
def Dev.acceptHop (n h uid : Nat) (tkey : Option Nat) (d : Dev) : Dev :=
  let i := 64 * n + h - 1
  let d := d.setIdentity n h 4
  match tkey with
  | none => { d with hwd := { d.hwd with keys := FMap.set (fun _ => 0) d.hwd.keys i 0 } }
  | some t =>
    if !d.hwdOk then d.setIdentity n h 2 else
    let gen := FMap.get (fun _ => 0) d.hwd.gens i + 1
    let e := d.setPort n (fun p => { p with newKey := FMap.set (fun _ => (0, 0)) p.newKey h (gen, Config.trng d.freeCnt % 2 ^ 128) })
    ((e.queueDev n 0x09 h h (d.keysetBytes t gen uid) 4).takeFree).takeFree

/-- An acceptance takes effect (06 R220-R222): a module with another UID makes the hop NEW. A hop that no ENUM has reached is accepted by
its UID, which the next ENUM compares (DESIGN CHOICE, log entry 168). -/
def Dev.accept (n h uid : Nat) (tkey : Option Nat) (d : Dev) : Dev :=
  let d := d.setPort n (fun p => { p with uidWanted := FMap.set (fun _ => 0) p.uidWanted h uid })
  match ((d.port n).mod h).ident with
  | none => d.acceptHop n h uid tkey
  | some m => if m.uid ≠ uid then d.setIdentity n h 3 else d.acceptHop n h uid tkey

/-- Ownership is erased (13 R446): keys, tenants, module keys and commissioned UIDs; UNCLAIMED, event 312. A hop's last generation stays, above which
the next key's lies (R461). -/
def Dev.releaseOwner (d : Dev) : Dev :=
  let h := d.hwd
  let d := { d with hwd := { h with ownerKeys := [], roleKeys := [], slots := [], keys := [] },
                    ports := d.ports.map (fun p : Nat × Port => (p.1, { p.2 with uidWanted := [] })) }
  (d.setRbit A.hwdStat 31 false).raise 312 0

/-- An Owner record takes effect (13 R446). A cleared slot closes its session; RELEASE closes every session of a key or slot. -/
def State.applyOwn (a : OwnAct) (s : State) : State :=
  let hw := fun (f : HwdSt → HwdSt) => s.onDev (fun d => { d with hwd := f d.hwd })
  match a with
  | .ownerKey k key => if s.dev.hwd.keyStays k key then hw (fun h => { h with ownerKeys := FMap.set (fun _ => 0) h.ownerKeys k key }) else s
  | .roleKey r k key => hw (fun h => { h with roleKeys := FMap.set (fun _ => 0) h.roleKeys (2 * (r - 2) + k) key })
  | .tenant k c =>
    let s' := if c.isNone then s.closeSession k else s
    s'.onDev (fun d => { d with hwd := { d.hwd with slots := FMap.set (fun _ => none) d.hwd.slots k c } })
  | .accept n h uid t => s.onDev (Dev.accept n h uid t)
  | .floor k f => hw (fun h => { h with floors := FMap.set (fun _ => 0) h.floors k (min f (h.floor k)) })
  | .twinPair x y => hw (fun h => { h with twinPair := some (x, y) })
  | .ktRotate => (hw (fun h => { h with ktGen := h.ktGen + 1, kt := Config.trng s.dev.freeCnt })).onDev Dev.takeFree
  | .release => (s.closeWhere (fun _ => true)).onDev Dev.releaseOwner

/-- An acceptance waits while its hop is discovered (20, "When steps meet"). -/
def Dev.ownWaits (d : Dev) (x : Nat × OwnAct) : Bool :=
  !d.dueNow x.1 || (match x.2 with
    | .accept n h _ _ => d.discovering n h
    | .ownerKey _ _ => false
    | .roleKey _ _ _ => false
    | .tenant _ _ => false
    | .floor _ _ => false
    | .twinPair _ _ => false
    | .ktRotate => false
    | .release => false)

/-- The Owner records that are due take effect in the order of their acceptance; the block digest follows, and a twin in PAIRING
repeats its check (13 R446, R462, 20 R606). -/
def State.applyOwnActs (s : State) : State :=
  let due := s.dev.hwd.ownActs.filter (fun x => !s.dev.ownWaits x)
  let s := s.onDev (fun d => { d with hwd := { d.hwd with ownActs := d.hwd.ownActs.filter d.ownWaits } })
  if due = [] then s else (foldOver due (fun x s => s.applyOwn x.2) s).onDev (fun d => (d.formBdig).pairRetry)

/-- FIRMWARE_FLOOR_RAISE (R445): the floor rises to the SVN of the running firmware, and never falls. -/
def execFirmwareFloorRaise (s : State) : Out :=
  .next (s.onDev (fun d => d.setFld A.hwdStat 15 8 (max (d.fld A.hwdStat 15 8) (d.fld A.hwdStat 23 16))))

/-- TRNG_HEALTH_FAIL (R464). -/
def execTrngHealthFail (s : State) : Out := .next (s.onDev (fun d => (d.setRbit A.hwdStat 30 false).raise 311 0))

/-- HWD_TEST_END (R464): a pass restores service; a failure that persists counts as a failed twin self-test. -/
def execHwdTestEnd (ok : Bool) (s : State) : Out :=
  .next (s.onDev (fun d =>
    if ok then (d.setRbit A.hwdStat 30 true).setRbit A.hwdStat 29 true
    else
      let again := !d.rbit A.hwdStat 29
      let d := (d.setRbit A.hwdStat 29 false).raise 311 0
      if again then d.twinFail else d))

end Sys2Proof.Machine
end

