-- ==== Sys2Proof/Machine/Verifier.lean ====
section
/-! DEFINITION. The program verifier of Heartwood: control flow, worst-case cycles, and the thirteen checks in their
order (02 R52-R58, R87, 03 R95-R102). -/

namespace Sys2Proof.Machine
open Sys2Proof

/-- A two's-complement field of `n` bits. -/
def signedField (n v : Nat) : Int := if 2 ^ (n - 1) ≤ v then (v : Int) - 2 ^ n else v

/-- A conditional branch (02 R54). -/
def isBranch (w : Nat) : Bool := decide (0x20 ≤ wOp w) && decide (wOp w ≤ 0x25)

/-- The word offset of a branch, J or JAL. -/
def wordOff (w : Nat) : Int := if isBranch w then signedField 16 (wImm w) else signedField 26 (w % 2 ^ 26)

/-- The target of a transfer at index `i`, if it is one (02 R52). -/
def wordTarget (i w : Nat) : Option Int :=
  if isBranch w || wOp w == 0x28 || wOp w == 0x29 then some ((i : Int) + wordOff w) else none

/-- LOOP's bound and length (02 R52). -/
def loopBound (w : Nat) : Nat := w / 2 ^ 9 % 4096 + 1

/-- LOOP's length (02 R52). -/
def loopLen (w : Nat) : Nat := w % 512 + 1

/-- The loop bodies of a code, as first index and index after the end. -/
def bodies (code : List Nat) : List (Nat × Nat) :=
  ((List.range code.length).zip code).filterMap (fun p => if wOp p.2 = 0x2B then some (p.1 + 1, p.1 + 1 + loopLen p.2) else none)

/-- The bodies that contain an index. -/
def bodiesAt (bs : List (Nat × Nat)) (i : Nat) : List (Nat × Nat) := bs.filter (fun b => decide (b.1 ≤ i) && decide (i < b.2))

/-- Instructions that may not end a loop body (02 R58). -/
def badLast (w : Nat) : Bool :=
  isBranch w || [0x28, 0x29, 0x2A, 0x2B, 0x33, 0x34].contains (wOp w)

/-- A JAL may lead backward: only branches and J need an offset of at least 1 (02 R58; DESIGN CHOICE, log entry 188).
The rules of 02 R58 and 03 R98 on a word by itself: forward transfers inside the code, no entry into a body, bodies nested and
properly ended, WAITT and COMMIT outside bodies, no transfer across a WAITT. -/
def flowWord (code : List Nat) (bs : List (Nat × Nat)) (i w : Nat) : Bool :=
  let t := wordTarget i w
  let fwd := match t with
    | none => true
    | some x => (wOp w == 0x29 || decide ((i : Int) < x)) && decide (0 ≤ x) && decide (x < code.length)
  let enters := match t with
    | none => true
    | some x => (bodiesAt bs x.toNat).all (fun b => decide (b.1 ≤ i) && decide (i < b.2))
  let cross := match t with
    | none => true
    | some x => wOp w == 0x29 || ((span (i + 1) (x.toNat - i - 1)).all (fun k => !(wOp (code.getD k 0) == 0x33)))
  let body := if wOp w = 0x2B then
      let e := i + 1 + loopLen w
      decide (e ≤ code.length) && !badLast (code.getD (e - 1) 0) && (bodiesAt bs i).all (fun b => decide (e ≤ b.2))
    else true
  let plain := if wOp w = 0x33 ∨ wOp w = 0x34 then (bodiesAt bs i).isEmpty else true
  fwd && enters && cross && body && plain

/-- What the paths from an index do: how they end (COMMIT, RET, past the end), worst cycles of the current and the following segments,
WAITTs in order with their indices and operands. -/
structure PathRes where
  commit : Bool := false
  ret : Bool := false
  off : Bool := false
  costs : List Nat := [0]
  waits : List (Nat × Nat) := []
deriving DecidableEq, Repr

/-- Elementwise maximum of two lists of costs. -/
def maxCosts (a b : List Nat) : List Nat :=
  (List.range (max a.length b.length)).map (fun i => max (a.getD i 0) (b.getD i 0))

/-- Either of two continuations. -/
def PathRes.join (a b : PathRes) : PathRes :=
  { commit := a.commit || b.commit, ret := a.ret || b.ret, off := a.off || b.off, costs := maxCosts a.costs b.costs,
    waits := if a.waits.length < b.waits.length then b.waits else a.waits }

/-- Add cycles to the current segment. -/
def PathRes.add (n : Nat) (a : PathRes) : PathRes := { a with costs := (a.costs.headD 0 + n) :: a.costs.drop 1 }

/-- The result past the end of the code. -/
def PathRes.past : PathRes := { off := true }

/-- Both continuations known. -/
def joinRes (a b : Option PathRes) : Option PathRes :=
  match a, b with
  | some x, some y => some (x.join y)
  | _, _ => none

/-- The offsets beyond a body to which branches and jumps inside it lead. -/
def bodyExits (len i : Nat) (ws : List Nat) : List Nat :=
  match ws with
  | [] => []
  | w :: rest =>
    let r := bodyExits len (i + 1) rest
    if isBranch w || wOp w == 0x28 then
      let t := (i : Int) + wordOff w
      if (len : Int) < t then t.toNat :: r else r
    else r

/-- The result of the word at index `i` of the code, from the results `rs` of the words after it; `call` gives the results of function
entries, `body` the worst cycles of a loop body (03 R98). -/
def wordRes (call : Nat → Option PathRes) (body : Nat → List Nat → Option Nat) (i w : Nat) (rest : List Nat)
    (rs : List (Option PathRes)) : Option PathRes :=
  let at_ := fun (k : Nat) => rs.getD (k - 1) (some PathRes.past)
  let c := match wordInfo w with | some x => x.2 | none => 1
  let here := fun (r : Option PathRes) => r.map (PathRes.add c)
  let op := wOp w
  if isBranch w then here (joinRes (at_ 1) (at_ (wordOff w).toNat))
  else if op = 0x28 then here (at_ (wordOff w).toNat)
  else if op = 0x29 then
    match call ((i : Int) + wordOff w).toNat with
    | none => none
    | some f =>
      if f.commit || f.off || !f.ret || !(f.waits == []) then none
      else (here (at_ 1)).map (PathRes.add (f.costs.headD 0))
  else if op = 0x2A then some { ret := true, costs := [c] }
  else if op = 0x2B then
    let n := loopLen w
    match body (i + 1) (rest.take n) with
    | none => none
    | some b =>
      let after := (bodyExits n 0 (rest.take n)).foldl (fun r k => joinRes r (at_ (k + 1))) (at_ (n + 1))
      match at_ 1, after with
      | some x, some y =>
        let j := x.join y
        some { (y.add (2 + loopBound w * (b + 1))) with commit := j.commit, ret := j.ret, off := j.off, waits := j.waits }
      | _, _ => none
  else if op = 0x33 then
    (at_ 1).map (fun x => { x with costs := c :: (x.add 4).costs, waits := (i, wImm w) :: x.waits })
  else if op = 0x34 then some { commit := true, costs := [c] }
  else here (at_ 1)

/-- The results of every index of a code from `i` on. -/
def codeRes (call : Nat → Option PathRes) (body : Nat → List Nat → Option Nat) (i : Nat) (ws : List Nat) : List (Option PathRes) :=
  match ws with
  | [] => []
  | w :: rest =>
    let rs := codeRes call body (i + 1) rest
    wordRes call body i w rest rs :: rs

/-- The worst cycles of one pass of a loop body; `k` bounds the loops nested in it. -/
def bodyCost (call : Nat → Option PathRes) (k : Nat) (i : Nat) (ws : List Nat) : Option Nat :=
  match k with
  | 0 => none
  | k + 1 => ((codeRes call (bodyCost call k) i ws).headD (some {})).map (fun r => r.costs.headD 0)

/-- The results of every index with calls nested at most `k` deep (02 R58); loops nest at most 4 deep (check 4 comes before). -/
def callRes (code : List Nat) (k : Nat) : List (Option PathRes) :=
  match k with
  | 0 => codeRes (fun _ => none) (bodyCost (fun _ => none) 6) 0 code
  | k + 1 =>
    let t := callRes code k
    let call := fun (f : Nat) => t.getD f none
    codeRes call (bodyCost call 6) 0 code

/-- The result of a task's entry, with at most 8 nested calls. -/
def taskRes (code : List Nat) : Option PathRes := (callRes code 8).headD none

/-- The function entries of a code: the targets of its JALs (02 R58). -/
def funcs (code : List Nat) : List Nat :=
  ((List.range code.length).zip code).filterMap (fun p => if wOp p.2 = 0x29 then some ((p.1 : Int) + wordOff p.2).toNat else none)

/-- The indices to which the word at index `i` leads inside its own function. -/
def nexts (i w : Nat) : List Nat :=
  if wOp w = 0x2A ∨ wOp w = 0x34 then []
  else if wOp w = 0x28 then [((i : Int) + wordOff w).toNat]
  else if isBranch w then [i + 1, ((i : Int) + wordOff w).toNat]
  else if wOp w = 0x2B then [i + 1, i + 1 + loopLen w]
  else [i + 1]

/-- Which indices from `i` on lie on a path from a function entry; `todo` holds the later indices already reached. LOOP's way back
leads only where the way in has been. -/
def inFunc (entries : List Nat) (i : Nat) (todo : List Nat) (ws : List Nat) : List Bool :=
  match ws with
  | [] => []
  | w :: rest =>
    let on := entries.contains i || todo.contains i
    on :: inFunc entries (i + 1) (if on then nexts i w ++ todo else todo) rest

/-- Every function entry keeps the rules of 02 R58, and every call leads to one that does: its paths end in RET, meet no WAITT and no
COMMIT, and call at most 7 deep further, so no call chain has a cycle. -/
def funcsOk (code : List Nat) : Bool :=
  let t := callRes code 7
  (funcs code).all (fun f => match t.getD f none with
    | none => false
    | some r => r.ret && !r.commit && !r.off && r.waits == [])

/-- A RET outside the functions entered by JAL (02 R58). -/
def strayRet (code : List Nat) (i w : Nat) : Bool := wOp w == 0x2A && !((inFunc (funcs code) 0 [] code).getD i false)

/-- A call inside a loop body to a function of the same body that runs to the body's end: the way back leads to the call again, so the call
graph has a cycle (02 R58). -/
def callsBack (code : List Nat) (bs : List (Nat × Nat)) (i w : Nat) : Bool :=
  let f := ((i : Int) + wordOff w).toNat
  wOp w == 0x29 && (bodiesAt bs i).any (fun b =>
    decide (b.1 ≤ f) && decide (f < b.2) && (inFunc [f] 0 [] code).getD (b.2 - 1) false)

/-- The deepest loop nest on the paths from each index on, with `call` giving that of a function entry; `depth` counts the bodies
around an index (02 R58). -/
def nestRes (call depth : Nat → Nat) (i : Nat) (ws : List Nat) : List Nat :=
  match ws with
  | [] => []
  | w :: rest =>
    let rs := nestRes call depth (i + 1) rest
    let far := match wordTarget i w with
      | none => 0
      | some x => if wOp w = 0x29 then depth i + call x.toNat else rs.getD (x.toNat - i - 1) 0
    let after := if wOp w = 0x2A ∨ wOp w = 0x34 ∨ wOp w = 0x28 then 0
      else if wOp w = 0x2B then max (rs.headD 0) (rs.getD (loopLen w) 0) else rs.headD 0
    max (depth i) (max far after) :: rs

/-- The deepest loop nest along any call chain of a code, calls followed `k` deep (02 R58). -/
def callNest (code : List Nat) (k : Nat) : List Nat :=
  let bs := bodies code
  let depth := fun (i : Nat) => (bodiesAt bs i).length
  match k with
  | 0 => nestRes (fun _ => 0) depth 0 code
  | k + 1 =>
    let t := callNest code k
    nestRes (fun f => t.getD f 0) depth 0 code

/-- A task-table entry as it lies in an image, and whether its reserved fields are 0 (03 R95). -/
def parseEntry (b : List Nat) : TaskEnt × Bool :=
  let w := fun (o : Nat) => wordAt b (o / 4)
  let f := fun (o hi lo : Nat) => w o / 2 ^ lo % 2 ^ (hi + 1 - lo)
  let bud := (List.range 8).map (fun k => f (0x10 + 4 * k) 17 0)
  let outs := (List.range 8).filterMap (fun j =>
    if f (0x44 + 8 * j) 31 31 = 1 then
      some ({ cls := f (0x44 + 8 * j) 4 0, first := f (0x40 + 8 * j) 31 16, last := f (0x40 + 8 * j) 15 0 } : OutRange)
    else none)
  let wins := (List.range 16).filterMap (fun k =>
    if f (0x80 + 8 * k) 0 0 = 1 then
      some ({ base := 64 * f (0x80 + 8 * k) 31 6, len := 64 * f (0x84 + 8 * k) 31 6, r := f (0x80 + 8 * k) 3 3 == 1,
              w := f (0x80 + 8 * k) 2 2 == 1, priv := f (0x80 + 8 * k) 1 1 == 1 } : Win)
    else none)
  let res := f 0 24 24 == 0 && f 0 15 8 == 0 && f 4 7 0 == 0 && f 8 7 0 == 0
    && (List.range 8).all (fun k => f (0x10 + 4 * k) 31 18 == 0) && f 0x30 31 26 == 0 && f 0x30 15 0 == 0 && f 0x38 31 16 == 0
    && w 0x3C == 0 && (List.range 8).all (fun j => f (0x44 + 8 * j) 30 5 == 0)
    && (List.range 16).all (fun k => f (0x80 + 8 * k) 5 4 == 0 && f (0x84 + 8 * k) 5 0 == 0)
  ({ en := f 0 31 31 == 1, cls := f 0 30 29, splitOk := f 0 28 28 == 1, fact := f 0 27 26, migr := f 0 25 25 == 1, segs := f 0 23 16,
     fzones := f 0 7 0, period := f 4 31 20, offset := f 4 19 8, sdivm1 := f 8 31 20, sphase := f 8 19 8, entry := f 0xC 31 16,
     codeLen := f 0xC 15 0, budgets := bud, tags := f 0x30 25 16, ports := w 0x34 + 2 ^ 32 * f 0x38 15 0, outs := outs,
     wins := wins }, res)

/-- The code words of an entry's task (03 R95). -/
def Prog.codeOf (g : Prog) (e : Nat) (t : TaskEnt) : List Nat :=
  ((if e / 64 = 0 then g.code0 else g.code1).drop t.entry).take t.codeLen

/-- An entry of a program set. -/
def Prog.entry (g : Prog) (e : Nat) : TaskEnt := FMap.get (fun _ => {}) g.tasks e

/-- The entries that the verifier checks: enabled, or with MIGR (03 R97). -/
def Prog.checked (g : Prog) : List Nat := (List.range 128).filter (fun e => (g.entry e).en || (g.entry e).migr)

/-- A rejection: detail, entry, tick, instruction address (03 R101). -/
structure VerFail where
  detail : Nat
  entry : Nat := 0
  tick : Nat := 0
  addr : Nat := 0
deriving DecidableEq, Repr

/-- The address of word `i` of an entry's code, in bytes from the start of its pair's code. -/
def Prog.at_ (g : Prog) (e i : Nat) : Nat := 4 * ((g.entry e).entry + i)

/-- A rejection of an entry as a whole. -/
def entryFail (detail e : Nat) (bad : Bool) : Option VerFail := if bad then some { detail := detail, entry := e } else none

/-- A rejection at the first word of an entry's code that `bad` names by index and word. -/
def Prog.codeFail (g : Prog) (detail e : Nat) (bad : Nat → Nat → Bool) : Option VerFail :=
  let code := g.codeOf e (g.entry e)
  (((List.range code.length).zip code).find? (fun p => bad p.1 p.2)).map
    (fun p => { detail := detail, entry := e, addr := g.at_ e p.1 })

/-- An entry with MIGR that is not enabled: a migration entry (12 R408). -/
def Prog.migrEntry (g : Prog) (e : Nat) : Bool := (g.entry e).migr && !(g.entry e).en

/-- Entries that the overlap checks take as one task: an entry, and a SAFETY task with its migration entry (02 R48, R64, 12 R408). -/
def Prog.same (g : Prog) (e f : Nat) : Bool :=
  f == e || (f == e ^^^ 64 && (g.migrEntry e || g.migrEntry f) && (g.entry e).cls == 0 && (g.entry f).cls == 0)

/-- Check 2 for an entry (03 R95, R97). -/
def Prog.tableOk (g : Prog) (e : Nat) : Bool :=
  let t := g.entry e
  !(t.fact == 3) && !(t.cls == 3) && decide (1 ≤ t.segs) && decide (t.segs ≤ 8) && (!(t.fact == 2) || !(t.fzones == 0))
    && decide (1 ≤ t.period) && decide (t.period ≤ 4000) && decide (t.offset ≤ 3999) && decide (t.sphase ≤ t.sdivm1)
    && decide (1 ≤ t.codeLen) && decide (t.codeLen ≤ 4096) && (g.codeOf e t).length == t.codeLen && decide (t.tags ≤ 960)
    && ((List.range 8).all (fun k => let b := t.budgets.getD k 0
                                     if k < t.segs then decide (1 ≤ b) && decide (b ≤ 144000) else b == 0))
    && t.outs.all (fun o => decide (o.first ≤ o.last))
    && t.wins.all (fun x => decide (0 < x.len) && decide (x.len ≤ 64 * 262144))

/-- Check 4 for an entry: level of the words and of the loop nesting (02 R58, R87), which is judged whatever check 5 finds. -/
def Prog.levelFail (g : Prog) (e : Nat) : Option VerFail :=
  (g.codeFail 6 e (fun _ w => match wordInfo w with | none => false | some x => decide (g.level < x.1))).or
    (entryFail 6 e (decide (2 * g.level < (callNest (g.codeOf e (g.entry e)) 8).foldl max 0)) |>.map
      (fun f => { f with addr := g.at_ e 0 }))

/-- Check 5 (02 R58, 03 R98): a word by itself, a RET outside every function, the functions, then the paths of the task. -/
def Prog.flowFail (g : Prog) (e : Nat) : Option VerFail :=
  let code := g.codeOf e (g.entry e)
  let bad : VerFail := { detail := 7, entry := e, addr := g.at_ e 0 }
  ((g.codeFail 7 e (fun i w => !flowWord code (bodies code) i w)).or ((g.codeFail 7 e (strayRet code)).or (g.codeFail 7 e (callsBack code (bodies code))))).or
    (if !funcsOk code then some bad
     else match taskRes code with
     | none => some bad
     | some r => if r.commit && !r.ret && !r.off then none else some bad)

/-- Regions a window may lie in (02 R46-R47, 15 R505, R519). -/
def winRegions (rings : Nat) : List (Nat × Nat) :=
  let page := 128 * 1024 * rings
  [(0, 0x00400000), (0x00800000, 0x00800000 + page), (0x00E00000, 0x00E00000 + page), (0x60000000, 0x62000000),
   (0x20000000, 0x20800000), (0x40000000, 0x40130000)]

/-- Two windows share a byte. -/
def winOverlap (x y : Win) : Bool := decide (x.base < y.base + y.len) && decide (y.base < x.base + x.len)

/-- The write right of a window breaks no rule (02 R48, 15 R505, R519). -/
def winWriteOk (x : Win) : Bool :=
  let e := x.base + x.len
  !x.w || decide (e ≤ 0x00400000) || (decide (0x20250000 ≤ x.base) && decide (e ≤ 0x20280000))
    || [0x4001, 0x4004, 0x4006, 0x4012].any (fun b => decide (b * 0x10000 ≤ x.base) && decide (e ≤ (b + 1) * 0x10000))

/-- Check 6 (02 R46, R48, 13 R456). -/
def Prog.windowsOk (g : Prog) (rings e : Nat) : Bool :=
  let t := g.entry e
  t.wins.all (fun x =>
    (winRegions rings).any (fun r => decide (r.1 ≤ x.base) && decide (x.base + x.len ≤ r.2)) && winWriteOk x
      && (!x.priv || g.checked.all (fun f => g.same e f || (g.entry f).wins.all (fun y => !winOverlap x y))))

/-- Output ranges of the same class meet. -/
def outMeet (x y : OutRange) : Bool := x.cls == y.cls && decide (x.first ≤ y.last) && decide (y.first ≤ x.last)

/-- Output classes that NORMAL and MANAGEMENT tasks may use (03 R91), and tasks that may run on a split core (02 R65). -/
def outClassOk (t : TaskEnt) (c : Nat) : Bool :=
  (t.cls == 0 || c == 0 || c == 1 || (decide (7 ≤ c) && decide (c ≤ 10))) && (!t.splitOk || (decide (7 ≤ c) && decide (c ≤ 10)))

/-- The highest index of each output class (02 R62). -/
def outLast : List Nat := [31, 63, 15, 15, 15, 0, 47, 0x1FFF, 0x1FF0, 0x3FFF, 63, 47]

/-- A declared range names outputs of 02 R62 that a task may have: the class's own indices, load switch channels demanded through
that class (11 R379), no loop of the sequencer (10 R352). -/
def Dev.rangeOk (d : Dev) (u : Topo) (o : OutRange) : Bool :=
  let cfg := fun (n : Nat) => u.lswCfg.getD n 0
  let idx := span o.first (o.last + 1 - o.first)
  decide (o.cls < 12) && decide (o.last ≤ outLast.getD o.cls 0)
    && (!(o.cls == 0) || idx.all (fun n => !d.hasLsw n || ((cfg n).bit 31 && !(cfg n).bit 30)))
    && (!(o.cls == 1) || idx.all (fun m => !d.hasLsw (m / 2) || ((cfg (m / 2)).bit 31 && (cfg (m / 2)).bit 30)))
    && (!(u.pcen && decide (2 ≤ o.cls) && decide (o.cls ≤ 4)) || decide (o.last < 14))

/-- An instruction that the task's class may use (02 R65, 03 R91), a non-zero constant TRIP mask (02 R68), a declared constant output
(02 R63). -/
def outWordOk (t : TaskEnt) (w : Nat) : Bool :=
  let op := wOp w
  if op = 0x03 then t.cls == 0 && !t.splitOk
  else if op = 0x32 then t.cls == 0 && !t.splitOk && (wB w == 1 || !(wImm w % 256 == 0))
  else if op = 0x39 ∨ op = 0x3A then t.cls == 2
  else if op = 0x31 then
    outClassOk t (wB w) && t.outs.any (fun o => o.holds (wB w) (wImm w))
  else if op = 0x02 then outClassOk t (wFn w)
  else true

/-- Check 7 (02 R64-R65, 03 R91, 10 R352, 11 R379) against a topology (20 R610). Of two ranges that overlap, the later entry is
named (log entry 122). -/
def Dev.outputsFail (d : Dev) (u : Topo) (g : Prog) (e : Nat) : Option VerFail :=
  let t := g.entry e
  (entryFail 9 e (!(t.outs.all (fun o => outClassOk t o.cls && d.rangeOk u o)) || (t.splitOk && t.cls == 0))).or
    ((g.codeFail 9 e (fun _ w => !outWordOk t w)).or
      (entryFail 9 e (!(g.checked.all (fun f =>
        decide (e ≤ f) || g.same e f || (g.entry f).outs.all (fun y => t.outs.all (fun x => !outMeet x y)))))))

/-- A byte of an absent unit's block, an absent port's block or the TWIN block of a single device (00 R11). -/
def Dev.absentUnit (d : Dev) (a : Nat) : Bool :=
  if 0x40030000 ≤ a ∧ a < 0x4003C000 then decide (d.rings ≤ (a - 0x40030000) / 0x400)
  else if 0x40090000 ≤ a ∧ a < 0x400A0000 then !d.isTwin
  else if 0x400A0000 ≤ a ∧ a < 0x400E0000 then !d.hasCan ((a - 0x400A0000) / 0x10000) else false

/-- Check 8 (00 R11, 02 R63): ports, output ranges, constant outputs and windows of absent units. -/
def Dev.absentFail (d : Dev) (g : Prog) (e : Nat) : Option VerFail :=
  let t := g.entry e
  (entryFail 10 e (!(decide (t.ports < 2 ^ d.rings))
      || t.outs.any (fun o => (span o.first (o.last + 1 - o.first)).any (d.outAbsent o.cls))
      || t.wins.any (fun x => decide (0x40000000 ≤ x.base) && decide (x.base < 0x40130000)
           && (List.range (x.len / 64)).any (fun k => d.absentUnit (x.base + 64 * k))))).or
    (g.codeFail 10 e (fun _ w => wOp w == 0x31 && d.outAbsent (wB w) (wImm w)))

/-- The WAITTs of a task, with their indices and operands. -/
def Prog.waitsOf (g : Prog) (e : Nat) : List (Nat × Nat) :=
  match taskRes (g.codeOf e (g.entry e)) with
  | none => []
  | some r => r.waits

/-- The worst-case cycles of a task's segments (03 R98). -/
def Prog.costsOf (g : Prog) (e : Nat) : List Nat :=
  match taskRes (g.codeOf e (g.entry e)) with
  | none => []
  | some r => r.costs

/-- Check 9 (03 R90, R98): the count of segments, then each segment's cycles. -/
def Prog.segmentFail (g : Prog) (e : Nat) : Option VerFail :=
  let t := g.entry e
  let ws := g.waitsOf e
  if !(ws.length + 1 == t.segs) then some { detail := 11, entry := e, addr := g.at_ e 0 }
  else ((List.range t.segs).find? (fun k => decide (t.budgets.getD k 0 < (g.costsOf e).getD k 0))).map
    (fun k => { detail := 11, entry := e, addr := g.at_ e (if k = 0 then 0 else (ws.getD (k - 1) (0, 0)).1 + 1) })

/-- The sum of a list. -/
def sumNat (l : List Nat) : Nat := l.foldl (· + ·) 0

/-- Check 10 (02 R78, 03 R99): each WAITT's operand, then the task's span. -/
def Prog.spanFail (g : Prog) (e : Nat) : Option VerFail :=
  let t := g.entry e
  let ws := g.waitsOf e
  let w := sumNat (ws.map (fun x => x.2))
  let k := t.offset + t.period * ((g.t - 1 - t.offset) / t.period)
  match ws.find? (fun x => x.2 == 0 || decide (79 < x.2)) with
  | some x => some { detail := 12, entry := e, addr := g.at_ e x.1 }
  | none =>
    if t.offset ≤ g.t - 1 then (if g.t - 1 < k + w ∨ t.period ≤ w then some { detail := 12, entry := e, tick := k + w } else none)
    else if t.period ≤ w then some { detail := 12, entry := e, tick := w } else none

/-- Segment `j` of a task can run in tick `k` (03 R88, R90). -/
def Prog.segIn (g : Prog) (e k j : Nat) : Bool :=
  let t := g.entry e
  let s := sumNat (((g.waitsOf e).map (fun x => x.2)).take j)
  decide (t.offset + s ≤ k) && (k - s - t.offset) % t.period == 0

/-- The budgets of a task's segments that run in tick `k` (03 R100). -/
def Prog.tickLoad (g : Prog) (e k : Nat) : Nat :=
  sumNat ((List.range (g.entry e).segs).map (fun j => if g.segIn e k j then (g.entry e).budgets.getD j 0 else 0))

/-- A task activates in scan `s`; with `every` each scan counts (03 R100). -/
def Prog.inScan (g : Prog) (every : Bool) (e s : Nat) : Bool := every || s % ((g.entry e).sdivm1 + 1) == (g.entry e).sphase

/-- The scans and ticks over which a pair's ticks are judged, and whether each task counts in every scan (03 R100). L is taken over
the SDIV values of the pair's own list, a DESIGN CHOICE (log entry 154): the rule says only "in use". -/
def Prog.tickScope (g : Prog) (l : List Nat) : List Nat × List Nat × Bool :=
  let m := l.foldl (fun a e => Nat.lcm a ((g.entry e).sdivm1 + 1)) 1
  let every := decide (4096 < m)
  (List.range (if every then 1 else m), List.range (max g.t 80), every)

/-- The first tick that does not fit for the entries of a list (03 R100). -/
def Prog.fullTick (g : Prog) (l : List Nat) : Option Nat :=
  let x := g.tickScope l
  x.2.1.find? (fun k => x.1.any (fun s =>
    decide (144000 < sumNat ((l.filter (fun e => g.inScan x.2.2 e s)).map (fun e => g.tickLoad e k)))))

/-- The enabled entries of a pair. -/
def Prog.enabled (g : Prog) (p : Nat) : List Nat := (span (64 * p) 64).filter (fun e => (g.entry e).en)

/-- Check 11 for a pair (03 R97, R100). -/
def Prog.tickFail (g : Prog) (detail p : Nat) (l : List Nat) : Option VerFail :=
  (g.fullTick l).map (fun k => { detail := detail, entry := 64 * p, tick := k })

/-- Check 12 (03 R97): an entry and its migration entry count once. -/
def Prog.tagsOk (g : Prog) (n : Nat) : Bool :=
  let l := g.checked.filter (fun e => (g.entry e).ports.testBit n && ((g.entry e).en || !(g.entry (e ^^^ 64)).en))
  decide (sumNat (l.map (fun e => (g.entry e).tags)) ≤ 960)

/-- A pair holds a MANAGEMENT task that contains SPLIT (03 R97). -/
def Prog.splits (g : Prog) (p : Nat) : Bool :=
  (g.enabled p).any (fun e => (g.entry e).cls == 2 && (g.codeOf e (g.entry e)).any (fun w => wOp w == 0x39))

/-- The migration entry of an entry is as 12 R408 says: not enabled, MIGR set, class, fault action, timing, budgets, windows, outputs
and code the same. -/
def Prog.placed (g : Prog) (e : Nat) : Bool :=
  let t := g.entry e
  let m := g.entry (e ^^^ 64)
  g.migrEntry (e ^^^ 64) && m.cls == t.cls && m.fact == t.fact && m.fzones == t.fzones && m.segs == t.segs && m.period == t.period
    && m.offset == t.offset && m.sdivm1 == t.sdivm1 && m.sphase == t.sphase && m.codeLen == t.codeLen && m.budgets == t.budgets
    && m.outs == t.outs && m.wins == t.wins && g.codeOf (e ^^^ 64) m == g.codeOf e t

/-- The SAFETY tasks of a pair. -/
def Prog.safety (g : Prog) (p : Nat) : List Nat := (g.enabled p).filter (fun e => (g.entry e).cls == 0)

/-- Check 13 for a pair (03 R97, 12 R408): SAFETY tasks of a pair that may split have MIGR, an enabled entry with MIGR has its place,
and the other pair's ticks fit with the tasks that migrate. -/
def Prog.migrationFail (g : Prog) (p : Nat) : Option VerFail :=
  (((g.enabled p).find? (fun e => ((g.entry e).migr && !g.placed e) || (g.splits p && (g.entry e).cls == 0 && !(g.entry e).migr))).map
    (fun e => { detail := 15, entry := e })).or
    (if g.splits p then g.tickFail 15 (1 - p) (g.enabled (1 - p) ++ (g.safety p).map (fun e => e ^^^ 64)) else none)

/-- The tasks that a pair's ticks may hold: its enabled ones, and the migration entries of a pair that may split (12 R408). -/
def Prog.hosted (g : Prog) (p : Nat) : List Nat :=
  g.enabled p ++ (if g.splits (1 - p) then (g.safety (1 - p)).map (fun e => e ^^^ 64) else [])

/-- The end bound of segment `j` of entry `e` among the tasks of a list, in cycles of 600 MHz from its tick's start (03 R94): the
reserve and the budgets of the segments that run up to and including it, in the worst tick. -/
def Prog.endBound (g : Prog) (l : List Nat) (e j : Nat) : Nat :=
  let x := g.tickScope l
  let rank := fun (f : Nat) => (g.entry f).rank (g.migrEntry f) f
  let before := l.filter (fun f => decide (rank f < rank e))
  let loads := (x.2.1.filter (fun k => g.segIn e k j)).flatMap (fun k =>
    (x.1.filter (g.inScan x.2.2 e)).map (fun s => sumNat ((before.filter (fun f => g.inScan x.2.2 f s)).map (fun f => g.tickLoad f k))))
  6000 + loads.foldl max 0 + (g.entry e).budgets.getD j 0

/-- The verifier's report of every segment of a set: entry, segment, end bound (03 R94). -/
def Prog.bounds (g : Prog) : List (Nat × Nat × Nat) :=
  [0, 1].flatMap (fun p => (g.hosted p).flatMap (fun e => (List.range (g.entry e).segs).map (fun j => (e, j, g.endBound (g.hosted p) e j))))

/-- Checks 2 to 13 of 03 R97 in their order, against a topology (20 R610). `resOk` tells whether an entry's reserved fields are 0. -/
def Dev.verifySet (d : Dev) (u : Topo) (g : Prog) (resOk : Nat → Bool) : Option VerFail :=
  let l := g.checked
  [l.findSome? (fun e => entryFail 4 e (!(resOk e && g.tableOk e))),
   l.findSome? (fun e => g.codeFail 5 e (fun _ w => (wordInfo w).isNone)),
   if g.level = 1 ∨ g.level = 2 then l.findSome? g.levelFail else some { detail := 6 },
   l.findSome? g.flowFail, l.findSome? (fun e => entryFail 8 e (!g.windowsOk d.rings e)), l.findSome? (d.outputsFail u g),
   l.findSome? (d.absentFail g), l.findSome? g.segmentFail, l.findSome? g.spanFail,
   [0, 1].findSome? (fun p => g.tickFail 13 p (g.enabled p)),
   if (List.range 48).all g.tagsOk then none else some { detail := 14 },
   [0, 1].findSome? g.migrationFail].findSome? id

/-- The topology that a program set is verified against: the pending one, or the one in force (20 R610). -/
def Dev.verTopo (d : Dev) : Topo :=
  match d.img.pendTopo with
  | some x => x.1
  | none => d.topo

/-- Words of an image from byte `o`. -/
def imgWords (b : List Nat) (o n : Nat) : List Nat := (List.range n).map (fun i => wordAt (b.drop o) i)

/-- Header rules of 03 R102 for a program set. -/
def progHeaderOk (b : List Nat) : Bool :=
  let w := fun (o : Nat) => wordAt b (o / 4)
  let alg := w 4 / 16 % 16
  let len := w 8
  w 0 == 0x54424E01 && w 4 / 65536 == 1 && decide (1 ≤ alg) && decide (alg ≤ 3) && len + sigLen alg == b.length
    && decide (b.length ≤ 0x20000) && decide (64 ≤ len) && decide (w 0x10 + 0x8000 ≤ len)
    && decide (w 0x14 + w 0x18 ≤ len) && w 0x18 % 4 == 0 && decide (w 0x18 ≤ 16384)
    && decide (w 0x1C + w 0x20 ≤ len) && w 0x20 % 4 == 0 && decide (w 0x20 ≤ 16384)
    && decide (w 0x24 + w 0x28 ≤ len) && w 0x28 % 64 == 0 && w 0x2C % 64 == 0 && decide (w 0x2C + w 0x28 ≤ 0x00400000)
    && decide (10 ≤ w 0x30 / 2 ^ 20) && decide (w 0x30 / 2 ^ 20 ≤ 4000) && w 0x30 % 2 ^ 20 == 0
    && w 0x34 == 0 && w 0x38 == 0 && w 0x3C == 0

/-- The program set of an image whose header holds (03 R95, R102), and whether each entry's reserved fields are 0. -/
def parseProg (b : List Nat) : Prog × (Nat → Bool) :=
  let w := fun (o : Nat) => wordAt b (o / 4)
  let ent := fun (e : Nat) => parseEntry ((b.drop (w 0x10 + 256 * e)).take 256)
  let ts := (List.range 128).foldl (fun (m : FMap TaskEnt) e => FMap.set (fun _ => {}) m e (ent e).1) []
  let g : Prog := { ver := w 0xC, level := w 4 / 256 % 256, t := w 0x30 / 2 ^ 20, tasks := ts,
                    code0 := imgWords b (w 0x14) (w 0x18 / 4), code1 := imgWords b (w 0x1C) (w 0x20 / 4),
                    data := (b.drop (w 0x24)).take (w 0x28), dest := w 0x2C }
  ({ g with migrates := [0, 1].filter g.splits }, fun e => (ent e).2)

/-- The verifier (03 R97): the set, or why it is rejected. `sig` tells that the signature verifies under an enrolled Integrator key. -/
def Dev.verify (d : Dev) (b : List Nat) (sig : Bool) : Sum VerFail Prog :=
  if !progHeaderOk b then .inl { detail := 1 }
  else if !(wordAt b 1 % 16 == 3) || !sig then .inl { detail := 2 }
  else if wordAt b 3 < d.hwd.floor 2 then .inl { detail := 3 }
  else
    let r := parseProg b
    match d.verifySet d.verTopo r.1 r.2 with
    | some f => .inl f
    | none => .inr r.1

end Sys2Proof.Machine
end

