-- ==== Sys2Proof/Machine/Images.lean ====
section
/-! DEFINITION. Images: the transfer over FSP, Heartwood's checks, switch-overs and the boot of Heartwood (03 R97-R104, 07 R237-R243,
08 R279-R281, 13 R443-R448, 14 R491). Kinds: 0 envelope, 1 chemistry, 2 program set, 3 topology, 4 firmware (log entry 60). -/

namespace Sys2Proof.Machine
open Sys2Proof

/-- The little-endian words of bytes. -/
def wordsOf (b : List Nat) : List Nat :=
  match b with
  | a :: b :: c :: d :: rest => ofLe [a, b, c, d] :: wordsOf rest
  | _ => []

/-- Field `hi..lo` of a word. -/
def wf (w hi lo : Nat) : Nat := w / 2 ^ lo % 2 ^ (hi + 1 - lo)

/-- The 64-byte header of an image: magic, SIGNER, and the rules that every header shares (03 R102, 07 R237, 08 R279, 13 R445, R447);
`slot` is the space of its MRAM slot with the signature (15 R519). -/
def imgHeaderOk (b : List Nat) (magic signer slot : Nat) : Bool :=
  let w := fun (i : Nat) => wordAt b i
  let alg := wf (w 1) 7 4
  w 0 == magic && wf (w 1) 31 16 == 1 && wf (w 1) 15 8 == 0 && decide (1 ≤ alg) && decide (alg ≤ 3) && wf (w 1) 3 0 == signer
    && decide (64 ≤ w 2) && w 2 + sigLen alg == b.length && decide (b.length ≤ slot)
    && (List.range 11).all (fun i => w (5 + i) == 0)

/-- The signature verifies under a key enrolled for the role (13 R443-R444): roles 1 to 3. -/
def Dev.signedBy (d : Dev) (role key : Nat) : Bool :=
  !(key == 0) && (if role = 1 then (List.range 4).any (fun k => Config.melferKeys.getD k 0 == key && !d.hwd.revoked.testBit k)
    else (List.range 2).any (fun k => FMap.get (fun _ => 0) d.hwd.roleKeys (2 * (role - 2) + k) == key))

/-- The bytes that the signature covers. -/
def imgBody (b : List Nat) : List Nat := b.take (wordAt b 2)

/-- A check record of an envelope (07 R238) and whether its fields lie in their ranges. Kind 7 is reserved. -/
def parseEnvRec (k : Nat) (w : List Nat) : EnvRec × Bool :=
  let c := w.getD 2 0
  let r : EnvRec := { thr := signedField 32 (w.getD 0 0), hyst := w.getD 1 0, en := wf c 31 31 == 1, invact := wf c 28 28 == 1,
                      blockScope := wf c 24 24 == 1, cap := wf c 23 16, lim := wf c 15 8, icond := signedField 32 (w.getD 3 0) }
  let res := wf c 30 29 == 0 && wf c 27 25 == 0 && wf c 7 0 == 0 && (k == 3 || w.getD 3 0 == 0)
  (r, res && (if k = 7 then !r.en else decide (1 ≤ r.lim) && decide (r.lim ≤ 8) && decide (r.lim ≤ r.cap) && decide (r.cap ≤ 16)))

/-- The sets of an envelope image, when every check of it holds (07 R237-R238, R243; 13 R444). -/
def Dev.checkEnv (d : Dev) (b : List Nat) (key : Nat) : Option (List (List EnvRec)) :=
  let n := wordAt b 4
  if imgHeaderOk b 0x4C304501 2 0x2000 && decide (1 ≤ n) && decide (n ≤ 8) && wordAt b 2 == 64 + 128 * n && d.signedBy 2 key
      && decide (d.hwd.floor 0 ≤ wordAt b 3) then
    let ws := (wordsOf b).drop 16
    let recs := (List.range n).map (fun s => (List.range 8).map (fun k => parseEnvRec k ((ws.drop (32 * s + 4 * k)).take 4)))
    if recs.all (fun l => l.all (fun x => x.2)) then some (recs.map (fun l => l.map (fun x => x.1))) else none
  else none

/-- Set of a chemistry image from its words (08 R280). -/
def parseChem (w : List Nat) : Chem :=
  let u := fun (o : Nat) => w.getD (o / 4) 0
  let s := fun (o : Nat) => signedField 32 (u o)
  let grid := fun (o n : Nat) => ((w.drop (o / 4)).take (16 * n)).map (signedField 32)
  let ugrid := fun (o n : Nat) => ((w.drop (o / 4)).take (16 * n)).map (fun (x : Nat) => (x : Int))
  { setid := u 0, qnom := s 4, eta := s 8, gamma := s 0xC,
    taxis := (List.range 16).map (fun i => signedField 16 (u (0x10 + 2 * i) / 2 ^ (16 * (i % 2)) % 65536)),
    qz := s 0x30, qv := s 0x34, qh := s 0x38, rv := s 0x3C, pz0 := s 0x40, pv0 := s 0x44, ph0 := s 0x48, gate := s 0x4C,
    zmin := s 0x50, zmax := s 0x54, qzfault := s 0x58, nrejmax := u 0x5C % 256, ocv := grid 0x80 101, rser := grid 0x19C0 21,
    ra := grid 0x1F00 21, ca := ugrid 0x2440 21, rb := grid 0x2980 21, cb := ugrid 0x2EC0 21, m := grid 0x3400 21 }

/-- Consecutive elements are in the relation. -/
def rising (lt : Int → Int → Bool) (l : List Int) : Bool :=
  match l with
  | a :: b :: rest => lt a b && rising lt (b :: rest)
  | _ => true

/-- The rules of 08 R281 for one set. -/
def chemOk (w : List Nat) (c : Chem) : Bool :=
  let pos := fun (l : List Int) => l.all (fun x => decide (0 < x))
  let nn := fun (l : List Int) => l.all (fun x => decide (0 ≤ x))
  rising (fun a b => decide (a < b)) c.taxis && c.taxis.all (fun t => decide (-5000 ≤ t) && decide (t ≤ 10000))
    && (List.range 16).all (fun k => rising (fun a b => decide (a ≤ b)) ((List.range 101).map (fun i => c.ocv.getD (16 * i + k) 0)))
    && nn c.rser && nn c.ra && nn c.rb && nn c.m && pos c.ca && pos c.cb && decide (0 < c.qnom)
    && decide (9 * 2 ^ 30 ≤ 10 * c.eta) && decide (c.eta ≤ 2 ^ 30)
    && pos [c.qz, c.qv, c.qh, c.rv, c.pz0, c.pv0, c.ph0, c.qzfault]
    && decide (-(2 ^ 30) ≤ c.zmin) && decide (c.zmin ≤ 0) && decide (2 ^ 30 ≤ c.zmax) && decide (10 * c.zmax ≤ 19 * 2 ^ 30)
    && decide (65536 ≤ c.gate) && decide (1 ≤ c.nrejmax) && w.getD 23 0 / 256 == 0 && (List.range 8).all (fun i => w.getD (24 + i) 0 == 0)

/-- The sets of a chemistry image, when every check of it holds (08 R279-R281, 13 R444). -/
def Dev.checkChem (d : Dev) (b : List Nat) (key : Nat) : Option (List Chem) :=
  let n := wordAt b 4
  if imgHeaderOk b 0x43484501 2 0x1E000 && decide (1 ≤ n) && decide (n ≤ 8) && wordAt b 2 == 64 + 14656 * n && d.signedBy 2 key
      && decide (d.hwd.floor 1 ≤ wordAt b 3) then
    let ws := (wordsOf b).drop 16
    let sets := (List.range n).map (fun s => (ws.drop (3664 * s)).take 3664)
    if sets.all (fun w => chemOk w (parseChem w)) then some (sets.map parseChem) else none
  else none

/-- The envelope and chemistry sets that a topology is held against: those accepted last. -/
def Dev.lastEnv (d : Dev) : List (List EnvRec) := match d.img.pendEnv with | some x => x.1 | none => d.prot.env

/-- The chemistry sets accepted last. -/
def Dev.lastChem (d : Dev) : List Chem := match d.img.pendChem with | some x => x.1 | none => d.cnpy.chem

/-- A number lies in a closed range. -/
def inR (a b x : Nat) : Bool := decide (a ≤ x) && decide (x ≤ b)

/-- A ring's configuration obeys 04 R151, 07 R237, 09 R303 on this variant. -/
def Dev.ringTopoOk (d : Dev) (t : Topo) (p : Nat × RingCfg) : Bool :=
  let r := p.2
  let env := d.lastEnv.getD r.envSet []
  let s := t.sets.getD r.chemSet {}
  !r.en || (decide (p.1 < d.rings) && decide (r.lm1 < 64) && inR 2 3 r.vcap && decide (r.zones < 256)
    && decide (r.envSet < d.lastEnv.length) && decide (r.chemSet < d.lastChem.length) && decide (r.chemSet < t.sets.length)
    && (match env.head? with | some e => !e.en || (decide (s.vchmax * 10000 ≤ e.thr * 2 ^ 28) && decide (s.vdsmin * 10000 ≤ e.thr * 2 ^ 28)) | none => true)
    && (match (env.drop 1).head? with | some e => !e.en || (decide (e.thr * 2 ^ 28 ≤ s.vdsmin * 10000) && decide (e.thr * 2 ^ 28 ≤ s.vchmax * 10000)) | none => true))

/-- Channel `n` of a topology obeys 11 R378. -/
def Dev.lswTopoOk (d : Dev) (t : Topo) (n : Nat) : Bool :=
  let w := t.lswCfg.getD n 0
  !w.bit 31 || (d.hasLsw n && !(w.bit 30 && w.bit 27) && !(w.field 29 28 == 3) && inR 1 15 (w.field 23 20) && inR 1 100 (w.field 19 12)
    && inR 1 25 (w.field 5 0) && (!w.bit 30 || inR 1 25 (w.field 11 6)))

/-- At most four evaluations fall in any 10 µs frame, no CPWM output has two loops, and only loop 15 drives the buck (10 R362). -/
def loopsTopoOk (pcen : Bool) (l : List LoopCfg) : Bool :=
  let own := fun (p : Nat × LoopCfg) => if pcen && (p.1 == 14 || p.1 == 15) then (p.1, LoopCfg.cascade p.2) else p
  let on := (((List.range 16).zip (padTo 16 {} l)).map own).filter (fun p => p.2.en)
  let m := on.foldl (fun a p => Nat.lcm a p.2.per) 1
  on.all (fun p => inR 1 1000 p.2.per && decide (p.2.ph < p.2.per) && decide (p.2.src ≤ 9) && decide (p.2.sink ≤ 3) && decide (p.2.sinkIx ≤ 15)
      && (!(p.2.sink == 1) || (inR 1 100 p.2.fpwm && decide (p.2.sinkIx < 8))) && (!(p.2.sink == 2) || p.1 == 15)
      && (!(p.2.sink == 3) || decide (p.1 < p.2.sinkIx)) && decide (p.2.umin ≤ p.2.umax) && decide (0 ≤ p.2.felim)
      && decide (0 ≤ p.2.fehyst) && inR 1 65535 p.2.fetime && decide (p.2.feact ≤ 2))
    && on.all (fun p => on.all (fun q => p.1 == q.1 || !(p.2.sink == 1 && q.2.sink == 1 && p.2.sinkIx == q.2.sinkIx)))
    && (List.range m).all (fun f => decide ((on.filter (fun p => f % p.2.per == p.2.ph)).length ≤ 4))

/-- A CAN timing obeys 14 R472. -/
def canTimingOk (nbt dbt : Word) : Bool :=
  let nq := (nbt.field 31 27 + 1) * (1 + (nbt.field 26 20 + 1) + (nbt.field 19 14 + 1))
  let dq := (dbt.field 31 27 + 1) * (1 + (dbt.field 26 22 + 1) + (dbt.field 21 18 + 1))
  decide (80 ≤ nq) && decide (10 ≤ dq) && decide (1 ≤ nbt.field 26 20) && decide (nbt.field 13 8 ≤ nbt.field 19 14)
    && decide (dbt.field 17 14 ≤ dbt.field 21 18)

/-- The parameters of a topology lie in the ranges of their tables (06 R201, 07 R245, R250, 09 R303, 10 R349, 11 R390, 14 R472, R481-R485,
16 R549). -/
def topoRanges (t : Topo) : Bool :=
  inR 50 500 t.rbal && decide (t.rsh ≤ 100) && inR 1 1000 t.qdead && inR 10 3600 t.balper && decide (t.tbal ≤ 85) && inR 100 10000 t.lossto
    && inR 10737418 214748365 t.dzcd.toNat && inR 274878 2748779069 t.pzobs.toNat && inR 107374182 966367642 t.dzobs.toNat
    && t.sets.all (fun s => inR 0 214748365 s.zlo.toNat && decide (0 ≤ s.zlo) && inR 858993459 1073741824 s.zhi.toNat && decide (s.vdsmin ≤ s.vshut))
    && decide (t.balmode ≤ 1) && inR 1 255 t.blkz && decide (t.safez < 256) && (t.safez &&& t.blkz) == t.blkz && decide (t.gzone < 256)
    && decide (t.gmarg ≤ 20) && inR 1 1000 t.gabs && decide (t.ggrace ≤ 5000)
    && decide (t.fres ≤ 300) && inR 50 100 t.ksh && inR 1 1000 t.irest && inR 1 63 t.agemax && inR 1 8 t.gq && inR 1 8 t.gqr
    && inR 4 16 t.gr && decide (t.gri ≤ 4) && inR 1 1000 t.irmin && inR 10 10080 t.impint && inR 1 240 t.imparm && inR 1 100 t.resmax
    && inR 50 1500 t.vbusmin && inR 20 500 t.tpull && inR 20 100 t.econ && inR 20 500 t.tclose && inR 20 500 t.topen && inR 1 100 t.iopen
    && inR 1 100 t.isopen && decide (t.tiopen ≤ 5000) && inR 100 60000 t.tramp && decide (t.tlink ≤ 60) && inR 1 600 t.thold
    && (!t.pcen || inR 1 1000 t.clink) && inR 2 80 t.ipcmax && inR 50 98 t.dmax && inR 100 250 t.fpwm && inR 50 500 t.deadt
    && [t.tpull, t.tclose, t.topen, t.tramp, t.tspre, t.tvsd, t.deadt].all (fun x => x % 10 == 0) && t.tiopen % 100 == 0 && inR 50 2000 t.tspre && inR 1 50 t.vsmatch
    && inR 10 1000 t.tvsd && inR 5 100 t.lhWdt && decide (t.twatch ≤ 1440) && inR 2 60 t.isoCycle && decide (t.profiles.length ≤ 8)
    && t.pbase % 32 == 0 && inR 1 2 t.pmax && inR 1 100 t.pdiv && inR 100 10000 t.pto && decide (t.pform ≤ 2) && inR 1 3 t.fspmax
    && t.lhMap.all (fun x => match x with | none => true | some b => decide (b < 8))

/-- A topology breaks no rule of the chapters that define its parameters, and suits the device's strap (13 R447, 14 R470). -/
def Dev.topoOk (d : Dev) (t : Topo) : Bool :=
  topoRanges t && t.twin == d.isTwin && t.rings.all (d.ringTopoOk t) && (List.range 32).all (d.lswTopoOk t) && loopsTopoOk t.pcen t.loops
    && (List.range 4).all (fun c => decide (t.cans.length ≤ c) || d.hasCan c)
    && ((t.canNbt.zip t.canDbt).all (fun p => canTimingOk p.1 p.2)) && d.hasCan t.dispCtl

/-- The records of a topology body (13 R447): type, length and words; the last one ends exactly at the body's end. `n` bounds their number. -/
def topoRecords (n : Nat) (b : List Nat) : Option (List (Nat × List Nat)) :=
  match n, b with
  | _, [] => some []
  | n + 1, t0 :: t1 :: l0 :: l1 :: rest =>
    let ty := ofLe [t0, t1]
    let len := ofLe [l0, l1]
    if 1 ≤ ty ∧ ty ≤ 9 ∧ len % 4 = 0 ∧ len ≤ rest.length then (topoRecords n (rest.drop len)).map (fun l => (ty, wordsOf (rest.take len)) :: l)
    else none
  | _, _ => none

/-- The topology of an image, when every check of it holds (13 R444, R447). -/
def Dev.checkTopo (d : Dev) (b : List Nat) (key : Nat) : Option Topo :=
  if imgHeaderOk b 0x544F5001 3 0x10000 && decide (wordAt b 4 ≤ 1) && wordAt b 2 % 4 == 0 && d.signedBy 3 key
      && decide (d.hwd.floor 3 ≤ wordAt b 3) then
    match (topoRecords b.length ((imgBody b).drop 64)).bind Config.parseTopology with
    | none => none
    | some t =>
      let t := { t with ver := wordAt b 3, twin := wordAt b 4 == 1 }
      if d.topoOk t then some t else none
  else none

/-- The firmware of an image, when every check of it holds (13 R444-R445). -/
def Dev.checkFw (d : Dev) (b : List Nat) (key : Nat) : Option Fw :=
  let w := fun (i : Nat) => wordAt b i
  if w 0 == 0x46574D01 && w 1 == 0x00010021 && decide (64 ≤ w 2) && w 2 + 96 == b.length && decide (b.length ≤ 0xC0000)
      && wf (w 4) 15 8 == 0 && (List.range 11).all (fun i => w (5 + i) == 0) && d.signedBy 1 key && decide (d.fld A.hwdStat 15 8 ≤ w 4 % 256) then
    some { valid := true, release := w 3, twinLevel := wf (w 4) 31 16, svn := w 4 % 256, hash := sha256 (imgBody b) }
  else none

/-- Raise a kind's floor on acceptance (13 R444). -/
def Dev.raiseFloor (k v : Nat) (d : Dev) : Dev := { d with hwd := { d.hwd with floors := FMap.set (fun _ => 0) d.hwd.floors k v } }

/-- The event that reports an image of a kind (03 R101, 07 R258, 08 R296, 13 R468). -/
def imgEvent (k : Nat) : Nat := if k = 0 then 169 else if k = 1 then 192 else if k = 2 then 380 else 307

/-- Report an image: its event, without an EVENT record, and an IMAGE record (15 R524, R532). -/
def Dev.noteImage (k st ver : Nat) (d : Dev) : Dev := (d.raiseNoLog (imgEvent k)).logRec 5 (imgEvent k) ([k, st, 0, 0] ++ leBytes 4 ver) []

/-- The first scan at least 2 scans after acceptance (03 R104). -/
def Dev.switchScan (d : Dev) : Nat := (d.scan + 2) % 2 ^ 32

/-- The detail code of an image that is no program set: the manual lists none (log entry 61). -/
def Dev.freeDetail (d : Dev) : Nat := 1 + (Config.freeWord d.freeCnt).toNat % 255

/-- A rejected image of a kind that has no listed detail codes. -/
def Dev.rejectImage (k ver : Nat) (d : Dev) : Dev × Nat := ((d.noteImage k d.freeDetail ver).takeFree, d.freeDetail)

/-- A rejected program set (03 R101): event 380 and a VERIFY record. -/
def Dev.rejectProg (f : VerFail) (d : Dev) : Dev × Nat :=
  ((d.raiseNoLog 380).logRec 3 380 ([f.detail, f.entry % 256] ++ leBytes 2 f.tick ++ leBytes 4 f.addr) [], f.detail)

/-- An image of kind `k` is accepted: its version and its key stand with the pending one. -/
def ImgSt.accepted (k v key : Nat) (i : ImgSt) : ImgSt :=
  { i with vers := FMap.set (fun _ => 0) i.vers (4 + k) v, signers := FMap.set (fun _ => 0) i.signers (4 + k) key }

/-- The pending image of kind `k`, with digest `h`, is the one in force in MRAM from now on. -/
def ImgSt.settle (k : Nat) (h : List Nat) (i : ImgSt) : ImgSt :=
  { i with digs := FMap.set (fun _ => []) i.digs k h,
           vers := FMap.set (fun _ => 0) i.vers k (FMap.get (fun _ => 0) i.vers (4 + k)),
           signers := FMap.set (fun _ => 0) i.signers k (FMap.get (fun _ => 0) i.signers (4 + k)) }

/-- The digest of the image of kind `k` in force in MRAM. -/
def ImgSt.dig (k : Nat) (i : ImgSt) : List Nat := FMap.get (fun _ => []) i.digs k

/-- An image of kind `k` was accepted: the partner hears of it, with the first scan it may take effect (03 R104). -/
def Dev.tellImage (k : Nat) (h : List Nat) (due : Nat) (d : Dev) : Dev := d.moorSend (.image k h due)

/-- Heartwood judges an image (13 R444): the device after it, and 0 or the detail code. In recovery it serves firmware only (R448). A MAGIC
that names no kind of image gives detail HEADER (03 R101; DEDUCED, log entry 155). -/
def Dev.takeImage (b : List Nat) (key : Nat) (d : Dev) : Dev × Nat :=
  let m := if d.hwd.recovery then 0x46574D01 else wordAt b 0
  let v := wordAt b 3
  let h := sha256 (imgBody b)
  let due := d.switchScan
  let put := fun (k : Nat) (i : ImgSt) => (((({ d with img := i.accepted k v key }.raiseFloor k v).noteImage k 0 v).tellImage k h due), 0)
  if m = 0x4C304501 then match d.checkEnv b key with
    | none => d.rejectImage 0 v
    | some x => put 0 { d.img with pendEnv := some (x, v, h, due) }
  else if m = 0x43484501 then match d.checkChem b key with
    | none => d.rejectImage 1 v
    | some x => put 1 { d.img with pendChem := some (x, v, h, due) }
  else if m = 0x544F5001 then match d.checkTopo b key with
    | none => d.rejectImage 3 v
    | some x => put 3 { d.img with pendTopo := some (x, h, due) }
  else if m = 0x54424E01 then match d.verify b (d.signedBy 3 key) with
    | .inl f => d.rejectProg f
    | .inr g => ((({ d with img := { d.img with pendProg := some (g, h, due), bounds := g.bounds }.accepted 2 v key }.raiseFloor 2 v).logRec 5 0xFFFF ([2, 0, 0, 0] ++ leBytes 4 v) []).tellImage 2 h due, 0)
  else if ¬(m = 0x46574D01) then d.rejectProg { detail := 1 }
  else match d.checkFw b key with
    | none => (d.takeFree, d.freeDetail)
    | some f =>
      let k := 1 - b2n (d.rbit A.hwdStat 27)
      (({ d with hwd := { d.hwd with fw := FMap.set fwFactory d.hwd.fw k f } }).logRec 5 0xFFFF ([4, 0, 0, 0] ++ leBytes 4 f.release) [], 0)

/-- Where an image of a magic number waits in MRAM (15 R519): start and size of the pending area, and of the area in force, which lies
before it (log entry 62). Firmware goes to the slot that does not run. -/
def Dev.imgArea (d : Dev) (magic : Nat) : Nat × Nat :=
  if magic = 0x4C304501 then (0x201C2000, 0x2000) else if magic = 0x43484501 then (0x201F2000, 0x1E000)
  else if magic = 0x544F5001 then (0x201B0000, 0x10000) else if magic = 0x54424E01 then (0x20230000, 0x20000)
  else (if d.rbit A.hwdStat 27 then 0x20000000 else 0x200C0000, 0xC0000)

/-- Write the bytes of an accepted image into its MRAM area. -/
def State.storeImage (b : List Nat) (s : State) : State :=
  let a := s.dev.imgArea (wordAt b 0)
  { s with mem := writeBytes a.1 (toBytes b) (zeroRange a.1 a.2 s.mem) }

/-- Memory with `n` bytes copied from `a` to `t`. -/
def copyRange (a t n : Nat) (m : FMap Byte) : FMap Byte :=
  foldOver (m.filter (fun p => decide (a ≤ p.1) && decide (p.1 < a + n))) (fun p m => writeByte (p.1 - a + t) p.2 m) (zeroRange t n m)

/-- A pending image becomes the one in force in MRAM. -/
def State.promote (magic : Nat) (s : State) : State :=
  let a := s.dev.imgArea magic
  { s with mem := copyRange a.1 (a.1 - a.2) a.2 s.mem }

/-- The bytes of a transfer; a byte that was never sent is free (log entry 63). -/
def Transfer.data (x : Transfer) (seed : Nat) : List Nat :=
  (List.range x.len).map (fun i => FMap.get (fun j => (Config.bufferByte (1048576 * seed + j)).toNat) x.bytes i)

/-- IMAGE_BEGIN (R491): the staging area takes 768 KiB of firmware at most; an image of another kind is held to its slot at its end. -/
def execImageBegin (req : Req) (len : Nat) (s : State) : Out :=
  .next (s.fsp req 25 1 (decide (len = 0)) false (fun d =>
    if 0xC0000 < len then (d, 1, []) else
    let other := match d.hwd.xfer with | none => false | some x => !(x.sess == req.sess)
    if other then (d, 8, []) else
    ({ d with hwd := { d.hwd with xfer := some { sess := req.sess, len := len, lastT := d.time.now } } }, 0, [])))

/-- IMAGE_DATA (R491): at most 4,064 B, within the transfer's length. -/
def execImageData (req : Req) (off : Nat) (bytes : List Nat) (s : State) : Out :=
  .next (s.fsp req 25 1 (decide (4064 < bytes.length)) false (fun d =>
    match d.hwd.xfer with
    | none => (d, 8, [])
    | some x =>
      if x.sess ≠ req.sess then (d, 8, [])
      else if x.len < off + bytes.length then (d, 6, [])
      else
        let m := foldOver ((List.range bytes.length).zip bytes) (fun p (m : FMap Nat) => FMap.put m (off + p.1) (p.2 % 256)) x.bytes
        ({ d with hwd := { d.hwd with xfer := some { x with bytes := m, lastT := d.time.now } } }, 0, [])))

/-- The session is one of an Owner key (20 R607). -/
def Dev.ownerSess (d : Dev) (n : Nat) : Bool := match d.session n with | some y => y.owner | none => false

/-- The operation of IMAGE_END: the transfer ends, and Heartwood judges the image. An Owner session may carry Owner records only (20
R607), which are commands of their own (log entry 139). -/
def imageEndOp (req : Req) (key : Nat) : FspOp := fun d =>
  match d.hwd.xfer with
  | none => (d, 8, [])
  | some x =>
    if x.sess ≠ req.sess then (d, 8, []) else
    let d' := { d with hwd := { d.hwd with xfer := none } }
    if d.ownerSess req.sess && !(wordAt (x.data d.freeCnt) 0 == 0x4F574E01) then (d', 4, []) else
    let r := (d'.takeFree).takeImage (x.data d.freeCnt) key
    (r.1, 0, [r.2])

/-- IMAGE_END (R444, R491): an accepted image is written to MRAM, and the authority of a pair sends it to its partner (03 R104, 13 R450; DEDUCED,
log entry 201). -/
def execImageEnd (req : Req) (sigKey : Nat) (s : State) : Out :=
  let t := s.fsp req 25 1 false false (imageEndOp req sigKey)
  .next (match s.dev.hwd.xfer with
    | none => t
    | some x =>
      let b := x.data s.dev.freeCnt
      if t.dev.hwd.xfer = none ∧ t.dev.hwd.reply = (0, [0]) then
        (t.storeImage b).onDev (fun d => if d.authority then d.moorSend (.imageFwd b sigKey) else d)
      else t)

/-- An image that the authority received reaches the partner, whose Heartwood judges it too (13 R444, R450). -/
def State.takeForwarded (b : List Nat) (key : Nat) (s : State) : State :=
  let r := s.dev.takeImage b key
  let t := { s with dev := r.1 }
  if r.2 = 0 then t.storeImage b else t

/-- A transfer idle for 60 s is abandoned (14 R491). -/
def Dev.dropXfer (d : Dev) : Dev :=
  match d.hwd.xfer with
  | none => d
  | some x => { d.at (x.lastT + 60000000000) with hwd := { d.hwd with xfer := none } }

/-- IMAGE_TRANSFER_TIMEOUT (R491). -/
def execImageTransferTimeout (s : State) : Out := .next (s.onDev Dev.dropXfer)

/-- A task of the old set gives up its transactions and jobs as their work completes (02 R75, 03 R104): what is done is freed at once,
what runs is held under a number that no task has. -/
def Port.dropTasks (p : Port) : Port :=
  let mark := fun (t : Txn) => if t.holder = 0 ∨ 1000 ≤ t.holder then t else { t with holder := t.holder + 1000 }
  { p with txns := (p.txns.filter (fun t => t.holder == 0 || !(t.st == 2 || t.st == 3))).map mark }

/-- The same for a pair's Canopy jobs. -/
def EstQ.dropTasks (q : EstQ) : EstQ :=
  { q with jobs := (q.jobs.filter (fun j => decide (j.st < 2))).map (fun j => if 1000 ≤ j.owner then j else { j with owner := j.owner + 1000 }) }

/-- What every switch-over ends with: the block digest, and a retried pairing check (13 R462, 20 R606). -/
def Dev.afterSwitch (d : Dev) : Dev := (d.formBdig).pairRetry

/-- Miss and fault state of entry `e` under a new program set (03 R104, R111). -/
def Dev.clearTask (e : Nat) (d : Dev) : Dev := ((d.setReg (A.sysTstat e) 0).setRbit (A.sysTstat e) 30 (d.task e).en).setReg (A.sysTmiss e) 0

/-- The W1C bits that no master may write: those of SYS, MEM, RING, PROT, TWIN, CAN, ETH, PWR and HWD (19 R598). -/
def stickyBits (a : Nat) : Nat :=
  let b := a / 0x10000
  if b = 0x4000 ∨ b = 0x4002 ∨ b = 0x4003 ∨ b = 0x4005 ∨ (0x4009 ≤ b ∧ b ≤ 0x400F) ∨ b = 0x4011 then
    (match regRow a with | none => 0 | some r => r.w1c)
  else 0

/-- A program switch-over clears them, as the integrator's acknowledgement (04 R157, 19 R598). -/
def Dev.clearSticky (d : Dev) : Dev :=
  foldOver (d.regs.map (fun p : Nat × Word => p.1)) (fun a d =>
    if stickyBits a = 0 then d else d.setReg a (d.reg a &&& ~~~(BitVec.ofNat 32 (stickyBits a)))) d

/-- Digest and earliest scan of the waiting image of kind `k`. -/
def ImgSt.due (k : Nat) (i : ImgSt) : Option (List Nat × Nat) :=
  if k = 0 then i.pendEnv.map (fun x => (x.2.2.1, x.2.2.2)) else if k = 1 then i.pendChem.map (fun x => (x.2.2.1, x.2.2.2))
  else if k = 2 then i.pendProg.map (fun x => (x.2.1, x.2.2)) else i.pendTopo.map (fun x => (x.2.1, x.2.2))

/-- The image of kind `k` that the partner accepted last, with the scan it named (03 R104). -/
def Dev.partnerImage (d : Dev) (k : Nat) : List Nat × Nat := FMap.get (fun _ => ([], 0)) d.twin.imgs k

/-- STANDBY with every main and string contactor open (13 R447). -/
def Dev.mayTopo (d : Dev) : Bool := d.pstate == 3 && d.mainsOpen && d.closedHeads == []

/-- The waiting image of kind `k` takes effect in this scan (03 R104, 07 R243, 08 R281, 13 R447): its scan has come, and in a twin pair both
twins have accepted it and the later of the two scans they named has come. A topology also waits for STANDBY with open contactors. -/
def Dev.imageDue (d : Dev) (k : Nat) : Bool :=
  (match d.img.due k with
    | none => false
    | some (h, due) =>
      let p := d.partnerImage k
      reached d.time.tickScan due && (!d.agreed || (p.1 == h && reached d.time.tickScan p.2))) && (!(k == 3) || d.mayTopo)

/-- It takes effect now: before any task access of tick 0, after those that come first, which are the envelope, the chemistry, the topology
and the program set (20 R610). -/
def Dev.switchNow (d : Dev) (k : Nat) : Bool :=
  let before := if k = 0 then [] else if k = 1 then [0] else if k = 3 then [0, 1] else [0, 1, 3]
  d.tickFresh && d.imageDue k && before.all (fun j => !d.imageDue j)

/-- The partner's acceptance of an image that has taken effect is used up. -/
def Dev.imageUsed (k : Nat) (d : Dev) : Dev :=
  { d with twin := { d.twin with imgs := FMap.set (fun _ => ([], 0)) d.twin.imgs k ([], 0) } }

/-- A program set takes effect (03 R104). -/
def Dev.switchProg (g : Prog) (h : List Nat) (d : Dev) : Dev :=
  let d := { d with img := { d.img with prog := some g, pendProg := none, bootProg := some g }.settle 2 h, hwd := { d.hwd with progh := h },
                    ports := d.ports.map (fun p : Nat × Port => (p.1, p.2.dropTasks)),
                    cnpy := { d.cnpy with q0 := d.cnpy.q0.dropTasks, q1 := d.cnpy.q1.dropTasks } }
  ((((foldOver (List.range 128) Dev.clearTask d).clearSticky).imageUsed 2).raise 381 0).afterSwitch

/-- PROGRAM_SWITCHOVER (R104): at tick 0 of its scan; nothing waits, nothing happens. -/
def execProgramSwitchover (s : State) : Out :=
  .next (match s.dev.img.pendProg with
    | none => s
    | some (g, h, _) =>
      if s.dev.switchNow 2 = false then s else
      let s := s.promote 0x54424E01
      { s with dev := (s.dev.switchProg g h).cleanPoison g.dest g.data.length, mem := writeBytes g.dest (toBytes g.data) s.mem })

/-- A counter of an element, clamped to its new CAP (07 R243); that of a kind not enabled is kept. Keys as in `ProtSt`. -/
def Dev.clampCount (env : List (List EnvRec)) (d : Dev) (m : FMap Nat) : FMap Nat :=
  m.foldl (fun (a : FMap Nat) p =>
    let n := p.1 / 16 / 8 / 64
    let r := (env.getD (d.ringCfgOf n).envSet []).getD (p.1 / 16 % 8) {}
    FMap.set (fun _ => 0) a p.1 (if r.en then min p.2 r.cap else p.2)) []

/-- An envelope takes effect (07 R243). -/
def Dev.switchEnv (x : List (List EnvRec)) (v : Nat) (h : List Nat) (d : Dev) : Dev :=
  let p := { d.prot with env := x, envVer := v, cntA := d.clampCount x d.prot.cntA, cntB := d.clampCount x d.prot.cntB }
  let d := { d with prot := p, img := { d.img with pendEnv := none, bootEnv := some (x, v) }.settle 0 h, hwd := { d.hwd with envh := h } }
  ((d.setRbit A.protStat 30 true).imageUsed 0).afterSwitch

/-- ENVELOPE_SWITCHOVER (R243). -/
def execEnvelopeSwitchover (s : State) : Out :=
  .next (match s.dev.img.pendEnv with
    | none => s
    | some (x, v, h, _) => if s.dev.switchNow 0 then (s.promote 0x4C304501).onDev (Dev.switchEnv x v h) else s)

/-- Chemistry sets take effect (08 R281, R297-R299). -/
def Dev.switchChem (x : List Chem) (v : Nat) (h : List Nat) (d : Dev) : Dev :=
  let d := { d with cnpy := { d.cnpy with chem := x, tblBad := [] }, img := { d.img with pendChem := none, bootChem := some (x, v) }.settle 1 h,
                    hwd := { d.hwd with chemh := h } }
  ((((d.setRbit A.cnpyStat 31 true).setReg A.cnpyChem (BitVec.ofNat 32 v)).setFld A.cnpyNsets 3 0 x.length).imageUsed 1).afterSwitch

/-- CHEMISTRY_SWITCHOVER (R281). -/
def execChemistrySwitchover (s : State) : Out :=
  .next (match s.dev.img.pendChem with
    | none => s
    | some (x, v, h, _) => if s.dev.switchNow 1 then (s.promote 0x43484501).onDev (Dev.switchChem x v h) else s)

/-- RING.CFG of a ring (04 R151). -/
def ringCfgWord (t : Topo) (r : RingCfg) : Word :=
  if r.en then BitVec.ofNat 32 (2 ^ 31 + b2n t.twin * 2 ^ 30 + (r.lm1 % 64) * 2 ^ 24 + (r.vcap % 16) * 2 ^ 20) else 0

/-- The zone fields of strings `4k` to `4k + 3` (07 R262). -/
def strzWord (t : Topo) (k : Nat) : Word :=
  BitVec.ofNat 32 ((List.range 4).foldl (fun a j =>
    let r := FMap.get (fun _ => {}) t.rings (4 * k + j)
    a + (if r.en then r.zones % 256 else 0) * 256 ^ j) 0)

/-- What an NTC input's conversion rests on in a topology (05 R176): used or not, and its profile. -/
def Topo.ntc (t : Topo) (i : Nat) : Option (List Int) := if t.ntcUse.getD i false then some (t.profiles.getD (t.ntcProfile.getD i 0) []) else none

/-- Own values settle after a topology's changes (05 R177): an HV channel or a diode enabled, an NTC input enabled or its profile changed,
and an insulation cycle that differs and so starts anew (DEDUCED, log entry 176). -/
def Dev.settleTopo (old t : Topo) (d : Dev) : Dev :=
  let d := foldOver (List.range 4) (fun i d => if t.hvUse.getD i false && !old.hvUse.getD i false then d.settleOwn (4 + i) 1 else d) d
  let d := foldOver (List.range 16) (fun i d => if (t.ntc i).isSome && !(t.ntc i == old.ntc i) then d.settleOwn (10 + i) 1 else d) d
  let d := foldOver (List.range 4) (fun i d => if t.diodeUse.getD i false && !old.diodeUse.getD i false then d.settleOwn (26 + i) 2 else d) d
  if t.isoCycle = old.isoCycle then d else { d with acq := { d.acq with isoSkip := 2 } }

/-- Write the registers that hold a topology (04 R151, 07 R262, 14 R472-R480). An event whose route it does not name is
routed to the Growth log only (15 R524). -/
def Dev.loadTopo (t : Topo) (d : Dev) : Dev :=
  let d := { d.settleTopo d.topo t with img := { d.img with topo := some t } }
  let d := foldOver (List.range 384) (fun e d => d.setReg (A.evtRoute e) 0x10#32) d
  let d := foldOver t.routes (fun x d => d.setReg (A.evtRoute x.1) (BitVec.ofNat 32 (x.2 % 32))) d
  let d := foldOver t.cntRc (fun x d => d.setRbit x.1 0 x.2) d
  let d := foldOver (List.range d.rings) (fun n d => d.setReg (A.ringCfg n) (ringCfgWord t (FMap.get (fun _ => {}) t.rings n))) d
  let d := foldOver (List.range 12) (fun k d => d.setReg (A.protStrz k) (strzWord t k)) d
  let d := d.setReg A.protBlkz (BitVec.ofNat 32 (b2n t.isotrip * 2 ^ 24 + (t.gzone % 256) * 2 ^ 16 + (t.safez % 256) * 2 ^ 8 + t.blkz % 256))
  let d := foldOver (List.range 4) (fun c d =>
    if d.hasCan c then
      let d := (d.setReg (A.canNbt c) (t.canNbt.getD c 0)).setReg (A.canDbt c) (t.canDbt.getD c 0)
      ({ d with cans := FMap.set (fun _ => {}) d.cans c (t.cans.getD c {}) }).setRop c (t.canRop.getD c false)
    else d) d
  d.loadLsw t

/-- A ring whose configuration changed is rediscovered (04 R145, 13 R447); one that left the topology is DOWN, and its transactions
complete (02 R73). The MODVER bits of hops that the new topology no longer commissions stay as they are (DESIGN CHOICE, log entry 185: 04 R158 is
silent). -/
def State.rediscover (old : Dev) (n : Nat) (s : State) : State :=
  let d := s.dev
  if d.reg (A.ringCfg n) = old.reg (A.ringCfg n) then s
  else if !d.portEn n then s.portDown n 0
  else
    let e := if d.authority then d.discoverRing n else d.setRing n 1
    { s with dev := e.ringEvent n (!(d.ringState n == 1)) }

/-- A topology takes effect (13 R447). -/
def State.switchTopo (t : Topo) (h : List Nat) (s : State) : State :=
  let e := s.dev.loadTopo t
  let e := { e with img := { e.img with pendTopo := none, bootTopo := some t }.settle 3 h, hwd := { e.hwd with toph := h } }
  (foldOver (List.range 48) (State.rediscover s.dev) { s with dev := e }).onDev (fun d => (d.lhSync.imageUsed 3).afterSwitch)

/-- TOPOLOGY_SWITCHOVER (R447): until its condition holds the topology waits. -/
def execTopologySwitchover (s : State) : Out :=
  .next (match s.dev.img.pendTopo with
    | none => s
    | some (t, h, _) => if s.dev.switchNow 3 then (s.promote 0x544F5001).switchTopo t h else s)

/-- The firmware slot that starts (13 R448): the valid slot with the higher RELEASE, and the other one when it fails. -/
def Dev.bootSlot (d : Dev) (ok0 ok1 : Bool) : Option Nat :=
  let good := fun (k : Nat) (ok : Bool) => ok && (d.hwd.fwOf k).valid && decide (d.fld A.hwdStat 15 8 ≤ (d.hwd.fwOf k).svn)
  let g0 := good 0 ok0
  let g1 := good 1 ok1
  if g0 ∧ g1 then some (if (d.hwd.fwOf 0).release < (d.hwd.fwOf 1).release then 1 else 0)
  else if g0 then some 0 else if g1 then some 1 else none

/-- The trip latches are restored and their lines driven low (07 R248); a SAFEZ zone means SAFE once start-up ends. Requests that came
before take effect now. -/
def Dev.restoreLatches (d : Dev) : Dev :=
  let m := d.prot.mramLatch % 256
  let old := d.latched
  let d := { d with prot := { d.prot with latchT := (bitsOf 8 m).foldl (fun a z =>
    if old.testBit z then a else FMap.set (fun _ => 0) a z d.time.now) d.prot.latchT } }
  let d := ((d.setFld A.protStat 7 0 m).setFld A.protStat 15 8 m).setFld A.protStat 23 16 (d.fld A.protStat 23 16 ||| m)
  let d := if (m &&& d.fld A.protBlkz 15 8) = 0 then d else d.setRbit A.protStat 31 true
  let l := d.prot.early
  foldOver l (fun x d => d.latchZones x.1 x.2.1 x.2.2) { d with prot := { d.prot with restored := true, early := [] } }

/-- The image of kind `k` that stands under `key` in the tables passes the checks of 13 R444 that time can change: version and signer. -/
def Dev.trusted (k key : Nat) (d : Dev) : Bool :=
  decide (d.hwd.floor k ≤ FMap.get (fun _ => 0) d.img.vers key)
    && d.signedBy (if k ≤ 1 then 2 else 3) (FMap.get (fun _ => 0) d.img.signers key)

/-- The magic number of each kind of image with a pending area. -/
def kindMagic (k : Nat) : Nat := if k = 0 then 0x4C304501 else if k = 1 then 0x43484501 else if k = 2 then 0x54424E01 else 0x544F5001

/-- An image of kind `k` still waits for its switch-over. -/
def ImgSt.waits (k : Nat) (i : ImgSt) : Bool :=
  if k = 0 then i.pendEnv.isSome else if k = 1 then i.pendChem.isSome else if k = 2 then i.pendProg.isSome else i.pendTopo.isSome

/-- A waiting image of kind `k` takes the place of the one in force in MRAM at a start (log entry 138). -/
def Dev.bootSettle (k : Nat) (d : Dev) : Dev :=
  let i := d.img
  if k = 0 then match d.img.pendEnv with
    | none => d
    | some (x, v, h, _) => { d with img := { i.settle k h with pendEnv := none, bootEnv := some (x, v) }, hwd := { d.hwd with envh := h } }
  else if k = 1 then match d.img.pendChem with
    | none => d
    | some (x, v, h, _) => { d with img := { i.settle k h with pendChem := none, bootChem := some (x, v) }, hwd := { d.hwd with chemh := h } }
  else if k = 2 then match d.img.pendProg with
    | none => d
    | some (g, h, _) => { d with img := { i.settle k h with pendProg := none, bootProg := some g }, hwd := { d.hwd with progh := h } }
  else match d.img.pendTopo with
    | none => d
    | some (t, h, _) => { d with img := { i.settle k h with pendTopo := none, bootTopo := some t }, hwd := { d.hwd with toph := h } }

/-- Images that were accepted and still waited at the reset come first at a start, in the order of 20 R610 (log entry 138). -/
def State.bootPending (s : State) : State :=
  foldOver [0, 1, 3, 2] (fun k s =>
    if s.dev.img.waits k && s.dev.trusted k (4 + k) then (s.promote (kindMagic k)).onDev (Dev.bootSettle k) else s) s

/-- No image waits any more once the start is over: one that fails its recheck is dropped. -/
def Dev.dropPending (d : Dev) : Dev :=
  { d with img := { d.img with pendProg := none, pendEnv := none, pendChem := none, pendTopo := none } }

/-- The images in MRAM are rechecked and loaded (13 R444, R448); a failed one is reported by its event and does not load. The topology is
held against the sets, and the program set against the topology, that load (20 R610). -/
def Dev.loadImages (d0 : Dev) : Dev :=
  let d := d0.dropPending
  let i := d.img
  let bad := fun (k v : Nat) (d : Dev) => (d.rejectImage k v).1
  let d := match i.bootEnv with
    | none => d
    | some x => if d.trusted 0 0 then ({ d with prot := { d.prot with env := x.1, envVer := x.2 }, hwd := { d.hwd with envh := i.dig 0 } }).setRbit A.protStat 30 true else bad 0 x.2 d
  let d := match i.bootChem with
    | none => d
    | some x =>
      if d.trusted 1 1 then
        ((({ d with cnpy := { d.cnpy with chem := x.1 }, hwd := { d.hwd with chemh := i.dig 1 } }).setRbit A.cnpyStat 31 true).setReg A.cnpyChem (BitVec.ofNat 32 x.2)).setFld A.cnpyNsets 3 0 x.1.length
      else bad 1 x.2 d
  let d := match i.bootTopo with
    | none => d
    | some t => if d.trusted 3 3 && d.topoOk t then { d with hwd := { d.hwd with toph := i.dig 3 } }.loadTopo t else bad 3 t.ver d
  match i.bootProg with
  | none => d
  | some g =>
    if d.hwd.floor 2 ≤ FMap.get (fun _ => 0) d.img.vers 2 then
      if d.trusted 2 2 then
        match d.verifySet d.topo g (fun _ => true) with
        | some f => (d.rejectProg f).1
        | none => foldOver (List.range 128) Dev.clearTask { d with img := { d.img with prog := some g, bounds := g.bounds }, hwd := { d.hwd with progh := i.dig 2 } }
      else (d.rejectProg { detail := 2 }).1
    else (d.rejectProg { detail := 3 }).1

/-- Heartwood starts the device on firmware slot `k` (13 R448). -/
def Dev.bootFrom (k : Nat) (d : Dev) : Dev :=
  let f := d.hwd.fwOf k
  let d := { d with hwd := { d.hwd with fwh := f.hash, boots := d.hwd.boots + 1, recovery := false } }
  let d := ((d.setRbit A.hwdStat 27 (k == 1)).setFld A.hwdStat 23 16 f.svn).setReg A.hwdRelease (BitVec.ofNat 32 f.release)
  let d := d.raise 304 0
  ((d.loadImages).lhSync.restoreLatches).formBdig

/-- No firmware is valid, or the sealed area stays closed (13 R441, R448): recovery, with every hold off and the restored zones low. -/
def Dev.recover (d : Dev) : Dev :=
  let d := { d with hwd := { d.hwd with recovery := true, boots := d.hwd.boots + 1 } }
  (((d.holdsOff).restoreLatches).raise 304 0)

/-- Heartwood's start (13 R441, R448, R464): the tests of its ROM, of its own hash and with known answers, then KR over DUS and the
reconstructed KPUF, and KS. A failed test clears SELFOK with event 311 (DEDUCED of its own hash, log entry 203); without KPUF there is no key. -/
def Dev.heartwoodStart (selfOk : Bool) (kpuf : Option Nat) (d : Dev) : Dev :=
  let kr := kpuf.map (fun k => Config.hkdf384 [Config.dus, k] "FN-ROOT")
  let d := { d with hwd := { d.hwd with kr := kr, ks := kr.map (fun k => Config.hkdf384 [k] "FN-STORE") } }
  ((d.setRbit A.hwdStat 30 true).setRbit A.hwdStat 29 selfOk).raiseIf (!selfOk) 311 0

/-- HEARTWOOD_BOOT (R448): whether the ROM's tests pass, KPUF where its reconstruction succeeds, and whether the firmware of slots 0 and 1
passes its check and starts. The program's initial data is in SRAM after its load (R104). -/
def execHeartwoodBoot (selfOk : Bool) (kpuf : Option Nat) (ok0 : Bool) (ok1 : Bool) (s : State) : Out :=
  let s := s.onDev (Dev.heartwoodStart selfOk kpuf)
  .next (if kpuf.isNone then s.onDev Dev.recover else
    match s.dev.bootSlot ok0 ok1 with
    | none => s.onDev Dev.recover
    | some k =>
      let s := s.bootPending.onDev (Dev.bootFrom k)
      match s.dev.img.prog with
      | none => s
      | some g => { s with mem := writeBytes g.dest (toBytes g.data) s.mem })

end Sys2Proof.Machine
end

