-- ==== Sys2Proof/Machine/MemUnit.lean ====
section
/-! DEFINITION. The memory unit: row repair, retirement of banks, ARINGS, scrubbing and the march engine (15 R504-R518). Repair and
retirement move data that every master sees unchanged, so the memory itself does not change. -/

namespace Sys2Proof.Machine
open Sys2Proof

/-- Set a physical bank. -/
def Dev.setBank (b : Nat) (x : Bank) (d : Dev) : Dev := { d with ram := { d.ram with banks := FMap.set d.bank0 d.ram.banks b x } }

/-- The physical bank that backs logical bank `l`. -/
def Dev.backer (d : Dev) (l : Nat) : Option Nat := (List.range 43).find? (fun b => (d.bank b).st == 0 && (d.bank b).logical == l)

/-- Page pair `k` is fully backed (15 R512). -/
def Dev.pairBacked (d : Dev) (k : Nat) : Bool := (d.backer (16 + k)).isSome && (d.backer (28 + k)).isSome

/-- The accepted ring count that this device's memory allows (15 R512). -/
def Dev.ownArings (d : Dev) : Nat :=
  min d.rings (4 * ((List.range ((d.rings + 3) / 4)).filter d.pairBacked).length)

/-- H: banks among 0-41 that are not retired (15 R512). -/
def Dev.healthy (d : Dev) : Nat := ((List.range 42).filter (fun b => !((d.bank b).st == 4))).length

/-- Show H, SPARES and SWAPOK in MEM.STAT (15 R535). -/
def Dev.showBanks (d : Dev) : Dev :=
  let sp := ((List.range 43).filter (fun b => (d.bank b).st == 1)).length
  ((d.setFld A.memStat 29 24 d.healthy).setFld A.memStat 17 16 (min sp 3)).setRbit A.memStat 30 ((d.bank 42).st == 2)

/-- A MEMORY record (15 R532). -/
def Dev.memRec (kind bank row addr : Nat) (e : Nat) (d : Dev) : Dev :=
  d.logRec 6 e ([kind, bank % 256] ++ leBytes 2 row ++ leBytes 4 addr) []

/-- The address of a row: of the logical bank that its bank backs, 0 for a bank without data. -/
def Dev.rowAddr (d : Dev) (b row : Nat) : Nat := if (d.bank b).st = 0 then (d.bank b).logical * 0x80000 + 1024 * row else 0

/-- ROW_REPAIR_SWITCH (R510): while a spare row is left. -/
def execRowRepairSwitch (bank : Nat) (row : Nat) (s : State) : Out :=
  present (decide (bank < 43)) (s.onDev (fun d =>
    let b := d.bank bank
    if b.st = 4 ∨ 8 ≤ b.rows then d
    else ((d.setBank bank { b with rows := b.rows + 1 }).raiseNoLog 361).memRec 0 bank row (d.rowAddr bank row) 361))

/-- The bank that gives its place to logical bank `l` (15 R511-R512): a spare, an idle donor, or a bank of the highest page pair in use,
whose other bank becomes a spare. -/
def Dev.giveBacking (l : Nat) (d : Dev) : Dev :=
  let first := fun (st : Nat) => (List.range 42).find? (fun b => (d.bank b).st == st)
  let use := fun (b : Nat) (d : Dev) => d.setBank b { d.bank b with st := 0, logical := l }
  match first 1 with
  | some b => use b d
  | none => match first 3 with
    | some b => use b d
    | none =>
      match (List.range 12).reverse.find? (fun k => (d.backer (16 + k)).isSome || (d.backer (28 + k)).isSome) with
      | none => d
      | some k =>
        let free := ([d.backer (16 + k), d.backer (28 + k)]).filterMap id
        let spare := fun (b : Nat) (d : Dev) => d.setBank b { d.bank b with st := 1, logical := 0 }
        if l = 16 + k ∨ l = 28 + k then foldOver free spare d
        else match free with
          | [] => d
          | b :: rest => use b (foldOver rest spare d)

/-- Strings of rings at or above ARINGS are disconnected, and their balancing stops (15 R513). -/
def Dev.dropRings (d : Dev) : Dev :=
  foldOver (d.ringsOn.filter (fun n => decide (d.arings ≤ n))) (fun n d => (d.takeDisconnect n 2 0 0 2).bleedStop n) d

/-- ARINGS takes a value (15 R512-R514, R527): event 364 at a change, and DEGRADED while it is below RINGS. -/
def Dev.setArings (n : Nat) (d : Dev) : Dev :=
  if d.arings = n then d else
  let d := (d.setFld A.memStat 23 18 n).memRec 3 0 0 0 364
  let d := (d.setRbit A.memStat 31 (decide (n < d.rings))).raiseNoLog 364
  let d := if d.base = 3 ∨ d.base = 4 then d.settleState d.base else d
  d.dropRings

/-- Fewer than 36 healthy banks (15 R515): RUN is refused, and a twin yields. -/
def Dev.fewBanks (d : Dev) : Dev :=
  if d.healthy < 36 then
    let d := { d with pwr := { d.pwr with noRun := true } }
    if d.isTwin && !d.yielded then d.yield_ else d
  else d

/-- A bank is retired (15 R511-R515, R527). A twin's ARINGS waits for its agreed scan (R514). -/
def Dev.retireBank (bank : Nat) (d : Dev) : Dev :=
  let b := d.bank bank
  if b.st = 4 then d else
  let e := d.setBank bank { b with st := 4 }
  let e := if b.st = 0 then e.giveBacking b.logical else e
  let e := ((e.showBanks).raiseNoLog 363).memRec 1 bank 0 (d.rowAddr bank 0) 363
  let e := if e.agreed then e.moorSend (.aringsValue e.ownArings) else e.setArings e.ownArings
  (e.raiseIf (decide (36 ≤ d.healthy) && decide (e.healthy < 36)) 364 0).fewBanks

/-- BANK_RETIRE (R511): a retired swap bank leaves no backing to move. -/
def execBankRetire (bank : Nat) (s : State) : Out := present (decide (bank < 43)) (s.onDev (Dev.retireBank bank))

/-- ARINGS_APPLY (R514): the agreed value is never above either twin's own. -/
def execAringsApply (n : Nat) (s : State) : Out :=
  .next (s.onDev (fun d => d.setArings (min n (min d.ownArings d.twin.arings))))

/-- Add to a statistics counter (15 R528-R529). -/
def Dev.addCtr (k ctr ovf bit : Nat) (d : Dev) : Dev :=
  let v := min ((d.reg ctr).toNat + k) 0xFFFFFFFF
  let d := d.setReg ctr (BitVec.ofNat 32 v)
  if 0 < k ∧ v = 0xFFFFFFFF then d.setRbit ovf bit true else d

/-- An uncorrectable read of the scrubber (15 R508, R532): the manual gives no command that names its place (log entry 64). -/
def Dev.scrubError (d : Dev) : Dev :=
  let w := (Config.freeWord d.freeCnt).toNat
  let d := ((d.takeFree).bump A.memUecnt A.memOvf 13).raiseNoLog 360
  d.memRec 2 (w % 43) (w / 43 % 520) (w % 0x01400000) 360

/-- SCRUB_PASS_END (R508-R509, R527), which cannot come while scrubbing is paused (16 R556): words corrected, reads that found an uncorrectable error, and event 368. -/
def execScrubPassEnd (corrected : Nat) (uncorrectable : Nat) (s : State) : Out :=
  .next (s.onDev (fun d => if d.rbit A.thermStat 31 then d else foldOver (List.range uncorrectable) (fun _ d => d.scrubError) (d.addCtr corrected A.memCecnt A.memOvf 12) |>.raise 368 0))

/-- Redirection while a bank is tested (15 R517): the swap bank holds the live data. -/
def Dev.redirect (b : Bool) (d : Dev) : Dev := { d with ram := { d.ram with redirected := b } }

/-- PRESERVING_REDIRECT (R517): a preserving test runs and the swap bank is usable. -/
def execPreservingRedirect (s : State) : Out :=
  .next (s.onDev (fun d => if d.ram.running = false ∨ d.ram.destructive ∨ (d.bank 42).st = 4 then d else d.redirect true))

/-- PRESERVING_RETURN (R517). -/
def execPreservingReturn (s : State) : Out := .next (s.onDev (Dev.redirect false))

/-- Show the march engine in MEM.TSTAT (15 R535). -/
def Dev.showTest (st bank faults : Nat) (d : Dev) : Dev :=
  let q := d.ram.queue.length - 1
  d.setReg A.memTstat (BitVec.ofNat 32 (st * 2 ^ 30 + (bank % 64) * 2 ^ 24 + (min q 255) * 65536 + min faults 65535))

/-- The test of the bank at the head of the queue starts; a preserving one waits while thermal throttling defers it (16 R556). -/
def Dev.startMarch (d : Dev) : Dev :=
  let b := d.ram.queue.headD 0
  let faults := d.fld A.memTstat 15 0
  if d.ram.queue = [] then d
  else if d.rbit A.thermStat 31 && !d.ram.destructive then d.showTest 0 b faults
  else ({ d with ram := { d.ram with running := true } }).showTest 1 b faults

/-- MARCH_TEST_END (R517): the test of the bank at the head of the queue ends with these faulty rows: event 362. The next bank follows;
the state shows faults found in the whole request. -/
def execMarchTestEnd (faults : List Nat) (s : State) : Out :=
  .next (s.onDev (fun d =>
    match d.ram.queue with
    | [] => d
    | b :: rest =>
      if !d.ram.running then d else
      let f := d.fld A.memTstat 15 0 + faults.length
      let d := ({ d with ram := { d.ram with queue := rest, running := false } }).redirect false
      ((d.showTest (if f = 0 then 2 else 3) b f).startMarch).raise 362 b))

/-- A request for march tests (15 R517-R518): the banks of the range that the mode can test are queued. -/
def memtestOp (destructive : Bool) (test first last : Nat) : FspOp := fun d =>
  let l := span first (last + 1 - first)
  if !(d.ram.queue == []) then (d, 8, [1])
  else if !destructive && (d.bank 42).st == 4 then (d, 8, [2])
  else if destructive && l.any (fun b => (d.bank b).st == 0) then (d, 8, [3])
  else
    let q := l.filter (fun b => if destructive then !((d.bank b).st == 4) else (d.bank b).st == 0)
    let d := { d with ram := { d.ram with queue := q, test := test, destructive := destructive } }
    (if q = [] then d else (d.showTest 0 0 0).startMarch, 0, leBytes 4 q.length)

/-- The request is out of range (15 R518). -/
def badMemtest (test first last : Nat) : Bool := !(test == 1 || test == 2) || decide (last < first) || decide (42 < last)

/-- MEMTEST_PRESERVING (R517). -/
def execMemtestPreserving (req : Req) (test : Nat) (first : Nat) (last : Nat) (s : State) : Out :=
  .next (s.fsp req 26 1 (badMemtest test first last) false (memtestOp false test first last))

/-- MEMTEST_DESTRUCTIVE (R517). -/
def execMemtestDestructive (req : Req) (test : Nat) (first : Nat) (last : Nat) (s : State) : Out :=
  .next (s.fsp req 26 1 (badMemtest test first last) false (memtestOp true test first last))

end Sys2Proof.Machine
end

