-- ==== Sys2Proof/Machine/Twin.lean ====
section
/-! DEFINITION. The twin pair: instants and own values that the partner sends, Mooring lanes, TWIN_ALIVE, GRAFT, and the time exchange
(05 R166, 12 R411-R432, 16 R543). A device strapped for single use has none of these, and they change nothing there. -/

namespace Sys2Proof.Machine
open Sys2Proof

/-- A free-running scan (05 R167, 01 R19): event 128, counted; the eighth in a row sets SYNCLOST with event 129. -/
def Dev.freeScan (d : Dev) : Dev :=
  let n := min (d.fld A.acqStat 7 0 + 1) 255
  let d := ((d.setFld A.acqStat 7 0 n).setRbit A.acqStat 31 true).raise 128 0
  if n = 8 then (d.setRbit A.acqStat 30 true).raise 129 0 else d

/-- A scan locked to an edge ends a run of free-running scans (05 R167). -/
def Dev.lockedScan (d : Dev) : Dev :=
  let lost := d.rbit A.acqStat 30
  let d := (d.setFld A.acqStat 7 0 0).setRbit A.acqStat 31 false
  if lost then (d.setRbit A.acqStat 30 false).raise 129 0 else d

/-- Whether the coming scan is free-running is judged once (05 R167). -/
def Dev.judgeScan (free : Bool) (d : Dev) : Dev := if free then d.freeScan else d.lockedScan

/-- Place the next instant (01 R19). The twin with authority judges the scan and sends the instant to its partner; the other twin holds
its own until the authority's comes (05 R166). -/
def Dev.placeAt (t : Nat) (free : Bool) (d : Dev) : Dev :=
  let d := { d with time := { d.time with placed := some t, free := free } }
  if d.follows then d else (d.judgeScan free).moorSend (.instantAt t free)

/-- The difference of two times exceeds 100 ns. -/
def far100 (a b : Nat) : Bool := decide (a + 100 < b) || decide (b + 100 < a)

/-- The authority's instant arrives at the other twin (05 R166). One that falls within the running scan names that scan's instant; one
that comes after the twin has turned to its own instant changes the scan header when they differ by more than 100 ns; else it is the next
instant. That the message carries whether the scan is free-running is DEDUCED (log entry 166). -/
def Dev.takeInstant (t : Nat) (free : Bool) (d : Dev) : Dev :=
  let x := d.time
  if d.follows = false ∨ x.scanning = false then d
  else if decide (t < x.inst + 1000000) then
    let h := d.acq.next.hdr
    if h.flags.testBit 3 && far100 t x.inst then
      { d with time := { x with late := some t }, acq := { d.acq with next := { d.acq.next with hdr := { h with tinst := t } } } }
    else d
  else if x.instLocal then
    if far100 t (x.placed.getD x.nextN) then { d with time := { x with late := some t } } else d
  else if x.msg then d
  else ({ d with time := { x with placed := some t, free := free, msg := true } }).judgeScan free

/-- The authority's stretch begins or ends (05 R166, R170): event 130, and the next nominal instant that goes with it. -/
def Dev.takeStretch (on : Bool) (nextN off : Nat) (d : Dev) : Dev :=
  if d.follows = false ∨ on = d.time.stretched then d else
  let x := d.time
  let keep := x.placed.isSome && !on
  let d := { d with time := { x with stretched := on, stretchReq := false, stretchEnd := false,
                                     nextN := if keep then x.nextN else nextN, off := if keep then x.off else off } }
  let h := d.acq.next.hdr
  let d := if on then { d with acq := { d.acq with next := { d.acq.next with hdr := { h with flags := h.flags ||| 2 } } } } else d
  (d.setRbit A.acqStat 29 on).raise 130 0

/-- The primary's own-channel values, their codes and its coulomb count enter the mirror's scan header (05 R183), and meet the mirror's
own values (12 R416). -/
def Dev.takeOwn (vals : List Int) (codes : List Nat) (q : Int) (d : Dev) : Dev :=
  if d.mirrors then
    let h := d.acq.next.hdr
    Dev.ownDiffer { d with acq := { d.acq with theirs := vals, next := { d.acq.next with hdr := { h with own := vals, val := codes, qcnt := q } } } }
  else d

/-- The partner's VWARN changed (16 R543): the throttle follows at the first tick boundary at least 20 µs later. -/
def Dev.partnerWarned (v : Bool) (d : Dev) : Dev :=
  if d.twin.partnerWarn = v then d
  else { d with twin := { d.twin with partnerWarn := v }, pwr := { d.pwr with vthrDue := some (d.time.now + 20000) } }

/-- The lanes' lock bits in TWIN.STAT (12 R437). -/
def laneBit (lane : Nat) : Nat := if lane = 0 then 23 else 24

/-- Set a lane's lock: event 289 at a change (12 R412, R435). -/
def Dev.setLane (lane : Nat) (b : Bool) (d : Dev) : Dev :=
  if d.rbit A.twinStat (laneBit lane) = b then d else (d.setRbit A.twinStat (laneBit lane) b).raise 289 lane

/-- Mooring returns (12 R412, R429-R432): a DETACHED mirror resynchronises in place, and a twin that carried on alone waits for it; others
run the pairing check once their start-up tests have passed. -/
def Dev.mooringBack (x : PairInfo) (d : Dev) : Dev :=
  let same := d.twin.paired && d.twin.info.map (fun i => { i with share := x.share }) == some x
  let d := { d with twin := { d.twin with info := some x, partnerAuth := x.inAuthority } }
  if d.twinState = 5 then (d.joinStart).raise 300 0
  else if d.twinState = 0 ∧ d.authority = true then
    if same then (d.joinBegin).raise 300 0 else d.pairCheck x
  else if (d.twinState = 0 ∨ d.twinState = 1) ∧ ¬(d.pstate = 7) then (d.setTwin 1).pairCheck x
  else d

/-- MOORING_LANE_TRAINED (R411, R429): the partner's data comes with the first lane. -/
def execMooringLaneTrained (lane : Nat) (info : PairInfo) (s : State) : Out :=
  .next (if s.dev.isTwin = false ∨ 2 ≤ lane then s else s.onDev (fun d =>
    let up := d.rbit A.twinStat 23 || d.rbit A.twinStat 24
    let d := d.setLane lane true
    if up then d else d.mooringBack info))

/-- MOORING_LANE_LOSS (R412): the other lane carries the traffic. -/
def execMooringLaneLoss (lane : Nat) (s : State) : Out :=
  .next (if s.dev.isTwin = false ∨ 2 ≤ lane then s else s.onDev (Dev.setLane lane false))

/-- A primary that lost its partner carries on alone (12 R412, R425); a discovery waits for it no longer (04 R145). -/
def Dev.carryOn (d : Dev) : Dev :=
  let d := { d with twin := { d.twin with joining := false } }
  if d.twinState = 4 then foldOver d.ringsOn Dev.rangeAgain (d.setTwin 0) else d

/-- The partner is neither alive nor heard: it holds no authority. -/
def Dev.partnerGone (d : Dev) : Dev := { d with twin := { d.twin with partnerAuth := false } }

/-- Both lanes are silent. -/
def Dev.lanesOff (d : Dev) : Dev := (d.setLane 0 false).setLane 1 false

/-- The mirror takes authority (12 R426-R427). An instant that it holds from its own capture is the one it places (05 R166). -/
def Dev.graft (d : Dev) : Dev :=
  let x := d.time
  let e := d.graftStart
  if x.placed.isSome && !x.msg && !x.instLocal then e.judgeScan x.free else e

/-- MOORING_SILENT (R412): with TWIN_ALIVE_IN lost as well, a mirror grafts (R426). -/
def execMooringSilent (s : State) : Out :=
  .next (if s.dev.isTwin then s.onDev (fun d =>
    let was := d.twinState
    let d := d.lanesOff
    let d := if d.rbit A.twinStat 22 then d else d.partnerGone
    if !d.rbit A.twinStat 22 && d.mayGraft then d.graft
    else if was = 3 then (d.setTwin 5).raise 300 0
    else if was = 4 then (d.carryOn).raiseIf (d.rbit A.twinStat 22) 300 0
    else { d with twin := { d.twin with joining := false } }) else s)

/-- ALIVE_LOSS (R426): with Mooring silent a mirror grafts; with traffic from a partner that has not yielded it is a wiring fault. -/
def execAliveLoss (mooringSilent : Bool) (partnerYielded : Bool) (s : State) : Out :=
  .next (if s.dev.isTwin then s.onDev (fun d =>
    let d := d.setRbit A.twinStat 22 false
    if mooringSilent then
      let d := (d.lanesOff).partnerGone
      if d.mayGraft then d.graft else if d.authority then d.carryOn else d
    else d.raiseIf (d.mayGraft && !partnerYielded) 294 0) else s)

/-- Authority goes because GRAFT_IN rose (12 R414): GRAFT_OUT stays as it is (log entry 47). -/
def Dev.giveUpIn (d : Dev) : Dev :=
  let out := d.rbit A.twinStat 20
  (d.yield_).setRbit A.twinStat 20 out

/-- GRAFT_IN_HIGH (R414, R426). -/
def execGraftInHigh (s : State) : Out :=
  .next (if s.dev.isTwin then s.onDev (fun d =>
    let d := d.setRbit A.twinStat 21 true
    let d := { d with twin := { d.twin with partnerAuth := d.authority } }
    if d.authority then d.giveUpIn else if d.mayGraft then d.graft else d) else s)

/-- Every ring that carries scan frames is ranged anew from this end (04 R143, 05 R162). -/
def Dev.rangeAll (d : Dev) : Dev :=
  foldOver d.ringsOn (fun n d => if d.scans n && !(d.ringState n == 4) then d.rangeRing n else d) d

/-- GRAFT_COMPLETE (R427-R428): ALONE, GRAFT_OUT low, event 293; CONSERVATIVE mode and a pending judgement end, and the scan's page is
confirmed as in single use. -/
def execGraftComplete (s : State) : Out :=
  .next (if s.dev.isTwin && s.dev.twinState == 6 then s.onDev (fun d =>
    let d := ((((d.setRbit A.twinStat 20 false).setTwin 0).raise 293 0).consEnd).tellAuthority
    let d := { d with twin := { d.twin with selftest := false, joining := false } }
    (if d.cnpy.wrote then d.finishJob else d).rangeAll) else s)

/-- TIME_EXCHANGE (R415): `delta` is the partner's time less this device's, in ns. The mirror steps once, at pairing, and then slews by
100 ppm of the 1 ms between messages at most. -/
def execTimeExchange (delta : Int) (s : State) : Out :=
  .next (if s.dev.isTwin && !s.dev.authority then s.onDev (fun d =>
    let x := if d.twin.timeSet then max (-100) (min 100 delta) else delta
    { d.setClock ((d.time.now : Int) + x).toNat with twin := { d.twin with timeSet := true, diff := delta - x } }) else s)

/-- PAIRING_TIMEOUT (R429): 5 s of readiness without a trained partner make a twin ALONE. A twin whose check was refused stays in PAIRING
(20 R606). -/
def execPairingTimeout (s : State) : Out :=
  .next (if s.dev.isTwin && (s.dev.twinState == 0 || s.dev.twinState == 1) && !s.dev.authority && !(s.dev.pstate == 7) && !s.dev.rbit A.twinStat 23 && !s.dev.rbit A.twinStat 24 then
    s.onDev (fun d => (d.startAuth).setTwin 0) else s)

/-- RESYNC_DEADLINE (R430): the joiner tries once more, and then yields. -/
def execResyncDeadline (s : State) : Out :=
  .next (if s.dev.isTwin && s.dev.twinState == 2 then s.onDev (fun d =>
    if d.twin.resyncTry = 0 then ({ d with twin := { d.twin with resyncTry := 1 } }).joinStart
    else (d.yield_).raise 296 0) else s)

/-- ALIVE_RETURN (R413): edges return when the partner runs again after its reset, with its GRAFT_OUT low (log entry 65). -/
def execAliveReturn (s : State) : Out :=
  .next (if s.dev.isTwin then s.onDev (fun d => (d.setRbit A.twinStat 22 true).setRbit A.twinStat 21 false) else s)

end Sys2Proof.Machine
end

