-- ==== Sys2Proof/Machine/Mooring.lean ====
section
/-! DEFINITION. What a twin does with the messages that reach it over Mooring, and the bulk state that a twin with authority sends to a
partner in RESYNC (04 R140-R145, 05 R166, R183-R185, 07 R244-R256, 09 R331, 10 R346, 11 R388, 12 R411-R432, 13 R446, R460,
14 R475, 15 R514, R525, 16 R543). -/

namespace Sys2Proof.Machine
open Sys2Proof

/-- Change the twin unit. -/
def Dev.onTwin (f : TwinSt → TwinSt) (d : Dev) : Dev := { d with twin := f d.twin }

/-- A ring's state as the twin with authority judged it (04 R140): the other twin launches its own half of a BROKEN ring from then on, and
an ISOLATED ring has its consequences on both (07 R257). -/
def Dev.takeRing (n st ra rb : Nat) (d : Dev) : Dev :=
  if d.follows = false ∨ d.portEn n = false then d else
  let old := d.ringState n
  let d := (d.setFld (A.ringStat n) 27 21 ra).setFld (A.ringStat n) 20 14 rb
  let d := (d.setRing n st).ringEvent n (!(old == st))
  if st = 4 ∧ ¬(old = 4) then d.isolate n else d

/-- The other end's loop count (05 R161). While the twin with authority discovers hops it shows that the other twin has ranged them: their
counts are read again, and the delays follow (04 R145 steps 3, 5 and 6). -/
def Dev.takeLoop (n c0 : Nat) (d : Dev) : Dev :=
  let d := d.setPort n (fun p => if d.atEndB then { p with c0a := c0 } else { p with c0b := c0 })
  if d.authority && d.agreed then (d.setPort n (fun p => { p with farRanged := true })).rangeAgain n else d

/-- The twin with authority asks for the steps of a discovery from this end (04 R145 step 3). -/
def Dev.takeDiscover (n first last : Nat) (d : Dev) : Dev := if d.follows && d.portEn n then d.discover n first last else d

/-- A session as the twin with authority holds it, or its end (13 R460): this twin acknowledges its sequence numbers by holding them. -/
def State.takeSession (n : Nat) (x : Option Session) (s : State) : State :=
  let d := s.dev.setSession n x
  let d := match x with
    | none => d
    | some y => d.moorSend (.sessionAck n y.e y.seqOut)
  { s with dev := d, mem := if x.isNone then zeroWindow n s.mem else s.mem }

/-- Load switch flag copies of the partner (11 R388). -/
def TwinSt.takeFlags (l : List (Nat × Nat)) (t : TwinSt) : TwinSt :=
  { t with partnerFlags := foldOver l (fun x m => FMap.set (fun _ => 0) m x.1 x.2) t.partnerFlags }

/-- Agreement data reaches a twin. The forms that carry whole transactions or bulk state are left to `State.carried` and `State.bulk`. -/
def Dev.message (msg : Mooring) (d : Dev) : Dev :=
  match msg with
  | .instantAt t free => d.takeInstant t free
  | .stretch on n off => d.takeStretch on n off
  | .ringState n st ra rb => d.takeRing n st ra rb
  | .discover n a b => d.takeDiscover n a b
  | .loopCount n c => d.takeLoop n c
  | .txn n tag code a b req len => d.takeTxn n tag code a b req len
  | .hopKey n h gen key =>
    let i := 64 * n + h - 1
    { d with hwd := { d.hwd with keys := FMap.set (fun _ => 0) d.hwd.keys i key, gens := FMap.set (fun _ => 0) d.hwd.gens i gen } }
  | .image k h scan => d.onTwin (fun x => { x with imgs := FMap.set (fun _ => ([], 0)) x.imgs k (h, scan) })
  | .badSlots l => { d with acq := { d.acq with failedSlots := d.acq.failedSlots ++ l } }
  | .halfSlots l hs => { d with acq := { d.acq with halfSlots := d.acq.halfSlots ++ l, halfHeads := d.acq.halfHeads ++ hs } }
  | .flags l => d.onTwin (TwinSt.takeFlags l)
  | .warning v => d.partnerWarned v
  | .events a b => d.onTwin (fun x => { x with partnerEvents0 := a, partnerEvents1 := b })
  | .ownSamples vals codes q => d.takeOwn vals codes q
  | .canFrame c f => if d.follows then d.setCan c (fun x => { x with waiting := x.waiting ++ [(f, d.time.now)] }) else d
  | .canSent c o t => if d.follows then d.setCan c (fun x => x.setObj o (CanObj.complete t)) else d
  | .canStat c v => if d.follows then d.canStatTo c v else d
  | .canLost c => if d.follows then d.bump (A.canRxlost c) (A.canOvf c) 0 else d
  | .profile v n l => d.takeProfile v n l
  | .utc o n a b => d.takeUtc o n a b
  | .opState scan b => if d.follows then { d with pwr := { d.pwr with stDue := some (scan, b) } } else d
  | .grantInputs l => { d with rep := { d.rep with partner := l } }
  | .aringsValue n => d.onTwin (fun x => { x with arings := n })
  | .halving b => { d.onTwin (fun x => { x with partnerHalf := b }) with pwr := { d.pwr with halfDue := some (d.time.now + 20000) } }
  | .tripRel m scan => if d.follows then d.addRel { sess := 1000, seq := 0, mask := m, due := scan } else d
  | .pcs r scan => d.acceptPcs r scan
  | .seqReq t w scan => { d with ctl := { d.ctl with reqs := insertReq { tgt := t, word := w, src := 1, due := scan } d.ctl.reqs } }
  | .fspAct scan a => { d with hwd := { d.hwd with fspActs := d.hwd.fspActs ++ [(scan, 1000, 0, a)] } }
  | .pairAt p j scan => if d.follows && d.kstate p == b2n j then (d.pairAt p j scan).setRbit (A.sysKstat p) 28 true else d
  | .authority a out =>
    let d := d.onTwin (fun x => { x with partnerAuth := a })
    if out then d else d.setRbit A.twinStat 21 false
  | .ownAct scan r a => if d.follows then (d.judgeRecord scan r a).1 else d
  | .sessionAck n e out => d.onSession n (fun x => { x with acked := (e, out) })
  | .pairNonce nonce => d.sendQuote nonce
  | .pairQuote _ _ _ _ => d
  | .resetMirror => if d.follows then d.resetReq else d
  | .imageFwd _ _ => d
  | .txnRecs _ _ _ => d
  | .passed _ _ _ _ _ _ _ _ => d
  | .session _ _ => d
  | .bulkZones _ => d
  | .bulkMem _ _ _ => d
  | .bulkOut _ _ _ => d
  | .bulkCount _ _ => d
  | .bulkCell _ _ => d
  | .bulkScan _ => d
  | .bulkReg _ _ => d
  | .bulkProt _ _ _ _ => d
  | .bulkImages _ _ => d
  | .bulkSeq _ _ _ _ => d
  | .bulkReport _ => d
  | .bulkTimers _ => d
  | .bulkHop _ _ _ _ _ _ _ _ => d

/-- The messages that reach memory too: records of ring transactions (04 R141), sessions with their windows (13 R460), and a ring in DOWN
or FAULT, which ends its transactions here too (02 R73). -/
def State.carried (msg : Mooring) (s : State) : State :=
  match msg with
  | .txnRecs n tag rs => s.takeRecs n tag rs
  | .passed n tag code a b req len rs => s.takePassed n tag code a b req len rs
  | .session n x => if s.dev.follows then s.takeSession n x else s
  | .imageFwd b key => if s.dev.follows then s.takeForwarded b key else s
  | .ringState n st _ _ => if s.dev.follows && s.dev.portEn n && (st == 0 || st == 5) then s.endTxns n else s
  | _ => s

/-- The scan number of the authority's last instant (01 R18): the running scan, and that of its ticks, take the authority's numbers. -/
def Dev.joinScan (n : Nat) (d : Dev) : Dev :=
  let t := if d.time.tickScan = d.scan then n else (n + 2 ^ 32 - 1) % 2 ^ 32
  { d.setReg A.acqScan (BitVec.ofNat 32 n) with
    time := { d.time with tickScan := t }, acq := { d.acq with next := { d.acq.next with hdr := { d.acq.next.hdr with scan := n } } } }

/-- An output as the authority last published it: setpoints and modes of the loops, demands of the load switches, words of CAN objects
(02 R62). -/
def Dev.joinOut (c i : Nat) (v : Word) (d : Dev) : Dev :=
  let k := 65536 * c + i
  let o : OutVal := { cls := c, idx := i, val := v }
  let d := { d with pubs := FMap.set (fun _ => 0) d.pubs k v, pubSet := if k ∈ d.pubSet then d.pubSet else d.pubSet ++ [k] }
  if c = 2 then d.setLoop i (fun l => { l with sp := v.toInt })
  else if c = 3 then d.setLoop i (fun l => { l with ff := v.toInt })
  else if c = 4 then d.loopMode i (v.field 1 0)
  else (d.lswPublish [o]).canPublish (if c = 7 then [o] else [])

/-- Images, topology and envelope of the authority with their hashes (12 R430); the versions accepted raise this device's floors. -/
def Dev.joinImages (i : ImgSt) (hashes : List (List Nat)) (d : Dev) : Dev :=
  let d := match i.topo with
    | none => d
    | some t => if d.img.topo = some t then d else d.loadTopo t
  let floors := foldOver (List.range 4) (fun k m =>
    FMap.set (fun _ => 0) m k (max (FMap.get (fun _ => 0) m k) (max (FMap.get (fun _ => 0) i.vers k) (FMap.get (fun _ => 0) i.vers (4 + k))))) d.hwd.floors
  let d := { d with img := i, hwd := { d.hwd with floors := floors, envh := hashes.getD 0 [], chemh := hashes.getD 1 [], progh := hashes.getD 2 [],
                                                  toph := hashes.getD 3 [] } }
  let d := match i.bootEnv with
    | none => d
    | some x => ({ d with prot := { d.prot with env := x.1, envVer := x.2 } }).setRbit A.protStat 30 true
  let d := match i.bootChem with
    | none => d
    | some x => ((({ d with cnpy := { d.cnpy with chem := x.1 } }).setRbit A.cnpyStat 31 true).setReg A.cnpyChem (BitVec.ofNat 32 x.2)).setFld A.cnpyNsets 3 0 x.1.length
  d.formBdig

/-- A hop's identity, configuration-tag and balancing state. -/
def Dev.joinHop (n h st uid : Nat) (stale : Bool) (fails barred : Nat) (btf : List Nat) (d : Dev) : Dev :=
  let d := d.setPort n (fun p => { p with
    uidWanted := FMap.set (fun _ => 0) p.uidWanted h uid, cfgStale := FMap.set (fun _ => false) p.cfgStale h stale,
    cfgFails := FMap.set (fun _ => 0) p.cfgFails h fails, barred := FMap.set (fun _ => 0) p.barred h barred,
    btFail := foldOver (List.range 16) (fun c m => FMap.set (fun _ => 0) m (16 * h + c) (btf.getD c 0)) p.btFail })
  let d := (d.hopBit (A.ringCfgst0 n) (A.ringCfgst1 n) h (fails == 3)).hopBit (A.ringBtf0 n) (A.ringBtf1 n) h (!(barred == 0))
  d.setIdentity n h st

/-- Bulk state reaches a twin in RESYNC (12 R430). -/
def State.bulk (msg : Mooring) (s : State) : State :=
  if s.dev.twinState ≠ 2 then s else
  match msg with
  | .bulkZones z => s.onDev (fun d => ({ d with prot := { d.prot with mramLatch := z % 256 } }).setRbit A.protStat 31 false |>.restoreLatches)
  | .bulkMem a n cells => { s with mem := foldOver cells (fun c m => writeByte (a + c.1) c.2 m) (zeroRange a n s.mem) }
  | .bulkOut c i v => s.onDev (Dev.joinOut c i v)
  | .bulkCount k n => s.onDev (fun d => { d with prot := { d.prot with cntA := FMap.set (fun _ => 0) d.prot.cntA k n,
                                                                       cntB := FMap.set (fun _ => 0) d.prot.cntB k n } })
  | .bulkCell j x => s.onDev (fun d =>
      let m := FMap.set (fun _ => {}) (d.cnpy.page d.cnpy.conf) j x
      { d with cnpy := if d.cnpy.conf = 0 then { d.cnpy with page0 := m } else { d.cnpy with page1 := m } })
  | .bulkScan n => s.onDev (Dev.joinScan n)
  | .bulkReg a v => s.onDev (Dev.setReg a v)
  | .bulkProt l gx on act => s.onDev (fun d => { d with prot := { d.prot with limits := l, gxCnt := gx, gxActive := on, active := act } })
  | .bulkImages i hashes => s.onDev (Dev.joinImages i hashes)
  | .bulkSeq b strs pos neg => s.onDev (fun d => { d with ctl := { d.ctl with blk := b, strs := strs, agrPos := pos, agrNeg := neg } })
  | .bulkReport r => s.onDev (fun d => { d with rep := r })
  | .bulkTimers t => s.onDev (fun d => { d with cnpy := { d.cnpy with timers := t } })
  | .bulkHop n h st uid stale fails barred btf => s.onDev (Dev.joinHop n h st uid stale fails barred btf)
  | _ => s

/-- MOORING_MESSAGE_RX (R411): a message with a failed CRC is not taken; it is sent again once, as a message of its own. -/
def execMooringMessageRx (crcOk : Bool) (scan : Nat) (msg : Mooring) (s : State) : Out :=
  .next (if !s.dev.isTwin then s
    else if crcOk then ((s.onDev (fun d => (d.onTwin (fun x => { x with rxScan := scan, rxAgain := false })).message msg)).carried msg).bulk msg
    else s.onDev (Dev.onTwin (fun x => { x with rxAgain := !x.rxAgain })))

/-- Registers of the agreed state that a joiner takes (12 R430, 19 R605). -/
def joinRegs : List Nat :=
  [A.acqCtl, A.acqStretch, A.acqStep, A.acqFilt, A.acqValcfg, A.acqCalctl, A.cnpyBalen0, A.cnpyBalen1, A.cnpyImpctl, A.cnpyRsv, A.cnpyConf,
   A.protL0act, A.protL0first]
  ++ (List.range 384).map A.evtRoute ++ (List.range 128).flatMap (fun e => [A.sysTstat e, A.sysTmiss e])
  ++ (List.range 48).flatMap (fun n => A.ringModver0 n :: A.ringModver1 n :: (span 1 64).map (A.ringDly n))

/-- The listed bytes of a range of memory. -/
def cellsIn (a n : Nat) (m : FMap Byte) : FMap Byte :=
  (m.filter (fun c => decide (a ≤ c.1) && decide (c.1 < a + n))).map (fun c => (c.1 - a, c.2))

/-- The ranges of memory that a joiner takes (12 R430): the images' areas of MRAM (15 R519), and the tasks' windows in SRAM. -/
def Dev.joinRanges (d : Dev) : List (Nat × Nat) :=
  (0x201A0000, 0xB0000) :: (match d.img.prog with
    | none => []
    | some g => ((g.tasks.flatMap (fun x => x.2.wins)).filter (fun w => decide (0 < w.len) && decide (w.base + w.len ≤ 0x01400000))).map
        (fun w => (w.base, w.len)))

/-- A hop's item of the bulk state. -/
def Dev.hopItem (d : Dev) (n h : Nat) : Mooring :=
  let p := d.port n
  .bulkHop n h (d.identity n h) (FMap.get (fun _ => 0) p.uidWanted h) (FMap.get (fun _ => false) p.cfgStale h) (FMap.get (fun _ => 0) p.cfgFails h)
    (FMap.get (fun _ => 0) p.barred h) ((List.range 16).map (fun c => FMap.get (fun _ => 0) p.btFail (16 * h + c)))

/-- The bulk state (12 R430) in the order of its table, with the scan numbers (01 R18), the ring states, and the sessions on the block's
addresses (13 R460). -/
def State.bulkList (s : State) : List Mooring :=
  let d := s.dev
  [.bulkScan d.scan, .bulkImages d.img [d.hwd.envh, d.hwd.chemh, d.hwd.progh, d.hwd.toph]]
  ++ d.joinRanges.map (fun r => .bulkMem r.1 r.2 (cellsIn r.1 r.2 s.mem))
  ++ joinRegs.map (fun a => .bulkReg a (d.reg a))
  ++ d.pubSet.map (fun k => .bulkOut (k / 65536) (k % 65536) (d.pub (k / 65536) (k % 65536)))
  ++ [.bulkSeq d.ctl.blk d.ctl.strs d.ctl.agrPos d.ctl.agrNeg]
  ++ d.ringsOn.flatMap (fun n => .ringState n (d.ringState n) (d.fld (A.ringStat n) 27 21) (d.fld (A.ringStat n) 20 14) :: (d.hopsOf n).map (d.hopItem n))
  ++ (if d.hwd.kp.isSome then d.hwd.keys else []).map (fun k => .hopKey (k.1 / 64) (k.1 % 64 + 1) (FMap.get (fun _ => 0) d.hwd.gens k.1) k.2)
  ++ [.bulkTimers d.cnpy.timers, .bulkReport d.rep]
  ++ d.prot.cntA.map (fun c => .bulkCount c.1 c.2)
  ++ [.bulkProt d.prot.limits d.prot.gxCnt d.prot.gxActive d.prot.active, .bulkZones d.latched]
  ++ (d.cnpy.page d.cnpy.conf).map (fun x => .bulkCell x.1 x.2)
  ++ (if d.hwd.kp.isSome then d.hwd.sessions else []).filterMap (fun x => x.2.bind (fun y => if y.ownAddr then none else some (.session x.1 (some y))))
  ++ [.opState d.scan d.base, .aringsValue d.ownArings, .profile d.disp.ver d.disp.cnt d.disp.lastSeq,
      .utc d.eth.offset (d.fld A.ethPtp 15 0) (d.rbit A.ethPtp 31) (d.rbit A.ethPtp 30)]
  ++ (List.range 4).map (fun c => .canStat c (d.reg (A.canStat c)))

/-- The twin with authority sends the bulk state to a partner that has begun to join (12 R430), once, at a tick boundary (DESIGN CHOICE,
log entry 105). -/
def State.sendBulk (s : State) : State :=
  let d := s.dev
  if d.isTwin && d.authority && d.twin.joining && !d.twin.bulkSent && (d.rbit A.twinStat 23 || d.rbit A.twinStat 24) then
    s.onDev (fun d => (foldOver s.bulkList Dev.moorSend d).onTwin (fun x => { x with bulkSent := true }))
  else s

end Sys2Proof.Machine
end

