-- ==== Sys2Proof/Machine/Power.lean ====
section
/-! DEFINITION. Power, clocks, operating states and thermal management (16 R539-R562). -/

namespace Sys2Proof.Machine
open Sys2Proof

/-- Registers that a core reset leaves: the fused SYS.UNITMAP (00 R8), life counters (10 R368, 12 R440), Heartwood's sealed OWNSEQ, the
always-on thermal monitor, the load switch unit. -/
def keepsReg (a : Nat) : Bool :=
  (decide (A.ctlLcyc 0 ≤ a) && decide (a < A.ctlLcyc 50)) || a == A.sysUnitmap || a == A.twinGrafts || a == A.twinUnavl || a == A.hwdOwnseq
    || (decide (0x40100000 ≤ a) && decide (a < 0x40100100)) || (decide (0x40080000 ≤ a) && decide (a < 0x40080300))

/-- What a port keeps over a reset: the modules and the head on the wire, and the commissioned UIDs in Heartwood's area. -/
def Port.afterReset (p : Port) : Port := { mods := p.mods, head := p.head, uidWanted := p.uidWanted }

/-- What Heartwood keeps over a reset: its sealed area, the firmware slots and the boot count (13 R441, R445, R451). -/
def HwdSt.afterReset (h : HwdSt) : HwdSt :=
  { ownerKeys := h.ownerKeys, roleKeys := h.roleKeys, slots := h.slots, twinPair := h.twinPair, ktGen := h.ktGen, kt := h.kt, revoked := h.revoked, keys := h.keys,
    gens := h.gens, floors := h.floors, fw := h.fw, boots := h.boots, reply := h.reply }

/-- The cause that PWR.RSTCAUSE records: the first in the order POR, THERMAL, RAILF, CLOCK, VAUX, REQ, WAKEBUS, WAKEKEY (16 R560). -/
def resetCause (mask : Nat) : Nat := ([0, 3, 2, 4, 1, 5, 6, 7].find? (fun k => mask.testBit k)).getD 0

/-- The event of a recorded cause (16 R558, R560); none for POR, CLOCK and REQ. -/
def causeEvent (k : Nat) : Option Nat := if k = 1 then some 2 else if k = 2 then some 4 else if k = 3 then some 8 else if k = 6 ∨ k = 7 then some 5 else none

/-- The device as its core domains leave reset (16 R540, R548), with the straps sampled (17 R573-R574, 19 R602: a part without Mooring
reads its twin strap as 0): volatile state at its reset values, what MRAM, Heartwood, the always-on
domain, the load switch unit and the rings hold unchanged. -/
def Dev.fresh (tws : Nat) (tmode : Bool) (d : Dev) : Dev :=
  let e : Dev := {
    regs := d.regs.filter (fun p => keepsReg p.1), time := { now := d.time.now },
    ports := d.ports.map (fun p : Nat × Port => (p.1, p.2.afterReset)), prot := { mramLatch := d.prot.mramLatch },
    cnpy := { snapA := d.cnpy.snapA, snapB := d.cnpy.snapB, snapUseB := d.cnpy.snapUseB }, lsw := d.lsw, lh := d.lh,
    twin := { everPaired := d.twin.everPaired }, hwd := d.hwd.afterReset,
    ram := { banks := d.ram.banks }, log := { recs := d.log.recs, nextSeq := d.log.nextSeq, pos := d.log.pos, dropT := d.log.dropT },
    pwr := { d.pwr with cause := 0, rail := 0, inReset := false, vthrDue := none, noRun := false },
    img := { d.img with prog := none, topo := none },
    readData := d.readData, freeCnt := d.freeCnt }
  let e := ((e.setRbit A.hwdStat 31 (d.rbit A.hwdStat 31)).setFld A.hwdStat 15 8 (d.fld A.hwdStat 15 8)).setFld A.pwrStat 31 28 d.pstate
  let e := (e.setFld A.pwrStat 15 0 (d.fld A.pwrStat 15 0)).setRbit A.pwrStat 20 (d.rbit A.pwrStat 20)
  (e.setFld A.sysStrap 1 0 (if e.rbit A.sysUnitmap 9 then tws else 0)).setRbit A.sysStrap 2 tmode

/-- ARINGS and the refusal of RUN as the restored retirement map gives them (15 R511, R512, R515). -/
def Dev.restoreRings (d : Dev) : Dev :=
  let d := (d.setFld A.memStat 23 18 d.ownArings).setRbit A.memStat 31 (decide (d.ownArings < d.rings))
  { d with pwr := { d.pwr with noRun := decide (d.healthy < 36) } }

/-- RESET_RELEASE (R540, R548-R549, R560): outside STORAGE and a thermal shutdown. SRAM reads as after power-on (log entry 1). After a
wake from STORAGE every own value settles for two scan values (05 R177). -/
def execResetRelease (tws : Nat) (tmode : Bool) (s : State) : Out :=
  let d := s.dev
  .next (if d.pwr.inReset = false ∨ d.pwr.storeMark ∨ d.pwr.shut then s else
    let k := resetCause d.pwr.cause
    let e := d.fresh (tws % 4) tmode
    let e := e.setReg A.pwrRstcause (BitVec.ofNat 32 (2 ^ k + (if k = 2 then (d.pwr.rail % 256) * 256 else 0)))
    let e := if e.isTwin then e.setRbit A.twinStat 19 (tws % 4 == 2) else e
    let e := if d.pwr.cause.testBit 6 || d.pwr.cause.testBit 7 then foldOver (List.range 30) (fun j e => e.settleOwn j 2) e else e
    let e := (e.showBanks.restoreRings).settleState 7
    let e := match causeEvent k with
      | none => e
      | some n => e.raise n 0
    { s with dev := e, mem := zeroRange 0 0x01400000 s.mem })

/-- Scanning starts (01 R19): the first nominal instant is OFFSET + 100 µs away. -/
def Dev.startScans (d : Dev) : Dev :=
  let off := d.fld A.acqCtl 15 0 * 10
  { d with time := { d.time with scanning := true, off := off, nextN := d.time.now + off + 100000, inst := d.time.now, placed := none } }

/-- The rings of the topology begin discovery where a port that launches has lock (04 R145). -/
def Dev.startRings (d : Dev) : Dev :=
  foldOver d.ringsOn (fun n d => if d.ringState n = 0 then ((if d.launches n && d.rbit (A.ringStat n) 12 then d.discoverRing n else d.setRing n 1).ringEvent n true) else d) d

/-- BOOT_COMPLETE (R448, R549): not in recovery, nor under a strap code that keeps the device in BOOT (17 R574). A twin whose Mooring
has trained begins PAIRING (12 R429). -/
def execBootComplete (s : State) : Out :=
  let d := s.dev
  .next (if !(d.pstate == 7) || d.pwr.inReset || d.hwd.recovery || d.fld A.sysStrap 1 0 == 3 || d.rbit A.sysStrap 2 then s else
    let e := foldOver d.ringsOn Dev.snapRestore d
    let e := (e.setRbit A.cnpyStat 28 e.snapsOk).startScans
    let e := e.settleState 3
    { s with dev := ((e.startRings).pairRetry).fewBanks })

/-- The steps of the VAUX reset table (16 R542): authority goes with GRAFT_OUT high, outputs off, reset. -/
def Dev.dropOut (cause rail : Nat) (d : Dev) : Dev := ((if d.isTwin then d.giveUp else d)).goReset cause rail

/-- RAIL_FAULT (R540): `i` is the rail's place in the table of R539; VAUX has levels of its own. -/
def execRailFault (i : Nat) (s : State) : Out :=
  present (decide (i < 7)) (if s.dev.pwr.inReset ∨ i = 1 then s else s.onDev (Dev.dropOut 2 (2 ^ i)))

/-- The VAUX reading (16 R559). -/
def Dev.setVaux (mv : Nat) (d : Dev) : Dev := d.setFld A.pwrStat 15 0 (min mv 65535)

/-- VWARN changes (16 R542-R543): event 1; the throttle follows at a tick boundary, in a twin pair at the first that is 20 µs away. -/
def Dev.setWarn (b : Bool) (d : Dev) : Dev :=
  let d := ((d.setRbit A.pwrStat 23 b).raise 1 0).moorSend (.warning b)
  { d with pwr := { d.pwr with vthrDue := some (d.time.now + (if d.agreed then 20000 else 0)) } }

/-- VAUX_WARNING (R542): below 16.5 V the TVSD timer runs. -/
def execVauxWarning (mv : Nat) (s : State) : Out :=
  .next (if s.dev.pwr.inReset then s else s.onDev (fun d =>
    let d := d.setVaux mv
    let d := if d.rbit A.pwrStat 23 then d else d.setWarn true
    d.setRbit A.pwrStat 21 true))

/-- VAUX returns during a shutdown that its level started (10 R357): a part-opened block is opened, and no other step runs. -/
def Dev.vauxBack (d : Dev) : Dev :=
  if d.shutting && d.ctl.blk.shutVaux && !d.ctl.blk.shutStore then d.setBlk (fun b => { b with finish := true }) else d

/-- VAUX_RECOVERY (R542, 10 R357): above 17.0 V for 10 ms. In reset it only permits the release. -/
def execVauxRecovery (mv : Nat) (s : State) : Out :=
  .next (s.onDev (fun d =>
    let d := d.setVaux mv
    if d.pwr.inReset then d else
    let d := d.setRbit A.pwrStat 21 false
    let d := if d.rbit A.pwrStat 23 then d.setWarn false else d
    d.vauxBack))

/-- VAUX_RESET (R542): below 14.0 V; the limp-home unit loads its map again after VAUX returns (11 R390),
and every channel is off until then (R377). Without VAON device time restarts from 0 (R541, R547). -/
def execVauxReset (mv : Nat) (s : State) : Out :=
  .next (s.onDev (fun d =>
    let d := d.setVaux mv
    let d := if d.pwr.inReset then d else d.dropOut 1 0
    let d := if d.rbit A.pwrStat 20 then d.setClock 0 else d
    ({ d with lh := { d.lh with loaded := false } }).allChansOff))

/-- VAONLOST changes (16 R541): event 13. -/
def Dev.setVaonLost (b : Bool) (d : Dev) : Dev := if d.rbit A.pwrStat 20 = b then d else (d.setRbit A.pwrStat 20 b).raise 13 0

/-- VAON_LOST (R541). -/
def execVaonLost (s : State) : Out := .next (s.onDev (Dev.setVaonLost true))

/-- VAON_RETURN (R541). -/
def execVaonReturn (s : State) : Out := .next (s.onDev (Dev.setVaonLost false))

/-- CORE_DROOP (R544): `cycles` stretched cycles in a tick of Keeper pair `p`; more than 2,000 count the tick. -/
def execCoreDroop (p : Nat) (cycles : Nat) (s : State) : Out :=
  .next (s.onDev (fun d => if p < 2 ∧ 2000 < cycles then (d.bump A.pwrDroop A.pwrOvf 0).raise 3 p else d))

/-- A clock failed (16 R545): in a twin pair the device yields, otherwise it resets. -/
def Dev.clockFail (e : Nat) (d : Dev) : Dev :=
  let d := d.raise e 0
  if d.isTwin && (d.twinState == 3 || d.twinState == 4 || d.twinState == 5) then d.twinFail else d.dropOut 4 0

/-- PLL_FAIL (R545). -/
def execPllFail (s : State) : Out := .next (if s.dev.pwr.inReset then s else s.onDev (Dev.clockFail 11))

/-- OSC_FAIL (R545). -/
def execOscFail (s : State) : Out := .next (if s.dev.pwr.inReset then s else s.onDev (Dev.clockFail 12))

/-- What R549 asks for TWATCH without a break before WATCH. -/
def Dev.idle (d : Dev) : Bool :=
  d.pstate == 3 && d.mainsOpen && d.closedHeads == [] && d.ctl.blk.code == 0 && (List.range 48).all (fun n => (d.strSeq n).code == 0)
    && d.openSessions == 0 && d.rep.chg.isNone && d.rep.dis.isNone && d.fld A.protL0act 17 0 == 0

/-- WATCH_ENTRY (R549): TWATCH has passed; 0 disables WATCH. -/
def execWatchEntry (s : State) : Out :=
  .next (if s.dev.idle && decide (0 < s.dev.topo.twatch) then s.onDev (Dev.settleState 2) else s)

/-- PLL-K and PLL-C run or not in WATCH (16 R546). -/
def Dev.setPll (b : Bool) (d : Dev) : Dev := if d.pstate = 2 then { d with pwr := { d.pwr with watchPll := b } } else d

/-- WATCH_PLL_START (R546). -/
def execWatchPllStart (s : State) : Out := .next (s.onDev (Dev.setPll true))

/-- WATCH_PLL_STOP (R546). -/
def execWatchPllStop (s : State) : Out := .next (s.onDev (Dev.setPll false))

/-- Wake from STORAGE (16 R553): mark cleared, PWR_EN high, the source recorded. -/
def Dev.wakeUp (k : Nat) (d : Dev) : Dev :=
  if d.pwr.storeMark then { d with pwr := { d.pwr with storeMark := false, pwrEn := true, cause := d.pwr.cause ||| 2 ^ k } } else d

/-- WAKE_BUS_WAKE (R553). -/
def execWakeBusWake (s : State) : Out := .next (s.onDev (Dev.wakeUp 6))

/-- SERVICE_KEY_WAKE (R553). -/
def execServiceKeyWake (s : State) : Out := .next (s.onDev (Dev.wakeUp 7))

/-- A thermal element after a sample (16 R555): its counter, and whether it is active. -/
def thermStep (thr t : Int) (cnt : Nat) (act : Bool) : Nat × Bool :=
  let n := if thr ≤ t then min (cnt + 1) 1000 else if t < thr - 300 then cnt - 1 else cnt
  (n, if n = 1000 then true else if n = 0 then false else act)

/-- Show a sample in the THERM registers (16 R562): the first sensor with the highest reading is HOT. -/
def Dev.showDie (temps : List Int) (tj : Int) (cnt : Nat) (d : Dev) : Dev :=
  let hot := (findIdxFrom (fun (x : Int) => x == tj) 0 temps).map (fun p => p.1)
  let d := (d.setFld A.thermStat 15 0 (toU 16 tj)).setFld A.thermStat 18 16 (hot.getD 0)
  foldOver ((List.range 8).zip temps) (fun p d =>
    d.setReg (A.thermDie p.1) (BitVec.ofNat 32 (toU 16 p.2 + (if hot = some p.1 then cnt * 65536 else 0)))) d

/-- Enforcement begins or ends (16 R556): ENF, the suspension of Heartwood, event 7; the halving is agreed as the throttle is. -/
def Dev.enforce (b : Bool) (d : Dev) : Dev :=
  let d := ((((d.setRbit A.thermStat 30 b).setRbit A.hwdStat 28 b).raise 7 0)).moorSend (.halving b)
  { d with pwr := { d.pwr with halfDue := some (d.time.now + (if d.agreed then 20000 else 0)) } }

/-- The 110 °C element changes (16 R556): REQ with event 6; at its end ENF, the halving and the suspension end too. -/
def Dev.throttle (b : Bool) (d : Dev) : Dev :=
  let d := (d.setRbit A.thermStat 31 b).raise 6 0
  if b then d else (if d.rbit A.thermStat 30 then d.enforce false else d).startMarch

/-- Thermal shutdown (16 R557). -/
def Dev.thermShut (d : Dev) : Dev :=
  let d := d.dropOut 3 0
  let d := { d with pwr := { d.pwr with shut := true } }
  d.allChansOff

/-- THERMAL_SAMPLE (R555): each ms the thermal monitor samples the die sensors; TWIN.UNAVL counts the ms without authority (12 R434). -/
def execThermalSample (temps : List Int) (s : State) : Out :=
  .next (s.onDev (fun d =>
    match temps with
    | [] => d
    | a :: rest =>
      let tj := rest.foldl max a
      let lo := rest.foldl min a
      let x := thermStep 11000 tj d.pwr.cnt110 d.pwr.act110
      let y := thermStep 13500 tj d.pwr.cnt135 d.pwr.act135
      let was := d.pwr
      let d := d.showDie temps tj x.1
      let d := { d with pwr := { was with cnt110 := x.1, act110 := x.2, cnt135 := y.1, act135 := y.2, cold := decide (tj < -4000) } }
      let d := d.raiseIf (decide (tj < -4000) && !was.cold) 10 0
      let d := if tj - lo ≤ 1500 then d.setRbit A.thermStat 29 false else d
      let d := if x.2 = was.act110 then d else d.throttle x.2
      let d := if y.2 && !was.act135 then d.thermShut else d
      if d.isTwin && !d.authority && !d.twin.partnerAuth && !d.rbit A.pwrStat 23 && !d.pwr.inReset then d.twinLife A.twinUnavl 1 else d))

/-- THERMAL_ENFORCE (R556): the element is still active 500 ms after REQ. -/
def execThermalEnforce (s : State) : Out :=
  .next (s.onDev (fun d =>
    if d.pwr.act110 && d.rbit A.thermStat 31 && !d.rbit A.thermStat 30 then
      d.enforce true
    else d))

/-- THERMAL_RESTART (R557): the core domains may leave reset again. -/
def execThermalRestart (s : State) : Out := .next (s.onDev (fun d => { d with pwr := { d.pwr with shut := false } }))

/-- SENSOR_DIFF (R554): event 9; the difference is shown until a sample no longer has it. -/
def execSensorDiff (s : State) : Out := .next (s.onDev (fun d => (d.setRbit A.thermStat 29 true).raise 9 0))

end Sys2Proof.Machine
end

