-- ==== Sys2Proof/Machine/Cutoff.lean ====
section
/-! DEFINITION. Slot cut-off at +1,165 µs: delivery, the cell table's new records and their validity, what the slots and the head
blocks report, and the string currents of the instant (01 R25, 04 R127-R129, 05 R181-R186, 06 R207, R215-R218, 09 R310). -/

namespace Sys2Proof.Machine
open Sys2Proof

/-- The device that launched the slot's half received it with a correct SCRC; on an intact ring of a twin pair the other twin did
too (05 R185). -/
def Dev.slotOk (d : Dev) (own : Bool) (x : SlotIn) : Bool :=
  let shared := d.agreed && !(d.ringState x.port == 3)
  x.ok && (!shared || (x.okPartner && !d.acq.failedSlots.contains (x.port, x.hop)))
    && !(own && d.time.late.isSome && d.ringState x.port == 3)

/-- The hop lies beyond the reached hops of an ISOLATED ring (04 R140). -/
def Dev.unreached (d : Dev) (n h : Nat) : Bool :=
  d.ringState n == 4 && !d.reaches n h

/-- What decides the validity of a module's values in a scan (05 R184): beyond reach, REFERR, aged, not delivered or repeated,
tag mismatch, QMISS or OTEMP, settling. -/
structure SlotJudge where
  absent : Bool
  refErr : Bool
  aged : Bool
  miss : Bool
  tagBad : Bool
  suspect : Bool
  settling : Bool
deriving DecidableEq, Repr

/-- The validity code of one value (05 R184), highest rank first; `off` an input not enabled, `bad` one without a usable number. -/
def SlotJudge.code (j : SlotJudge) (off bad : Bool) : Nat :=
  if j.absent || off then 6 else if bad || j.refErr || j.aged then 5 else if j.miss then 2 else if j.tagBad then 3
  else if j.suspect then 4 else if j.settling then 1 else 0

/-- The code lets a value carry the number delivered in this scan (05 R184). -/
def freshCode (c : Nat) : Bool := c == 0 || c == 1 || c == 4

/-- A module's record for the scan (05 R181, R184-R186). `old` is the record of the scan before, `sl` the delivered slot, `failed`
whether a slot failed its SCRC. STATUS, CFGTAG and SRCSCAN are those of the slot that supplied values (log entry 66). An ABSENT module does
not age: its values are not STALE. -/
def Dev.newRec (d : Dev) (n h : Nat) (old : ModRec) (sl : Option SlotIn) (failed : Bool) : ModRec :=
  let m := (d.port n).mod h
  let st := match sl with | some x => x.status | none => m.status
  let miss := match sl with | some x => x.status.getLsbD 41 | none => true
  let absent := d.unreached n h
  let age := if miss && !absent then min (old.age + 1) 8 else 0
  let j : SlotJudge :=
    { absent := absent, refErr := st.getLsbD 51, aged := decide (d.fld A.acqValcfg 2 0 < age), miss := miss,
      tagBad := (match sl with | some x => !(x.cfgtag == d.expectTag n h) | none => false),
      suspect := st.getLsbD 40 || st.getLsbD 50,
      settling := st.getLsbD 42 || decide (0 < (st.extractLsb' 44 4).toNat) || decide (0 < m.settleCnt) }
  let prof := fun (i : Nat) => d.topo.profiles.getD (FMap.get (fun _ => 0) d.topo.tempProfiles (8 * (64 * n + h - 1) + i)) []
  let cellRaw := fun (i : Nat) => match sl with | some x => x.cells.getD i 0xFFFF | none => 0
  let temp := fun (i : Nat) => match sl with
    | some x => if x.temps.getD i 0xFFFF = 0xFFFF then none else convTemp (prof i) (x.temps.getD i 0xFFFF)
    | none => some 0
  let was := fun (i : Nat) => sl.isNone && old.valid.getD i 6 == 5
  let cellCode := fun (i : Nat) => j.code (!d.topo.inen.bit i) (cellRaw i == 0xFFFF || st.getLsbD i || was i)
  let tempCode := fun (i : Nat) => j.code (!d.topo.inen.bit (16 + i)) ((temp i).isNone || st.getLsbD (32 + i) || was (16 + i))
  let codes := (List.range 16).map cellCode ++ (List.range 8).map tempCode
  let gave := codes.any freshCode
  { old with
    cells := (List.range 16).map (fun i => if freshCode (cellCode i) then cellRaw i else old.cells.getD i 0)
    temps := (List.range 8).map (fun i => if freshCode (tempCode i) then (temp i).getD 0 else old.temps.getD i 0)
    status := if gave then st else old.status
    cfgtag := (match sl with | some x => if gave then x.cfgtag else old.cfgtag | none => old.cfgtag)
    valid := codes
    src := if gave then d.scan else old.src
    deliv := (match sl with | some x => x.src % 3 | none => 3)
    failed := failed
    age := age }

/-- A record that no module of the topology stands behind: every value ABSENT (05 R184), the numbers kept. -/
def ModRec.gone (r : ModRec) : ModRec := { r with valid := List.replicate 24 6, deliv := 3, failed := false, headStale := false, age := 0 }

/-- The delivered slot of a hop. -/
def slotFor (l : List SlotIn) (n h : Nat) : Option SlotIn := l.find? (fun x => x.port == n && x.hop == h)

/-- Event 137 once for each run of ages above STALEMAX (05 R186). -/
def Dev.ageEvent (n h : Nat) (r : ModRec) (d : Dev) : Dev :=
  let k := 64 * n + h - 1
  let was := FMap.get (fun _ => false) d.acq.ageRun k
  let now := decide (d.fld A.acqValcfg 2 0 < r.age)
  let run := (was && decide (0 < r.age)) || now
  ({ d with acq := { d.acq with ageRun := FMap.set (fun _ => false) d.acq.ageRun k run } }).raiseIf (now && !was) 137 n

/-- The slot of a hop failed its SCRC in this scan (04 R125, 05 R181, R185): one that arrived so here or at the partner, and one of a scan
frame that came back without it. -/
def Dev.slotFailed (d : Dev) (slots : List SlotIn) (n h : Nat) : Bool :=
  let shared := d.agreed && !(d.ringState n == 3)
  let r := d.ownHops n
  slots.any (fun x => x.port == n && x.hop == h && (!x.ok || (shared && !x.okPartner)))
    || (shared && d.acq.failedSlots.contains (n, h))
    || ((d.port n).scanBack && decide (r.1 ≤ h) && decide (h ≤ r.2) && !slots.any (fun x => x.port == n && x.hop == h))

/-- One module's record enters the table. -/
def Dev.putRec (n h : Nat) (ok all : List SlotIn) (d : Dev) : Dev :=
  let q := d.acq
  let failed := d.slotFailed all n h
  let r := d.newRec n h (q.next.modRec n h) (slotFor ok n h) failed
  let recs := FMap.set (fun _ => {}) q.next.recs (64 * n + h - 1) r
  ({ d with acq := { q with next := { q.next with recs := recs } } }).ageEvent n h r

/-- A module that has reset (04 R136-R137, R145): everything but its identity, its key and the counters of its page 0x03 (06 R214) returns
to the reset values; a turnaround that it shows is one that ends by itself. -/
def Module.afterReset (m : Module) (st : BitVec 64) : Module :=
  { ident := m.ident, key := m.key, keygen := m.keygen, status := st, sent := st, lossT := m.lossT, timersT := m.timersT,
    autoTa := st.getLsbD 53 && !m.autoTb, autoTb := st.getLsbD 53 && m.autoTb, selfTurn := st.getLsbD 53,
    nReset := min (m.nReset + 1) 0xFFFFFFFF, nLoss := m.nLoss, nAuth := m.nAuth, nBal := m.nBal }

/-- RESET in a slot (04 R145): the module's reset values, and discovery of the hop unless it runs. -/
def Dev.seeReset (n h : Nat) (st : BitVec 64) (d : Dev) : Dev :=
  if !st.getLsbD 48 || d.discovering n h then d
  else
    let d := (d.setPort n (Port.setMod h (fun m => m.afterReset st))).hopBit (A.ringModver0 n) (A.ringModver1 n) h false
    let d := if h = 1 then d.setPort n (fun p => { p with head := { istr := p.head.istr, conP := p.head.conP, conN := p.head.conN, conPre := p.head.conPre } })
             else d
    d.discover n h h

/-- The configuration tag in a delivered slot (06 R217-R218). While a sequence runs the slot decides nothing; the first slot after its last
step does, and a mismatch fails it. A failed sequence is repeated whole, from the third failure on only by CFG_RETRY. -/
def Dev.seeTag (n h : Nat) (x : SlotIn) (d : Dev) : Dev :=
  let p := d.port n
  let k := p.cfgAt h
  let stale := FMap.get (fun _ => false) p.cfgStale h
  let again := fun (d : Dev) => if FMap.get (fun _ => 0) (d.port n).cfgFails h < 3 then d.reconfigure n h else d
  if x.status.getLsbD 48 || d.discovering n h || (decide (1 ≤ k) && decide (k ≤ 8)) then d
  else if x.cfgtag = d.expectTag n h then (if stale || k == 9 then d.cfgMatched n h else d)
  else if k = 9 then again (d.cfgFailed n h)
  else again (d.setPort n (fun p => { p with cfgStale := FMap.set (fun _ => false) p.cfgStale h true }))

/-- OPENW, TFLT, REFERR and OTEMP of a status word. -/
def diagBits (st : BitVec 64) : Nat := st.toNat &&& 0x000C00FF0000FFFF

/-- A transaction of the device's own with this code is about hop `h`. -/
def Port.asks (p : Port) (code h : Nat) : Bool :=
  (p.txns ++ p.backlog).any (fun t => t.code == code && t.holder == 0 && decide (t.first ≤ h) && decide (h ≤ t.last))

/-- Newly set diagnostic bits (06 R215): event 222 for each, and pages 0x00 and 0x01 for the Growth log. Pages that did not come are asked
for again; bits that are set while the reads of earlier ones are still out share them (DESIGN CHOICE, log entry 161). -/
def Dev.seeDiag (n h : Nat) (st : BitVec 64) (d : Dev) : Dev :=
  let seen := FMap.get (fun _ => 0) (d.port n).diagSeen h
  let new := bitsOf 64 (diagBits st) |>.filter (fun b => !seen.testBit b)
  let pend := FMap.get (fun _ => 0) (d.port n).diagPend h
  let d := d.setPort n (fun p => { p with diagSeen := FMap.set (fun _ => 0) p.diagSeen h (diagBits st),
                                          diagPend := FMap.set (fun _ => 0) p.diagPend h (pend ||| maskOf new) })
  let d := foldOver new (fun _ d => d.raise 222 n) d
  if (pend ||| maskOf new) = 0 ∨ (d.port n).asks 0x40 h then d else (d.queueDev n 0x40 h h [0] 36).queueDev n 0x40 h h [1] 36

/-- A slot shows LOSSSTOP (06 R206-R207): event 222 when the slot before did not show it, CLRST unless one is on its way, and the module's timers are 0 until the
string's next plan. -/
def Dev.seeLoss (n h : Nat) (old st : BitVec 64) (d : Dev) : Dev :=
  if st.getLsbD 49 = false then d else
  let d := { d with cnpy := { d.cnpy with timers := FMap.set (fun _ => []) d.cnpy.timers (64 * n + h - 1) [] } }
  let d := if (d.port n).asks 0x12 h then d else d.queueClrst n h 49
  d.raiseIf (!old.getLsbD 49) 222 n

/-- TURN in a slot (04 R128, R137): an automatic turnaround, TA at the last hop reached from end A. A module that enters turnaround is an
event of the ring (R148). -/
def Dev.seeTurn (n h : Nat) (st : BitVec 64) (d : Dev) : Dev :=
  let ra := d.fld (A.ringStat n) 27 21
  let m := (d.port n).mod h
  let new := st.getLsbD 53 && m.turn == 0 && !m.autoTa && !m.autoTb
  (d.ringEvent n new).setPort n (Port.setMod h (fun m =>
    if !st.getLsbD 53 then { m with autoTa := false, autoTb := false, selfTurn := false }
    else if m.turn = 0 ∧ m.autoTa = false ∧ m.autoTb = false then
      (if h = ra then { m with autoTa := true } else { m with autoTb := true })
    else m))

/-- A slot shows a module's status (04 R128, R136); LOSSSTOP, which counts once (06 R214), and timers that ran out show too (R204, R206). -/
def Module.seen (now : Nat) (st : BitVec 64) (m0 : Module) : Module :=
  let m := m0.settle now
  let run := fun (c : Nat) => if st.getLsbD (16 + c) && !st.getLsbD 49 then m.timers.getD c 0 else 0
  let t := (List.range 16).map run
  let k := if st.getLsbD 49 && !m.status.getLsbD 49 then min (m.nLoss + 1) 0xFFFFFFFF else m.nLoss
  { m with status := st, sent := st, nLoss := k, settleCnt := m.settleCnt - 1, burstReady := st.getLsbD 52, timers := if t.all (· == 0) then [] else t }

/-- What a delivered slot reports beside its values. -/
def Dev.seeSlot (x : SlotIn) (d : Dev) : Dev :=
  let n := x.port
  let h := x.hop
  let old := ((d.port n).mod h).sent
  let d := d.setPort n (Port.setMod h (Module.seen d.time.now x.status))
  let d := ((d.seeTag n h x).seeLoss n h old x.status).seeDiag n h x.status
  let d := (d.seeTurn n h x.status).seeReset n h x.status
  let k := 64 * n + h - 1
  let s := d.str n
  if x.status.getLsbD 41 && s.armed && !(s.frozen && x.status.getLsbD 52) then
    { d with cnpy := { d.cnpy with smiss := FMap.set (fun _ => 0) d.cnpy.smiss k (d.scan + 1) } }
  else d

/-- The hops on the far sides of an ISOLATED ring's breaks: turned, but not reached (04 R137, R144). -/
def Dev.farHops (d : Dev) (n : Nat) : List Nat :=
  let ra := d.fld (A.ringStat n) 27 21
  let rb := d.fld (A.ringStat n) 20 14
  if ¬(d.ringState n = 4) then [] else if rb = 0 then (if ra < d.ringL n then [ra + 1] else []) else (hopRange (ra + 1) (d.ringL n - rb)).filter (fun h =>
    h == ra + 1 || h == d.ringL n - rb)

/-- When every reached module in automatic turnaround has reported LINKBACK, they are released (04 R144), and with them the modules beyond the
breaks, which take the frame on their far receivers (R137). A turnaround that ends by itself needs no release. -/
def Dev.linkBacks (n : Nat) (d : Dev) : Dev :=
  let p := d.port n
  let turned := (d.hopsOf n).filter (fun h => ((p.mod h).autoTa || (p.mod h).autoTb) && !(p.mod h).selfTurn && !d.unreached n h)
  let busy := (p.txns ++ p.backlog).any (fun t => t.code == 0x06 && t.holder == 0)
  if turned = [] ∨ busy ∨ turned.any (fun h => !(p.mod h).status.getLsbD 54) then d
  else foldOver (turned ++ d.farHops n) (fun h d => d.queueDev n 0x06 h h [0] 4) d

/-- The head block of a string (04 R129, 05 R185, 10 R361, R368). -/
def Dev.seeHead (n : Nat) (heads : List HeadIn) (d : Dev) : Dev :=
  let old := (d.port n).head
  let q := d.acq
  let put := fun (r : ModRec) (age : Nat) (d : Dev) =>
    { d with acq := { d.acq with next := { d.acq.next with recs := FMap.set (fun _ => {}) d.acq.next.recs (64 * n) r },
                                 strAge := FMap.set (fun _ => 0) d.acq.strAge n age } }
  let r := q.next.modRec n 1
  match heads.find? (fun x => x.port == n && x.ok) with
  | none => put { r with headStale := true } (min (FMap.get (fun _ => 0) q.strAge n + 1) 8) d
  | some x =>
    let bytes := leBytes 4 (toU 32 x.istr) ++ leBytes 2 x.ctfb ++ leBytes 2 x.hstat ++ [x.lastSeq, x.karem, 0, 0]
    let head : Head := { old with
      istr := x.istr, coilPre := x.ctfb.testBit 6, coilN := x.ctfb.testBit 5, coilP := x.ctfb.testBit 4,
      conPre := x.ctfb.testBit 2, conN := x.ctfb.testBit 1, conP := x.ctfb.testBit 0, hstat := x.hstat,
      kaexp := x.hstat.testBit 1, karem := x.karem, kaWait := old.kaWait || x.hstat.testBit 1,
      kaT := if x.hstat.testBit 0 && !old.armed then d.time.now else old.kaT,
      preT := if x.ctfb.testBit 6 && !old.coilPre then d.time.now else old.preT,
      negOff := if x.ctfb.testBit 5 then old.negOff else none }
    let fb := x.hstat.testBit 2
    let d := put { r with headStale := false, head := bytes } 0 (d.setPort n (fun p => { p with head := head }))
    let d := d.raiseIf (fb && !FMap.get (fun _ => false) d.ctl.headFb n) 235 n
    let d := { d with ctl := { d.ctl with headFb := FMap.set (fun _ => false) d.ctl.headFb n fb } }
    if old.conP && !head.conP then d.life (A.ctlLcyc (n + 2)) 1 n else d

/-- The trapezoid charge between two instants in µC, charging and discharging parts (09 R310). `i0` and `i1` in mA, `dt` in ns. -/
def chargeParts (i0 i1 : Int) (dt : Nat) : Int × Int :=
  if 0 ≤ i0 ∧ 0 ≤ i1 then (rndDiv ((i0 + i1) * dt) 2000000, 0)
  else if i0 ≤ 0 ∧ i1 ≤ 0 then (0, rndDiv ((i0 + i1) * dt) 2000000)
  else
    let w : Int := (i0.natAbs + i1.natAbs : Nat)
    let a := rndDiv (i0 * i0 * dt) (2000000 * w)
    let b := rndDiv (i1 * i1 * dt) (2000000 * w)
    if 0 < i0 then (a, -b) else (b, -a)

/-- A string's current at this instant (08 R268-R269, 09 R310, 15 R528): the instant for Canopy, the saturating coulomb
counters with event 366, event 198. -/
def Dev.strInstant (n : Nat) (d : Dev) : Dev :=
  let v := d.acq.next
  let bad := d.istrCodeIn v n == 5
  let i := if bad then 0 else (v.modRec n 1).istr
  let x := d.str n
  let q := if bad || x.ibad then (0, 0) else chargeParts x.lastI i v.hdr.intv
  let e : Int × Nat × Nat := (rnd (i * 0x4189374C) 24, min (rnd ((v.hdr.intv : Int) * 0x44B82FA1) 32).toNat (2 * 2 ^ 28), d.istrCodeIn v n)
  let l := FMap.get (fun _ => []) d.cnpy.insts n
  let d := { d with cnpy := { d.cnpy with insts := FMap.set (fun _ => []) d.cnpy.insts n (l ++ [e]) } }
  let ch := coulAdd coulMax x.qch q.1
  let ds := coulAdd coulMax x.qds q.2
  let d := d.setStr n (fun x => { x with qch := ch.1, qds := ds.1, lastI := i, ibad := bad, zcOk := x.zcOk && !bad })
  ((d.raiseIf ch.2 366 n).raiseIf ds.2 366 n).raiseIf (bad != x.ibad) 198 n

/-- The first instant at least 1 ms after a step: its string and block currents (09 R322). -/
def Dev.stepInstant (d : Dev) : Dev :=
  let add := fun (n : Nat) (m : FMap Int) => if d.connected n then FMap.set (fun _ => 0) m n (d.acq.next.modRec n 1).istr else m
  let f := fun (st : StepSt) =>
    if st.wait && decide (st.t + 1000000 ≤ d.time.inst) then
      { st with wait := false, istr := foldOver d.ringsOn add [], blk := q16Of (d.acq.next.hdr.own.getD d.topo.blkCur 0) }
    else st
  { d with cnpy := { d.cnpy with steps := d.cnpy.steps.map (fun (p : Nat × StepSt) => (p.1, f p.2)) } }

/-- The device reads every frozen module (09 R321): the four blocks of the whole string, once all armed modules show BURSTRDY. A module
whose slot was not delivered is not waited for. -/
def Dev.readBursts (n : Nat) (d : Dev) : Dev :=
  let x := d.str n
  let l := d.armedHops n
  let ready := fun (h : Nat) => ((d.port n).mod h).burstReady
  if x.frozen && !x.reading && l.any ready && l.all (fun h => ready h || decide (0 < (d.acq.next.modRec n h).age)) then
    foldOver (List.range 4) (fun b d => d.queueDev n 0x31 1 (d.ringL n) [b, 0, 0, 0] 504) (d.setStr n (fun x => { x with reading := true }))
  else d

/-- What follows a scan's slots for one string: turnarounds, bleeding, balance-switch tests, the capture, the running sequence. -/
def Dev.strCutoff (n : Nat) (d : Dev) : Dev :=
  let d := ((d.linkBacks n).bleedCheck n).readTests n
  let d := if (d.str n).armed && !d.connected n then d.disarm n else d
  (d.readBursts n).strFeed n

/-- Slots and head blocks of ring n that failed their CRC (04 R125, R156): of a scan frame that came back, every region without a correct
one; else those that arrived so. -/
def Dev.crcFails (d : Dev) (slots : List SlotIn) (heads : List HeadIn) (n : Nat) : Nat :=
  let r := d.ownHops n
  if (d.port n).scanBack then
    ((hopRange r.1 r.2).filter (fun h => !slots.any (fun x => x.port == n && x.hop == h && x.ok))).length
      + b2n (!heads.any (fun x => x.port == n && x.ok))
  else (slots.filter (fun x => x.port == n && !x.ok)).length + (heads.filter (fun x => x.port == n && !x.ok)).length

/-- What the device sends its partner of a scan's slots: those that failed their SCRC (05 R185), those of its own half of a BROKEN ring
(04 R140), and all of them to a partner that joins (12 R430). -/
def Dev.tellSlots (slots : List SlotIn) (heads : List HeadIn) (d : Dev) : Dev :=
  let bad := (slots.filter (fun x => !x.ok)).map (fun x => (x.port, x.hop))
  let d := if bad = [] then d else d.moorSend (.badSlots bad)
  let mine := fun (n : Nat) => d.ringState n == 3 || (d.authority && d.twin.joining)
  let l := slots.filter (fun x => mine x.port)
  let hs := heads.filter (fun x => mine x.port)
  if l = [] ∧ hs = [] then d else d.moorSend (.halfSlots l hs)

/-- SLOT_CUTOFF (R185): the device's own slots, and in a twin pair the other half's; a joiner takes its partner's (12 R430). -/
def execSlotCutoff (slots : List SlotIn) (heads : List HeadIn) (s : State) : Out :=
  let d := (s.dev.at (s.dev.time.inst + 1165000)).tellSlots slots heads
  let mine := slots.filter (fun x => d.slotOk true x)
  let shares := d.agreed || (d.isTwin && d.twinState == 2)
  let theirs := if shares then d.acq.halfSlots.filter (fun x => d.slotOk false x) else []
  let ok := mine ++ theirs
  let all := slots ++ (if shares then d.acq.halfSlots else [])
  let hs := heads ++ (if shares then d.acq.halfHeads else [])
  let recs := d.acq.next.recs.map (fun p => (p.1, if decide (p.1 % 64 < d.ringL (p.1 / 64)) && d.portEn (p.1 / 64) then p.2 else p.2.gone))
  let d := { d with acq := { d.acq with next := { d.acq.next with recs := recs } }, time := { d.time with late := none } }
  let d := foldOver d.ringsOn (fun n d => foldOver (d.hopsOf n) (fun h d => d.putRec n h ok all) d) d
  let d := foldOver d.ringsOn (fun n d => (d.crcErrors n (d.crcFails slots heads n)).setPort n (fun p => { p with scanBack := false })) d
  let d := foldOver ok (fun x d => d.seeSlot x) d
  let d := foldOver d.ringsOn (fun n d => (d.seeHead n hs).strInstant n) d
  let d := d.stepInstant
  let d := foldOver d.ringsOn (fun n d => d.strCutoff n) d
  .next { s with dev := d.shutHeads }

end Sys2Proof.Machine
end

