-- ==== Sys2Proof/Machine/Frame.lean ====
section
/-! DEFINITION. The scan frame: placing instants, the sampling instant, and the tick boundaries with publication, the view shift and
the scan job's start (01 R18-R27, 02 R61-R62, R78-R79, 05 R165-R170, R180, 08 R282-R285, 15 R525, 16 R543). -/

namespace Sys2Proof.Machine
open Sys2Proof

/-- PCS_SYNC_EDGE (R165, R19): the first edge inside the capture window places the next instant OFFSET later. -/
def execPcsSyncEdge (t : Nat) (s : State) : Out :=
  let d := s.dev.at t
  let x := d.time
  let inWindow := decide (x.nextN ≤ t + x.off) && decide (t + x.off ≤ x.nextN + 100000)
  .next { s with dev := if x.scanning && x.placed.isNone && inWindow then d.placeAt (t + x.off) false else d }

/-- CAPTURE_WINDOW_CLOSE (R19): no edge came, so the next instant is N, free-running. -/
def execCaptureWindowClose (s : State) : Out :=
  let x := s.dev.time
  .next { s with dev := if x.scanning && x.placed.isNone then
      (s.dev.at (x.nextN - x.off + 100000)).placeAt x.nextN true else s.dev }

/-- A twin without authority turns to its own instant (05 R166): the one it holds, or N; event 134. -/
def Dev.goLocal (d : Dev) : Dev :=
  let x := d.time
  let x := if x.placed.isNone then { x with placed := some x.nextN, free := true } else x
  (({ d with time := { x with instLocal := true } }).judgeScan x.free).raise 134 0

/-- INSTANT_LOCAL_DEADLINE (R166): a twin without authority that has no message uses its own instant. -/
def execInstantLocalDeadline (s : State) : Out :=
  let x := s.dev.time
  let go := s.dev.follows && x.scanning && !x.msg && !x.instLocal
  .next { s with dev := if go then (s.dev.at (x.next - 34000)).goLocal else s.dev }

/-- The stretch at a nominal-instant computation (05 R170): it begins when the quiet timer has run out, and ends when EN was cleared
or the device has left RUN. A twin without authority begins one only by message (R166). -/
def Dev.stretchStep (d : Dev) : Dev :=
  let x := d.time
  if x.stretched && (x.stretchEnd || !d.isRun) then
    ({ d with time := { x with stretched := false, stretchReq := false, stretchEnd := false } }.setRbit A.acqStat 29 false).raise 130 0
  else if x.stretchReq && !x.stretched && d.isRun && decide (d.runPeriod < 20000000) && !d.follows then
    ({ d with time := { x with stretched := true, stretchReq := false } }.setRbit A.acqStat 29 true).raise 130 0
  else { d with time := { x with stretchReq := false } }

/-- The period of the present operating state in ns (05 R168, R170, 16 R548): 1 s in WATCH, 100 ms in STANDBY and BOOT. -/
def Dev.period (d : Dev) : Nat :=
  let st := if d.pstate = 5 then d.base else d.pstate
  if st = 2 then 1000000000
  else if st = 4 ∨ st = 6 then (if d.time.stretched && decide (d.runPeriod < 20000000) then 20000000 else d.runPeriod)
  else 100000000

/-- Calibration offsets that wait take effect at the instant (05 R188-R189). -/
def Dev.applyCal (d : Dev) : Dev :=
  match d.acq.newOffsets with
  | none => d
  | some l =>
    let mask := match d.acq.cal with | some r => r.mask | none => 0
    (({ d with acq := { d.acq with offsets := l, newOffsets := none } }).setFld A.acqCalstat 7 4 mask).calEnd 2 mask

/-- The scan header of a new scan (05 R183); own values follow with the results. -/
def Dev.newHdr (d : Dev) (scan inst : Nat) : Hdr :=
  let x := d.time
  { d.acq.next.hdr with
    scan := scan
    flags := b2n x.free + 2 * b2n x.stretched + 4 * b2n (d.rbit A.acqStat 30) + 8 * b2n x.instLocal
    tinst := x.late.getD inst
    intv := if x.prevInst = 0 then 0 else min (inst - x.prevInst) 0xFFFFFFFF
    qcnt := d.acq.coul / 65536 }

/-- Flags of the switched channels are copied at the instant (11 R388); in single use the copy is presented at once, and in a twin pair
it goes to the partner. -/
def Dev.copyFlags (d : Dev) : Dev :=
  let d := foldOver ((List.range 32).filter d.hasLsw) (fun n d =>
    let c := if d.switches n then (d.chan n).flags d.time.now else 0
    d.setChan n (fun x => { x with copy := c, agr := if d.isTwin then x.agr else c, evt := false })) d
  d.moorSend (.flags (((List.range 32).filter d.hasLsw).map (fun n => (n, (d.chan n).copy))))

/-- The values that a change since the last instant leaves SETTLING begin to count (05 R177). -/
def AcqSt.startSettling (q : AcqSt) : AcqSt :=
  { q with settle := foldOver q.settleNew (fun (p : Nat × Nat) m => FMap.upd (fun _ => 0) m p.1 (fun x => max x p.2)) q.settle, settleNew := [] }

/-- What one scan's agreement leaves is dropped at the next instant: slots of the partner (05 R185) and the results of both twins (12 R416). -/
def Dev.newAgreement (d : Dev) : Dev :=
  { d with acq := { d.acq with failedSlots := [], halfSlots := [], halfHeads := [], mine := [], theirs := [] } }

/-- The partner hears of the events collected at the instant (15 R525). -/
def Dev.tellEvents (d : Dev) : Dev := if d.log.col0 = [] ∧ d.log.col1 = [] then d else d.moorSend (.events d.log.col0 d.log.col1)

/-- The instant itself (01 R18-R20, R22). -/
def Dev.instant (d0 : Dev) : Dev :=
  let inst := d0.time.next
  let d := (d0.at inst).newAgreement.stretchStep.applyCal
  let scan := (d.scan + 1) % 2 ^ 32
  let d := d.setReg A.acqScan (BitVec.ofNat 32 scan)
  let hdr := d.newHdr scan inst
  let per := d.period
  let off := d.fld A.acqCtl 15 0 * 10
  let x := d.time
  let d := { d with
    time := { x with inst := inst, prevInst := inst, off := off, per := per, nextN := inst + per, placed := none, free := false,
                     msg := false, instLocal := false, quietDone := false, syncDone := false }
    acq := ({ d.acq with next := { d.acq.next with hdr := hdr } }).startSettling
    cnpy := { d.cnpy with tinsts := (inst :: d.cnpy.tinsts).take 128 }
    log := { d.log with col0 := d.log.set0, col1 := d.log.set1, set0 := [], set1 := [], user0 := 0, user1 := 0 }
    ctl := { d.ctl with loops := d.ctl.loops.map (fun (p : Nat × LoopSt) => (p.1, { p.2 with missed := false })) } }
  let d := if d.time.stretched = d0.time.stretched then d else d.tellStretch
  (d.mapTests (Module.sampleTest inst)).copyFlags.tellEvents

/-- SAMPLING_INSTANT (R22): a scanning device's next scan begins. -/
def execSamplingInstant (s : State) : Out := .next { s with dev := if s.dev.time.scanning then s.dev.instant else s.dev }

/-- A committed output reaches its place (02 R61-R62): class 4 publishes 3 as 0 with a control-engine event, and a command word of
class 5 or 6 with a new TAG becomes a request (10 R344). -/
def Dev.publish (o : OutVal) (d : Dev) : Dev :=
  let bad := o.cls == 4 && o.val.field 1 0 == 3
  let v : Word := if bad then 0 else o.val
  let key := 65536 * o.cls + o.idx
  let fresh := (o.cls == 5 || o.cls == 6) && !(v.field 15 8 == (d.pub o.cls o.idx).field 15 8)
  let d := { d with pubs := FMap.set (fun _ => 0) d.pubs key v, pubSet := if key ∈ d.pubSet then d.pubSet else d.pubSet ++ [key] }
  let d := if d.isTwin then { d with twin := { d.twin with pubsSince := d.twin.pubsSince ++ [{ o with val := v }] } } else d
  let d := if fresh then
      let r : SeqReq := { tgt := if o.cls = 5 then 0 else o.idx + 1, word := v.toNat, src := 0, due := d.scan }
      { d with ctl := { d.ctl with reqs := d.ctl.reqs ++ [r] } }
    else d
  let d := d.raiseIf bad (240 + o.idx) o.idx
  if o.cls = 2 then d.setLoop o.idx (fun l => { l with sp := v.toInt })
  else if o.cls = 3 then d.setLoop o.idx (fun l => { l with ff := v.toInt })
  else if o.cls = 4 then (if d.seqLoop o.idx then d else d.loopMode o.idx (v.field 1 0))
  else d

/-- A pair that completed its tick restarts the limp-home watchdog (11 R391). -/
def Dev.alive (d : Dev) : Dev :=
  if d.yielded || !d.pairsTick then d else { d with lh := { d.lh with wdog := false, inReset := false } }

/-- A fault action's trip request reaches the latch (07 R246-R247, R258): event 164. -/
def Dev.factRequest (p zones : Nat) (d : Dev) : Dev := if zones = 0 ∨ ¬(d.kstate p = 0) then d else (d.raise 164 p).requestZones zones 2 0xFF

/-- The end of a tick (01 R24, 02 R79, 03 R96, 11 R391, 12 R418): publications, zones of fault actions, the watchdog. The list of messages
sent in a tick begins anew (log entry 156). -/
def Dev.endTick (d0 : Dev) : Dev :=
  let l := d0.committed
  let d := foldOver l (fun o d => d.publish o) { d0 with committed := [], twin := { d0.twin with moor := [] } }
  let d := if d.time.ticksOn then d.alive else d
  let d := ((d.lswPublish l).canPublish l).streamPublish l
  let d := { (d.factRequest 0 d.factZones0).factRequest 1 d.factZones1 with factZones0 := 0, factZones1 := 0 }
  let d := if d.time.ticksOn then d.lhSync else d
  if d.time.ticksOn && d.time.tick == 2 then { d with twin := { d.twin with pubsCut := d.twin.pubsSince, pubsSince := [] } } else d

/-- The VAUX throttle follows VWARN at its boundary (16 R543). -/
def Dev.throttleStep (d : Dev) : Dev :=
  match d.pwr.vthrDue with
  | none => d
  | some t =>
    if d.time.tickStart < t then d
    else { d.setRbit A.pwrStat 22 (d.rbit A.pwrStat 23 || d.twin.partnerWarn) with pwr := { d.pwr with vthrDue := none } }

/-- The halving by thermal enforcement follows ENF of either twin at its boundary, as the throttle does (16 R556). -/
def Dev.halvingStep (d : Dev) : Dev :=
  match d.pwr.halfDue with
  | none => d
  | some t =>
    if d.time.tickStart < t then d
    else { d with pwr := { d.pwr with halfDue := none, enfHalf := d.rbit A.thermStat 30 || d.twin.partnerHalf } }

/-- A core at the start of a tick. -/
def CoreSt.newTick (k : CoreSt) : CoreSt := { k with cyc := 0, started := [] }

/-- A pair whose test passed resumes at a tick boundary (12 R404). -/
def Dev.resumePair (p : Nat) (d : Dev) : Dev :=
  let go := (d.pair p).resume && d.kstate p == 2
  let d := d.setPair p (fun q => { q with resume := false })
  if go then d.setFld (A.sysKstat p) 31 30 0 else d

/-- The start of tick `k` of scan `n` at time `t` (01 R23). -/
def Dev.beginTick (n k t : Nat) (d : Dev) : Dev :=
  let d := d.at t
  let d := { d with time := { d.time with tick := k, tickStart := t, tickScan := n, ticksOn := true },
                    k0 := d.k0.newTick, k1 := d.k1.newTick, k0b := d.k0b.newTick, k1b := d.k1b.newTick }
  let d := ((d.resumePair 0).resumePair 1).throttleStep.halvingStep
  let d := foldOver ((List.range 4).filter d.hasCan) (fun c d => d.canVisible c) d
  d.sequencer

/-- What the last scan left on a core at tick 0 (02 R78, 01 R27): suspended activations, and one running in a tick that was cut. -/
def Dev.dropLeft (cut : Bool) (c : Core) (d : Dev) : Dev :=
  let k := d.core c
  let drop := fun (x : Ctx) (d : Dev) => (d.abandon x.task).unlockCan (lockKey (pairOf c) x.task)
  let d := (foldOver k.susp drop d).setCore c (fun k => { k with susp := [] })
  if cut && k.run then (d.abandon k.cur.task).endAct c else d

/-- The views shift by one scan (05 R180). -/
def Dev.shiftViews (d : Dev) : Dev := { d with acq := { d.acq with views := (d.acq.next :: d.acq.views).take 8 } }

/-- Time of a whole scan job at half clock in ns (08 R285). -/
def Dev.halfJob (d : Dev) : Nat := if d.rings = 48 then 1216000 else 1600000

/-- The scan job starts (08 R282, R285): at half clock under the VAUX throttle or the thermal limit, and not at all when the period
is too short and the scan number odd. -/
def Dev.startJob (d : Dev) : Dev :=
  let half := d.rbit A.pwrStat 22 || d.pwr.enfHalf
  let short := half && decide (d.time.per < 2 * d.halfJob + 20000)
  let d := (d.setRbit A.cnpyStat 30 half).raiseIf (short != d.rbit A.cnpyStat 29) 196 0
  let d := d.setRbit A.cnpyStat 29 short
  let skip := short && d.scan % 2 == 1
  { d with cnpy := { d.cnpy with job := if skip then none else some d.scan, repeated := false, wrote := false, abandoned := false } }

/-- Events collected at the instant enter a pair's view (15 R525). -/
def Dev.kview (p : Nat) (evs : List Nat) (d : Dev) : Dev :=
  foldOver evs (fun e d => d.setRbit (A.evtKview p (e / 32)) (e % 32) true) d

/-- Both pairs' views at tick 0, with the partner's sets in a twin pair (15 R525). -/
def Dev.kviews (d : Dev) : Dev :=
  let d := (d.kview 0 (d.log.col0 ++ d.twin.partnerEvents0)).kview 1 (d.log.col1 ++ d.twin.partnerEvents1)
  { d with log := { d.log with col0 := [], col1 := [] }, twin := { d.twin with partnerEvents0 := [], partnerEvents1 := [] } }

/-- In a twin pair the flags presented are the owner's, or both for OWNER 2 (11 R388). -/
def Dev.mergeFlags (d : Dev) : Dev :=
  if !d.isTwin then d
  else foldOver ((List.range 32).filter d.hasLsw) (fun n d =>
    let w := (d.reg (A.lswCfg n)).field 29 28
    let theirs := FMap.get (fun _ => 0) d.twin.partnerFlags n
    let own := (d.chan n).copy
    let v := if w = 2 then own ||| theirs else if w = b2n (d.rbit A.twinStat 19) then own else theirs
    d.setChan n (fun x => { x with agr := v })) d

/-- Tick 0 of a new scan (01 R23, R27, 05 R180, 08 R282). -/
def State.tickZero (t : Nat) (s : State) : State :=
  let x := s.dev.time
  let cut := x.ticksOn && (decide (x.tick + 1 < x.ticks) || decide (t < x.tickStart + 250000))
  s.onDev (fun d =>
    let d := foldOver [Core.k0, Core.k1, Core.k0b, Core.k1b] (Dev.dropLeft cut) d
    let ticks := if d.pstate = 2 then 10 else d.time.per / 250000
    let d := { d with time := { d.time with ticks := ticks } }
    ((d.applyState.shiftViews.startJob.kviews.mergeFlags).beginTick d.scan 0 t).applyFspActs) |>.applyOwnActs

/-- TICK_BOUNDARY (R23): the running tick ends and the next begins; tick 0 of a new scan comes 1,170 µs after its instant. -/
def execTickBoundary (s : State) : Out :=
  let x := s.dev.time
  let t0 := x.inst + 1170000
  let next := x.tickStart + 250000
  let more := x.ticksOn && decide (x.tick + 1 < x.ticks)
  .next (State.sendBulk (
    if !x.scanning then s
    else if s.dev.scan = x.tickScan then
      (if more then s.onDev (fun d => d.endTick.beginTick x.tickScan (x.tick + 1) next)
       else if x.ticksOn && s.dev.pstate == 2 then
         s.onDev (fun d => let e := (d.at next).endTick; { e with time := { e.time with ticksOn := false } })
       else s)
    else if more && decide (next < t0) then s.onDev (fun d => d.endTick.beginTick x.tickScan (x.tick + 1) next)
    else (s.onDev Dev.endTick).tickZero t0))

end Sys2Proof.Machine
end

