-- ==== Sys2Proof/Machine/Regs.lean ====
section
/-! DEFINITION. Register accesses as commands (00 R10, R15, 05 R168-R200, 06 R203, 09 R317, 14 R476, 15 R529, R538, 19 R595, R604). -/

namespace Sys2Proof.Machine
open Sys2Proof

/-- A master reads a word; `readData` shows what it got (log entry 7). -/
def Dev.readReg (m : Master) (k : Option Nat) (a : Nat) (d : Dev) : Dev :=
  let r := d.ctlRead m k a
  { r.1 with readData := r.2 }

/-- The activation that pair `p` runs, as a locker. -/
def Dev.pairLocker (d : Dev) (p : Nat) : Nat := lockKey p (if p = 0 then d.k0 else d.k1).cur.task

/-- The master of pair `p`. -/
def pairMaster (p : Nat) : Master := if p = 0 then .k0 else .k1

/-- ACQ_CTL_WRITE (R168). -/
def execAcqCtlWrite (v : Word) (s : State) : Out := .next { s with dev := s.dev.ctlWrite A.acqCtl v }

/-- ACQ_FILT_WRITE (R177). -/
def execAcqFiltWrite (v : Word) (s : State) : Out := .next { s with dev := s.dev.ctlWrite A.acqFilt v }

/-- ACQ_STRETCH_WRITE (R170). -/
def execAcqStretchWrite (v : Word) (s : State) : Out := .next { s with dev := s.dev.ctlWrite A.acqStretch v }

/-- ACQ_VALCFG_WRITE (R198). -/
def execAcqValcfgWrite (v : Word) (s : State) : Out := .next { s with dev := s.dev.ctlWrite A.acqValcfg v }

/-- CNPY_BALEN_WRITE (R203): `k` 0 for BALEN0, else BALEN1. -/
def execCnpyBalenWrite (k : Nat) (v : Word) (s : State) : Out :=
  .next { s with dev := s.dev.ctlWrite (if k = 0 then A.cnpyBalen0 else A.cnpyBalen1) v }

/-- CNPY_IMPCTL_WRITE (R317). -/
def execCnpyImpctlWrite (v : Word) (s : State) : Out := .next { s with dev := s.dev.ctlWrite A.cnpyImpctl v }

/-- UCODE_WRITE (R538): `p` 0 for LOG.UCODE0, else LOG.UCODE1. -/
def execUcodeWrite (p : Nat) (v : Word) (s : State) : Out :=
  .next { s with dev := s.dev.ctlWrite (A.logUcode (if p = 0 then 0 else 1)) v }

/-- QCNTL_READ (R200). -/
def execQcntlRead (m : Master) (s : State) : Out := .next { s with dev := s.dev.readReg m none A.acqQcntl }

/-- TIMEL_READ (R604). -/
def execTimelRead (m : Master) (s : State) : Out := .next { s with dev := s.dev.readReg m none A.sysTimel }

/-- UTCL_READ (R502). -/
def execUtclRead (m : Master) (s : State) : Out := .next { s with dev := s.dev.readReg m none A.ethUtcl }

/-- RC_COUNTER_READ (R529). -/
def execRcCounterRead (m : Master) (addr : Nat) (s : State) : Out := .next { s with dev := s.dev.readReg m none addr }

/-- CAN_LOCK_READ (R476): pair `p` reads word 0 of an object or FIFO head. -/
def execCanLockRead (p : Nat) (addr : Nat) (s : State) : Out :=
  .next { s with dev := s.dev.readReg (pairMaster p) (some (s.dev.pairLocker p)) (addr - addr % 0x80) }

/-- CAN_DATA15_READ (R476): pair `p` reads DATA15 of the entry at `addr`. -/
def execCanData15Read (p : Nat) (addr : Nat) (s : State) : Out :=
  .next { s with dev := s.dev.readReg (pairMaster p) (some (s.dev.pairLocker p)) (addr - addr % 0x80 + 0x4C) }

/-- ABSENT_SPACE_ACCESS (R10): reads zero, ignores writes, raises event 372. -/
def execAbsentSpaceAccess (addr : Nat) (write : Bool) (s : State) : Out :=
  let d := if s.dev.absentAt addr then s.dev.raiseAbsent else s.dev
  .next { s with dev := if write then d else { d with readData := if s.dev.absentAt addr then 0 else s.dev.regView .fsp addr } }

/-- REGISTER_WRITE (R595). -/
def execRegisterWrite (addr : Nat) (v : Word) (s : State) : Out := .next { s with dev := s.dev.ctlWrite addr v }

end Sys2Proof.Machine
end

