-- ==== Sys2Proof/Machine/TabbinAlu.lean ====
section
/-! DEFINITION. The ALU group, the immediate instructions and the QOP group of Tabbin (02 R42-R45, R54-R56). -/

namespace Sys2Proof.Machine
open Sys2Proof

/-- A result that comes from two registers. -/
def alu3 (c : Core) (cost : Nat) (gd ga gb : Reg) (f : Word → Word → Word) (s : State) : Out :=
  .next { s with dev := s.dev.instr c cost {} (fun x => x.w gd (f (x.r ga) (x.r gb))) }

/-- A result that comes from one register. -/
def alu2 (c : Core) (cost : Nat) (gd ga : Reg) (f : Word → Word) (s : State) : Out :=
  .next { s with dev := s.dev.instr c cost {} (fun x => x.w gd (f (x.r ga))) }

/-- A fixed-point result: an exact integer that sat() narrows, setting sat_ind when it clamps (02 R43-R44). -/
def qop (c : Core) (cost : Nat) (gd : Reg) (f : Ctx → Int) (s : State) : Out :=
  .next { s with dev := s.dev.instr c cost {} (fun x => (x.w gd (Word.ofInt (satVal (f x)))).satIf (satClamps (f x))) }

/-- 1 or 0 as a word. -/
def boolWord (b : Bool) : Word := if b then 1 else 0

/-- DIV of 02 R45. -/
def divS (a b : Word) : Word := if b = 0 then 0xFFFFFFFF#32 else Word.ofInt (Int.tdiv a.toInt b.toInt)

/-- DIVU of 02 R45. -/
def divU (a b : Word) : Word := if b = 0 then 0xFFFFFFFF#32 else BitVec.ofNat 32 (a.toNat / b.toNat)

/-- REM of 02 R45. -/
def remS (a b : Word) : Word := if b = 0 then a else Word.ofInt (Int.tmod a.toInt b.toInt)

/-- REMU of 02 R45. -/
def remU (a b : Word) : Word := if b = 0 then a else BitVec.ofNat 32 (a.toNat % b.toNat)

/-- Leading zeros (02 R55). -/
def clzW (a : Word) : Word := if a = 0 then 32 else BitVec.ofNat 32 (31 - Nat.log2 a.toNat)

/-- QDIV16's exact quotient before sat(); division by zero gives a value that clamps, or 0 (02 R45, R56). -/
def qdiv16 (a b : Int) : Int := if b = 0 then (if a = 0 then 0 else if 0 < a then 2 ^ 31 else -(2 ^ 31) - 1) else rndDiv (a * 65536) b

/-- ADD (R55). -/
def execAdd (c : Core) (gd : Reg) (ga : Reg) (gb : Reg) (s : State) : Out := alu3 c 1 gd ga gb (fun a b => a + b) s

/-- SUB (R55). -/
def execSub (c : Core) (gd : Reg) (ga : Reg) (gb : Reg) (s : State) : Out := alu3 c 1 gd ga gb (fun a b => a - b) s

/-- AND (R55). -/
def execAnd (c : Core) (gd : Reg) (ga : Reg) (gb : Reg) (s : State) : Out := alu3 c 1 gd ga gb (fun a b => a &&& b) s

/-- OR (R55). -/
def execOr (c : Core) (gd : Reg) (ga : Reg) (gb : Reg) (s : State) : Out := alu3 c 1 gd ga gb (fun a b => a ||| b) s

/-- XOR (R55). -/
def execXor (c : Core) (gd : Reg) (ga : Reg) (gb : Reg) (s : State) : Out := alu3 c 1 gd ga gb (fun a b => a ^^^ b) s

/-- SLL (R55): by gb[4:0]. -/
def execSll (c : Core) (gd : Reg) (ga : Reg) (gb : Reg) (s : State) : Out := alu3 c 1 gd ga gb (fun a b => a <<< (b.toNat % 32)) s

/-- SRL (R55). -/
def execSrl (c : Core) (gd : Reg) (ga : Reg) (gb : Reg) (s : State) : Out := alu3 c 1 gd ga gb (fun a b => a >>> (b.toNat % 32)) s

/-- SRA (R55). -/
def execSra (c : Core) (gd : Reg) (ga : Reg) (gb : Reg) (s : State) : Out :=
  alu3 c 1 gd ga gb (fun a b => a.sshiftRight (b.toNat % 32)) s

/-- SLT (R55). -/
def execSlt (c : Core) (gd : Reg) (ga : Reg) (gb : Reg) (s : State) : Out := alu3 c 1 gd ga gb (fun a b => boolWord (a.slt b)) s

/-- SLTU (R55). -/
def execSltu (c : Core) (gd : Reg) (ga : Reg) (gb : Reg) (s : State) : Out := alu3 c 1 gd ga gb (fun a b => boolWord (a.ult b)) s

/-- MIN (R55). -/
def execMin (c : Core) (gd : Reg) (ga : Reg) (gb : Reg) (s : State) : Out := alu3 c 1 gd ga gb (fun a b => if a.slt b then a else b) s

/-- MAX (R55). -/
def execMax (c : Core) (gd : Reg) (ga : Reg) (gb : Reg) (s : State) : Out := alu3 c 1 gd ga gb (fun a b => if a.slt b then b else a) s

/-- MINU (R55). -/
def execMinu (c : Core) (gd : Reg) (ga : Reg) (gb : Reg) (s : State) : Out := alu3 c 1 gd ga gb (fun a b => if a.ult b then a else b) s

/-- MAXU (R55). -/
def execMaxu (c : Core) (gd : Reg) (ga : Reg) (gb : Reg) (s : State) : Out := alu3 c 1 gd ga gb (fun a b => if a.ult b then b else a) s

/-- CSEL (R55): gd := ga if gd ≠ 0, else gb. -/
def execCsel (c : Core) (gd : Reg) (ga : Reg) (gb : Reg) (s : State) : Out :=
  .next { s with dev := s.dev.instr c 1 {} (fun x => x.w gd (if x.r gd = 0 then x.r gb else x.r ga)) }

/-- MUL (R55). -/
def execMul (c : Core) (gd : Reg) (ga : Reg) (gb : Reg) (s : State) : Out := alu3 c 3 gd ga gb (fun a b => a * b) s

/-- MULH (R55). -/
def execMulh (c : Core) (gd : Reg) (ga : Reg) (gb : Reg) (s : State) : Out :=
  alu3 c 3 gd ga gb (fun a b => Word.ofInt (a.toInt * b.toInt / 2 ^ 32)) s

/-- MULHU (R55). -/
def execMulhu (c : Core) (gd : Reg) (ga : Reg) (gb : Reg) (s : State) : Out :=
  alu3 c 3 gd ga gb (fun a b => BitVec.ofNat 32 (a.toNat * b.toNat / 2 ^ 32)) s

/-- DIV (R45, R55). -/
def execDiv (c : Core) (gd : Reg) (ga : Reg) (gb : Reg) (s : State) : Out := alu3 c 34 gd ga gb divS s

/-- DIVU (R45, R55). -/
def execDivu (c : Core) (gd : Reg) (ga : Reg) (gb : Reg) (s : State) : Out := alu3 c 34 gd ga gb divU s

/-- REM (R45, R55). -/
def execRem (c : Core) (gd : Reg) (ga : Reg) (gb : Reg) (s : State) : Out := alu3 c 34 gd ga gb remS s

/-- REMU (R45, R55). -/
def execRemu (c : Core) (gd : Reg) (ga : Reg) (gb : Reg) (s : State) : Out := alu3 c 34 gd ga gb remU s

/-- CLZ (R55). -/
def execClz (c : Core) (gd : Reg) (ga : Reg) (s : State) : Out := alu2 c 1 gd ga clzW s

/-- SADD (R56). -/
def execSadd (c : Core) (gd : Reg) (ga : Reg) (gb : Reg) (s : State) : Out := qop c 1 gd (fun x => (x.r ga).toInt + (x.r gb).toInt) s

/-- SSUB (R56). -/
def execSsub (c : Core) (gd : Reg) (ga : Reg) (gb : Reg) (s : State) : Out := qop c 1 gd (fun x => (x.r ga).toInt - (x.r gb).toInt) s

/-- SNEG (R56). -/
def execSneg (c : Core) (gd : Reg) (ga : Reg) (s : State) : Out := qop c 1 gd (fun x => -(x.r ga).toInt) s

/-- SABS (R56). -/
def execSabs (c : Core) (gd : Reg) (ga : Reg) (s : State) : Out := qop c 1 gd (fun x => ((x.r ga).toInt.natAbs : Int)) s

/-- QMUL16 (R56). -/
def execQmul16 (c : Core) (gd : Reg) (ga : Reg) (gb : Reg) (s : State) : Out :=
  qop c 3 gd (fun x => rnd ((x.r ga).toInt * (x.r gb).toInt) 16) s

/-- QMUL31 (R56). -/
def execQmul31 (c : Core) (gd : Reg) (ga : Reg) (gb : Reg) (s : State) : Out :=
  qop c 3 gd (fun x => rnd ((x.r ga).toInt * (x.r gb).toInt) 31) s

/-- QMULM (R56): q16 × q31 to q16. -/
def execQmulm (c : Core) (gd : Reg) (ga : Reg) (gb : Reg) (s : State) : Out :=
  qop c 3 gd (fun x => rnd ((x.r ga).toInt * (x.r gb).toInt) 31) s

/-- QMAC16 (R56). -/
def execQmac16 (c : Core) (gd : Reg) (ga : Reg) (gb : Reg) (s : State) : Out :=
  qop c 3 gd (fun x => (x.r gd).toInt + rnd ((x.r ga).toInt * (x.r gb).toInt) 16) s

/-- QDIV16 (R45, R56). -/
def execQdiv16 (c : Core) (gd : Reg) (ga : Reg) (gb : Reg) (s : State) : Out :=
  qop c 36 gd (fun x => qdiv16 (x.r ga).toInt (x.r gb).toInt) s

/-- QSHL (R56). -/
def execQshl (c : Core) (gd : Reg) (ga : Reg) (gb : Reg) (s : State) : Out :=
  qop c 1 gd (fun x => (x.r ga).toInt * 2 ^ ((x.r gb).toNat % 32)) s

/-- QSHR (R56). -/
def execQshr (c : Core) (gd : Reg) (ga : Reg) (gb : Reg) (s : State) : Out :=
  alu3 c 1 gd ga gb (fun a b => Word.ofInt (rnd a.toInt (b.toNat % 32))) s

/-- Q16TO31 (R56). -/
def execQ16to31 (c : Core) (gd : Reg) (ga : Reg) (s : State) : Out := qop c 1 gd (fun x => (x.r ga).toInt * 2 ^ 15) s

/-- Q31TO16 (R56). -/
def execQ31to16 (c : Core) (gd : Reg) (ga : Reg) (s : State) : Out := alu2 c 1 gd ga (fun a => Word.ofInt (rnd a.toInt 15)) s

/-- ADDI (R54). -/
def execAddi (c : Core) (gd : Reg) (ga : Reg) (imm : BitVec 16) (s : State) : Out := alu2 c 1 gd ga (fun a => a + imm.signExtend 32) s

/-- ANDI (R54). -/
def execAndi (c : Core) (gd : Reg) (ga : Reg) (imm : BitVec 16) (s : State) : Out := alu2 c 1 gd ga (fun a => a &&& imm.setWidth 32) s

/-- ORI (R54). -/
def execOri (c : Core) (gd : Reg) (ga : Reg) (imm : BitVec 16) (s : State) : Out := alu2 c 1 gd ga (fun a => a ||| imm.setWidth 32) s

/-- XORI (R54). -/
def execXori (c : Core) (gd : Reg) (ga : Reg) (imm : BitVec 16) (s : State) : Out := alu2 c 1 gd ga (fun a => a ^^^ imm.setWidth 32) s

/-- LUI (R54). -/
def execLui (c : Core) (gd : Reg) (imm : BitVec 16) (s : State) : Out :=
  .next { s with dev := s.dev.instr c 1 {} (fun x => x.w gd (imm.setWidth 32 <<< 16)) }

/-- SLTI (R54). -/
def execSlti (c : Core) (gd : Reg) (ga : Reg) (imm : BitVec 16) (s : State) : Out :=
  alu2 c 1 gd ga (fun a => boolWord (a.slt (imm.signExtend 32))) s

/-- SLTIU (R54): unsigned compare with sext(imm). -/
def execSltiu (c : Core) (gd : Reg) (ga : Reg) (imm : BitVec 16) (s : State) : Out :=
  alu2 c 1 gd ga (fun a => boolWord (a.ult (imm.signExtend 32))) s

/-- SLLI (R54). -/
def execSlli (c : Core) (gd : Reg) (ga : Reg) (sh : Fin 32) (s : State) : Out := alu2 c 1 gd ga (fun a => a <<< sh.val) s

/-- SRLI (R54). -/
def execSrli (c : Core) (gd : Reg) (ga : Reg) (sh : Fin 32) (s : State) : Out := alu2 c 1 gd ga (fun a => a >>> sh.val) s

/-- SRAI (R54). -/
def execSrai (c : Core) (gd : Reg) (ga : Reg) (sh : Fin 32) (s : State) : Out := alu2 c 1 gd ga (fun a => a.sshiftRight sh.val) s

end Sys2Proof.Machine
end

