-- ==== Sys2Proof/Machine/TabbinMem.lean ====
section
/-! DEFINITION. Loads, stores and CHK of Tabbin (02 R46-R51, R54, R70-R71, 07 R233-R236). -/

namespace Sys2Proof.Machine
open Sys2Proof

/-- A NEAR load of `n` bytes, extended by `f` (02 R47). -/
def nearLoadInstr (c : Core) (gd ga : Reg) (imm : BitVec 16) (n : Nat) (f : Nat → Word) (s : State) : Out :=
  let a := s.dev.addr c ga imm
  let q := s.dev.nearCauses c a n false
  let v := f (s.nearLoad a n)
  .next { s with dev := (s.dev.noteEcc (q.ecc && s.dev.poisoned a n) a).instr c 4 q (fun x => x.w gd v) }

/-- A NEAR store of the low `n` bytes of gs (02 R47). -/
def nearStoreInstr (c : Core) (gs ga : Reg) (imm : BitVec 16) (n : Nat) (s : State) : Out :=
  let a := s.dev.addr c ga imm
  let bs := (wordBytes (s.dev.val c gs)).take n
  .next (s.instrMem c 4 (s.dev.nearCauses c a n true) id (Dev.cleanPoison a n) (writeBytes a bs))

/-- LW (R47). -/
def execLw (c : Core) (gd : Reg) (ga : Reg) (imm : BitVec 16) (s : State) : Out := nearLoadInstr c gd ga imm 4 (BitVec.ofNat 32) s

/-- LH (R47): sign-extended. -/
def execLh (c : Core) (gd : Reg) (ga : Reg) (imm : BitVec 16) (s : State) : Out :=
  nearLoadInstr c gd ga imm 2 (fun v => (BitVec.ofNat 16 v).signExtend 32) s

/-- LHU (R47). -/
def execLhu (c : Core) (gd : Reg) (ga : Reg) (imm : BitVec 16) (s : State) : Out := nearLoadInstr c gd ga imm 2 (BitVec.ofNat 32) s

/-- LB (R47): sign-extended. -/
def execLb (c : Core) (gd : Reg) (ga : Reg) (imm : BitVec 16) (s : State) : Out :=
  nearLoadInstr c gd ga imm 1 (fun v => (BitVec.ofNat 8 v).signExtend 32) s

/-- LBU (R47). -/
def execLbu (c : Core) (gd : Reg) (ga : Reg) (imm : BitVec 16) (s : State) : Out := nearLoadInstr c gd ga imm 1 (BitVec.ofNat 32) s

/-- SW (R47). -/
def execSw (c : Core) (gs : Reg) (ga : Reg) (imm : BitVec 16) (s : State) : Out := nearStoreInstr c gs ga imm 4 s

/-- SH (R47). -/
def execSh (c : Core) (gs : Reg) (ga : Reg) (imm : BitVec 16) (s : State) : Out := nearStoreInstr c gs ga imm 2 s

/-- SB (R47). -/
def execSb (c : Core) (gs : Reg) (ga : Reg) (imm : BitVec 16) (s : State) : Out := nearStoreInstr c gs ga imm 1 s

/-- Causes of a FAR access (02 R46-R50). -/
def Dev.farCauses (d : Dev) (c : Core) (a : Nat) (write : Bool) : Causes :=
  { align := !(a % 4 == 0), absent := isCtl a && d.absentAt a, window := !(d.winOk c a 4 write) || !isFar a }

/-- LWX (R47, R50): MRAM with its snapshot copies (15 R521), or control space. -/
def execLwx (c : Core) (gd : Reg) (ga : Reg) (imm : BitVec 16) (s : State) : Out :=
  let a := s.dev.addr c ga imm
  let q := s.dev.farCauses c a false
  let ctl := if isCtl a then s.dev.ctlRead (masterOf c) (some (s.dev.locker c)) a else (s.dev, BitVec.ofNat 32 (ofLe ((span a 4).map s.mramByte)))
  .next { s with dev :=
    match firstCause (s.dev.withFetch c q) (s.dev.overBudget c (24 + (s.dev.core c).cur.seq.extra)) with
    | some t => s.dev.farTrap c t
    | none => ctl.1.instr c 24 {} (fun x => x.w gd ctl.2) }

/-- SWX (R47, R50): one aligned word write to MRAM or control space. -/
def execSwx (c : Core) (gs : Reg) (ga : Reg) (imm : BitVec 16) (s : State) : Out :=
  let a := s.dev.addr c ga imm
  let v := s.dev.val c gs
  let n := (s.dev.core c).cur.seq
  .next (match firstCause (s.dev.withFetch c (s.dev.farCauses c a true)) (s.dev.overBudget c (24 + n.extra)) with
    | some t => { s with dev := s.dev.farTrap c t }
    | none =>
      let d := s.dev.retire c n (24 + n.extra) id
      { s with dev := if isCtl a then d.ctlWrite a v else d, mem := if isCtl a then s.mem else writeWord a v s.mem })

/-- CHK's evaluations of elements `i, i + 1, …` (07 R236): each new counter is stored before the next value is read. -/
def chkRun (va ea : Nat) (n i : Nat) (s : State) (act : Nat) : State × Nat :=
  match n with
  | 0 => (s, act)
  | n + 1 =>
    let e := ea + 12 * i
    let w := BitVec.ofNat 32 (s.nearLoad (va + 4 * i) 4)
    let ctl := readWord s.mem (e + 8)
    let cnt := dwellNext (chkClass (readWord s.mem e) (readWord s.mem (e + 4)) ctl w) (chkCap ctl) (ctl.toNat % 256)
    chkRun va ea n (i + 1) { s with mem := writeByte (e + 8) (BitVec.ofNat 8 cnt) s.mem }
      (act + if chkLim ctl ≤ cnt then 1 else 0)

/-- What CHK checks before it updates anything (02 R65, R71). The values, and the check block, lie inside one window each (DESIGN CHOICE, log
entry 186). -/
def Dev.chkCauses (d : Dev) (c : Core) (va ea n : Nat) : Causes :=
  let al := !(va % 4 == 0) || !(ea % 4 == 0)
  let bad := !(d.winOk c va (4 * n) false) || !isNear va || !(d.winOk c ea (12 * n) false) || !(d.winOk c ea (12 * n) true)
    || !isNear ea || d.readOnly ea
  { ill := d.isSplit c, align := al, window := bad,
    ecc := !al && !bad && (d.poisoned va (4 * n) || d.poisoned ea (12 * n) || d.dataBad c va (4 * n) || d.dataBad c ea (12 * n)) }

/-- CHK (R70-R71): evaluate n elements and count the active ones. -/
def execChk (c : Core) (gd : Reg) (ga : Reg) (gb : Reg) (n : Nat) (s : State) : Out :=
  let va := (s.dev.val c ga).toNat
  let ea := (s.dev.val c gb).toNat
  let q := s.dev.chkCauses c va ea n
  let r := chkRun va ea n 0 s 0
  .next (({ s with dev := s.dev.noteEcc (q.ecc && (s.dev.poisoned va (4 * n) || s.dev.poisoned ea (12 * n))) (if s.dev.poisoned va (4 * n) then va else ea) }).instrMem c (12 + 2 * n) q
    (fun x => x.w gd (BitVec.ofNat 32 r.2)) (Dev.cleanPoison ea (12 * n)) (fun _ => r.1.mem))

end Sys2Proof.Machine
end

