-- ==== Sys2Proof/Machine/Dispatch.lean ====
section
/-! DEFINITION. The commands of the block, one arm each: what every command does to everything but the queue. -/

namespace Sys2Proof.Machine

/-- The meaning of one command. -/
def exec (i : Instr) (s : State) : Host.Outcome State Fault Refusal :=
  match i with
  | .pcsSyncEdge t => Sys2Proof.Machine.execPcsSyncEdge t s
  | .captureWindowClose => Sys2Proof.Machine.execCaptureWindowClose s
  | .quietLaunch => Sys2Proof.Machine.execQuietLaunch s
  | .syncLaunch => Sys2Proof.Machine.execSyncLaunch s
  | .samplingInstant => Sys2Proof.Machine.execSamplingInstant s
  | .scanFrameLaunch hdrBad cut => Sys2Proof.Machine.execScanFrameLaunch hdrBad cut s
  | .scanFrameReturn port reachA reachB => Sys2Proof.Machine.execScanFrameReturn port reachA reachB s
  | .slotCutoff slots heads => Sys2Proof.Machine.execSlotCutoff slots heads s
  | .l0Verdict => Sys2Proof.Machine.execL0Verdict s
  | .l0SelftestEnd passA passB => Sys2Proof.Machine.execL0SelftestEnd passA passB s
  | .zoneLineLow z => Sys2Proof.Machine.execZoneLineLow z s
  | .readbackFault z => Sys2Proof.Machine.execReadbackFault z s
  | .tripReleaseEval => Sys2Proof.Machine.execTripReleaseEval s
  | .releaseLineCheckEnd high partner => Sys2Proof.Machine.execReleaseLineCheckEnd high partner s
  | .tickBoundary => Sys2Proof.Machine.execTickBoundary s
  | .activationStart c task => Sys2Proof.Machine.execActivationStart c task s
  | .segmentResume c task => Sys2Proof.Machine.execSegmentResume c task s
  | .deadlineMiss c task => Sys2Proof.Machine.execDeadlineMiss c task s
  | .add c gd ga gb => Sys2Proof.Machine.execAdd c gd ga gb s
  | .sub c gd ga gb => Sys2Proof.Machine.execSub c gd ga gb s
  | .and c gd ga gb => Sys2Proof.Machine.execAnd c gd ga gb s
  | .or c gd ga gb => Sys2Proof.Machine.execOr c gd ga gb s
  | .xor c gd ga gb => Sys2Proof.Machine.execXor c gd ga gb s
  | .sll c gd ga gb => Sys2Proof.Machine.execSll c gd ga gb s
  | .srl c gd ga gb => Sys2Proof.Machine.execSrl c gd ga gb s
  | .sra c gd ga gb => Sys2Proof.Machine.execSra c gd ga gb s
  | .slt c gd ga gb => Sys2Proof.Machine.execSlt c gd ga gb s
  | .sltu c gd ga gb => Sys2Proof.Machine.execSltu c gd ga gb s
  | .min c gd ga gb => Sys2Proof.Machine.execMin c gd ga gb s
  | .max c gd ga gb => Sys2Proof.Machine.execMax c gd ga gb s
  | .minu c gd ga gb => Sys2Proof.Machine.execMinu c gd ga gb s
  | .maxu c gd ga gb => Sys2Proof.Machine.execMaxu c gd ga gb s
  | .csel c gd ga gb => Sys2Proof.Machine.execCsel c gd ga gb s
  | .mul c gd ga gb => Sys2Proof.Machine.execMul c gd ga gb s
  | .mulh c gd ga gb => Sys2Proof.Machine.execMulh c gd ga gb s
  | .mulhu c gd ga gb => Sys2Proof.Machine.execMulhu c gd ga gb s
  | .div c gd ga gb => Sys2Proof.Machine.execDiv c gd ga gb s
  | .divu c gd ga gb => Sys2Proof.Machine.execDivu c gd ga gb s
  | .rem c gd ga gb => Sys2Proof.Machine.execRem c gd ga gb s
  | .remu c gd ga gb => Sys2Proof.Machine.execRemu c gd ga gb s
  | .clz c gd ga => Sys2Proof.Machine.execClz c gd ga s
  | .sadd c gd ga gb => Sys2Proof.Machine.execSadd c gd ga gb s
  | .ssub c gd ga gb => Sys2Proof.Machine.execSsub c gd ga gb s
  | .sneg c gd ga => Sys2Proof.Machine.execSneg c gd ga s
  | .sabs c gd ga => Sys2Proof.Machine.execSabs c gd ga s
  | .qmul16 c gd ga gb => Sys2Proof.Machine.execQmul16 c gd ga gb s
  | .qmul31 c gd ga gb => Sys2Proof.Machine.execQmul31 c gd ga gb s
  | .qmulm c gd ga gb => Sys2Proof.Machine.execQmulm c gd ga gb s
  | .qmac16 c gd ga gb => Sys2Proof.Machine.execQmac16 c gd ga gb s
  | .qdiv16 c gd ga gb => Sys2Proof.Machine.execQdiv16 c gd ga gb s
  | .qshl c gd ga gb => Sys2Proof.Machine.execQshl c gd ga gb s
  | .qshr c gd ga gb => Sys2Proof.Machine.execQshr c gd ga gb s
  | .q16to31 c gd ga => Sys2Proof.Machine.execQ16to31 c gd ga s
  | .q31to16 c gd ga => Sys2Proof.Machine.execQ31to16 c gd ga s
  | .addi c gd ga imm => Sys2Proof.Machine.execAddi c gd ga imm s
  | .andi c gd ga imm => Sys2Proof.Machine.execAndi c gd ga imm s
  | .ori c gd ga imm => Sys2Proof.Machine.execOri c gd ga imm s
  | .xori c gd ga imm => Sys2Proof.Machine.execXori c gd ga imm s
  | .lui c gd imm => Sys2Proof.Machine.execLui c gd imm s
  | .slti c gd ga imm => Sys2Proof.Machine.execSlti c gd ga imm s
  | .sltiu c gd ga imm => Sys2Proof.Machine.execSltiu c gd ga imm s
  | .slli c gd ga sh => Sys2Proof.Machine.execSlli c gd ga sh s
  | .srli c gd ga sh => Sys2Proof.Machine.execSrli c gd ga sh s
  | .srai c gd ga sh => Sys2Proof.Machine.execSrai c gd ga sh s
  | .lw c gd ga imm => Sys2Proof.Machine.execLw c gd ga imm s
  | .lh c gd ga imm => Sys2Proof.Machine.execLh c gd ga imm s
  | .lhu c gd ga imm => Sys2Proof.Machine.execLhu c gd ga imm s
  | .lb c gd ga imm => Sys2Proof.Machine.execLb c gd ga imm s
  | .lbu c gd ga imm => Sys2Proof.Machine.execLbu c gd ga imm s
  | .sw c gs ga imm => Sys2Proof.Machine.execSw c gs ga imm s
  | .sh c gs ga imm => Sys2Proof.Machine.execSh c gs ga imm s
  | .sb c gs ga imm => Sys2Proof.Machine.execSb c gs ga imm s
  | .lwx c gd ga imm => Sys2Proof.Machine.execLwx c gd ga imm s
  | .swx c gs ga imm => Sys2Proof.Machine.execSwx c gs ga imm s
  | .beq c ga gb off => Sys2Proof.Machine.execBeq c ga gb off s
  | .bne c ga gb off => Sys2Proof.Machine.execBne c ga gb off s
  | .blt c ga gb off => Sys2Proof.Machine.execBlt c ga gb off s
  | .bge c ga gb off => Sys2Proof.Machine.execBge c ga gb off s
  | .bltu c ga gb off => Sys2Proof.Machine.execBltu c ga gb off s
  | .bgeu c ga gb off => Sys2Proof.Machine.execBgeu c ga gb off s
  | .j c off => Sys2Proof.Machine.execJ c off s
  | .jal c off => Sys2Proof.Machine.execJal c off s
  | .ret c => Sys2Proof.Machine.execRet c s
  | .loop c gc bound len => Sys2Proof.Machine.execLoop c gc bound len s
  | .mfs c gd idx => Sys2Proof.Machine.execMfs c gd idx s
  | .out c gs cls idx => Sys2Proof.Machine.execOut c gs cls idx s
  | .outx c gs gi cls => Sys2Proof.Machine.execOutx c gs gi cls s
  | .trip c form reason shadowOk => Sys2Proof.Machine.execTrip c form reason shadowOk s
  | .chk c gd ga gb n => Sys2Proof.Machine.execChk c gd ga gb n s
  | .waitt c k => Sys2Proof.Machine.execWaitt c k s
  | .commit c => Sys2Proof.Machine.execCommit c s
  | .ring c gd ga => Sys2Proof.Machine.execRing c gd ga s
  | .rstat c gd ga => Sys2Proof.Machine.execRstat c gd ga s
  | .est c gd ga => Sys2Proof.Machine.execEst c gd ga s
  | .estat c gd ga => Sys2Proof.Machine.execEstat c gd ga s
  | .split c gd => Sys2Proof.Machine.execSplit c gd s
  | .join c gd => Sys2Proof.Machine.execJoin c gd s
  | .reservedEncoding c word => Sys2Proof.Machine.execReservedEncoding c word s
  | .lockstepMismatch p group t => Sys2Proof.Machine.execLockstepMismatch p group t s
  | .injectionTestEnd p ok => Sys2Proof.Machine.execInjectionTestEnd p ok s
  | .injectionTestDaily p ok => Sys2Proof.Machine.execInjectionTestDaily p ok s
  | .autoJoin p => Sys2Proof.Machine.execAutoJoin p s
  | .splitEffect p => Sys2Proof.Machine.execSplitEffect p s
  | .joinEffect p => Sys2Proof.Machine.execJoinEffect p s
  | .currentSample amps => Sys2Proof.Machine.execCurrentSample amps s
  | .quietTimerExpiry => Sys2Proof.Machine.execQuietTimerExpiry s
  | .ownResultsReady own => Sys2Proof.Machine.execOwnResultsReady own s
  | .isoCycleEnd res => Sys2Proof.Machine.execIsoCycleEnd res s
  | .calStart src mask quiet hvSteady => Sys2Proof.Machine.execCalStart src mask quiet hvSteady s
  | .calSample vals quiet hvSteady => Sys2Proof.Machine.execCalSample vals quiet hvSteady s
  | .calCompute => Sys2Proof.Machine.execCalCompute s
  | .acqCtlWrite v => Sys2Proof.Machine.execAcqCtlWrite v s
  | .acqFiltWrite v => Sys2Proof.Machine.execAcqFiltWrite v s
  | .acqStretchWrite v => Sys2Proof.Machine.execAcqStretchWrite v s
  | .acqValcfgWrite v => Sys2Proof.Machine.execAcqValcfgWrite v s
  | .cnpyBalenWrite k v => Sys2Proof.Machine.execCnpyBalenWrite k v s
  | .cnpyImpctlWrite v => Sys2Proof.Machine.execCnpyImpctlWrite v s
  | .ucodeWrite p v => Sys2Proof.Machine.execUcodeWrite p v s
  | .qcntlRead m => Sys2Proof.Machine.execQcntlRead m s
  | .timelRead m => Sys2Proof.Machine.execTimelRead m s
  | .utclRead m => Sys2Proof.Machine.execUtclRead m s
  | .rcCounterRead m addr => Sys2Proof.Machine.execRcCounterRead m addr s
  | .canLockRead p addr => Sys2Proof.Machine.execCanLockRead p addr s
  | .canData15Read p addr => Sys2Proof.Machine.execCanData15Read p addr s
  | .absentSpaceAccess addr write => Sys2Proof.Machine.execAbsentSpaceAccess addr write s
  | .registerWrite addr v => Sys2Proof.Machine.execRegisterWrite addr v s
  | .transactionLaunch port hdrBad payBad cut => Sys2Proof.Machine.execTransactionLaunch port hdrBad payBad cut s
  | .frameReturn port reached good echo => Sys2Proof.Machine.execFrameReturn port reached good echo s
  | .frameLost port => Sys2Proof.Machine.execFrameLost port s
  | .portLockGain port => Sys2Proof.Machine.execPortLockGain port s
  | .portLockLoss port => Sys2Proof.Machine.execPortLockLoss port s
  | .discoveryLockTimeout port => Sys2Proof.Machine.execDiscoveryLockTimeout port s
  | .keepLaunch port hdrBad cut => Sys2Proof.Machine.execKeepLaunch port hdrBad cut s
  | .rerange port => Sys2Proof.Machine.execRerange port s
  | .enumMod port ids => Sys2Proof.Machine.execEnumMod port ids s
  | .rangeMod port dirB c0 counts => Sys2Proof.Machine.execRangeMod port dirB c0 counts s
  | .rdrange port first last => Sys2Proof.Machine.execRdrange port first last s
  | .setver port first vers => Sys2Proof.Machine.execSetver port first vers s
  | .setdly port first dlys => Sys2Proof.Machine.execSetdly port first dlys s
  | .setturnRelease port hop locked => Sys2Proof.Machine.execSetturnRelease port hop locked s
  | .setturnForceTa port hop => Sys2Proof.Machine.execSetturnForceTa port hop s
  | .setturnForceTb port hop => Sys2Proof.Machine.execSetturnForceTb port hop s
  | .authch port hop => Sys2Proof.Machine.execAuthch port hop s
  | .keyset port hop tagOk => Sys2Proof.Machine.execKeyset port hop tagOk s
  | .cfgtag port first last tag => Sys2Proof.Machine.execCfgtag port first last tag s
  | .rdreg port first last addr count => Sys2Proof.Machine.execRdreg port first last addr count s
  | .wrreg port first last addr words => Sys2Proof.Machine.execWrreg port first last addr words s
  | .clrst port first last mask => Sys2Proof.Machine.execClrst port first last mask s
  | .balMod port first timers => Sys2Proof.Machine.execBalMod port first timers s
  | .baltestStart port first entries shifts => Sys2Proof.Machine.execBaltestStart port first entries shifts s
  | .baltestRead port first last => Sys2Proof.Machine.execBaltestRead port first last s
  | .burstArm port first cells => Sys2Proof.Machine.execBurstArm port first cells s
  | .burstFreeze port first cells => Sys2Proof.Machine.execBurstFreeze port first cells s
  | .burstDisarm port first last => Sys2Proof.Machine.execBurstDisarm port first last s
  | .burstrd port first last block samples => Sys2Proof.Machine.execBurstrd port first last block samples s
  | .diagrd port first last page data => Sys2Proof.Machine.execDiagrd port first last page data s
  | .hdstat port first last => Sys2Proof.Machine.execHdstat port first last s
  | .hdcfg port kato => Sys2Proof.Machine.execHdcfg port kato s
  | .echoMod port first last => Sys2Proof.Machine.execEchoMod port first last s
  | .headNop port seq => Sys2Proof.Machine.execHeadNop port seq s
  | .headNegClose port seq => Sys2Proof.Machine.execHeadNegClose port seq s
  | .headPreClose port seq => Sys2Proof.Machine.execHeadPreClose port seq s
  | .headPosClose port seq => Sys2Proof.Machine.execHeadPosClose port seq s
  | .headPreOpen port seq => Sys2Proof.Machine.execHeadPreOpen port seq s
  | .headOpen port seq => Sys2Proof.Machine.execHeadOpen port seq s
  | .headOpenAll port seq => Sys2Proof.Machine.execHeadOpenAll port seq s
  | .balancePlan => Sys2Proof.Machine.execBalancePlan s
  | .balanceTestRun port hop => Sys2Proof.Machine.execBalanceTestRun port hop s
  | .cfgRetry port hop => Sys2Proof.Machine.execCfgRetry port hop s
  | .authChallengeRun port hop => Sys2Proof.Machine.execAuthChallengeRun port hop s
  | .authRecordTimeout port hop => Sys2Proof.Machine.execAuthRecordTimeout port hop s
  | .scanJobEnd => Sys2Proof.Machine.execScanJobEnd s
  | .scanJobOverrun => Sys2Proof.Machine.execScanJobOverrun s
  | .digestCompare partner => Sys2Proof.Machine.execDigestCompare partner s
  | .repeatJobEnd partner => Sys2Proof.Machine.execRepeatJobEnd partner s
  | .twinSelftestEnd own partner => Sys2Proof.Machine.execTwinSelftestEnd own partner s
  | .estJobStart => Sys2Proof.Machine.execEstJobStart s
  | .estJobEnd => Sys2Proof.Machine.execEstJobEnd s
  | .healthJob => Sys2Proof.Machine.execHealthJob s
  | .snapshotRefresh ok => Sys2Proof.Machine.execSnapshotRefresh ok s
  | .impedanceArm port => Sys2Proof.Machine.execImpedanceArm port s
  | .armTimeout port => Sys2Proof.Machine.execArmTimeout port s
  | .fitJob port => Sys2Proof.Machine.execFitJob port s
  | .fitJobEnd port => Sys2Proof.Machine.execFitJobEnd port s
  | .socmRestExpiry => Sys2Proof.Machine.execSocmRestExpiry s
  | .reserveExpiry => Sys2Proof.Machine.execReserveExpiry s
  | .pcsRequestExpiry discharge => Sys2Proof.Machine.execPcsRequestExpiry discharge s
  | .ggraceExpiry => Sys2Proof.Machine.execGgraceExpiry s
  | .seqNone tgt tag src => Sys2Proof.Machine.execSeqNone tgt tag src s
  | .seqClose arg tag src => Sys2Proof.Machine.execSeqClose arg tag src s
  | .seqPrelink arg tag src => Sys2Proof.Machine.execSeqPrelink arg tag src s
  | .seqOpen arg tag src => Sys2Proof.Machine.execSeqOpen arg tag src s
  | .seqOpenNow arg tag src => Sys2Proof.Machine.execSeqOpenNow arg tag src s
  | .seqShutdown arg tag src => Sys2Proof.Machine.execSeqShutdown arg tag src s
  | .strConnect n arg tag src => Sys2Proof.Machine.execStrConnect n arg tag src s
  | .strDisconnect n arg tag src => Sys2Proof.Machine.execStrDisconnect n arg tag src s
  | .strDisconnow n arg tag src => Sys2Proof.Machine.execStrDisconnow n arg tag src s
  | .holdEconomy k => Sys2Proof.Machine.execHoldEconomy k s
  | .feedbackChange k closed => Sys2Proof.Machine.execFeedbackChange k closed s
  | .feedbackTimeout k => Sys2Proof.Machine.execFeedbackTimeout k s
  | .gateFault low => Sys2Proof.Machine.execGateFault low s
  | .linkMatch => Sys2Proof.Machine.execLinkMatch s
  | .tlinkExpiry => Sys2Proof.Machine.execTlinkExpiry s
  | .rampTimeout => Sys2Proof.Machine.execRampTimeout s
  | .tholdExpiry => Sys2Proof.Machine.execTholdExpiry s
  | .currentWaitEnd tgt => Sys2Proof.Machine.execCurrentWaitEnd tgt s
  | .tspreExpiry n => Sys2Proof.Machine.execTspreExpiry n s
  | .tvsdExpiry => Sys2Proof.Machine.execTvsdExpiry s
  | .controlLoopEval n sample => Sys2Proof.Machine.execControlLoopEval n sample s
  | .currentLimitExpiry n => Sys2Proof.Machine.execCurrentLimitExpiry n s
  | .retryPauseEnd n => Sys2Proof.Machine.execRetryPauseEnd n s
  | .conductionClear n => Sys2Proof.Machine.execConductionClear n s
  | .powerStageOvertemp n => Sys2Proof.Machine.execPowerStageOvertemp n s
  | .powerStageRestart n => Sys2Proof.Machine.execPowerStageRestart n s
  | .openLoadChange n below => Sys2Proof.Machine.execOpenLoadChange n below s
  | .clampPulse n energy t => Sys2Proof.Machine.execClampPulse n energy t s
  | .freewheelCheck n => Sys2Proof.Machine.execFreewheelCheck n s
  | .selectOpen n => Sys2Proof.Machine.execSelectOpen n s
  | .selectClose n => Sys2Proof.Machine.execSelectClose n s
  | .lhMapLoad => Sys2Proof.Machine.execLhMapLoad s
  | .lhWatchdogExpiry => Sys2Proof.Machine.execLhWatchdogExpiry s
  | .lhInSample v => Sys2Proof.Machine.execLhInSample v s
  | .lhEnLow => Sys2Proof.Machine.execLhEnLow s
  | .lhEnReturn => Sys2Proof.Machine.execLhEnReturn s
  | .mooringMessageRx crcOk scan msg => Sys2Proof.Machine.execMooringMessageRx crcOk scan msg s
  | .mooringLaneTrained lane info => Sys2Proof.Machine.execMooringLaneTrained lane info s
  | .mooringLaneLoss lane => Sys2Proof.Machine.execMooringLaneLoss lane s
  | .mooringSilent => Sys2Proof.Machine.execMooringSilent s
  | .aliveLoss mooringSilent partnerYielded => Sys2Proof.Machine.execAliveLoss mooringSilent partnerYielded s
  | .graftInHigh => Sys2Proof.Machine.execGraftInHigh s
  | .graftComplete => Sys2Proof.Machine.execGraftComplete s
  | .timeExchange delta => Sys2Proof.Machine.execTimeExchange delta s
  | .pairingTimeout => Sys2Proof.Machine.execPairingTimeout s
  | .resyncDeadline => Sys2Proof.Machine.execResyncDeadline s
  | .claim sess kind keyBytes mac => Sys2Proof.Machine.execClaim sess kind keyBytes mac s
  | .sessionHandshake hs => Sys2Proof.Machine.execSessionHandshake hs s
  | .handshakeTimeout => Sys2Proof.Machine.execHandshakeTimeout s
  | .keyupdate sess => Sys2Proof.Machine.execKeyupdate sess s
  | .sessionExpiry slot => Sys2Proof.Machine.execSessionExpiry slot s
  | .fspHello sess lo hi => Sys2Proof.Machine.execFspHello sess lo hi s
  | .fspBye sess seq => Sys2Proof.Machine.execFspBye sess seq s
  | .fspRead req addr len => Sys2Proof.Machine.execFspRead req addr len s
  | .fspLogread req first count => Sys2Proof.Machine.execFspLogread req first count s
  | .fspQuote req nonce => Sys2Proof.Machine.execFspQuote req nonce s
  | .fspSubscribe req mask dec => Sys2Proof.Machine.execFspSubscribe req mask dec s
  | .notifyctlOn req => Sys2Proof.Machine.execNotifyctlOn req s
  | .notifyctlOff req => Sys2Proof.Machine.execNotifyctlOff req s
  | .fspDispatch req dr => Sys2Proof.Machine.execFspDispatch req dr s
  | .dlimitSet req limit value => Sys2Proof.Machine.execDlimitSet req limit value s
  | .dlimitWithdraw req limit => Sys2Proof.Machine.execDlimitWithdraw req limit s
  | .reserveRelease req frel dur => Sys2Proof.Machine.execReserveRelease req frel dur s
  | .reserveWithdraw req => Sys2Proof.Machine.execReserveWithdraw req s
  | .ctlclrWeld req => Sys2Proof.Machine.execCtlclrWeld req s
  | .ctlclrLoop req n => Sys2Proof.Machine.execCtlclrLoop req n s
  | .fspTriprel req mask => Sys2Proof.Machine.execFspTriprel req mask s
  | .fspUnlock req mask => Sys2Proof.Machine.execFspUnlock req mask s
  | .fspRearm req e => Sys2Proof.Machine.execFspRearm req e s
  | .fspBaltest req ring hop => Sys2Proof.Machine.execFspBaltest req ring hop s
  | .fspStorage req => Sys2Proof.Machine.execFspStorage req s
  | .twinsvcResync req => Sys2Proof.Machine.execTwinsvcResync req s
  | .twinsvcReset req => Sys2Proof.Machine.execTwinsvcReset req s
  | .twinsvcHandover req => Sys2Proof.Machine.execTwinsvcHandover req s
  | .imageBegin req len => Sys2Proof.Machine.execImageBegin req len s
  | .imageData req off bytes => Sys2Proof.Machine.execImageData req off bytes s
  | .imageEnd req sigKey => Sys2Proof.Machine.execImageEnd req sigKey s
  | .imageTransferTimeout => Sys2Proof.Machine.execImageTransferTimeout s
  | .memtestPreserving req test first last => Sys2Proof.Machine.execMemtestPreserving req test first last s
  | .memtestDestructive req test first last => Sys2Proof.Machine.execMemtestDestructive req test first last s
  | .ownOwnerkey r slot key => Sys2Proof.Machine.execOwnOwnerkey r slot key s
  | .ownRolekey r role slot key => Sys2Proof.Machine.execOwnRolekey r role slot key s
  | .ownTenant r slot content => Sys2Proof.Machine.execOwnTenant r slot content s
  | .ownAccept r ring hop uid tkey => Sys2Proof.Machine.execOwnAccept r ring hop uid tkey s
  | .ownFloor r kind floor => Sys2Proof.Machine.execOwnFloor r kind floor s
  | .ownTwinpair r hashA hashB => Sys2Proof.Machine.execOwnTwinpair r hashA hashB s
  | .ownKtrotate r => Sys2Proof.Machine.execOwnKtrotate r s
  | .ownRelease r => Sys2Proof.Machine.execOwnRelease r s
  | .programSwitchover => Sys2Proof.Machine.execProgramSwitchover s
  | .envelopeSwitchover => Sys2Proof.Machine.execEnvelopeSwitchover s
  | .chemistrySwitchover => Sys2Proof.Machine.execChemistrySwitchover s
  | .topologySwitchover => Sys2Proof.Machine.execTopologySwitchover s
  | .firmwareFloorRaise => Sys2Proof.Machine.execFirmwareFloorRaise s
  | .trngHealthFail => Sys2Proof.Machine.execTrngHealthFail s
  | .hwdTestEnd ok => Sys2Proof.Machine.execHwdTestEnd ok s
  | .heartwoodBoot selfOk kpuf ok0 ok1 => Sys2Proof.Machine.execHeartwoodBoot selfOk kpuf ok0 ok1 s
  | .streamSend sess => Sys2Proof.Machine.execStreamSend sess s
  | .notifySend sess => Sys2Proof.Machine.execNotifySend sess s
  | .canFrameRx c exc f => Sys2Proof.Machine.execCanFrameRx c exc f s
  | .canFrameSent c obj start delay => Sys2Proof.Machine.execCanFrameSent c obj start delay s
  | .canBusOff c => Sys2Proof.Machine.execCanBusOff c s
  | .canErrorPassive c enter rec_ tec => Sys2Proof.Machine.execCanErrorPassive c enter rec_ tec s
  | .busOffRecovery c => Sys2Proof.Machine.execBusOffRecovery c s
  | .busOffRecovered c => Sys2Proof.Machine.execBusOffRecovered c s
  | .restrictedEnter c => Sys2Proof.Machine.execRestrictedEnter c s
  | .restrictedLeave c => Sys2Proof.Machine.execRestrictedLeave c s
  | .profileHello mask => Sys2Proof.Machine.execProfileHello mask s
  | .heartbeat => Sys2Proof.Machine.execHeartbeat s
  | .profileRequest dr => Sys2Proof.Machine.execProfileRequest dr s
  | .profileWithdraw dr => Sys2Proof.Machine.execProfileWithdraw dr s
  | .profileReportSend => Sys2Proof.Machine.execProfileReportSend s
  | .ptoExpiry => Sys2Proof.Machine.execPtoExpiry s
  | .ethLinkChange p up speed => Sys2Proof.Machine.execEthLinkChange p up speed s
  | .ethFrameRx p kind => Sys2Proof.Machine.execEthFrameRx p kind s
  | .ptpSyncRx gptp utcOffset => Sys2Proof.Machine.execPtpSyncRx gptp utcOffset s
  | .utcTimeout => Sys2Proof.Machine.execUtcTimeout s
  | .addressConflict p => Sys2Proof.Machine.execAddressConflict p s
  | .rowRepairSwitch bank row => Sys2Proof.Machine.execRowRepairSwitch bank row s
  | .bankRetire bank => Sys2Proof.Machine.execBankRetire bank s
  | .aringsApply n => Sys2Proof.Machine.execAringsApply n s
  | .scrubPassEnd corrected uncorrectable => Sys2Proof.Machine.execScrubPassEnd corrected uncorrectable s
  | .preservingRedirect => Sys2Proof.Machine.execPreservingRedirect s
  | .preservingReturn => Sys2Proof.Machine.execPreservingReturn s
  | .marchTestEnd faults => Sys2Proof.Machine.execMarchTestEnd faults s
  | .logRecordWrite fail => Sys2Proof.Machine.execLogRecordWrite fail s
  | .eventWindowEnd e => Sys2Proof.Machine.execEventWindowEnd e s
  | .resetRelease tws tmode => Sys2Proof.Machine.execResetRelease tws tmode s
  | .bootComplete => Sys2Proof.Machine.execBootComplete s
  | .railFault idx => Sys2Proof.Machine.execRailFault idx s
  | .vauxWarning mv => Sys2Proof.Machine.execVauxWarning mv s
  | .vauxRecovery mv => Sys2Proof.Machine.execVauxRecovery mv s
  | .vauxReset mv => Sys2Proof.Machine.execVauxReset mv s
  | .vaonLost => Sys2Proof.Machine.execVaonLost s
  | .coreDroop p cycles => Sys2Proof.Machine.execCoreDroop p cycles s
  | .pllFail => Sys2Proof.Machine.execPllFail s
  | .oscFail => Sys2Proof.Machine.execOscFail s
  | .watchEntry => Sys2Proof.Machine.execWatchEntry s
  | .watchPllStart => Sys2Proof.Machine.execWatchPllStart s
  | .watchPllStop => Sys2Proof.Machine.execWatchPllStop s
  | .wakeBusWake => Sys2Proof.Machine.execWakeBusWake s
  | .serviceKeyWake => Sys2Proof.Machine.execServiceKeyWake s
  | .thermalSample temps => Sys2Proof.Machine.execThermalSample temps s
  | .thermalEnforce => Sys2Proof.Machine.execThermalEnforce s
  | .thermalRestart => Sys2Proof.Machine.execThermalRestart s
  | .sensorDiff => Sys2Proof.Machine.execSensorDiff s
  | .instantLocalDeadline => Sys2Proof.Machine.execInstantLocalDeadline s
  | .l0SelftestDaily passA passB => Sys2Proof.Machine.execL0SelftestDaily passA passB s
  | .currentLimitSumReached n => Sys2Proof.Machine.execCurrentLimitSumReached n s
  | .holdCurrentLimit k => Sys2Proof.Machine.execHoldCurrentLimit k s
  | .timeRecord => Sys2Proof.Machine.execTimeRecord s
  | .vaonReturn => Sys2Proof.Machine.execVaonReturn s
  | .ptpSyncLoss => Sys2Proof.Machine.execPtpSyncLoss s
  | .aliveReturn => Sys2Proof.Machine.execAliveReturn s

end Sys2Proof.Machine
end

