-- ==== Sys2Proof/Safety.lean ====
section
/-! DEFINITION. What counts as a safe run, and the words in which statements are made: when an instruction of a core runs undisturbed,
what it writes and what it leaves, where it traps, which commands name a unit, and which may write memory. -/

namespace Sys2Proof.Machine
open Sys2Proof

/-- The state invariant: memory is in its canonical form (every address once, in rising order, no byte listed that reads as an
unlisted one). -/
abbrev State.wf (s : State) : Bool := Memory.wf s.mem

/-- Only the device differs: memory and the waiting commands are as before. -/
def DevOnly (s t : State) : Prop := t.mem = s.mem ∧ t.pending = s.pending

/-- Registers of the EVT and LOG blocks, which the raising of an event may change (15 R523-R530). -/
def evtArea (a : Nat) : Bool :=
  (decide (0x40010000 ≤ a) && decide (a < 0x40020000)) || (decide (0x40120000 ≤ a) && decide (a < 0x40130000))

/-- Outside the EVT and LOG blocks, and outside the registers of `l`, every register is as before. -/
def RegsKept (l : List Nat) (d e : Dev) : Prop := ∀ a, evtArea a = false → a ∉ l → e.reg a = d.reg a

/-- The device differs only in events: EVT and LOG registers, the log's queues and the sessions. -/
def EventsOnly (d e : Dev) : Prop :=
  e = { d with regs := e.regs, log := e.log, hwd := { d.hwd with sessions := e.hwd.sessions } } ∧ RegsKept [] d e

/-- Event `e` is pending (15 R523). -/
def Dev.eventPending (d : Dev) (e : Nat) : Bool := d.rbit (A.evtPend (e / 32)) (e % 32)

/-- A command of ring port `n` changed only the device, and of the ports only port `n`; no other part of the cell data, of the
cores, of their published outputs or of the clock changed. A change of ring state that ends WATCH makes the own values settle (05
R177, 16 R550). -/
def PortOnly (n : Nat) (s t : State) : Prop :=
  DevOnly s t ∧ (∀ k, k ≠ n → t.dev.port k = s.dev.port k) ∧ t.dev.acq = { s.dev.acq with settle := t.dev.acq.settle } ∧
  (s.dev.pstate ≠ 2 → t.dev.acq = s.dev.acq) ∧ t.dev.time = s.dev.time ∧
  t.dev.k0 = s.dev.k0 ∧ t.dev.k1 = s.dev.k1 ∧ t.dev.pubs = s.dev.pubs ∧ t.dev.img = s.dev.img

/-- The frame in flight reaches hop `h` of port `n` with a correct header (04 R123). -/
def Dev.getsFrame (d : Dev) (n h : Nat) : Bool :=
  decide (wireHop (d.port n).frame.dirB (d.ringL n) h ≤ (d.port n).reach) && !(d.port n).hdrBad.contains h

/-- The frame in flight reaches hop `h` of port `n` with a correct header and a correct payload, so that the hop executes it (04 R123,
R132). -/
def Dev.executes (d : Dev) (n h : Nat) : Bool := d.getsFrame n h && !(d.port n).payBad.contains h

/-- Module `h` of ring `n` as it is now: its tests, timers and its LOSSTO followed time (06 R204-R209). -/
def Dev.modNow (d : Dev) (n h : Nat) : Module := ((d.port n).mod h).settle d.time.now

/-- A command of ring port `n` changed only that port, and of the port only its records, the modules `a..b` and the head, which is now
`hd`. -/
def HopsOnly (n a b : Nat) (hd : Head) (s t : State) : Prop :=
  PortOnly n s t ∧
  t.dev.port n = { s.dev.port n with mods := (t.dev.port n).mods, records := (t.dev.port n).records, head := hd } ∧
  ∀ k, k < a ∨ b < k → (t.dev.port n).mod k = (s.dev.port n).mod k

/-- A command of load switch channel `n` changed only that channel, and events. -/
def ChanOnly (n : Nat) (s t : State) : Prop :=
  DevOnly s t ∧ (∀ k, k ≠ n → t.dev.chan k = s.dev.chan k) ∧ RegsKept [] s.dev t.dev ∧
  t.dev = { s.dev with regs := t.dev.regs, log := t.dev.log, hwd := { s.dev.hwd with sessions := t.dev.hwd.sessions },
                       lsw := t.dev.lsw, time := { s.dev.time with now := t.dev.time.now } }

/-- Nothing but the device changed, and of it no core, no published output, no image and no ring port. -/
def PlantOnly (s t : State) : Prop :=
  DevOnly s t ∧ t.dev.k0 = s.dev.k0 ∧ t.dev.k1 = s.dev.k1 ∧ t.dev.pubs = s.dev.pubs ∧ t.dev.img = s.dev.img ∧ t.dev.ports = s.dev.ports

/-- No byte of memory outside `n` bytes from `a` changes. -/
def BytesKept (a n : Nat) (s t : State) : Prop := ∀ k, k < a ∨ a + n ≤ k → t.byte k = s.byte k

/-- The instruction at hand was fetched without an uncorrectable error, and fits the budget of the running segment when it costs `n`
cycles beside those of ended loop iterations (02 R57, R82). -/
def Fits (c : Core) (n : Nat) (s : State) : Prop := s.dev.fetchBad c = false ∧ s.dev.overBudget c (n + (s.dev.core c).cur.seq.extra) = false

/-- The transfer at hand was fetched without an uncorrectable error, and fits the budget of the running segment when it costs `n`
cycles. -/
def FitsJump (c : Core) (n : Nat) (s : State) : Prop := s.dev.fetchBad c = false ∧ s.dev.overBudget c n = false

/-- The only change is that core `c` now holds context `x` and has counted `n` more cycles of its tick. -/
def CoreMoved (c : Core) (n : Nat) (x : Ctx) (s t : State) : Prop :=
  DevOnly s t ∧ t.dev = s.dev.setCore c (fun k => { k with cur := x, cyc := k.cyc + n })

/-- The instruction of core `c` wrote `v` to gd (nothing when gd is g0), cost `n` cycles beside those of ended iterations, and went
on to the next instruction. Everything else of the machine is as before. -/
def Wrote (c : Core) (gd : Reg) (v : Word) (n : Nat) (s t : State) : Prop :=
  let x := (s.dev.core c).cur
  let y := (t.dev.core c).cur
  CoreMoved c (n + x.seq.extra) { x with regs := y.regs, pc := x.seq.pc, lstk := x.seq.lstk, cyc := x.cyc + (n + x.seq.extra) } s t ∧
  (∀ g, y.r g = if g = gd ∧ gd ≠ 0 then v else x.r g)

/-- As `Wrote` for a fixed-point result: the exact value narrowed by sat(), with the saturation indicator set when sat() clamps
(02 R43-R44). -/
def WroteSat (c : Core) (gd : Reg) (v : Int) (n : Nat) (s t : State) : Prop :=
  let x := (s.dev.core c).cur
  let y := (t.dev.core c).cur
  CoreMoved c (n + x.seq.extra)
    { x with regs := y.regs, sat := x.sat || satClamps v, pc := x.seq.pc, lstk := x.seq.lstk, cyc := x.cyc + (n + x.seq.extra) } s t ∧
  (∀ g, y.r g = if g = gd ∧ gd ≠ 0 then Word.ofInt (satVal v) else x.r g)

/-- The instruction of core `c` went on to the next one for `n` cycles, and changed nothing else. -/
def Passed (c : Core) (n : Nat) (s t : State) : Prop :=
  let x := (s.dev.core c).cur
  CoreMoved c (n + x.seq.extra) { x with pc := x.seq.pc, lstk := x.seq.lstk, cyc := x.cyc + (n + x.seq.extra) } s t

/-- The instruction of core `c` went to address `a` for `n` cycles, leaving every loop of the running function that ends at or before
`a` (02 R58), and changed nothing else. -/
def WentTo (c : Core) (a n : Nat) (s t : State) : Prop :=
  let x := (s.dev.core c).cur
  CoreMoved c n { x with pc := a, lstk := leaveLoops x.base x.lstk a, cyc := x.cyc + n } s t

/-- The instruction of core `c` trapped with cause `code` (02 R82-R85) and had no effect of its own. -/
def Trapped (c : Core) (code : Nat) (s t : State) : Prop := t = { s with dev := s.dev.trap c code }

/-- The access of core `c` to control space trapped with cause `code` and had no effect of its own; while event 372 is pending, a further
absent access only counts (00 R10, 02 R85). -/
def FarTrapped (c : Core) (code : Nat) (s t : State) : Prop := t = { s with dev := s.dev.farTrap c code }

/-- A read of `n` bytes at `a` by core `c` takes place: aligned, in a readable window, NEAR, and no word of it uncorrectable in memory or
in the pair's data caches (02 R46-R49, R82). -/
def NearReadOk (c : Core) (a n : Nat) (s : State) : Prop :=
  a % n = 0 ∧ s.dev.winOk c a n false = true ∧ isNear a = true ∧ s.dev.poisoned a n = false ∧ s.dev.dataBad c a n = false

/-- A write of `n` bytes at `a` by core `c` takes place: aligned, in a writable window, NEAR and not read-only (02 R46-R49). -/
def NearWriteOk (c : Core) (a n : Nat) (s : State) : Prop :=
  a % n = 0 ∧ s.dev.winOk c a n true = true ∧ isNear a = true ∧ s.dev.readOnly a = false

/-- A FAR access of core `c` takes place: aligned, in a window with the right, FAR and not absent (02 R46-R50). -/
def FarOk (c : Core) (a : Nat) (write : Bool) (s : State) : Prop :=
  a % 4 = 0 ∧ s.dev.winOk c a 4 write = true ∧ isFar a = true ∧ (isCtl a && s.dev.absentAt a) = false

/-- The FSP request `q` is its session's next one and passes the checks made before the operation's own: length, rate, version,
capability and suspension (14 R491, R492). -/
def Admits (q : Req) (cap ver : Nat) (s : State) : Prop :=
  ∃ x, s.dev.session q.sess = some x ∧ 0 < x.ver ∧ ver ≤ x.ver ∧ q.seq = x.e ∧ q.len ≤ 4080 ∧ s.dev.holds x cap = true ∧
    s.dev.suspended x = false ∧ (s.dev.takeToken q.sess x).2 = true

/-- Of memory only the SRAM window of session slot `n` may differ (13 R456); a session without a slot has none. -/
def WindowOnly (n : Nat) (s t : State) : Prop :=
  t.pending = s.pending ∧ (n < 256 → BytesKept (winBase n) 0x2000 s t) ∧ (256 ≤ n → t.mem = s.mem)

/-- The second half of the window of session slot `n` holds `bytes` (13 R456). -/
def WindowHolds (n : Nat) (bytes : List Nat) (t : State) : Prop :=
  n < 256 → ∀ j, j < bytes.length → t.byte (winBase n + 0x1000 + j) = BitVec.ofNat 8 (bytes.getD j 0)

/-- The FSP request `q` was answered with a status and a body, which its window holds, and its session counted it; of memory nothing else
changed, and the queue is as before. -/
def Answered (q : Req) (st : Nat) (body : List Nat) (s t : State) : Prop :=
  WindowOnly q.sess s t ∧ t.dev.hwd.reply = (st, body) ∧
  ∀ x, s.dev.session q.sess = some x → WindowHolds q.sess (respMsg x q.msg st body) t ∧
    ∃ y, t.dev.session q.sess = some y ∧ y.e = (x.e + 1) % 2 ^ 32 ∧ y.idle = s.dev.time.now

/-- The FSP request `q` was answered 0, and its action waits for the scan it is stamped with. No register changed. -/
def Stamped (q : Req) (a : FspAct) (s t : State) : Prop :=
  Answered q 0 [] s t ∧ t.dev.hwd.fspActs = s.dev.hwd.fspActs ++ [(s.dev.stampDue, q.sess, q.seq, a)] ∧ t.dev.regs = s.dev.regs

end Sys2Proof.Machine
end

