-- ==== Sys2Proof/Certificates/Slice0/Obligations.lean ====
section
/-! DEFINITION. The statements for the provers. Each docstring says what the statement claims; the rules it rests on are in OBLIGATIONS.json. -/

section
open Sys2Proof Sys2Proof.Machine

/-- A step runs the command at the front of the queue. For every command c, every list rest and every state s: a step of s whose queue is c followed by rest is exec of c on s with the queue rest. -/
def Obligations.StepRunsFrontCommand : Prop :=
  ∀ (c : Instr) (rest : List Instr) (s : State),
    step { s with pending := c :: rest } = exec c { s with pending := rest }

/-- An empty queue idles, and at reset no command waits and memory lists nothing. For every state whose queue is empty, a step answers that same state (the model's choice, log entry 16: what the manual ties to time is a command of its own). State.reset has an empty queue and a memory in canonical form that lists nothing (the model's choice, log entry 1), and so meets the invariant that every step keeps. -/
def Obligations.ResetAndIdle : Prop :=
  (∀ s : State, s.pending = [] → step s = .next s) ∧
    State.reset.pending = [] ∧ State.reset.mem = [] ∧ State.reset.wf = true

/-- Every step keeps the canonical form of memory. From every state whose memory is in canonical form (addresses strictly rising, no entry that reads as an unlisted byte), a step that answers a next state gives one whose memory is in canonical form. -/
def Obligations.StepKeepsMemoryForm : Prop :=
  ∀ s t : State, s.wf = true → step s = .next t → t.wf = true

/-- No command changes the queue of waiting commands, and none is refused. For every command c and every state s, exec does not refuse, and when it answers a next state t, the queue of t is that of s. -/
def Obligations.ExecKeepsQueue : Prop :=
  ∀ (c : Instr) (s : State), (∀ r, exec c s ≠ .refused r) ∧ (∀ t, exec c s = .next t → t.pending = s.pending)

/-- Results of the ALU group and what they leave. On every core, for every register operand and every state in which the instruction fits its segment's budget, each instruction of the ALU group but the divisions and CLZ answers a next state in which gd (unless it is g0) holds the result of R55, the core went on to the next instruction for the cycles of R55, and nothing else of the machine changed. -/
def Obligations.AluResults : Prop :=
  ∀ c : Core,
    (∀ (gd ga gb : Reg) (s : State), Fits c 1 s →
      ∃ t, exec (.add c gd ga gb) s = .next t ∧ Wrote c gd ((s.dev.val c ga) + (s.dev.val c gb)) 1 s t) ∧
    (∀ (gd ga gb : Reg) (s : State), Fits c 1 s →
      ∃ t, exec (.sub c gd ga gb) s = .next t ∧ Wrote c gd ((s.dev.val c ga) - (s.dev.val c gb)) 1 s t) ∧
    (∀ (gd ga gb : Reg) (s : State), Fits c 1 s →
      ∃ t, exec (.and c gd ga gb) s = .next t ∧ Wrote c gd ((s.dev.val c ga) &&& (s.dev.val c gb)) 1 s t) ∧
    (∀ (gd ga gb : Reg) (s : State), Fits c 1 s →
      ∃ t, exec (.or c gd ga gb) s = .next t ∧ Wrote c gd ((s.dev.val c ga) ||| (s.dev.val c gb)) 1 s t) ∧
    (∀ (gd ga gb : Reg) (s : State), Fits c 1 s →
      ∃ t, exec (.xor c gd ga gb) s = .next t ∧ Wrote c gd ((s.dev.val c ga) ^^^ (s.dev.val c gb)) 1 s t) ∧
    (∀ (gd ga gb : Reg) (s : State), Fits c 1 s →
      ∃ t, exec (.sll c gd ga gb) s = .next t ∧ Wrote c gd ((s.dev.val c ga) <<< ((s.dev.val c gb).toNat % 32)) 1 s t) ∧
    (∀ (gd ga gb : Reg) (s : State), Fits c 1 s →
      ∃ t, exec (.srl c gd ga gb) s = .next t ∧ Wrote c gd ((s.dev.val c ga) >>> ((s.dev.val c gb).toNat % 32)) 1 s t) ∧
    (∀ (gd ga gb : Reg) (s : State), Fits c 1 s →
      ∃ t, exec (.sra c gd ga gb) s = .next t ∧ Wrote c gd ((s.dev.val c ga).sshiftRight ((s.dev.val c gb).toNat % 32)) 1 s t) ∧
    (∀ (gd ga gb : Reg) (s : State), Fits c 1 s →
      ∃ t, exec (.slt c gd ga gb) s = .next t ∧ Wrote c gd (if (s.dev.val c ga).toInt < (s.dev.val c gb).toInt then 1 else 0) 1 s t) ∧
    (∀ (gd ga gb : Reg) (s : State), Fits c 1 s →
      ∃ t, exec (.sltu c gd ga gb) s = .next t ∧ Wrote c gd (if (s.dev.val c ga).toNat < (s.dev.val c gb).toNat then 1 else 0) 1 s t) ∧
    (∀ (gd ga gb : Reg) (s : State), Fits c 1 s →
      ∃ t, exec (.min c gd ga gb) s = .next t ∧ Wrote c gd (if (s.dev.val c ga).toInt ≤ (s.dev.val c gb).toInt then (s.dev.val c ga) else (s.dev.val c gb)) 1 s t) ∧
    (∀ (gd ga gb : Reg) (s : State), Fits c 1 s →
      ∃ t, exec (.max c gd ga gb) s = .next t ∧ Wrote c gd (if (s.dev.val c ga).toInt ≤ (s.dev.val c gb).toInt then (s.dev.val c gb) else (s.dev.val c ga)) 1 s t) ∧
    (∀ (gd ga gb : Reg) (s : State), Fits c 1 s →
      ∃ t, exec (.minu c gd ga gb) s = .next t ∧ Wrote c gd (if (s.dev.val c ga).toNat ≤ (s.dev.val c gb).toNat then (s.dev.val c ga) else (s.dev.val c gb)) 1 s t) ∧
    (∀ (gd ga gb : Reg) (s : State), Fits c 1 s →
      ∃ t, exec (.maxu c gd ga gb) s = .next t ∧ Wrote c gd (if (s.dev.val c ga).toNat ≤ (s.dev.val c gb).toNat then (s.dev.val c gb) else (s.dev.val c ga)) 1 s t) ∧
    (∀ (gd ga gb : Reg) (s : State), Fits c 1 s →
      ∃ t, exec (.csel c gd ga gb) s = .next t ∧ Wrote c gd (if (s.dev.val c gd) ≠ 0 then (s.dev.val c ga) else (s.dev.val c gb)) 1 s t) ∧
    (∀ (gd ga gb : Reg) (s : State), Fits c 3 s →
      ∃ t, exec (.mul c gd ga gb) s = .next t ∧ Wrote c gd ((s.dev.val c ga) * (s.dev.val c gb)) 3 s t) ∧
    (∀ (gd ga gb : Reg) (s : State), Fits c 3 s →
      ∃ t, exec (.mulh c gd ga gb) s = .next t ∧ Wrote c gd ((((s.dev.val c ga).signExtend 64 * (s.dev.val c gb).signExtend 64) >>> 32).setWidth 32) 3 s t) ∧
    (∀ (gd ga gb : Reg) (s : State), Fits c 3 s →
      ∃ t, exec (.mulhu c gd ga gb) s = .next t ∧ Wrote c gd ((((s.dev.val c ga).setWidth 64 * (s.dev.val c gb).setWidth 64) >>> 32).setWidth 32) 3 s t)

/-- Results of the immediate instructions and of CLZ, and what they leave. As AluResults, for ADDI, ANDI, ORI, XORI, LUI, SLTI, SLTIU, SLLI, SRLI, SRAI with every immediate and shift, and for CLZ, whose result n is at most 32 and is the number of leading zeros: ga is below 2^(32-n), and not below 2^(31-n) unless ga is 0, for which n is 32. -/
def Obligations.ImmediateResults : Prop :=
  ∀ c : Core,
    (∀ (gd ga : Reg) (imm : BitVec 16) (s : State), Fits c 1 s →
      ∃ t, exec (.addi c gd ga imm) s = .next t ∧ Wrote c gd ((s.dev.val c ga) + imm.signExtend 32) 1 s t) ∧
    (∀ (gd ga : Reg) (imm : BitVec 16) (s : State), Fits c 1 s →
      ∃ t, exec (.andi c gd ga imm) s = .next t ∧ Wrote c gd ((s.dev.val c ga) &&& imm.setWidth 32) 1 s t) ∧
    (∀ (gd ga : Reg) (imm : BitVec 16) (s : State), Fits c 1 s →
      ∃ t, exec (.ori c gd ga imm) s = .next t ∧ Wrote c gd ((s.dev.val c ga) ||| imm.setWidth 32) 1 s t) ∧
    (∀ (gd ga : Reg) (imm : BitVec 16) (s : State), Fits c 1 s →
      ∃ t, exec (.xori c gd ga imm) s = .next t ∧ Wrote c gd ((s.dev.val c ga) ^^^ imm.setWidth 32) 1 s t) ∧
    (∀ (gd : Reg) (imm : BitVec 16) (s : State), Fits c 1 s →
      ∃ t, exec (.lui c gd imm) s = .next t ∧ Wrote c gd (BitVec.ofNat 32 (imm.toNat * 65536)) 1 s t) ∧
    (∀ (gd ga : Reg) (imm : BitVec 16) (s : State), Fits c 1 s →
      ∃ t, exec (.slti c gd ga imm) s = .next t ∧ Wrote c gd (if (s.dev.val c ga).toInt < (imm.signExtend 32).toInt then 1 else 0) 1 s t) ∧
    (∀ (gd ga : Reg) (imm : BitVec 16) (s : State), Fits c 1 s →
      ∃ t, exec (.sltiu c gd ga imm) s = .next t ∧ Wrote c gd (if (s.dev.val c ga).toNat < (imm.signExtend 32).toNat then 1 else 0) 1 s t) ∧
    (∀ (gd ga : Reg) (sh : Fin 32) (s : State), Fits c 1 s →
      ∃ t, exec (.slli c gd ga sh) s = .next t ∧ Wrote c gd ((s.dev.val c ga) <<< sh.val) 1 s t) ∧
    (∀ (gd ga : Reg) (sh : Fin 32) (s : State), Fits c 1 s →
      ∃ t, exec (.srli c gd ga sh) s = .next t ∧ Wrote c gd ((s.dev.val c ga) >>> sh.val) 1 s t) ∧
    (∀ (gd ga : Reg) (sh : Fin 32) (s : State), Fits c 1 s →
      ∃ t, exec (.srai c gd ga sh) s = .next t ∧ Wrote c gd ((s.dev.val c ga).sshiftRight sh.val) 1 s t) ∧
    (∀ (gd ga : Reg) (s : State), Fits c 1 s →
      ∃ t n, exec (.clz c gd ga) s = .next t ∧ Wrote c gd (BitVec.ofNat 32 n) 1 s t ∧ n ≤ 32 ∧
        (s.dev.val c ga).toNat < 2 ^ (32 - n) ∧ (if (s.dev.val c ga) = 0 then n = 32 else 2 ^ (31 - n) ≤ (s.dev.val c ga).toNat))

/-- Division never traps and has a result for zero and overflow. On every core, for every operand and every state in which the instruction fits its budget: DIV, DIVU, REM, REMU and QDIV16 answer a next state that is no trap. DIV and DIVU by zero write 0xFFFFFFFF, REM and REMU by zero the dividend; DIV of 0x80000000 by -1 writes 0x80000000 and REM 0; other quotients truncate toward zero; QDIV16 by zero writes 0x7FFFFFFF, 0x80000000 or 0 by the dividend's sign and sets sat_ind in the two non-zero cases, and otherwise its rounded quotient. -/
def Obligations.DivisionResults : Prop :=
  ∀ c : Core,
    (∀ (gd ga gb : Reg) (s : State), Fits c 34 s →
      ∃ t, exec (.div c gd ga gb) s = .next t ∧
        Wrote c gd (if (s.dev.val c gb) = 0 then 0xFFFFFFFF#32 else if (s.dev.val c ga) = 0x80000000#32 ∧ (s.dev.val c gb) = 0xFFFFFFFF#32 then 0x80000000#32 else BitVec.ofInt 32 (Int.tdiv (s.dev.val c ga).toInt (s.dev.val c gb).toInt)) 34 s t) ∧
    (∀ (gd ga gb : Reg) (s : State), Fits c 34 s →
      ∃ t, exec (.divu c gd ga gb) s = .next t ∧
        Wrote c gd (if (s.dev.val c gb) = 0 then 0xFFFFFFFF#32 else BitVec.ofNat 32 ((s.dev.val c ga).toNat / (s.dev.val c gb).toNat)) 34 s t) ∧
    (∀ (gd ga gb : Reg) (s : State), Fits c 34 s →
      ∃ t, exec (.rem c gd ga gb) s = .next t ∧
        Wrote c gd (if (s.dev.val c gb) = 0 then (s.dev.val c ga) else if (s.dev.val c ga) = 0x80000000#32 ∧ (s.dev.val c gb) = 0xFFFFFFFF#32 then 0#32 else BitVec.ofInt 32 (Int.tmod (s.dev.val c ga).toInt (s.dev.val c gb).toInt)) 34 s t) ∧
    (∀ (gd ga gb : Reg) (s : State), Fits c 34 s →
      ∃ t, exec (.remu c gd ga gb) s = .next t ∧
        Wrote c gd (if (s.dev.val c gb) = 0 then (s.dev.val c ga) else BitVec.ofNat 32 ((s.dev.val c ga).toNat % (s.dev.val c gb).toNat)) 34 s t) ∧
    (∀ (gd ga gb : Reg) (s : State), Fits c 36 s → (s.dev.val c gb) = 0 →
      ∃ t, exec (.qdiv16 c gd ga gb) s = .next t ∧
        (t.dev.core c).cur.r gd = (if gd = 0 then 0#32 else if 0 < (s.dev.val c ga).toInt then 0x7FFFFFFF#32
          else if (s.dev.val c ga).toInt < 0 then 0x80000000#32 else 0#32) ∧
        (t.dev.core c).cur.sat = ((s.dev.core c).cur.sat || decide ((s.dev.val c ga) ≠ 0)) ∧
        ∃ v, WroteSat c gd v 36 s t) ∧
    (∀ (gd ga gb : Reg) (s : State), Fits c 36 s → (s.dev.val c gb) ≠ 0 →
      ∃ t, exec (.qdiv16 c gd ga gb) s = .next t ∧ WroteSat c gd (rndDiv ((s.dev.val c ga).toInt * 65536) (s.dev.val c gb).toInt) 36 s t)

/-- Results of the fixed-point group, saturated, with sat_ind set on a clamp. On every core, for every register operand and every state in which the instruction fits its budget, each instruction of the QOP group but QDIV16 answers a next state in which gd holds the exact value of R56 narrowed by sat(), sat_ind is set when sat() clamps and otherwise as before, and nothing else changed but the pc and the cycles. QSHR and Q31TO16 never clamp. -/
def Obligations.FixedPointResults : Prop :=
  ∀ c : Core,
    (∀ (gd ga gb : Reg) (s : State), Fits c 1 s →
      ∃ t, exec (.sadd c gd ga gb) s = .next t ∧ WroteSat c gd ((s.dev.val c ga).toInt + (s.dev.val c gb).toInt) 1 s t) ∧
    (∀ (gd ga gb : Reg) (s : State), Fits c 1 s →
      ∃ t, exec (.ssub c gd ga gb) s = .next t ∧ WroteSat c gd ((s.dev.val c ga).toInt - (s.dev.val c gb).toInt) 1 s t) ∧
    (∀ (gd ga : Reg) (s : State), Fits c 1 s →
      ∃ t, exec (.sneg c gd ga) s = .next t ∧ WroteSat c gd (-(s.dev.val c ga).toInt) 1 s t) ∧
    (∀ (gd ga : Reg) (s : State), Fits c 1 s →
      ∃ t, exec (.sabs c gd ga) s = .next t ∧ WroteSat c gd (if (s.dev.val c ga).toInt < 0 then -(s.dev.val c ga).toInt else (s.dev.val c ga).toInt) 1 s t) ∧
    (∀ (gd ga gb : Reg) (s : State), Fits c 3 s →
      ∃ t, exec (.qmul16 c gd ga gb) s = .next t ∧ WroteSat c gd (rnd ((s.dev.val c ga).toInt * (s.dev.val c gb).toInt) 16) 3 s t) ∧
    (∀ (gd ga gb : Reg) (s : State), Fits c 3 s →
      ∃ t, exec (.qmul31 c gd ga gb) s = .next t ∧ WroteSat c gd (rnd ((s.dev.val c ga).toInt * (s.dev.val c gb).toInt) 31) 3 s t) ∧
    (∀ (gd ga gb : Reg) (s : State), Fits c 3 s →
      ∃ t, exec (.qmulm c gd ga gb) s = .next t ∧ WroteSat c gd (rnd ((s.dev.val c ga).toInt * (s.dev.val c gb).toInt) 31) 3 s t) ∧
    (∀ (gd ga gb : Reg) (s : State), Fits c 3 s →
      ∃ t, exec (.qmac16 c gd ga gb) s = .next t ∧ WroteSat c gd ((s.dev.val c gd).toInt + rnd ((s.dev.val c ga).toInt * (s.dev.val c gb).toInt) 16) 3 s t) ∧
    (∀ (gd ga gb : Reg) (s : State), Fits c 1 s →
      ∃ t, exec (.qshl c gd ga gb) s = .next t ∧ WroteSat c gd ((s.dev.val c ga).toInt * 2 ^ ((s.dev.val c gb).toNat % 32)) 1 s t) ∧
    (∀ (gd ga gb : Reg) (s : State), Fits c 1 s →
      ∃ t, exec (.qshr c gd ga gb) s = .next t ∧ Wrote c gd (if (s.dev.val c gb).toNat % 32 = 0 then (s.dev.val c ga) else Word.ofInt (rnd (s.dev.val c ga).toInt ((s.dev.val c gb).toNat % 32))) 1 s t) ∧
    (∀ (gd ga : Reg) (s : State), Fits c 1 s →
      ∃ t, exec (.q16to31 c gd ga) s = .next t ∧ WroteSat c gd ((s.dev.val c ga).toInt * 32768) 1 s t) ∧
    (∀ (gd ga : Reg) (s : State), Fits c 1 s →
      ∃ t, exec (.q31to16 c gd ga) s = .next t ∧ Wrote c gd (Word.ofInt (rnd (s.dev.val c ga).toInt 15)) 1 s t)

/-- Loads from NEAR windows: value, extension and frame. On every core, for every operand and every state in which the instruction fits its budget and the access takes place (aligned, inside one readable window of the task, NEAR, no uncorrectable word in memory or data cache): LW, LH, LHU, LB and LBU answer a next state in which gd holds the little-endian bytes at ga + sext(imm), sign- or zero-extended as the mnemonic says, for 4 cycles, and nothing else changed. -/
def Obligations.NearLoads : Prop :=
  ∀ c : Core,
    (∀ (gd ga : Reg) (imm : BitVec 16) (s : State), Fits c 4 s → NearReadOk c (s.dev.addr c ga imm) 4 s →
      ∃ t, exec (.lw c gd ga imm) s = .next t ∧ Wrote c gd (BitVec.ofNat 32 (s.nearByte (s.dev.addr c ga imm) + 256 ^ 1 * s.nearByte ((s.dev.addr c ga imm) + 1) + 256 ^ 2 * s.nearByte ((s.dev.addr c ga imm) + 2) + 256 ^ 3 * s.nearByte ((s.dev.addr c ga imm) + 3))) 4 s t) ∧
    (∀ (gd ga : Reg) (imm : BitVec 16) (s : State), Fits c 4 s → NearReadOk c (s.dev.addr c ga imm) 2 s →
      ∃ t, exec (.lh c gd ga imm) s = .next t ∧ Wrote c gd ((BitVec.ofNat 16 (s.nearByte (s.dev.addr c ga imm) + 256 ^ 1 * s.nearByte ((s.dev.addr c ga imm) + 1))).signExtend 32) 4 s t) ∧
    (∀ (gd ga : Reg) (imm : BitVec 16) (s : State), Fits c 4 s → NearReadOk c (s.dev.addr c ga imm) 2 s →
      ∃ t, exec (.lhu c gd ga imm) s = .next t ∧ Wrote c gd ((BitVec.ofNat 16 (s.nearByte (s.dev.addr c ga imm) + 256 ^ 1 * s.nearByte ((s.dev.addr c ga imm) + 1))).setWidth 32) 4 s t) ∧
    (∀ (gd ga : Reg) (imm : BitVec 16) (s : State), Fits c 4 s → NearReadOk c (s.dev.addr c ga imm) 1 s →
      ∃ t, exec (.lb c gd ga imm) s = .next t ∧ Wrote c gd ((BitVec.ofNat 8 (s.nearByte (s.dev.addr c ga imm))).signExtend 32) 4 s t) ∧
    (∀ (gd ga : Reg) (imm : BitVec 16) (s : State), Fits c 4 s → NearReadOk c (s.dev.addr c ga imm) 1 s →
      ∃ t, exec (.lbu c gd ga imm) s = .next t ∧ Wrote c gd ((BitVec.ofNat 8 (s.nearByte (s.dev.addr c ga imm))).setWidth 32) 4 s t)

/-- Stores to NEAR windows: the bytes stored, and every other byte as before. On every core, for every operand and every state in which the instruction fits its budget and the access takes place (aligned, inside one writable window, NEAR, not read-only): SW, SH and SB answer a next state in which the 4, 2 or 1 bytes at ga + sext(imm) hold the low bytes of gs, little-endian; every byte outside them reads as before; the core went on to the next instruction for 4 cycles; and beside that only the marks of uncorrectable words among the stored ones, in memory and data caches, may have cleared (R508). -/
def Obligations.NearStores : Prop :=
  ∀ c : Core,
    (∀ (gs ga : Reg) (imm : BitVec 16) (s : State), Fits c 4 s → NearWriteOk c (s.dev.addr c ga imm) 4 s →
      ∃ t, exec (.sw c gs ga imm) s = .next t ∧ t.byte ((s.dev.addr c ga imm) + 0) = ((s.dev.val c gs) >>> 0).setWidth 8 ∧ t.byte ((s.dev.addr c ga imm) + 1) = ((s.dev.val c gs) >>> 8).setWidth 8 ∧ t.byte ((s.dev.addr c ga imm) + 2) = ((s.dev.val c gs) >>> 16).setWidth 8 ∧ t.byte ((s.dev.addr c ga imm) + 3) = ((s.dev.val c gs) >>> 24).setWidth 8 ∧ BytesKept (s.dev.addr c ga imm) 4 s t ∧
        (Passed c 4 { s with mem := t.mem, dev := s.dev.cleanPoison (s.dev.addr c ga imm) 4 } t) ∧ t.pending = s.pending) ∧
    (∀ (gs ga : Reg) (imm : BitVec 16) (s : State), Fits c 4 s → NearWriteOk c (s.dev.addr c ga imm) 2 s →
      ∃ t, exec (.sh c gs ga imm) s = .next t ∧ t.byte ((s.dev.addr c ga imm) + 0) = ((s.dev.val c gs) >>> 0).setWidth 8 ∧ t.byte ((s.dev.addr c ga imm) + 1) = ((s.dev.val c gs) >>> 8).setWidth 8 ∧ BytesKept (s.dev.addr c ga imm) 2 s t ∧
        (Passed c 4 { s with mem := t.mem, dev := s.dev.cleanPoison (s.dev.addr c ga imm) 2 } t) ∧ t.pending = s.pending) ∧
    (∀ (gs ga : Reg) (imm : BitVec 16) (s : State), Fits c 4 s → NearWriteOk c (s.dev.addr c ga imm) 1 s →
      ∃ t, exec (.sb c gs ga imm) s = .next t ∧ t.byte ((s.dev.addr c ga imm) + 0) = ((s.dev.val c gs) >>> 0).setWidth 8 ∧ BytesKept (s.dev.addr c ga imm) 1 s t ∧
        (Passed c 4 { s with mem := t.mem, dev := s.dev.cleanPoison (s.dev.addr c ga imm) 1 } t) ∧ t.pending = s.pending)

/-- LWX and SWX: MRAM and control space. On every core, for every operand and every state in which the access takes place (aligned, in a window with the right, MRAM or present control space) and the instruction fits its budget: LWX from MRAM writes the little-endian word to gd, as the MRAM with its snapshot copies holds it, and changes nothing else; LWX from control space writes to gd the word that the read of the register returns and goes on, with memory as before; SWX to MRAM stores the word and leaves every byte outside it; SWX to control space is a write of that register by the core that has gone on, with memory as before. -/
def Obligations.FarAccess : Prop :=
  ∀ c : Core,
    (∀ (gd ga : Reg) (imm : BitVec 16) (s : State), Fits c 24 s → FarOk c (s.dev.addr c ga imm) false s → isCtl (s.dev.addr c ga imm) = false →
      ∃ t, exec (.lwx c gd ga imm) s = .next t ∧ Wrote c gd (BitVec.ofNat 32 (ofLe ((span (s.dev.addr c ga imm) 4).map s.mramByte))) 24 s t) ∧
    (∀ (gd ga : Reg) (imm : BitVec 16) (s : State), Fits c 24 s → FarOk c (s.dev.addr c ga imm) false s → isCtl (s.dev.addr c ga imm) = true →
      ∃ t, exec (.lwx c gd ga imm) s = .next t ∧
        (t.dev.core c).cur.r gd = (if gd = 0 then 0 else (s.dev.ctlRead (masterOf c) (some (s.dev.locker c)) (s.dev.addr c ga imm)).2) ∧
        (t.dev.core c).cur.pc = (s.dev.core c).cur.seq.pc ∧ DevOnly s t) ∧
    (∀ (gs ga : Reg) (imm : BitVec 16) (s : State), Fits c 24 s → FarOk c (s.dev.addr c ga imm) true s → isCtl (s.dev.addr c ga imm) = false →
      ∃ t, exec (.swx c gs ga imm) s = .next t ∧ readWord t.mem (s.dev.addr c ga imm) = s.dev.val c gs ∧ BytesKept (s.dev.addr c ga imm) 4 s t ∧
        Passed c 24 { s with mem := t.mem } t ∧ t.pending = s.pending) ∧
    (∀ (gs ga : Reg) (imm : BitVec 16) (s : State), Fits c 24 s → FarOk c (s.dev.addr c ga imm) true s → isCtl (s.dev.addr c ga imm) = true →
      ∃ t u, exec (.swx c gs ga imm) s = .next t ∧ Passed c 24 s u ∧ t = { u with dev := u.dev.ctlWrite (s.dev.addr c ga imm) (s.dev.val c gs) })

/-- A misaligned word or halfword access traps ALIGN and does not take place. On every core, for every operand and every state in which the instruction fits its budget (a budget overrun comes before ALIGN, R83): LW, SW, LWX and SWX at an address that is no multiple of 4, and LH, LHU and SH at an address that is no multiple of 2, take the ALIGN trap (code 4) and have no effect of their own; the trapped state has the memory of the state before. -/
def Obligations.MisalignedTraps : Prop :=
  ∀ c : Core,
    (∀ (gd ga : Reg) (imm : BitVec 16) (s : State), Fits c 4 s → (s.dev.addr c ga imm) % 4 ≠ 0 →
      ∃ t, exec (.lw c gd ga imm) s = .next t ∧ Trapped c 4 s t) ∧
    (∀ (gs ga : Reg) (imm : BitVec 16) (s : State), Fits c 4 s → (s.dev.addr c ga imm) % 4 ≠ 0 →
      ∃ t, exec (.sw c gs ga imm) s = .next t ∧ Trapped c 4 s t) ∧
    (∀ (gd ga : Reg) (imm : BitVec 16) (s : State), Fits c 24 s → (s.dev.addr c ga imm) % 4 ≠ 0 →
      ∃ t, exec (.lwx c gd ga imm) s = .next t ∧ Trapped c 4 s t) ∧
    (∀ (gs ga : Reg) (imm : BitVec 16) (s : State), Fits c 24 s → (s.dev.addr c ga imm) % 4 ≠ 0 →
      ∃ t, exec (.swx c gs ga imm) s = .next t ∧ Trapped c 4 s t) ∧
    (∀ (gd ga : Reg) (imm : BitVec 16) (s : State), Fits c 4 s → (s.dev.addr c ga imm) % 2 ≠ 0 →
      ∃ t, exec (.lh c gd ga imm) s = .next t ∧ Trapped c 4 s t) ∧
    (∀ (gd ga : Reg) (imm : BitVec 16) (s : State), Fits c 4 s → (s.dev.addr c ga imm) % 2 ≠ 0 →
      ∃ t, exec (.lhu c gd ga imm) s = .next t ∧ Trapped c 4 s t) ∧
    (∀ (gs ga : Reg) (imm : BitVec 16) (s : State), Fits c 4 s → (s.dev.addr c ga imm) % 2 ≠ 0 →
      ∃ t, exec (.sh c gs ga imm) s = .next t ∧ Trapped c 4 s t) ∧
    (∀ s t : State, Trapped c 4 s t → DevOnly s t ∧ (∀ g, (t.dev.core c).cur.r g = (s.dev.core c).cur.r g) ∧ (t.dev.core c).run = false)

/-- LWX and SWX of absent control space trap ABSENT, raise event 372 and access nothing. On every core, for every operand and every state in which the instruction fits its budget: LWX and SWX of an aligned address in absent control space take the ABSENT trap (code 1), whatever the windows; event 372 is pending afterwards, no register of the core is written and memory is as before. -/
def Obligations.AbsentTraps : Prop :=
  ∀ c : Core,
    (∀ (gd ga : Reg) (imm : BitVec 16) (s : State), Fits c 24 s → (s.dev.addr c ga imm) % 4 = 0 → isCtl (s.dev.addr c ga imm) = true → s.dev.absentAt (s.dev.addr c ga imm) = true →
      ∃ t, exec (.lwx c gd ga imm) s = .next t ∧ FarTrapped c 1 s t) ∧
    (∀ (gs ga : Reg) (imm : BitVec 16) (s : State), Fits c 24 s → (s.dev.addr c ga imm) % 4 = 0 → isCtl (s.dev.addr c ga imm) = true → s.dev.absentAt (s.dev.addr c ga imm) = true →
      ∃ t, exec (.swx c gs ga imm) s = .next t ∧ FarTrapped c 1 s t) ∧
    (∀ s t : State, FarTrapped c 1 s t → DevOnly s t ∧ t.dev.rbit (A.evtPend 11) 20 = true ∧
      (∀ g, (t.dev.core c).cur.r g = (s.dev.core c).cur.r g))

/-- A NEAR access that no window grants traps WINDOW. On every core, for every operand and every state in which the instruction fits its budget: a load or store of the NEAR class that is aligned but not wholly inside one window with the right, or not NEAR, or a store to a read-only place, takes the WINDOW trap (code 2). -/
def Obligations.WindowTraps : Prop :=
  ∀ c : Core,
    (∀ (gd ga : Reg) (imm : BitVec 16) (s : State), Fits c 4 s → (s.dev.addr c ga imm) % 4 = 0 → (s.dev.winOk c (s.dev.addr c ga imm) 4 false = false ∨ isNear (s.dev.addr c ga imm) = false) →
      ∃ t, exec (.lw c gd ga imm) s = .next t ∧ Trapped c 2 s t) ∧
    (∀ (gd ga : Reg) (imm : BitVec 16) (s : State), Fits c 4 s → (s.dev.addr c ga imm) % 2 = 0 → (s.dev.winOk c (s.dev.addr c ga imm) 2 false = false ∨ isNear (s.dev.addr c ga imm) = false) →
      ∃ t, exec (.lh c gd ga imm) s = .next t ∧ Trapped c 2 s t) ∧
    (∀ (gd ga : Reg) (imm : BitVec 16) (s : State), Fits c 4 s → (s.dev.addr c ga imm) % 2 = 0 → (s.dev.winOk c (s.dev.addr c ga imm) 2 false = false ∨ isNear (s.dev.addr c ga imm) = false) →
      ∃ t, exec (.lhu c gd ga imm) s = .next t ∧ Trapped c 2 s t) ∧
    (∀ (gd ga : Reg) (imm : BitVec 16) (s : State), Fits c 4 s → (s.dev.addr c ga imm) % 1 = 0 → (s.dev.winOk c (s.dev.addr c ga imm) 1 false = false ∨ isNear (s.dev.addr c ga imm) = false) →
      ∃ t, exec (.lb c gd ga imm) s = .next t ∧ Trapped c 2 s t) ∧
    (∀ (gd ga : Reg) (imm : BitVec 16) (s : State), Fits c 4 s → (s.dev.addr c ga imm) % 1 = 0 → (s.dev.winOk c (s.dev.addr c ga imm) 1 false = false ∨ isNear (s.dev.addr c ga imm) = false) →
      ∃ t, exec (.lbu c gd ga imm) s = .next t ∧ Trapped c 2 s t) ∧
    (∀ (gs ga : Reg) (imm : BitVec 16) (s : State), Fits c 4 s → (s.dev.addr c ga imm) % 4 = 0 → (s.dev.winOk c (s.dev.addr c ga imm) 4 true = false ∨ isNear (s.dev.addr c ga imm) = false ∨ s.dev.readOnly (s.dev.addr c ga imm) = true) →
      ∃ t, exec (.sw c gs ga imm) s = .next t ∧ Trapped c 2 s t) ∧
    (∀ (gs ga : Reg) (imm : BitVec 16) (s : State), Fits c 4 s → (s.dev.addr c ga imm) % 2 = 0 → (s.dev.winOk c (s.dev.addr c ga imm) 2 true = false ∨ isNear (s.dev.addr c ga imm) = false ∨ s.dev.readOnly (s.dev.addr c ga imm) = true) →
      ∃ t, exec (.sh c gs ga imm) s = .next t ∧ Trapped c 2 s t) ∧
    (∀ (gs ga : Reg) (imm : BitVec 16) (s : State), Fits c 4 s → (s.dev.addr c ga imm) % 1 = 0 → (s.dev.winOk c (s.dev.addr c ga imm) 1 true = false ∨ isNear (s.dev.addr c ga imm) = false ∨ s.dev.readOnly (s.dev.addr c ga imm) = true) →
      ∃ t, exec (.sb c gs ga imm) s = .next t ∧ Trapped c 2 s t)

/-- What a trap leaves: the activation over, its cause and the miss recorded. For every core c, trap code below 256 and device d whose core c holds a task of the table (entry below 128): after the trap the core runs nothing, its stacks and staged outputs are empty, its general registers are as before, TSTAT of the task holds the code, the trap event of the core is pending, and if an activation was running, TSTAT.MISS is set and TMISS has counted one more (saturating); if none was running, TMISS is as before. The outputs already published stay. -/
def Obligations.TrapEndsActivation : Prop :=
  ∀ (c : Core) (code : Nat) (d : Dev), code < 256 → (d.core c).cur.task < 128 →
    let e := d.trap c code
    let n := (d.core c).cur.task
    (e.core c).run = false ∧ (e.core c).cur.staged = [] ∧ (e.core c).cur.rstk = [] ∧ (e.core c).cur.lstk = [] ∧
    (∀ g, (e.core c).cur.r g = (d.core c).cur.r g) ∧ e.pubs = d.pubs ∧
    e.fld (A.sysTstat n) 7 0 = code ∧ e.rbit (A.evtPend 11) (trapEvent c % 32) = true ∧
    ((d.core c).run = true → e.rbit (A.sysTstat n) 29 = true ∧ e.reg (A.sysTmiss n) = satInc (d.reg (A.sysTmiss n))) ∧
    ((d.core c).run = false → e.reg (A.sysTmiss n) = d.reg (A.sysTmiss n))

/-- General registers: g0 reads 0 and ignores writes; JAL writes g31. In every context a read of g0 returns 0 and a write to g0 changes nothing of the context; a write to any other of the 32 registers is read back there and leaves every other register; and JAL, in every state in which it fits its budget, writes the address of the next word to g31. -/
def Obligations.ZeroRegister : Prop :=
  (∀ x : Ctx, x.r 0 = 0 ∧ (∀ v, x.w 0 v = x)) ∧
    (∀ (x : Ctx) (g : Reg) (v : Word), g ≠ 0 → (x.w g v).r g = v ∧ ∀ k, k ≠ g → (x.w g v).r k = x.r k) ∧
    (∀ (c : Core) (off : BitVec 26) (s : State), FitsJump c 2 s →
      ∃ t, exec (.jal c off) s = .next t ∧ (t.dev.core c).cur.r 31 = BitVec.ofNat 32 ((s.dev.core c).cur.pc + 4))

/-- Branches and J: taken and not taken, and what they leave. On every core, for every operand and every state in which the instruction fits its budget: a taken BEQ, BNE, BLT, BGE, BLTU or BGEU, and J, go to the address of the word off words further (modulo 2^32), leaving the loops of the running function that end at or before it, for 2 cycles; a branch not taken goes on to the next word; nothing else changes. -/
def Obligations.Transfers : Prop :=
  ∀ c : Core,
    (∀ (ga gb : Reg) (off : BitVec 16) (s : State), Fits c 2 s → FitsJump c 2 s →
      ∃ t, exec (.beq c ga gb off) s = .next t ∧
        if (s.dev.val c ga) = (s.dev.val c gb) then WentTo c (((s.dev.core c).cur.pc + 4 * off.toInt) % 2 ^ 32).toNat 2 s t else Passed c 2 s t) ∧
    (∀ (ga gb : Reg) (off : BitVec 16) (s : State), Fits c 2 s → FitsJump c 2 s →
      ∃ t, exec (.bne c ga gb off) s = .next t ∧
        if (s.dev.val c ga) ≠ (s.dev.val c gb) then WentTo c (((s.dev.core c).cur.pc + 4 * off.toInt) % 2 ^ 32).toNat 2 s t else Passed c 2 s t) ∧
    (∀ (ga gb : Reg) (off : BitVec 16) (s : State), Fits c 2 s → FitsJump c 2 s →
      ∃ t, exec (.blt c ga gb off) s = .next t ∧
        if (s.dev.val c ga).toInt < (s.dev.val c gb).toInt then WentTo c (((s.dev.core c).cur.pc + 4 * off.toInt) % 2 ^ 32).toNat 2 s t else Passed c 2 s t) ∧
    (∀ (ga gb : Reg) (off : BitVec 16) (s : State), Fits c 2 s → FitsJump c 2 s →
      ∃ t, exec (.bge c ga gb off) s = .next t ∧
        if (s.dev.val c gb).toInt ≤ (s.dev.val c ga).toInt then WentTo c (((s.dev.core c).cur.pc + 4 * off.toInt) % 2 ^ 32).toNat 2 s t else Passed c 2 s t) ∧
    (∀ (ga gb : Reg) (off : BitVec 16) (s : State), Fits c 2 s → FitsJump c 2 s →
      ∃ t, exec (.bltu c ga gb off) s = .next t ∧
        if (s.dev.val c ga).toNat < (s.dev.val c gb).toNat then WentTo c (((s.dev.core c).cur.pc + 4 * off.toInt) % 2 ^ 32).toNat 2 s t else Passed c 2 s t) ∧
    (∀ (ga gb : Reg) (off : BitVec 16) (s : State), Fits c 2 s → FitsJump c 2 s →
      ∃ t, exec (.bgeu c ga gb off) s = .next t ∧
        if (s.dev.val c gb).toNat ≤ (s.dev.val c ga).toNat then WentTo c (((s.dev.core c).cur.pc + 4 * off.toInt) % 2 ^ 32).toNat 2 s t else Passed c 2 s t) ∧
    (∀ (off : BitVec 26) (s : State), FitsJump c 2 s →
      ∃ t, exec (.j c off) s = .next t ∧ WentTo c (((s.dev.core c).cur.pc + 4 * off.toInt) % 2 ^ 32).toNat 2 s t)

/-- JAL pushes the return address with the loop depth; RET pops it; an empty stack traps ILLEGAL. On every core: JAL with fewer than 8 entries on the return stack pushes the address of the next word and the loop depth, keeps the loop stack and goes to its target for 2 cycles; RET with entry (a, n) on top goes to a, pops it and returns the loop stack to depth n, whatever g31 holds; RET fetched without an ECC error traps ILLEGAL (code 6) on an empty return stack. -/
def Obligations.CallAndReturn : Prop :=
  ∀ c : Core,
    (∀ (off : BitVec 26) (s : State), FitsJump c 2 s → (s.dev.core c).cur.rstk.length < 8 →
      ∃ t, exec (.jal c off) s = .next t ∧ CoreMoved c 2 ({ (s.dev.core c).cur with
          pc := (((s.dev.core c).cur.pc + 4 * off.toInt) % 2 ^ 32).toNat,
          rstk := ((s.dev.core c).cur.pc + 4, (s.dev.core c).cur.lstk.length) :: (s.dev.core c).cur.rstk,
          cyc := (s.dev.core c).cur.cyc + 2,
          regs := (t.dev.core c).cur.regs }) s t ∧
        (∀ g, g ≠ 31 → (t.dev.core c).cur.r g = (s.dev.core c).cur.r g)) ∧
    (∀ (s : State) (a n : Nat) (rest : List (Nat × Nat)), FitsJump c 2 s → (s.dev.core c).cur.rstk = (a, n) :: rest →
      n ≤ (s.dev.core c).cur.lstk.length →
      ∃ t, exec (.ret c) s = .next t ∧ (t.dev.core c).cur.lstk.length = n ∧
        CoreMoved c 2 ({ (s.dev.core c).cur with
          pc := a, rstk := rest, lstk := (t.dev.core c).cur.lstk, cyc := (s.dev.core c).cur.cyc + 2 }) s t ∧
        (t.dev.core c).cur.lstk <:+ (s.dev.core c).cur.lstk) ∧
    (∀ s : State, (s.dev.core c).cur.rstk = [] → s.dev.fetchBad c = false → ∃ t, exec (.ret c) s = .next t ∧ Trapped c 6 s t)

/-- LOOP enters its body with min(max(gc, 0), bound) iterations, or continues after it. On every core, for every register, bound and length, in every state in which the instruction fits its budget: with at least one iteration and fewer than 4 loops on the stack, LOOP pushes the body's start, the address after its len words and min(max(gc, 0), bound), and goes on to the body for 2 cycles; with zero iterations it pushes nothing and goes to the address after the body, where the loops of the running function that end there end an iteration for one cycle each. Nothing else changes. -/
def Obligations.LoopEntry : Prop :=
  ∀ (c : Core) (gc : Reg) (bound len : Nat) (s : State),
    let x := (s.dev.core c).cur
    let n := min (max (x.r gc).toInt 0) bound
    let stop := x.pc + 4 + 4 * len
    (0 < n → x.lstk.length < 4 → FitsJump c 2 s →
      ∃ t, exec (.loop c gc bound len) s = .next t ∧
        CoreMoved c 2 { x with pc := x.pc + 4, lstk := { start := x.pc + 4, stop := stop, left := n.toNat } :: x.lstk, cyc := x.cyc + 2 } s t) ∧
    (n = 0 → FitsJump c (2 + (arrive x.base x.lstk stop).extra) s →
      ∃ t, exec (.loop c gc bound len) s = .next t ∧
        CoreMoved c (2 + (arrive x.base x.lstk stop).extra)
          { x with pc := (arrive x.base x.lstk stop).pc, lstk := (arrive x.base x.lstk stop).lstk,
                   cyc := x.cyc + (2 + (arrive x.base x.lstk stop).extra) } s t)

/-- Arriving at a loop's end goes back while iterations are left, and leaves it after the last. For every loop stack whose top entry belongs to the running function and ends at pc: with more than one iteration left, execution goes to the body's start with one fewer left, for one cycle; at the last one the entry is popped, for one cycle beside what the outer loops cost. At a pc that is not the top entry's end nothing happens. -/
def Obligations.LoopIteration : Prop :=
  ∀ (base : Nat) (e : LoopEnt) (rest : List LoopEnt) (pc : Nat), base ≤ rest.length →
    (pc = e.stop → 1 < e.left →
      arrive base (e :: rest) pc = { pc := e.start, lstk := { e with left := e.left - 1 } :: rest, extra := 1 }) ∧
    (pc = e.stop → e.left ≤ 1 → (arrive base (e :: rest) pc).pc = (arrive base rest pc).pc ∧
      (arrive base (e :: rest) pc).lstk = (arrive base rest pc).lstk ∧
      (arrive base (e :: rest) pc).extra = (arrive base rest pc).extra + 1) ∧
    (pc ≠ e.stop → arrive base (e :: rest) pc = { pc := pc, lstk := e :: rest, extra := 0 })

/-- MFS reads its special value; an unassigned index traps ILLEGAL. On every core, in every state in which the instruction fits its budget: MFS of index 1 to 9 writes to gd, for 1 cycle, the high word of the snapshot, the scan and the tick of the running tick, the task, CORE, the saturation indicator, SYS.UNITMAP, ROLE and MODE as R60 lists them, and changes nothing else; MFS TIMEL (index 0) writes the low word of the time for 2 cycles, device time on a single device and in a twin pair the agreed tick start plus the core's cycles since then times 5/3 ns, takes all 64 bits as the snapshot, and changes nothing else; an index above 9, fetched without an ECC error, traps ILLEGAL (code 6). That the cycle count of a twin counts retired cycles is the model's choice (log entry 189). -/
def Obligations.SpecialValues : Prop :=
  ∀ (c : Core) (gd : Reg) (s : State),
    (∀ (idx : Nat) (v : Word), (idx, v) ∈ [(1, BitVec.ofNat 32 ((s.dev.core c).cur.snap / 2 ^ 32)), (2, BitVec.ofNat 32 s.dev.time.tickScan),
        (3, BitVec.ofNat 32 s.dev.time.tick), (4, BitVec.ofNat 32 ((s.dev.core c).cur.task % 64)),
        (5, BitVec.ofNat 32 ((if s.dev.isSplit c then 2 else 0) + pairOf c)), (6, if (s.dev.core c).cur.sat then 1 else 0), (7, s.dev.reg A.sysUnitmap),
        (8, if s.dev.isTwin = false then 0 else if s.dev.twinState = 0 ∨ s.dev.twinState = 4 then 1 else 2),
        (9, BitVec.ofNat 32 ((if s.dev.conservative then 2 else 0) + (if s.dev.authority then 1 else 0)))] →
      Fits c 1 s → ∃ t, exec (.mfs c gd idx) s = .next t ∧ Wrote c gd v 1 s t) ∧
    (∀ u : Nat, u = (if s.dev.isTwin then s.dev.time.tickStart + (s.dev.core c).cyc * 5 / 3 else s.dev.time.now) → Fits c 2 s →
      ∃ t, exec (.mfs c gd 0) s = .next t ∧
        CoreMoved c (2 + (s.dev.core c).cur.seq.extra) { (s.dev.core c).cur with
          regs := (t.dev.core c).cur.regs, snap := u, pc := (s.dev.core c).cur.seq.pc, lstk := (s.dev.core c).cur.seq.lstk,
          cyc := (s.dev.core c).cur.cyc + (2 + (s.dev.core c).cur.seq.extra) } s t ∧
        (∀ g, (t.dev.core c).cur.r g = if g = gd ∧ gd ≠ 0 then BitVec.ofNat 32 u else (s.dev.core c).cur.r g)) ∧
    (∀ idx, 9 < idx → s.dev.fetchBad c = false → ∃ t, exec (.mfs c gd idx) s = .next t ∧ Trapped c 6 s t)

/-- OUT and OUTX stage a value; the last one staged for an output counts; nothing is published. On every core, in every state in which the instruction fits its budget and no cause holds (the class assigned and allowed, the receiver present, the output declared): OUT and OUTX stage the value of gs for the output; it replaces what was staged for that output before and leaves every other staged value; nothing else changes but the pc and the cycles, so nothing is published. A class of 12 or more, fetched without an ECC error, traps ILLEGAL (code 6). -/
def Obligations.StagedOutputs : Prop :=
  ∀ (c : Core) (gs : Reg) (cls : Nat) (s : State),
    (∀ idx, Fits c 2 s → s.dev.outCauses c cls idx = {} →
      ∃ t, exec (.out c gs cls idx) s = .next t ∧
        CoreMoved c (2 + (s.dev.core c).cur.seq.extra) ({ (s.dev.core c).cur with
          staged := (t.dev.core c).cur.staged, pc := (s.dev.core c).cur.seq.pc, lstk := (s.dev.core c).cur.seq.lstk,
          cyc := (s.dev.core c).cur.cyc + (2 + (s.dev.core c).cur.seq.extra) }) s t ∧
        (t.dev.core c).cur.staged.getLast? = some { cls := cls, idx := idx, val := s.dev.val c gs } ∧
        (∀ o, o.cls ≠ cls ∨ o.idx ≠ idx → (o ∈ (t.dev.core c).cur.staged ↔ o ∈ (s.dev.core c).cur.staged)) ∧
        (∀ o, o ∈ (t.dev.core c).cur.staged → o.cls = cls → o.idx = idx → o.val = s.dev.val c gs)) ∧
    (∀ gi : Reg, Fits c 3 s → s.dev.outCauses c cls (s.dev.val c gi).toNat = {} →
      ∃ t, exec (.outx c gs gi cls) s = .next t ∧
        CoreMoved c (3 + (s.dev.core c).cur.seq.extra) ({ (s.dev.core c).cur with
          staged := (t.dev.core c).cur.staged, pc := (s.dev.core c).cur.seq.pc, lstk := (s.dev.core c).cur.seq.lstk,
          cyc := (s.dev.core c).cur.cyc + (3 + (s.dev.core c).cur.seq.extra) }) s t ∧
        (t.dev.core c).cur.staged.getLast? = some { cls := cls, idx := (s.dev.val c gi).toNat, val := s.dev.val c gs } ∧
        (∀ o, o.cls ≠ cls ∨ o.idx ≠ (s.dev.val c gi).toNat → (o ∈ (t.dev.core c).cur.staged ↔ o ∈ (s.dev.core c).cur.staged)) ∧
        (∀ o, o ∈ (t.dev.core c).cur.staged → o.cls = cls → o.idx = (s.dev.val c gi).toNat → o.val = s.dev.val c gs)) ∧
    (12 ≤ cls → s.dev.fetchBad c = false → (∀ idx, ∃ t, exec (.out c gs cls idx) s = .next t ∧ Trapped c 6 s t) ∧
      (∀ gi, ∃ t, exec (.outx c gs gi cls) s = .next t ∧ Trapped c 6 s t))

/-- COMMIT ends the activation and marks its outputs; WAITT suspends it. On every core with a running activation, in every state in which the instruction fits its budget: COMMIT ends the activation, adds its staged outputs to those that the end of the tick publishes, sets the task's consecutive misses to 0 and publishes nothing yet; WAITT k, when the scan has a tick k later, takes the activation off the core and keeps its registers, indicator and staged outputs, to resume at the next word in that tick. Memory is as before. -/
def Obligations.CommitAndWait : Prop :=
  ∀ (c : Core) (s : State), (s.dev.core c).run = true →
    (Fits c 4 s → (s.dev.core c).cur.task < 128 → ∃ t, exec (.commit c) s = .next t ∧ (t.dev.core c).run = false ∧
      t.dev.committed = s.dev.committed ++ (s.dev.core c).cur.staged ∧ t.dev.pubs = s.dev.pubs ∧
      t.dev.fld (A.sysTstat (s.dev.core c).cur.task) 26 25 = 0 ∧
      (∀ a, a ≠ A.sysTstat (s.dev.core c).cur.task → t.dev.reg a = s.dev.reg a) ∧ DevOnly s t) ∧
    (∀ k, Fits c 8 s → s.dev.time.tick + k < s.dev.time.ticks →
      ∃ t y, exec (.waitt c k) s = .next t ∧ (t.dev.core c).run = false ∧ (t.dev.core c).susp = (s.dev.core c).susp ++ [y] ∧
        y.wake = s.dev.time.tick + k ∧ y.task = (s.dev.core c).cur.task ∧ y.regs = (s.dev.core c).cur.regs ∧
        y.sat = (s.dev.core c).cur.sat ∧ y.staged = (s.dev.core c).cur.staged ∧ y.pc = (s.dev.core c).cur.seq.pc ∧
        t.dev.committed = s.dev.committed ∧ t.dev.regs = s.dev.regs ∧ DevOnly s t)

/-- TRIP latches its zones at once when the shadow core agrees; a mask of 0 does nothing. On every joined core, for both forms and every mask and reason, in every state in which the pair has not stopped and the instruction fits its budget: once start-up has restored the latches and when the shadow core presents the same request, every zone of the mask is latched in the next state, whatever was latched stays latched, the core goes on, and memory is as before; a mask of 0, or a TRIP of a pair that has stopped, only passes to the next instruction. On a split core TRIP, fetched without an ECC error, traps ILLEGAL (code 6, R65). -/
def Obligations.TripRequest : Prop :=
  ∀ (c : Core) (f : TripForm) (reason : Nat) (s : State),
    (s.dev.kstate (pairOf c) = 0 → Fits c 2 s → s.dev.prot.restored = true → s.dev.tripMask c f ≠ 0 →
      ∃ t, exec (.trip c f reason true) s = .next t ∧ DevOnly s t ∧ (t.dev.core c).cur.pc = (s.dev.core c).cur.seq.pc ∧
        (∀ z, z < 8 → (s.dev.tripMask c f).testBit z = true → t.dev.latched.testBit z = true) ∧
        (∀ z, z < 8 → s.dev.latched.testBit z = true → t.dev.latched.testBit z = true)) ∧
    (∀ b, s.dev.isSplit c = false → Fits c 2 s → (s.dev.tripMask c f = 0 ∨ 2 ≤ s.dev.kstate (pairOf c)) →
      ∃ t, exec (.trip c f reason b) s = .next t ∧ Passed c 2 s t) ∧
    (∀ b, s.dev.isSplit c = true → s.dev.fetchBad c = false → ∃ t, exec (.trip c f reason b) s = .next t ∧ Trapped c 6 s t)

/-- CHK counts active elements and writes only the check block. On every joined core, in every state in which the instruction fits its budget and its two areas are aligned, inside one window each with the rights and without an uncorrectable word: CHK answers a next state in which gd holds the number of elements that the evaluation finds active, at most n, for 12 + 2n cycles, and every byte outside the 12n bytes of the check block reads as before. On a split core it traps ILLEGAL (code 6), when it was fetched and its areas read without an ECC error. -/
def Obligations.BlockCheck : Prop :=
  ∀ (c : Core) (gd ga gb : Reg) (n : Nat) (s : State),
    (s.dev.chkCauses c (s.dev.val c ga).toNat (s.dev.val c gb).toNat n = {} → Fits c (12 + 2 * n) s →
      ∃ t k, exec (.chk c gd ga gb n) s = .next t ∧ k ≤ n ∧ k = (chkRun (s.dev.val c ga).toNat (s.dev.val c gb).toNat n 0 s 0).2 ∧
        (t.dev.core c).cur.r gd = (if gd = 0 then 0 else BitVec.ofNat 32 k) ∧
        (t.dev.core c).cur.cyc = (s.dev.core c).cur.cyc + (12 + 2 * n + (s.dev.core c).cur.seq.extra) ∧
        (∀ g, g ≠ gd → (t.dev.core c).cur.r g = (s.dev.core c).cur.r g) ∧
        BytesKept (s.dev.val c gb).toNat (12 * n) s t ∧ t.dev.regs = s.dev.regs ∧ t.pending = s.pending) ∧
    (s.dev.isSplit c = true → s.dev.fetchBad c = false → (s.dev.chkCauses c (s.dev.val c ga).toNat (s.dev.val c gb).toNat n).ecc = false →
      ∃ t, exec (.chk c gd ga gb n) s = .next t ∧ Trapped c 6 s t)

/-- RING, RSTAT, EST and ESTAT: handle or status, and what they take or free. On every core, in every state in which the instruction fits its budget. RING with its areas in order, no uncorrectable word in descriptor or request, and no cause: on a status (REFUSED, RANGE, TOO_LARGE, FULL) gd holds it, memory is as before and no tag is taken; otherwise gd holds port and tag, the tag is of 64 to 1,023 and was free, and only the response buffer may change in memory. RSTAT writes 0 for a pending handle, 1 for a completed one, FAILED for a failed one, STALE for any other, and a final status frees the tag; ESTAT likewise. EST with no cause writes TOO_LARGE, FULL or a handle whose slot was free. -/
def Obligations.RingAndJobStatus : Prop :=
  ∀ (c : Core) (gd ga : Reg) (s : State),
    let e := (s.dev.core c).cur.task
    let h := (s.dev.val c ga).toNat
    let r := ringDesc (s.anyBytes c h 16)
    let req := s.anyBytes c r.reqAddr r.reqLen
    let bs := s.anyBytes c h 32
    (Fits c 12 s → h % 4 = 0 → s.dev.winOk c h 16 false = true → s.dev.poisoned h 16 = false → s.dev.poisoned r.reqAddr r.reqLen = false → r.port < s.dev.rings →
      (r.reqLen = 0 ∨ s.dev.winOk c r.reqAddr r.reqLen false = true) → (r.rspLen = 0 ∨ s.dev.winOk c r.rspAddr r.rspLen true = true) →
      ∃ t, exec (.ring c gd ga) s = .next t ∧ t.pending = s.pending ∧
        match s.dev.ringVerdict e r req with
        | .inl st => (t.dev.core c).cur.r gd = (if gd = 0 then 0 else statusWord st) ∧ t.mem = s.mem ∧ t.dev.ports = s.dev.ports
        | .inr tag => (t.dev.core c).cur.r gd = (if gd = 0 then 0 else BitVec.ofNat 32 (r.port * 65536 + tag)) ∧
            64 ≤ tag ∧ tag < 1024 ∧ (∀ x ∈ (s.dev.port r.port).txns, x.tag ≠ tag) ∧
            (∃ x ∈ (t.dev.port r.port).txns, x.tag = tag ∧ x.holder = e + 1) ∧ BytesKept r.rspAddr r.rspLen s t) ∧
    (Fits c 4 s → ∃ t, exec (.rstat c gd ga) s = .next t ∧ DevOnly s t ∧
      match s.dev.handleTxn e h with
      | none => Wrote c gd (statusWord 6) 4 s t
      | some x => if x.st < 2 then Wrote c gd 0 4 s t
          else (t.dev.core c).cur.r gd = (if gd = 0 then 0 else if x.st = 2 then 1 else statusWord 5) ∧
            ∀ y ∈ (t.dev.port (h / 65536)).txns, y.tag ≠ h % 1024) ∧
    (Fits c 4 s → ∃ t, exec (.estat c gd ga) s = .next t ∧ DevOnly s t ∧
      match (s.dev.estQ (pairOf c)).jobs.find? (fun j => j.handle == h && j.owner == e) with
      | none => Wrote c gd (statusWord 6) 4 s t
      | some j => if j.st < 2 then Wrote c gd 0 4 s t
          else (t.dev.core c).cur.r gd = (if gd = 0 then 0 else if j.st = 2 then 1 else statusWord 5) ∧
            ∀ y ∈ (t.dev.estQ (pairOf c)).jobs, y.handle ≠ h) ∧
    (Fits c 12 s → h % 4 = 0 → s.dev.winOk c h 32 false = true → s.dev.poisoned h 32 = false → wordAt bs 0 / 4096 % 64 < s.dev.lanes →
      (wordAt bs 0 / 2 ^ 24 ≠ 3 ∨ wordAt bs 1 / 65536 = 0 ∨ s.dev.winOk c (wordAt bs 5) (8 * (wordAt bs 1 / 65536)) false = true) →
      (wordAt bs 7 = 0 ∨ s.dev.winOk c (wordAt bs 6) (wordAt bs 7) true = true) →
      ∃ t, exec (.est c gd ga) s = .next t ∧ DevOnly s t ∧
        if s.dev.estTooLarge bs then Wrote c gd (statusWord 1) 12 s t
        else if (s.dev.estQ (pairOf c)).freeSlot = none then Wrote c gd (statusWord 2) 12 s t
        else ∃ k, (s.dev.estQ (pairOf c)).freeSlot = some k ∧ k < 8 ∧
          (t.dev.core c).cur.r gd = (if gd = 0 then 0
            else BitVec.ofNat 32 (((s.dev.estQ (pairOf c)).gen + 1) % 256 * 256 + k)) ∧
          (t.dev.estQ (pairOf c)).jobs.length = (s.dev.estQ (pairOf c)).jobs.length + 1)

/-- SPLIT and JOIN accept or answer REFUSED; a reserved encoding traps ILLEGAL. On every core, in every state in which the instruction fits its budget: SPLIT is refused (gd REFUSED, nothing else changed) when this pair is split, the other pair is split or halted, or no verified migration is loaded, and otherwise sets gd to 0, marks the request and, unless this is the agreed twin without authority, notes it for the scan two later; that twin keeps what it had noted, and waits for the authority's message. JOIN is refused on a pair that is not split, and otherwise accepted likewise. A word that is no assigned encoding, fetched without an ECC error, traps ILLEGAL (code 6). -/
def Obligations.SplitAndJoin : Prop :=
  ∀ (c : Core) (gd : Reg) (s : State),
    let p := pairOf c
    let refused := s.dev.kstate p = 1 ∨ s.dev.kstate (1 - p) = 1 ∨ s.dev.kstate (1 - p) = 3 ∨ s.dev.canMigrate p = false
    (Fits c 6 s → refused → ∃ t, exec (.split c gd) s = .next t ∧ Wrote c gd (statusWord 4) 6 s t) ∧
    (Fits c 6 s → ¬ refused → ∃ t, exec (.split c gd) s = .next t ∧ (t.dev.core c).cur.r gd = 0 ∧ DevOnly s t ∧
      t.dev.rbit (A.sysKstat p) 28 = true ∧
      (t.dev.pair p).pend = if s.dev.agreed && s.dev.follows then (s.dev.pair p).pend else some (false, s.dev.time.tickScan + 2)) ∧
    (Fits c 6 s → s.dev.kstate p ≠ 1 → ∃ t, exec (.join c gd) s = .next t ∧ Wrote c gd (statusWord 4) 6 s t) ∧
    (Fits c 6 s → s.dev.kstate p = 1 → ∃ t, exec (.join c gd) s = .next t ∧ (t.dev.core c).cur.r gd = 0 ∧ DevOnly s t ∧
      t.dev.rbit (A.sysKstat p) 28 = true ∧
      (t.dev.pair p).pend = if s.dev.agreed && s.dev.follows then (s.dev.pair p).pend else some (true, s.dev.time.tickScan + 2)) ∧
    (∀ w : Word, (wordInfo w.toNat).isNone = true → s.dev.fetchBad c = false →
      ∃ t, exec (.reservedEncoding c w) s = .next t ∧ Trapped c 6 s t)

/-- An activation starts with cleared registers, stacks and saturation indicator. Whenever ACTIVATION_START starts an activation of a task on a core (the core runs it, nothing runs there, the task is due, and no due segment stands before it in the order of R93), the core then runs that task with every general register 0, both stacks empty and the saturation indicator clear, whatever the core held before, so that no register value survives from an earlier activation; memory, in whose windows alone a task keeps state, is as before, and so is everything but that core (and the counter of the model's free values: the dispatcher's cycles are one, log entry 189). -/
def Obligations.ActivationStarts : Prop :=
  ∀ (c : Core) (task : Nat) (s : State), s.dev.coreOf task = some c → s.dev.mayRun c = true → s.dev.activates task = true →
    s.dev.rbit (A.sysTstat task) 31 = false → (s.dev.core c).run = false → task ∉ (s.dev.core c).started → s.dev.segmentNext c task = true →
    ∃ t, exec (.activationStart c task) s = .next t ∧ (t.dev.core c).run = true ∧ (t.dev.core c).cur.task = task ∧
      (∀ g, (t.dev.core c).cur.r g = 0) ∧ (t.dev.core c).cur.rstk = [] ∧ (t.dev.core c).cur.lstk = [] ∧
      (t.dev.core c).cur.sat = false ∧ (t.dev.core c).cur.staged = [] ∧
      t.dev = { s.dev.setCore c (fun _ => t.dev.core c) with freeCnt := s.dev.freeCnt + 1 } ∧ DevOnly s t

/-- A suspended activation resumes where it waited; a running one cut by its tick is a miss. SEGMENT_RESUME in the tick that a suspended activation of a task that is not faulty names, on a core that may run and runs nothing, before any other due segment in the order of R93, puts that activation back with its registers, stacks and staged outputs and 4 cycles counted. DEADLINE_MISS of the running task ends it with staged outputs discarded and published ones kept; TSTAT.MISS is set and TMISS counts, or, for a task that is no SAFETY task while the throttle is in force, TSTAT.SHED is set and TMISS stays. -/
def Obligations.SegmentsResumeOrMiss : Prop :=
  (∀ (c : Core) (task : Nat) (s : State) (x : Ctx), (s.dev.core c).waiting task s.dev.time.tick = some x → x.wake = s.dev.time.tick →
      s.dev.rbit (A.sysTstat task) 31 = false → s.dev.mayRun c = true → (s.dev.core c).run = false → s.dev.segmentNext c task = true →
      ∃ t, exec (.segmentResume c task) s = .next t ∧ (t.dev.core c).run = true ∧ (t.dev.core c).cur = { x with cyc := 4 } ∧
        (∀ y ∈ (t.dev.core c).susp, y.task ≠ task) ∧ t.dev = { s.dev.setCore c (fun _ => t.dev.core c) with freeCnt := s.dev.freeCnt + 1 } ∧ DevOnly s t) ∧
    (∀ (c : Core) (task : Nat) (s : State), (s.dev.core c).run = true → (s.dev.core c).cur.task = task → task < 128 →
      ∃ t, exec (.deadlineMiss c task) s = .next t ∧ (t.dev.core c).run = false ∧ (t.dev.core c).cur.staged = [] ∧
        t.dev.pubs = s.dev.pubs ∧ DevOnly s t ∧
        if s.dev.rbit A.pwrStat 22 = true ∧ (s.dev.task task).cls ≠ 0 then
          t.dev.rbit (A.sysTstat task) 28 = true ∧ t.dev.reg (A.sysTmiss task) = s.dev.reg (A.sysTmiss task)
        else t.dev.rbit (A.sysTstat task) 29 = true ∧ t.dev.reg (A.sysTmiss task) = satInc (s.dev.reg (A.sysTmiss task)))

/-- Placing the next sampling instant, and the H and S launches before it. PCS_SYNC_EDGE at t while the device scans and no instant is placed, with t + OFFSET between N and N + 100 us, places the instant at t + OFFSET; outside the window it only moves time on. CAPTURE_WINDOW_CLOSE in that state places it at N, free-running. A single device and the twin with authority judge the scan: FREECNT 0 and FREERUN clear, or FREECNT counted up to 255 and FREERUN set. A twin without authority only holds its own instant until the authority's comes (log entry 13); without a message it uses its own instant at its deadline, and event 134 is pending. QUIET_LAUNCH and SYNC_LAUNCH move time to 52 and 32 us before the instant and change nothing else but their marks, set when the device launches code groups, and modules that have a balance-switch test. -/
def Obligations.InstantPlacement : Prop :=
  (∀ (u : Nat) (s : State), let x := s.dev.time
      x.scanning = true → x.placed = none →
      (x.nextN ≤ u + x.off → u + x.off ≤ x.nextN + 100000 →
        ∃ t, exec (.pcsSyncEdge u) s = .next t ∧ t.dev.time.placed = some (u + x.off) ∧ t.dev.time.free = false ∧ PlantOnly s t ∧
          (s.dev.follows = true → t.dev = { s.dev with time := t.dev.time }) ∧
          (s.dev.follows = false → t.dev.fld A.acqStat 7 0 = 0 ∧ t.dev.rbit A.acqStat 31 = false ∧ RegsKept [A.acqStat] s.dev t.dev)) ∧
      (u + x.off < x.nextN ∨ x.nextN + 100000 < u + x.off → exec (.pcsSyncEdge u) s = .next { s with dev := s.dev.at u }) ∧
      (∃ t, exec .captureWindowClose s = .next t ∧ t.dev.time.placed = some x.nextN ∧ t.dev.time.free = true ∧ PlantOnly s t ∧
        (s.dev.follows = true → t.dev = { s.dev with time := t.dev.time }) ∧
        (s.dev.follows = false → t.dev.fld A.acqStat 7 0 = min (s.dev.fld A.acqStat 7 0 + 1) 255 ∧ t.dev.rbit A.acqStat 31 = true ∧
          RegsKept [A.acqStat] s.dev t.dev))) ∧
    (∀ s : State, s.dev.isTwin = true → s.dev.authority = false → s.dev.time.scanning = true → s.dev.time.msg = false →
      s.dev.time.instLocal = false →
      ∃ t, exec .instantLocalDeadline s = .next t ∧ t.dev.time.instLocal = true ∧ t.dev.eventPending 134 = true ∧ PlantOnly s t) ∧
    (∀ s : State, ∃ t, exec .quietLaunch s = .next t ∧ t.dev.time.now = max s.dev.time.now (s.dev.time.next - 52000) ∧
      t.dev = { s.dev with time := t.dev.time, ports := t.dev.ports } ∧ (s.dev.launchesGroups = true → t.dev.time.quietDone = true) ∧
      (∀ n h, ((s.dev.port n).mod h).test = none → (t.dev.port n).mod h = (s.dev.port n).mod h) ∧ DevOnly s t) ∧
    (∀ s : State, ∃ t, exec .syncLaunch s = .next t ∧ t.dev.time.now = max s.dev.time.now (s.dev.time.next - 32000) ∧
      t.dev = { s.dev with time := t.dev.time, ports := t.dev.ports } ∧ (s.dev.launchesGroups = true → t.dev.time.syncDone = true) ∧
      (∀ n h, ((s.dev.port n).mod h).test = none → (t.dev.port n).mod h = (s.dev.port n).mod h) ∧ DevOnly s t)

/-- SAMPLING_INSTANT counts the scan and computes the next nominal instant; the scan frame leaves and returns. While the device scans, SAMPLING_INSTANT adds 1 to ACQ.SCAN modulo 2^32, takes the placed (or nominal) instant, computes the next nominal instant one period later with no instant placed, and changes neither memory nor the cores; when it does not scan it changes nothing. SCAN_FRAME_LAUNCH sends the frame on every ring that this device scans and restarts the keep-alive of its head when the header reaches hop 1 and arrives right there; on a single device a head that it does not so reach stays as it is. SCAN_FRAME_RETURN at end A of a ring that this device launches on, in RUN, BROKEN or ISOLATED, whose frame reached every module puts it in RUN with REACHA = L, when no module in turnaround still owes its LINKBACK. At reset ACQ.SCAN reads 0. -/
def Obligations.ScanBegins : Prop :=
  State.reset.dev.scan = 0 ∧
    (∀ s : State, s.dev.time.scanning = true → ∃ t, exec .samplingInstant s = .next t ∧ t.dev.scan = (s.dev.scan + 1) % 2 ^ 32 ∧
      t.dev.time.inst = s.dev.time.next ∧ t.dev.time.nextN = s.dev.time.next + t.dev.time.per ∧ t.dev.time.placed = none ∧
      t.dev.k0 = s.dev.k0 ∧ t.dev.k1 = s.dev.k1 ∧ t.dev.pubs = s.dev.pubs ∧ DevOnly s t) ∧
    (∀ s : State, s.dev.time.scanning = false → exec .samplingInstant s = .next s) ∧
    (∀ (bad cut : List (Nat × Nat)) (s : State),
      ∃ t, exec (.scanFrameLaunch bad cut) s = .next t ∧ t.dev = { s.dev with time := t.dev.time, ports := t.dev.ports } ∧ DevOnly s t ∧
      ∀ n, n < s.dev.rings → s.dev.scans n = true → 
        let r := min (s.dev.passes s.dev.atEndB n) ((forRing n cut).head?.getD 64)
        let heard := 1 ∈ (span 1 r).map (wireHop s.dev.atEndB (s.dev.ringL n)) ∧ 1 ∉ hdrBadHops s.dev.atEndB (s.dev.ringL n) r (forRing n bad)
        (t.dev.port n).lastKeep = t.dev.time.now ∧ (t.dev.port n).scanOut = true ∧
        (heard → (t.dev.port n).head.karem = (s.dev.port n).head.kato ∧ (t.dev.port n).head.kaT = t.dev.time.now) ∧
        (¬ heard → s.dev.isTwin = false → (t.dev.port n).head = (s.dev.port n).head)) ∧
    (∀ (n rb : Nat) (s : State), n < s.dev.rings → s.dev.launches n = true → s.dev.atEndB = false ∨ s.dev.ringState n = 3 →
      2 ≤ s.dev.ringState n → s.dev.ringState n ≤ 4 → s.dev.ringState n = 2 ∨ s.dev.linkWanted n = false →
      ∃ t, exec (.scanFrameReturn n (s.dev.ringL n) rb) s = .next t ∧ t.dev.ringState n = 2 ∧
        t.dev.fld (A.ringStat n) 27 21 = s.dev.ringL n ∧ DevOnly s t ∧ ∀ k, k ≠ n → t.dev.port k = s.dev.port k)

/-- Tick boundaries, and what the slot cut-off makes of the slots that arrived. TICK_BOUNDARY of a device that does not scan changes nothing. Within a scan it publishes what the tick committed, and starts the next tick 250 us after the start of the running one, each core at 0 cycles. When a new scan's instant has passed and no tick of the old one fits before +1,170 us, it starts tick 0 of the new scan there, publishes and shifts the views by one scan (stated with no stamped FSP or Owner action waiting). SLOT_CUTOFF, for any slots and head blocks, moves time to no earlier than 1,165 us after the instant and makes the new record of every hop from 2 of every configured ring from the scan before's and its slot if one was delivered: then its delivery code and age 0 unless QMISS; with none delivery code 3, the numbers as before, and the age one more, up to 8, unless the hop lies beyond reach. It leaves memory and the queue and, while no shutdown is in its step 4, the cores and the outputs (the last is said of the records too). -/
def Obligations.TicksAndCutoff : Prop :=
  (∀ s : State, s.dev.time.scanning = false → s.dev.twin.joining = false → exec .tickBoundary s = .next s) ∧
    (∀ s : State, s.dev.time.scanning = true → s.dev.scan = s.dev.time.tickScan → s.dev.time.ticksOn = true →
      s.dev.time.tick + 1 < s.dev.time.ticks →
      ∃ t, exec .tickBoundary s = .next t ∧ t.dev.time.tick = s.dev.time.tick + 1 ∧
        t.dev.time.tickStart = s.dev.time.tickStart + 250000 ∧ t.dev.time.tickScan = s.dev.time.tickScan ∧ t.dev.committed = [] ∧
        t.dev.pubs = (foldOver s.dev.committed (fun o d => d.publish o) s.dev).pubs ∧
        t.dev.k0 = { s.dev.k0 with cyc := 0, started := [] } ∧ t.dev.k1 = { s.dev.k1 with cyc := 0, started := [] } ∧ DevOnly s t) ∧
    (∀ s : State, s.dev.time.scanning = true → s.dev.scan ≠ s.dev.time.tickScan →
      (s.dev.time.ticksOn = true → s.dev.time.tick + 1 < s.dev.time.ticks →
        s.dev.time.inst + 1170000 ≤ s.dev.time.tickStart + 250000) → s.dev.hwd.fspActs = [] → s.dev.hwd.ownActs = [] →
      ∃ t, exec .tickBoundary s = .next t ∧ t.dev.time.tick = 0 ∧ t.dev.time.tickStart = s.dev.time.inst + 1170000 ∧
        t.dev.time.tickScan = s.dev.scan ∧ t.dev.time.ticksOn = true ∧ t.dev.committed = [] ∧
        t.dev.pubs = (foldOver s.dev.committed (fun o d => d.publish o) s.dev).pubs ∧
        t.dev.acq.views = (s.dev.acq.next :: s.dev.acq.views).take 8 ∧ DevOnly s t) ∧
    (∀ (slots : List SlotIn) (heads : List HeadIn) (s : State),
      let shares := s.dev.agreed || (s.dev.isTwin && s.dev.twinState == 2)
      let ok := slots.filter (s.dev.slotOk true) ++ (if shares then s.dev.acq.halfSlots.filter (s.dev.slotOk false) else [])
      let all := slots ++ (if shares then s.dev.acq.halfSlots else [])
      ∃ t, exec (.slotCutoff slots heads) s = .next t ∧ s.dev.time.inst + 1165000 ≤ t.dev.time.now ∧ DevOnly s t ∧
        ((s.dev.shutting && s.dev.ctl.blk.step == 4) = false → t.dev.k0 = s.dev.k0 ∧ t.dev.k1 = s.dev.k1 ∧ t.dev.pubs = s.dev.pubs ∧
        ∀ n ∈ s.dev.ringsOn, ∀ h ∈ s.dev.hopsOf n, 2 ≤ h →
          t.dev.acq.next.modRec n h = s.dev.newRec n h (s.dev.acq.next.modRec n h) (slotFor ok n h) (s.dev.slotFailed all n h))) ∧
    (∀ (d : Dev) (n h : Nat) (old : ModRec) (x : SlotIn) (failed : Bool),
      (d.newRec n h old (some x) failed).deliv = x.src % 3 ∧
      (x.status.getLsbD 41 = false → (d.newRec n h old (some x) failed).age = 0) ∧
      (d.newRec n h old none failed).deliv = 3 ∧
      (∀ i, i < 16 → (d.newRec n h old none failed).cells.getD i 0 = old.cells.getD i 0) ∧
      (d.newRec n h old none failed).age = (if d.unreached n h then 0 else min (old.age + 1) 8))

/-- A published value is what its output then reads, and no other output changes. For every committed output and every device: publishing it makes the output read that value (0 for the reserved mode 3 of class 4) and leaves what every other output reads; memory is not part of it. -/
def Obligations.PublicationReachesOutput : Prop :=
  ∀ (o : OutVal) (d : Dev), o.idx < 65536 →
    (d.publish o).pub o.cls o.idx = (if o.cls = 4 ∧ o.val.field 1 0 = 3 then 0 else o.val) ∧
    ∀ cls idx, idx < 65536 → (cls, idx) ≠ (o.cls, o.idx) → (d.publish o).pub cls idx = d.pub cls idx

/-- Layer 0 verdicts, channel self-tests, zone lines and grant expiry. L0_VERDICT runs every enabled element of the configured rings once over both channels' counters, shows the smaller count of active elements in PROT.L0ACT, and, once start-up has restored the latches, latches the zones that both channels request (either, while L0FAULT is set); zones latched stay latched, a newly active element raises event 160, memory, cores and outputs are as before. L0_SELFTEST_END and L0_SELFTEST_DAILY raise event 166; when both channels pass and L0FAULT was set, it is cleared and both channels hold the merged counters; when it was clear, protection is as before; a failed channel keeps a starting device out of RUN. A zone line seen low sets its readback bit; when the zone was not driven, the zone is latched (once restored); when driven, nothing else changes. A driven line read high sets RBFAULT and event 172 is pending; one not driven changes nothing. A ninth line is a fault. GGRACE_EXPIRY drops the fallen grants whose time has come, and no other. -/
def Obligations.ProtectionVerdicts : Prop :=
  (∀ s : State,
      let x := (s.dev.ringsOn.flatMap (s.dev.ringElems s.dev.acq.next)).foldl (s.dev.judgeElem (s.dev.rbit A.protStat 29))
        { a := s.dev.prot.cntA, b := s.dev.prot.cntB, act := s.dev.prot.active }
      let m := if s.dev.rbit A.protStat 29 then x.zoneA ||| x.zoneB else x.zoneA &&& x.zoneB
      ∃ t, exec .l0Verdict s = .next t ∧ t.dev.prot.cntA = x.a ∧ t.dev.prot.cntB = x.b ∧ t.dev.prot.active = x.act ∧
        t.dev.reg A.protL0act = BitVec.ofNat 32 (min x.cntA x.cntB) ∧ (x.new ≠ [] → t.dev.eventPending 160 = true) ∧
        (s.dev.prot.restored = true → ∀ z, z < 8 → m.testBit z = true → t.dev.latched.testBit z = true) ∧
        (∀ z, z < 8 → s.dev.latched.testBit z = true → t.dev.latched.testBit z = true) ∧
        DevOnly s t ∧ t.dev.k0 = s.dev.k0 ∧ t.dev.k1 = s.dev.k1 ∧ t.dev.pubs = s.dev.pubs) ∧
    (∀ (d : Dev) (f : Bool) (v : Verdict) (e : Elem),
      (d.judgeElem f v e).a = FMap.set (fun _ => 0) v.a e.key (dwellNext e.cls e.rec_.cap (FMap.get (fun _ => 0) v.a e.key)) ∧
      (d.judgeElem f v e).b = FMap.set (fun _ => 0) v.b e.key (dwellNext e.cls e.rec_.cap (FMap.get (fun _ => 0) v.b e.key)) ∧
      (e.rec_.lim ≤ dwellNext e.cls e.rec_.cap (FMap.get (fun _ => 0) v.a e.key) → (d.judgeElem f v e).zoneA = v.zoneA ||| d.elemZones e)) ∧
    (∀ (i : Bool → Bool → Instr) (s : State), i = Instr.l0SelftestEnd ∨ i = Instr.l0SelftestDaily →
      (∃ t, exec (i true true) s = .next t ∧ t.dev.eventPending 166 = true ∧ DevOnly s t ∧ RegsKept [A.protStat] s.dev t.dev ∧
        (s.dev.rbit A.protStat 29 = true → t.dev.rbit A.protStat 29 = false ∧
          t.dev.prot.cntA = mergeCounts s.dev.prot.cntA s.dev.prot.cntB ∧ t.dev.prot.cntB = t.dev.prot.cntA) ∧
        (s.dev.rbit A.protStat 29 = false → t.dev.prot = s.dev.prot ∧ t.dev.rbit A.protStat 29 = false)) ∧
      (∀ a b, (a && b) = false → s.dev.pstate = 7 → ∃ t, exec (i a b) s = .next t ∧ t.dev.eventPending 166 = true ∧
        t.dev.pwr = { s.dev.pwr with noRun := true } ∧ t.dev.prot = s.dev.prot ∧ RegsKept [] s.dev t.dev ∧ DevOnly s t) ∧
      (∀ a b, (a && b) = false → s.dev.pstate ≠ 7 → s.dev.isTwin = false → ∃ t, exec (i a b) s = .next t ∧
        t.dev.eventPending 166 = true ∧ EventsOnly s.dev t.dev ∧ DevOnly s t) ∧
      ∀ a b, ∃ t, exec (i a b) s = .next t ∧ t.dev.eventPending 166 = true ∧ DevOnly s t) ∧
    (∀ (z : Nat) (s : State), z < 8 →
      (∃ t, exec (.zoneLineLow z) s = .next t ∧ DevOnly s t ∧ t.dev.rbit A.protStat (16 + z) = true ∧
        (s.dev.prot.restored = true → s.dev.rbit A.protStat (8 + z) = false → t.dev.latched.testBit z = true) ∧
        (s.dev.rbit A.protStat (8 + z) = true → t.dev = s.dev.setRbit A.protStat (16 + z) true)) ∧
      (s.dev.rbit A.protStat (8 + z) = true →
        ∃ t, exec (.readbackFault z) s = .next t ∧ DevOnly s t ∧ t.dev.rbit A.protStat 28 = true ∧
          t.dev.rbit A.protStat (16 + z) = false ∧ t.dev.eventPending 172 = true ∧ RegsKept [A.protStat] s.dev t.dev) ∧
      (s.dev.rbit A.protStat (8 + z) = false → exec (.readbackFault z) s = .next s)) ∧
    (∀ (z : Nat) (s : State), 8 ≤ z → exec (.zoneLineLow z) s = .fault .noSuchUnit ∧ exec (.readbackFault z) s = .fault .noSuchUnit) ∧
    (∀ s : State, ∃ t, exec .ggraceExpiry s = .next t ∧ DevOnly s t ∧ t.dev = { s.dev with time := t.dev.time, prot := t.dev.prot } ∧
      (s.dev.prot.gPend = [] → t = s) ∧
      (s.dev.prot.gPend ≠ [] → ∀ x, x ∈ t.dev.prot.gPend ↔ x ∈ s.dev.prot.gPend ∧ t.dev.time.now < x.1))

/-- A trip release waits for its boundary, then for its line check. TRIP_RELEASE_EVAL before the boundary of the first waiting request, with none waiting or with a line check running, changes nothing. At the boundary, a request whose latched zones may be released starts the line check, with their lines let go and the zones still latched; in every case memory is as before. RELEASE_LINE_CHECK_END with no check running changes nothing, and otherwise ends the check; when a line of the request stayed low the zones keep what was latched. -/
def Obligations.TripRelease : Prop :=
  (∀ s : State, s.dev.prot.check.isSome = true ∨ s.dev.prot.rels = [] → exec .tripReleaseEval s = .next s) ∧
    (∀ (s : State) (r : RelReq) (l : List RelReq), s.dev.prot.check = none → s.dev.prot.rels = r :: l → s.dev.dueNow r.due = false →
      exec .tripReleaseEval s = .next s) ∧
    (∀ (s : State) (r : RelReq) (l : List RelReq), s.dev.prot.check = none → s.dev.prot.rels = r :: l → s.dev.dueNow r.due = true →
      (∃ t, exec .tripReleaseEval s = .next t ∧ DevOnly s t) ∧
      (r.mask &&& s.dev.latched ≠ 0 → s.dev.mayRelease (r.mask &&& s.dev.latched) r.seen = true →
        ∃ t, exec .tripReleaseEval s = .next t ∧ t.dev.prot.check = some r ∧ t.dev.prot.rels = l ∧ t.dev.latched = s.dev.latched ∧
          (∀ z, z < 8 → (r.mask &&& s.dev.latched).testBit z = true → t.dev.rbit A.protStat (8 + z) = false) ∧ PlantOnly s t)) ∧
    (∀ (h : Nat) (b : Bool) (s : State), s.dev.prot.check = none → exec (.releaseLineCheckEnd h b) s = .next s) ∧
    (∀ (h : Nat) (b : Bool) (s : State) (r : RelReq), s.dev.prot.check = some r →
      ∃ t, exec (.releaseLineCheckEnd h b) s = .next t ∧ t.dev.prot.check = none ∧ DevOnly s t ∧
        ((r.mask &&& s.dev.latched) &&& h ≠ (r.mask &&& s.dev.latched) → t.dev.latched = s.dev.latched))

/-- A read of a low half captures 64 bits for the reading master alone. For every master and state: a read of SYS.TIMEL answers a next state in which the value read is the low word of device time, a read of SYS.TIMEH by that master then gives the high word of the captured time, and no other master reads anything differently than before; the same holds for ACQ.QCNTL and ACQ.QCNTH with the 64-bit coulomb count, and for ETH.UTCL and ETH.UTCH with the UTC offset. Nothing else changes. -/
def Obligations.CapturedReads : Prop :=
  (∀ (m : Master) (s : State), ∃ t, exec (.timelRead m) s = .next t ∧ t.dev.readData = BitVec.ofNat 32 (s.dev.time.now % 2 ^ 64 % 2 ^ 32) ∧
      t.dev.regView m A.sysTimeh = BitVec.ofNat 32 (s.dev.time.now % 2 ^ 64 / 2 ^ 32) ∧
      (∀ k, k ≠ m → ∀ a, t.dev.regView k a = s.dev.regView k a) ∧
      t.dev = { s.dev with time := t.dev.time, readData := t.dev.readData } ∧ t.dev.time.now = s.dev.time.now ∧ DevOnly s t) ∧
    (∀ (m : Master) (s : State), ∃ t, exec (.qcntlRead m) s = .next t ∧ t.dev.readData = BitVec.ofNat 32 (s.dev.qcnt % 2 ^ 32) ∧
      t.dev.regView m A.acqQcnth = BitVec.ofNat 32 (s.dev.qcnt / 2 ^ 32) ∧
      (∀ k, k ≠ m → ∀ a, t.dev.regView k a = s.dev.regView k a) ∧
      t.dev = { s.dev with time := t.dev.time, readData := t.dev.readData } ∧ t.dev.time.now = s.dev.time.now ∧ DevOnly s t) ∧
    (∀ (m : Master) (s : State), ∃ t, exec (.utclRead m) s = .next t ∧ t.dev.readData = BitVec.ofNat 32 (s.dev.utcOfs % 2 ^ 32) ∧
      t.dev.regView m A.ethUtch = BitVec.ofNat 32 (s.dev.utcOfs / 2 ^ 32) ∧
      (∀ k, k ≠ m → ∀ a, t.dev.regView k a = s.dev.regView k a) ∧
      t.dev = { s.dev with time := t.dev.time, readData := t.dev.readData } ∧ t.dev.time.now = s.dev.time.now ∧ DevOnly s t)

/-- An access to absent control space reads zero, writes nothing and raises event 372. For every address of absent control space and every state: the access answers a next state in which event 372 is pending and its counter has counted one more (saturating), also when it was pending before; a read returned 0; nothing else changed but events, so that a write had no effect. Absent control space holds the block of every ring port that is not fitted, and on a device that is no twin the whole TWIN block. -/
def Obligations.AbsentSpace : Prop :=
  (∀ (a : Nat) (w : Bool) (s : State), s.dev.absentAt a = true →
      ∃ t, exec (.absentSpaceAccess a w) s = .next t ∧ DevOnly s t ∧ EventsOnly { s.dev with readData := t.dev.readData } t.dev ∧
        (w = false → t.dev.readData = 0) ∧ (w = true → t.dev.readData = s.dev.readData) ∧ t.dev.eventPending 372 = true ∧
        t.dev.reg (A.evtCnt 372) = satInc (s.dev.reg (A.evtCnt 372))) ∧
    (∀ (d : Dev) (n o : Nat), d.rings ≤ n → n < 48 → o < 0x400 → d.absentAt (0x40030000 + 0x400 * n + o) = true) ∧
    (∀ (d : Dev) (o : Nat), d.isTwin = false → o < 0x10000 → d.absentAt (0x40090000 + o) = true)

/-- Writes of registers with behaviour of their own: accepted fields, rejected values. For every value: ACQ.CTL takes P from 10 to 4,000 and OFFSET of 14,000 or more, and leaves a field out of range with event 135; ACQ.VALCFG takes STALEMAX but not 0; ACQ.STRETCH takes EN and IQUIET; CNPY.IMPCTL, where fitted, takes EN and IMPSTEP; CNPY.BALEN takes the bits of fitted rings; UCODE queues a USER record or counts a drop; ACQ.FILT changes nothing outside ACQ and events. Memory is as before. -/
def Obligations.RegisterWrites : Prop :=
  ∀ (v : Word) (s : State),
    (∃ t, exec (.acqCtlWrite v) s = .next t ∧ DevOnly s t ∧ RegsKept [A.acqCtl] s.dev t.dev ∧
      t.dev.fld A.acqCtl 31 20 = (if 10 ≤ v.field 31 20 ∧ v.field 31 20 ≤ 4000 then v.field 31 20 else s.dev.fld A.acqCtl 31 20) ∧
      t.dev.fld A.acqCtl 15 0 = (if 14000 ≤ v.field 15 0 then v.field 15 0 else s.dev.fld A.acqCtl 15 0) ∧
      (¬ (10 ≤ v.field 31 20 ∧ v.field 31 20 ≤ 4000) ∨ v.field 15 0 < 14000 → t.dev.eventPending 135 = true)) ∧
    (∃ t, exec (.acqValcfgWrite v) s = .next t ∧ DevOnly s t ∧ RegsKept [A.acqValcfg] s.dev t.dev ∧
      t.dev.fld A.acqValcfg 2 0 = (if v.field 2 0 = 0 then s.dev.fld A.acqValcfg 2 0 else v.field 2 0) ∧
      (v.field 2 0 = 0 → t.dev.eventPending 135 = true)) ∧
    (∃ t, exec (.acqStretchWrite v) s = .next t ∧ PlantOnly s t ∧ RegsKept [A.acqStretch] s.dev t.dev ∧
      t.dev.rbit A.acqStretch 31 = v.bit 31 ∧ t.dev.fld A.acqStretch 15 0 = v.field 15 0) ∧
    (∃ t, exec (.acqFiltWrite v) s = .next t ∧ PlantOnly s t ∧ RegsKept [A.acqFilt] s.dev t.dev) ∧
    (s.dev.hasImp = true → ∃ t, exec (.cnpyImpctlWrite v) s = .next t ∧ DevOnly s t ∧
      t.dev.rbit A.cnpyImpctl 31 = v.bit 31 ∧ t.dev.fld A.cnpyImpctl 15 0 = v.field 15 0) ∧
    (∃ t, exec (.cnpyBalenWrite 0 v) s = .next t ∧ DevOnly s t ∧ RegsKept [A.cnpyBalen0] s.dev t.dev ∧
      t.dev.reg A.cnpyBalen0 = v &&& BitVec.ofNat 32 (2 ^ min 32 s.dev.rings - 1)) ∧
    (∃ t, exec (.cnpyBalenWrite 1 v) s = .next t ∧ DevOnly s t ∧ RegsKept [A.cnpyBalen1] s.dev t.dev ∧
      t.dev.reg A.cnpyBalen1 = v &&& BitVec.ofNat 32 (2 ^ (s.dev.rings - 32) - 1)) ∧
    (∀ p, ∃ t, exec (.ucodeWrite p v) s = .next t ∧ EventsOnly s.dev t.dev ∧ DevOnly s t ∧
      (t.dev.log.queue.length = s.dev.log.queue.length + 1 ∨ t.dev.log.gap = true))

/-- A plain register write, a clearing counter read, and the CAN lock reads. For every register of the map with no behaviour of its own that is present: a write sets its RW bits to the value written, clears its W1C bits where a 1 is written (ACQ, CNPY, EVT and LOG blocks), and leaves every other bit and register; an address that holds no register takes no write. A read of a counter by a master other than FSP whose CNTCTL.RC is 1 returns the value and leaves 0, and otherwise leaves it. A write of ACQ.CALCTL sets MASK, and START = 1 asks for a run. The CAN lock reads of an object and of a FIFO's head return word 0 and word 19, take and end the pair's read lock, and change nothing else. -/
def Obligations.PlainRegisterAccess : Prop :=
  (∀ (a : Nat) (v : Word) (r : RegRow) (s : State), s.dev.absentAt a = false → regRow a = some r →
      a ∉ [A.acqCtl, A.acqFilt, A.acqStretch, A.acqValcfg, A.acqCalctl, A.cnpyBalen0, A.cnpyBalen1, A.cnpyImpctl, A.logUcode 0, A.logUcode 1] →
      ∃ t, exec (.registerWrite a v) s = .next t ∧ DevOnly s t ∧ t.dev = { s.dev with regs := t.dev.regs } ∧
        (∀ k, k ≠ a → t.dev.reg k = s.dev.reg k) ∧
        ∀ i, i < 32 → (t.dev.reg a).bit i =
          (if r.w1c.testBit i ∧ v.bit i = true ∧ a / 0x10000 ∈ [0x4001, 0x4004, 0x4006, 0x4012] then false
           else if r.rw.testBit i then v.bit i else (s.dev.reg a).bit i)) ∧
    (∀ (a : Nat) (v : Word) (s : State), s.dev.absentAt a = false → regRow a = none → a ∉ [A.logUcode 0, A.logUcode 1] →
      a ∉ [A.acqCtl, A.acqFilt, A.acqStretch, A.acqValcfg, A.acqCalctl, A.cnpyBalen0, A.cnpyBalen1, A.cnpyImpctl] →
      exec (.registerWrite a v) s = .next s) ∧
    (∀ (m : Master) (e : Nat) (s : State), e < 384 →
      ∃ t, exec (.rcCounterRead m (A.evtCnt e)) s = .next t ∧ t.dev.readData = s.dev.reg (A.evtCnt e) ∧
        t.dev.reg (A.evtCnt e) = (if m ≠ .fsp ∧ s.dev.rbit A.evtCntctl 0 = true then 0 else s.dev.reg (A.evtCnt e)) ∧
        (∀ k, k ≠ A.evtCnt e → t.dev.reg k = s.dev.reg k) ∧ DevOnly s t) ∧
    (∀ (v : Word) (s : State), ∃ t, exec (.registerWrite A.acqCalctl v) s = .next t ∧ DevOnly s t ∧ (∀ k, k ≠ A.acqCalctl → t.dev.reg k = s.dev.reg k) ∧
      t.dev.fld A.acqCalctl 7 4 = v.field 7 4 ∧
      (s.dev.acq.cal = none → s.dev.acq.calReq = none → t.dev.acq.calReq = (if v.bit 0 then some (v.field 7 4) else none))) ∧
    (∀ (p c m o : Nat) (s : State), s.dev.hasCan c = true → m < 128 → o < 0x80 →
      let a := 0x400A2000 + 0x10000 * c + 0x80 * m + o
      (∃ t, exec (.canLockRead p a) s = .next t ∧ DevOnly s t ∧ t.dev.readData = BitVec.ofNat 32 (((s.dev.can c).obj m).words.getD 0 0) ∧
        t.dev = { s.dev with cans := t.dev.cans, readData := t.dev.readData } ∧
        t.dev.can c = (s.dev.can c).setObj m (fun x => x.afterRead (s.dev.pairLocker p) 0)) ∧
      ∃ t, exec (.canData15Read p a) s = .next t ∧ DevOnly s t ∧ t.dev.readData = BitVec.ofNat 32 (((s.dev.can c).obj m).words.getD 19 0) ∧
        t.dev = { s.dev with cans := t.dev.cans, readData := t.dev.readData } ∧
        t.dev.can c = (s.dev.can c).setObj m (fun x => x.afterRead (s.dev.pairLocker p) 19)) ∧
    (∀ (p c i o : Nat) (s : State), s.dev.hasCan c = true → i < 2 → o < 0x80 → ((s.dev.can c).fifoHead i).isSome = true →
      let a := 0x400A6000 + 0x10000 * c + 0x80 * i + o
      (∃ t, exec (.canLockRead p a) s = .next t ∧ DevOnly s t ∧ t.dev = { s.dev with cans := t.dev.cans, readData := t.dev.readData } ∧
        t.dev.can c = (s.dev.can c).fifoRead i (s.dev.pairLocker p) 0) ∧
      ∃ t, exec (.canData15Read p a) s = .next t ∧ DevOnly s t ∧ t.dev = { s.dev with cans := t.dev.cans, readData := t.dev.readData } ∧
        t.dev.can c = (s.dev.can c).fifoRead i (s.dev.pairLocker p) 19)

/-- Current samples, own results, the insulation cycle, the quiet timer and calibration. CURRENT_SAMPLE with no hold adds 50 us times the scaled sample, less the offset in force, to the 64-bit coulomb count, clamped at its limit, and advances device time by 50 us at least from the last sample. OWN_RESULTS_READY stores the 30 own values in the scan header; on a twin that takes the primary's data it keeps them apart and leaves the header. ISO_CYCLE_END stores both resistances, or marks the result bad with event 136. QUIET_TIMER_EXPIRY asks for the stretch only in RUN with EN set, not on a twin without authority. CAL_START of a task with no run in progress starts one for the channels asked for, or ends with CAL_PRECOND (state 3) when a precondition fails; CAL_SAMPLE adds a sample or ends the run with state 4; CAL_COMPUTE offers new offsets for the channels of the mask or ends the run with state 4; without a run the last two change nothing. No calibration command changes memory, a core or an output. -/
def Obligations.AcquisitionCommands : Prop :=
  (∀ (i : Int) (s : State), s.dev.acq.hold = 0 → ∃ t, exec (.currentSample i) s = .next t ∧ DevOnly s t ∧
      t.dev.acq.coul = clampI (-(coulMax * 65536)) (coulMax * 65536) (s.dev.acq.coul + 50 * s.dev.streamI i) ∧
      t.dev.acq.sampleT = max (s.dev.acq.sampleT + 50000) s.dev.time.now ∧ t.dev.k0 = s.dev.k0 ∧ t.dev.k1 = s.dev.k1) ∧
    (∀ (own : OwnIn) (s : State), ∃ t, exec (.ownResultsReady own) s = .next t ∧ PlantOnly s t ∧
      (s.dev.mirrors = false → t.dev.acq.next.hdr.own = (List.range 30).map (s.dev.ownVal own)) ∧
      (s.dev.mirrors = true → t.dev.acq.next.hdr = s.dev.acq.next.hdr ∧ t.dev.acq.mine = (List.range 30).map (s.dev.ownNum own))) ∧
    (∀ (a b : Nat) (s : State), ∃ t, exec (.isoCycleEnd (some (a, b))) s = .next t ∧ t.dev.acq.isoRes = some (a, b) ∧
      t.dev.acq.isoBad = false ∧ t.dev = { s.dev with acq := t.dev.acq } ∧ DevOnly s t) ∧
    (∀ s : State, ∃ t, exec (.isoCycleEnd none) s = .next t ∧ t.dev.acq.isoBad = true ∧ t.dev.eventPending 136 = true ∧ PlantOnly s t) ∧
    (∀ s : State, ∃ t, exec .quietTimerExpiry s = .next t ∧ t.dev = { s.dev with time := t.dev.time } ∧ DevOnly s t ∧
      (t.dev.time.stretchReq = true ↔ s.dev.time.stretchReq = true ∨
        (s.dev.isRun = true ∧ s.dev.rbit A.acqStretch 31 = true ∧ s.dev.runPeriod < 20000000 ∧ s.dev.time.stretched = false ∧ s.dev.follows = false))) ∧
    (∀ (mask q : Nat) (hv : Bool) (s : State),
      let m := s.dev.acq.calReq.getD (s.dev.fld A.acqCalctl 7 4)
      ∃ t, exec (.calStart .task mask q hv) s = .next t ∧ PlantOnly s t ∧ t.dev.acq.calReq = none ∧
        (s.dev.acq.cal.isSome = true → t.dev = { s.dev with acq := { s.dev.acq with calReq := none } }) ∧
        (s.dev.acq.cal = none → s.dev.calOk m q hv = true →
          t.dev.acq.cal = some { mask := m, samples := [], ready := false } ∧ t.dev.fld A.acqCalstat 2 0 = 1) ∧
        (s.dev.acq.cal = none → s.dev.calOk m q hv = false →
          t.dev.acq.cal = none ∧ t.dev.fld A.acqCalstat 2 0 = 3 ∧ t.dev.eventPending 131 = true)) ∧
    (∀ (v : List Int) (q : Nat) (hv : Bool) (s : State), ∃ t, exec (.calSample v q hv) s = .next t ∧ PlantOnly s t ∧
      (s.dev.acq.cal = none → t = s) ∧
      (∀ r, s.dev.acq.cal = some r → r.ready = false → s.dev.calOk r.mask q hv = true →
        ∃ r', t.dev.acq.cal = some r' ∧ r'.mask = r.mask ∧ r'.samples.length = r.samples.length + 1 ∧ t.dev.regs = s.dev.regs) ∧
      (∀ r, s.dev.acq.cal = some r → r.ready = false → s.dev.calOk r.mask q hv = false →
        t.dev.acq.cal = none ∧ t.dev.fld A.acqCalstat 2 0 = 4)) ∧
    (∀ s : State, ∃ t, exec .calCompute s = .next t ∧ PlantOnly s t ∧ (s.dev.acq.cal = none → t = s) ∧
      ∀ r, s.dev.acq.cal = some r →
        (t.dev.acq.cal = none ∧ t.dev.fld A.acqCalstat 2 0 = 4 ∧ t.dev.acq.newOffsets = s.dev.acq.newOffsets) ∨
        (t.dev.acq.cal = some { r with ready := true } ∧ ∃ l, t.dev.acq.newOffsets = some l ∧ l.length = 4 ∧
          ∀ j, j < 4 → r.mask.testBit j = false → l.getD j 0 = s.dev.acq.offsets.getD j 0))

/-- String head commands: what each does to the coils, what it answers, and a repeated SEQ. For every fitted port whose command frame reaches a string head at hop 1 intact, with a SEQ that the head did not execute last: NOP keeps the coils as time left them; NEGCLOSE closes the negative coil unless the head refuses closes (KAEXP set, or no keep-alive heard since an expiry); PRECLOSE also needs the negative contact closed, POSCLOSE the pre-charge contact too; a refusal answers DENIED (4) and keeps the coils; PREOPEN opens the pre-charge coil; HEAD_OPEN opens the positive and pre-charge coils and lets the negative one fall 20 ms later; OPENALL opens all three. The record holds the head block. A repeated SEQ only answers the stored record, marked as a replay. A hop 1 that is no head answers UNSUPPORTED (1). No module, register or other port changes. -/
def Obligations.HeadCommands : Prop :=
  ∀ (n q : Nat) (s : State), n < s.dev.rings →
    let g := (s.dev.port n).head.expire s.dev.time.now
    let shut := g.kaexp || (g.kaWait && !g.hears s.dev.time.now)
    ((s.dev.port n).headDeaf (s.dev.ringL n) = false → (s.dev.port n).head.lastSeq ≠ some q →
      (∃ t, exec (.headNop n q) s = .next t ∧ HopsOnly n 1 0 (t.dev.port n).head s t ∧ t.dev.regs = s.dev.regs ∧
        (t.dev.port n).head.lastSeq = some q ∧ (t.dev.port n).head.coilP = g.coilP ∧ (t.dev.port n).head.coilN = g.coilN ∧ (t.dev.port n).head.coilPre = g.coilPre ∧
        (t.dev.port n).record 1 = { res := if True then 0 else 4, hop := 1, data := (t.dev.port n).head.block s.dev.time.now }) ∧
      (∃ t, exec (.headNegClose n q) s = .next t ∧ HopsOnly n 1 0 (t.dev.port n).head s t ∧ t.dev.regs = s.dev.regs ∧
        (t.dev.port n).head.lastSeq = some q ∧ (t.dev.port n).head.coilN = (g.coilN || !shut) ∧ (t.dev.port n).head.coilP = g.coilP ∧ (t.dev.port n).head.coilPre = g.coilPre ∧
        (t.dev.port n).record 1 = { res := if shut = false then 0 else 4, hop := 1, data := (t.dev.port n).head.block s.dev.time.now }) ∧
      (∃ t, exec (.headPreClose n q) s = .next t ∧ HopsOnly n 1 0 (t.dev.port n).head s t ∧ t.dev.regs = s.dev.regs ∧
        (t.dev.port n).head.lastSeq = some q ∧ (t.dev.port n).head.coilPre = (g.coilPre || (!shut && g.conN)) ∧ (t.dev.port n).head.coilP = g.coilP ∧ (t.dev.port n).head.coilN = g.coilN ∧
        (t.dev.port n).record 1 = { res := if shut = false ∧ g.conN = true then 0 else 4, hop := 1, data := (t.dev.port n).head.block s.dev.time.now }) ∧
      (∃ t, exec (.headPosClose n q) s = .next t ∧ HopsOnly n 1 0 (t.dev.port n).head s t ∧ t.dev.regs = s.dev.regs ∧
        (t.dev.port n).head.lastSeq = some q ∧ (t.dev.port n).head.coilP = (g.coilP || (!shut && g.conN && g.conPre)) ∧ (t.dev.port n).head.coilN = g.coilN ∧ (t.dev.port n).head.coilPre = g.coilPre ∧
        (t.dev.port n).record 1 = { res := if shut = false ∧ g.conN = true ∧ g.conPre = true then 0 else 4, hop := 1, data := (t.dev.port n).head.block s.dev.time.now }) ∧
      (∃ t, exec (.headPreOpen n q) s = .next t ∧ HopsOnly n 1 0 (t.dev.port n).head s t ∧ t.dev.regs = s.dev.regs ∧
        (t.dev.port n).head.lastSeq = some q ∧ (t.dev.port n).head.coilPre = false ∧ (t.dev.port n).head.coilP = g.coilP ∧ (t.dev.port n).head.coilN = g.coilN ∧
        (t.dev.port n).record 1 = { res := if True then 0 else 4, hop := 1, data := (t.dev.port n).head.block s.dev.time.now }) ∧
      (∃ t, exec (.headOpen n q) s = .next t ∧ HopsOnly n 1 0 (t.dev.port n).head s t ∧ t.dev.regs = s.dev.regs ∧
        (t.dev.port n).head.lastSeq = some q ∧ (t.dev.port n).head.coilP = false ∧ (t.dev.port n).head.coilPre = false ∧ (t.dev.port n).head.coilN = g.coilN ∧ (t.dev.port n).head.negOff = (if g.coilN then some (s.dev.time.now + 20000000) else none) ∧
        (t.dev.port n).record 1 = { res := if True then 0 else 4, hop := 1, data := (t.dev.port n).head.block s.dev.time.now }) ∧
      (∃ t, exec (.headOpenAll n q) s = .next t ∧ HopsOnly n 1 0 (t.dev.port n).head s t ∧ t.dev.regs = s.dev.regs ∧
        (t.dev.port n).head.lastSeq = some q ∧ (t.dev.port n).head.coilP = false ∧ (t.dev.port n).head.coilN = false ∧ (t.dev.port n).head.coilPre = false ∧
        (t.dev.port n).record 1 = { res := if True then 0 else 4, hop := 1, data := (t.dev.port n).head.block s.dev.time.now })) ∧
    ((s.dev.port n).headDeaf (s.dev.ringL n) = false → (s.dev.port n).head.lastSeq = some q → ∀ i ∈ ([Instr.headNop, .headNegClose, .headPreClose, .headPosClose, .headPreOpen, .headOpen, .headOpenAll] : List (Nat → Nat → Instr)),
      ∃ t, exec (i n q) s = .next t ∧ HopsOnly n 1 0 g s t ∧ t.dev.regs = s.dev.regs ∧
        (t.dev.port n).record 1 = { g.stored with replay := true }) ∧
    (s.dev.executes n 1 = true → (s.dev.port n).isHead 1 = false → ∀ i ∈ ([Instr.headNop, .headNegClose, .headPreClose, .headPosClose, .headPreOpen, .headOpen, .headOpenAll] : List (Nat → Nat → Instr)),
      ∃ t, exec (i n q) s = .next t ∧ HopsOnly n 1 1 (s.dev.port n).head s t ∧ t.dev.regs = s.dev.regs ∧ (t.dev.port n).record 1 = { res := 1, hop := 1 })

/-- Module commands that read: what each answers; the modules keep their state, only their port changes. For every fitted port, hop range a..b and hop h of it that the frame reaches intact: RDRANGE answers RCD and RCU, RDREG the register words or its refusal, DIAGRD the page or BADARG (2) for a page that no rule names, BALTEST_READ the last completed test, with BADARG when the frame's entry is malformed, ECHO the error counts, HDSTAT the head block at a string head and UNSUPPORTED (1) elsewhere, BURSTRD the block as the module holds it from its first read on, BUSY (3) before the capture is complete, DENIED (4) without a frozen capture, BADARG for a block above 3, UNSUPPORTED from a v2 module. The module is as time left it. A hop that the frame reached with a wrong payload CRC answers BADCRC (5) and counts it; one that it did not reach, or with a wrong header CRC, does nothing. Hops outside a..b, registers, other ports, cores, outputs and memory are as before. -/
def Obligations.ModuleReads : Prop :=
  ∀ (n a b h : Nat) (s : State), n < s.dev.rings → a ≤ h → h ≤ b →
    let M := s.dev.modNow n h
    let g := (s.dev.port n).head.expire s.dev.time.now
    (s.dev.executes n h = true →
      (∃ t, exec (.rdrange n a b) s = .next t ∧ HopsOnly n a b (s.dev.port n).head s t ∧ t.dev.regs = s.dev.regs ∧ (t.dev.port n).mod h = M ∧
        (t.dev.port n).record h = { res := 0, hop := h, data := leBytes 2 M.rcd ++ leBytes 2 M.rcu }) ∧
      (∀ addr k, (∃ t, exec (.rdreg n a b addr k) s = .next t ∧ HopsOnly n a b (s.dev.port n).head s t ∧ t.dev.regs = s.dev.regs ∧ (t.dev.port n).mod h = M ∧
        (t.dev.port n).record h = { res := (M.rdreg (s.dev.katoAt n h) addr k).2.1, hop := h, data := (M.rdreg (s.dev.katoAt n h) addr k).2.2 })) ∧
      (∀ page data, (∃ t, exec (.diagrd n a b page data) s = .next t ∧ HopsOnly n a b (s.dev.port n).head s t ∧ t.dev.regs = s.dev.regs ∧ (t.dev.port n).mod h = M ∧
        (t.dev.port n).record h = (if page < 4 ∨ (0x80 ≤ page ∧ page < 0x100) then { res := 0, hop := h, data := M.page page (data.getD (h - a) []) } else { res := 2, hop := h }))) ∧
      (∃ t, exec (.baltestRead n a b) s = .next t ∧ HopsOnly n a b (s.dev.port n).head s t ∧ t.dev.regs = s.dev.regs ∧ (t.dev.port n).mod h = M ∧
        (t.dev.port n).record h = { res := (match (s.dev.port n).testEntry h with | none => 0 | some e => if badTest e then 2 else 0), hop := h, data := M.testData }) ∧
      (∃ t, exec (.echoMod n a b) s = .next t ∧ HopsOnly n a b (s.dev.port n).head s t ∧ t.dev.regs = s.dev.regs ∧ (t.dev.port n).mod h = M ∧
        (t.dev.port n).record h = { res := 0, hop := h, data := leBytes 2 M.errHdr ++ leBytes 2 M.errPay }) ∧
      (∀ blk smp, let X := M.readBurst s.dev.cnpy.tinsts blk (smp.getD (h - a) [])
        let ready := M.ver ≠ 2 ∧ blk ≤ 3 ∧ M.burst.map (·.2) = some 1 ∧ M.burstReady = true
        (∃ t, exec (.burstrd n a b blk smp) s = .next t ∧ HopsOnly n a b (s.dev.port n).head s t ∧ t.dev.regs = s.dev.regs ∧ (t.dev.port n).mod h = (if ready then X.1 else M) ∧ (t.dev.port n).record h = (if M.ver = 2 then { res := 1, hop := h } else if 3 < blk then { res := 2, hop := h } else if M.burst.map (·.2) ≠ some 1 then { res := 4, hop := h } else if M.burstReady = false then { res := 3, hop := h } else { res := 0, hop := h, data := X.2.2 }))) ∧
      (∃ t, exec (.hdstat n a b) s = .next t ∧ HopsOnly n a b g s t ∧ t.dev.regs = s.dev.regs ∧ (t.dev.port n).mod h = M ∧ (t.dev.port n).record h = (if (s.dev.port n).isHead h then { res := 0, hop := h, data := g.block s.dev.time.now } else { res := 1, hop := h }))) ∧
    (s.dev.executes n h = false → ∀ (addr k page blk : Nat) (data smp : List (List Nat)),
      ∀ i ∈ [Instr.rdrange n a b, .rdreg n a b addr k, .diagrd n a b page data, .baltestRead n a b, .echoMod n a b, .burstrd n a b blk smp, .hdstat n a b],
      ∃ t, exec i s = .next t ∧ PortOnly n s t ∧ t.dev.regs = s.dev.regs ∧
        (s.dev.getsFrame n h = false → (t.dev.port n).mod h = (s.dev.port n).mod h) ∧
        (s.dev.getsFrame n h = true → (t.dev.port n).mod h = { M with errPay := min (M.errPay + 1) 0xFFFF } ∧
          (t.dev.port n).record h = { res := 5, hop := h })) ∧
    (∀ (l m : List Nat) (k : Nat) (x y : List Nat) (z : Module), ((z.readBurst l k x).1.readBurst m k y).2.2 = (z.readBurst l k x).2.2 ∧
      (FMap.get (fun _ => []) z.capture k = [] → ((z.readBurst l k x).2.2).length = 500))

/-- Module commands that write: what the addressed module then holds, and that only its port changes. For every fitted port and hop from 1 to 64 that the frame reaches intact, M the module as time left it: RANGE stores the count of the frame's direction, and RING.LOOP takes its count when it came from the device's own end; SETVER selects version 2 or 3 if the module has it, else 2, and MODVER shows it; SETDLY stores the delays, v2 in 25 ns steps, and RING.DLY; SETTURN forces a turnaround or releases it, BUSY (3) for an automatic one without both receivers locked; CFGTAG, WRREG; BAL replaces the timers and answers the old ones in 10 s steps, BADARG (2) above 4095; BALTEST_START starts a test, or refuses a bad entry, or one while a test runs; ENUM stores the identity, and in single use the last module turns. Of the replay class, with no stored record for the tag (with one, the module stays and the record is repeated): CLRST clears masked bits 48 and 49 and at a head KAEXP; BURST ARM, FREEZE, DISARM, UNSUPPORTED (1) at v2. -/
def Obligations.ModuleWrites : Prop :=
  ∀ (n h : Nat) (s : State), n < s.dev.rings → 1 ≤ h → h ≤ 64 → s.dev.executes n h = true →
    let M := s.dev.modNow n h
    (∀ dirB c0 (l : List Nat), h ≤ l.length → ∃ t, exec (.rangeMod n dirB c0 l) s = .next t ∧ PortOnly n s t ∧
      (t.dev.port n).mod h = (if dirB then { M with rcu := M.count true (l.getD (h - 1) 0) } else { M with rcd := M.count false (l.getD (h - 1) 0) }) ∧
      (∀ k, l.length < k → (t.dev.port n).mod k = (s.dev.port n).mod k) ∧ RegsKept [A.ringLoop n] s.dev t.dev ∧
      (dirB = s.dev.atEndB → t.dev.fld (A.ringLoop n) 15 0 = c0 % 65536) ∧ (dirB ≠ s.dev.atEndB → t.dev.regs = s.dev.regs)) ∧
    (∀ v, (∃ t, exec (.setver n h [v]) s = .next t ∧ HopsOnly n h h (s.dev.port n).head s t ∧ RegsKept [A.ringModver0 n, A.ringModver1 n] s.dev t.dev ∧ (t.dev.port n).mod h = { M with ver := if (v = 2 ∨ v = 3) ∧ M.id.vermask.testBit v = true then v else 2 } ∧ ((t.dev.port n).record h).res = (if (v = 2 ∨ v = 3) ∧ M.id.vermask.testBit v = true then 0 else 2) ∧ (if h ≤ 32 then t.dev.rbit (A.ringModver0 n) (h - 1) else t.dev.rbit (A.ringModver1 n) (h - 33)) = decide (((t.dev.port n).mod h).ver = 3))) ∧
    (∀ a b, a < 65536 → b < 65536 → (∃ t, exec (.setdly n h [(a, b)]) s = .next t ∧ HopsOnly n h h (s.dev.port n).head s t ∧ RegsKept [A.ringDly n h] s.dev t.dev ∧ (t.dev.port n).mod h = { M with dlyd := if M.ver = 3 then a else a / 5 * 5, dlyu := if M.ver = 3 then b else b / 5 * 5 } ∧ t.dev.reg (A.ringDly n h) = BitVec.ofNat 32 (b * 65536 + a))) ∧
    (∃ t, exec (.setturnForceTa n h) s = .next t ∧ HopsOnly n h h (s.dev.port n).head s t ∧ RegsKept [] s.dev t.dev ∧ (t.dev.port n).mod h = { M with turn := 1 }) ∧
    (∃ t, exec (.setturnForceTb n h) s = .next t ∧ HopsOnly n h h (s.dev.port n).head s t ∧ RegsKept [] s.dev t.dev ∧ (t.dev.port n).mod h = { M with turn := 2 }) ∧
    (∀ locked, (∃ t, exec (.setturnRelease n h locked) s = .next t ∧ HopsOnly n h h (s.dev.port n).head s t ∧ RegsKept [] s.dev t.dev ∧ (if (M.autoTa || M.autoTb) && !locked then (t.dev.port n).mod h = M ∧ ((t.dev.port n).record h).res = 3 else (t.dev.port n).mod h = { M with turn := 0, autoTa := false, autoTb := false, selfTurn := false }))) ∧
    (∀ tag, (∃ t, exec (.cfgtag n h h tag) s = .next t ∧ HopsOnly n h h (s.dev.port n).head s t ∧ t.dev.regs = s.dev.regs ∧ (t.dev.port n).mod h = { M with tag := tag })) ∧
    (∀ addr w, (∃ t, exec (.wrreg n h h addr w) s = .next t ∧ HopsOnly n h h (s.dev.port n).head s t ∧ t.dev.regs = s.dev.regs ∧ (t.dev.port n).mod h = (M.wrreg (s.dev.katoAt n h) addr w).1 ∧ ((t.dev.port n).record h).res = (M.wrreg (s.dev.katoAt n h) addr w).2.1)) ∧
    (∀ mask, (M.stored true (s.dev.port n).flying = none →
        (∃ t, exec (.clrst n h h mask) s = .next t ∧ HopsOnly n h h (if mask.getLsbD 55 ∧ h = 1 then { (s.dev.port n).head.expire s.dev.time.now with kaexp := false } else (s.dev.port n).head) s t ∧ t.dev.regs = s.dev.regs ∧ ((t.dev.port n).mod h).status = M.status &&& ~~~(mask &&& 0x0003000000000000#64))) ∧
      (∀ r, M.stored true (s.dev.port n).flying = some r → ∃ t, exec (.clrst n h h mask) s = .next t ∧ PortOnly n s t ∧
        (t.dev.port n).mod h = (s.dev.port n).mod h ∧ (t.dev.port n).record h = { r with replay := true } ∧ (t.dev.port n).head = (s.dev.port n).head)) ∧
    (∀ e : List Nat, e.length = 16 →
      (e.all (fun x => decide (x ≤ 4095)) = true → (∃ t, exec (.balMod n h [e]) s = .next t ∧ HopsOnly n h h (s.dev.port n).head s t ∧ t.dev.regs = s.dev.regs ∧ ((t.dev.port n).mod h).timers = e.map (· * 10000000000) ∧ (∀ c, c < 16 → ((t.dev.port n).mod h).status.getLsbD (16 + c) = decide (0 < e.getD c 0)) ∧ ((t.dev.port n).record h).data = (padTo 16 0 M.timers).flatMap (fun x => leBytes 2 ((x + 9999999999) / 10000000000)))) ∧
      (e.any (fun x => decide (4095 < x)) = true → (∃ t, exec (.balMod n h [e]) s = .next t ∧ HopsOnly n h h (s.dev.port n).head s t ∧ t.dev.regs = s.dev.regs ∧ (t.dev.port n).mod h = M ∧ ((t.dev.port n).record h).res = 2))) ∧
    (∀ e sh, (∃ t, exec (.baltestStart n h [e] [sh]) s = .next t ∧ HopsOnly n h h (s.dev.port n).head s t ∧ t.dev.regs = s.dev.regs ∧ (badTest e = true → (t.dev.port n).mod h = M ∧ (t.dev.port n).record h = { res := 2, hop := h, data := M.testData }) ∧ (badTest e = false → e.bit 24 = false → (t.dev.port n).mod h = M ∧ ((t.dev.port n).record h).data = M.testData) ∧ (badTest e = false → e.bit 24 = true → M.test ≠ none → (t.dev.port n).mod h = M ∧ (t.dev.port n).record h = { res := 3, hop := h, data := M.testData }) ∧ (badTest e = false → e.bit 24 = true → M.test = none → ∃ r, (t.dev.port n).mod h = ({ M with test := some { start := s.dev.testStart (e.field 23 16), dwell := e.field 23 16, mask := e.field 15 0, res := r } } : Module).note s.dev.time.now ∧ ∀ c, c < 16 → r.getD c 0 = (if e.bit c then sh.getD c 0 else -32768)))) ∧
    (∀ c, c < 16 → M.ver ≠ 2 → M.stored true (s.dev.port n).flying = none →
      (∃ t, exec (.burstArm n h [c]) s = .next t ∧ HopsOnly n h h (s.dev.port n).head s t ∧ t.dev.regs = s.dev.regs ∧ ((t.dev.port n).mod h).burst = some (c, 0) ∧ ((t.dev.port n).mod h).burstReady = false) ∧
      (∃ t, exec (.burstDisarm n h h) s = .next t ∧ HopsOnly n h h (s.dev.port n).head s t ∧ t.dev.regs = s.dev.regs ∧ ((t.dev.port n).mod h).burst = none ∧ ((t.dev.port n).mod h).burstReady = false) ∧
      (M.burst = some (c, 0) → M.burstReady = false → (∃ t, exec (.burstFreeze n h [c]) s = .next t ∧ HopsOnly n h h (s.dev.port n).head s t ∧ t.dev.regs = s.dev.regs ∧ ((t.dev.port n).mod h).burst = some (c, 1) ∧ ((t.dev.port n).mod h).burstReady = false))) ∧
    (∀ c, M.ver = 2 → ∀ i ∈ [Instr.burstArm n h [c], .burstFreeze n h [c], .burstDisarm n h h],
      ∃ t, exec i s = .next t ∧ HopsOnly n h h (s.dev.port n).head s t ∧ (t.dev.port n).mod h = M ∧ (t.dev.port n).record h = { res := 1, hop := h }) ∧
    (∀ ids : List ModId, s.dev.atEndB = false → h ≤ ids.length → ∃ t, exec (.enumMod n ids) s = .next t ∧ t.pending = s.pending ∧
      ((t.dev.port n).mod h).ident = ids[h - 1]? ∧
      (s.dev.portEn n = false ∨ (s.dev.port n).discHop = [] → HopsOnly n 1 ids.length (s.dev.port n).head s t ∧ RegsKept [A.ringStat n] s.dev t.dev ∧
        (t.dev.port n).mod h = (if h = ids.length ∧ s.dev.rbit (A.ringCfg n) 30 = false ∧ M.turn = 0 ∧ M.autoTa = false
          then { M with ident := ids[h - 1]?, autoTa := true, selfTurn := true } else { M with ident := ids[h - 1]? })))

/-- Port lock, keep-alive, re-ranging, transactions and their frames' return or loss. For every fitted port: PORT_LOCK_GAIN sets RING.STAT.LOCK, PORT_LOCK_LOSS clears it; a discovery timeout ends in DOWN without lock. KEEP_LAUNCH of an armed head, when R30's test admits it, on a quiet port that launches sends the frame, and restarts the keep-alive when the header reaches hop 1 intact; without those it changes nothing, unless the partner's frame passes. RERANGE queues RANGE and RDRANGE where the device scans in RUN or BROKEN, else changes nothing. TRANSACTION_LAUNCH with nothing to launch, no right to launch, a frame out or too little time changes nothing; else, when no hop belongs to the other end, the next transaction is in flight with empty records, its frame leaves, and only a repeat counts in RING.RETRY. FRAME_RETURN with no frame out changes nothing; when it brings a task's transaction the records of all its hops, that ends OK, its codes are 0, and memory changes in its buffer alone. FRAME_LOST counts the loss with event 33 + 2n; a transaction with tries left waits for its retry; a lost scan or KEEP frame is not repeated. -/
def Obligations.RingLinkCommands : Prop :=
  ∀ (n : Nat) (s : State), n < s.dev.rings →
    (∃ t, exec (.portLockGain n) s = .next t ∧ PortOnly n s t ∧ t.dev.rbit (A.ringStat n) 12 = true) ∧
    (∃ t, exec (.portLockLoss n) s = .next t ∧ PortOnly n s t ∧ t.dev.rbit (A.ringStat n) 12 = false ∧ RegsKept [A.ringStat n] s.dev t.dev) ∧
    (s.dev.rbit (A.ringStat n) 12 = true → exec (.discoveryLockTimeout n) s = .next s) ∧
    (s.dev.rbit (A.ringStat n) 12 = false → ∃ t, exec (.discoveryLockTimeout n) s = .next t ∧ t.pending = s.pending ∧ t.dev.ringState n = 0) ∧
    (∀ (bad : List Nat) (cut : Option Nat),
      let e := s.dev.at ((s.dev.port n).lastKeep + 10000000)
      let r := min (s.dev.passes s.dev.atEndB n) (cut.getD 64)
      let heard := 1 ∈ (span 1 r).map (wireHop s.dev.atEndB (s.dev.ringL n)) ∧ 1 ∉ hdrBadHops s.dev.atEndB (s.dev.ringL n) r bad
      (s.dev.launches n = true → (s.dev.port n).head.armed = true → e.keepFits n = true → (s.dev.port n).quiet = true →
        ∃ t, exec (.keepLaunch n bad cut) s = .next t ∧ DevOnly s t ∧
        t.dev = { s.dev with time := e.time, ports := t.dev.ports } ∧ (∀ k, k ≠ n → t.dev.port k = s.dev.port k) ∧
        (t.dev.port n).lastKeep = t.dev.time.now ∧ (s.dev.port n).head.kato = (t.dev.port n).head.kato ∧
        (heard → (t.dev.port n).head.karem = (s.dev.port n).head.kato ∧ (t.dev.port n).head.kaT = t.dev.time.now) ∧
        (¬ heard → (t.dev.port n).head = (s.dev.port n).head)) ∧
      ((s.dev.port n).head.armed = false ∨ e.keepFits n = false ∨ (s.dev.launches n = true ∧ (s.dev.port n).quiet = false) ∨
        (s.dev.launches n = false ∧ s.dev.farScans n = false) → exec (.keepLaunch n bad cut) s = .next s)) ∧
    (s.dev.scans n = false ∨ s.dev.ringState n = 4 → exec (.rerange n) s = .next s) ∧
    (s.dev.scans n = true → s.dev.ringState n ≠ 4 → ∃ t, exec (.rerange n) s = .next t ∧ PortOnly n s t ∧ t.dev.regs = s.dev.regs ∧
      (∃ x ∈ (t.dev.port n).txns ++ (t.dev.port n).backlog, x.code = 2 ∧ x.holder = 0) ∧ (∃ x ∈ (t.dev.port n).txns ++ (t.dev.port n).backlog, x.code = 3 ∧ x.holder = 0)) ∧
    (∀ (hb pb : List Nat) (cut : Option Nat), (s.dev.nextTxn n = none → exec (.transactionLaunch n hb pb cut) s = .next s) ∧
      (∀ x, s.dev.nextTxn n = some x →
        (s.dev.mayLaunch n = false ∨ (s.dev.port n).quiet = false ∨ s.dev.fits n x = false → exec (.transactionLaunch n hb pb cut) s = .next s) ∧
        (s.dev.mayLaunch n = true → (s.dev.port n).quiet = true → s.dev.fits n x = true → s.dev.otherHops n x = [] →
          ∃ t, exec (.transactionLaunch n hb pb cut) s = .next t ∧ DevOnly s t ∧ t.dev.time = { s.dev.time with now := s.dev.launchTime n x } ∧
            (∀ k, k ≠ n → t.dev.port k = s.dev.port k) ∧ RegsKept [A.ringRetry n, A.ringOvf n] s.dev t.dev ∧
            (x.retries = 0 → t.dev.regs = s.dev.regs) ∧ (0 < x.retries → t.dev.reg (A.ringRetry n) = satInc (s.dev.reg (A.ringRetry n))) ∧
            (∃ y ∈ (t.dev.port n).txns, y.tag = x.tag ∧ y.st = 1) ∧ (t.dev.port n).records = [] ∧ (t.dev.port n).hdrBad = hdrBadHops s.dev.atEndB (s.dev.ringL n) (cut.getD 64) hb ∧
            (t.dev.port n).reach = cut.getD 64 ∧
            (t.dev.port n).frame = x.frame s.dev.atEndB (s.dev.ringL n)))) ∧
    (∀ r good echo, ((s.dev.port n).flying = none → exec (.frameReturn n r good echo) s = .next s) ∧
      (∃ t, exec (.frameReturn n r good echo) s = .next t ∧ t.pending = s.pending) ∧
      (∀ x, (s.dev.port n).flying = some x → x.holder ≠ 0 → x.origin = none → x.away = [] → x.recs = [] → s.dev.orphan x = false →
        4 ≤ x.recLen → x.first ≤ x.lo → x.lo ≤ x.hi → x.hi ≤ x.last →
        (∀ h, x.lo ≤ h → h ≤ x.hi → wireHop (s.dev.port n).frame.dirB (s.dev.ringL n) h ≤ r ∧ (s.dev.port n).arrived good h = true ∧
          retried x.code ((s.dev.port n).record h).res = false) →
        ∃ t, exec (.frameReturn n r good echo) s = .next t ∧ t.pending = s.pending ∧ BytesKept x.bufAddr (x.recLen * (x.last + 1 - x.first)) s t ∧
          (∃ y ∈ (t.dev.port n).txns, y.tag = x.tag ∧ y.st = 2 ∧ ∀ h, x.lo ≤ h → h ≤ x.hi → (h, 0) ∈ y.recs) ∧ (t.dev.port n).lostRun = 0 ∧
          t.dev.k0 = s.dev.k0 ∧ t.dev.k1 = s.dev.k1 ∧ t.dev.pubs = s.dev.pubs ∧ ∀ k, k ≠ n → t.dev.port k = s.dev.port k)) ∧
    ((s.dev.port n).flying = none → s.dev.scans n = false → ¬(s.dev.launches n = true ∧ (s.dev.port n).frame.type = 3) → exec (.frameLost n) s = .next s) ∧
    ((s.dev.port n).flying = none → (s.dev.scans n = true ∨ (s.dev.launches n = true ∧ (s.dev.port n).frame.type = 3)) → (s.dev.port n).lostRun < 7 → ∃ t, exec (.frameLost n) s = .next t ∧ PortOnly n s t ∧
      (t.dev.port n).lostRun = (s.dev.port n).lostRun + 1 ∧ t.dev.eventPending (33 + 2 * n) = true ∧
      t.dev.reg (A.ringLost n) = satInc (s.dev.reg (A.ringLost n)) ∧ RegsKept [A.ringLost n, A.ringOvf n] s.dev t.dev) ∧
    (∀ x, (s.dev.port n).flying = some x → (s.dev.port n).lastTry x = false → (s.dev.port n).lostRun < 7 →
      ∃ t, exec (.frameLost n) s = .next t ∧ DevOnly s t ∧ (∃ y ∈ (t.dev.port n).txns, y.tag = x.tag ∧ y.st = 0 ∧ y.retries = x.retries + 1) ∧
        (t.dev.port n).lostRun = (s.dev.port n).lostRun + 1 ∧ t.dev.eventPending (33 + 2 * n) = true ∧
        (∀ k, k ≠ n → t.dev.port k = s.dev.port k) ∧ RegsKept [A.ringLost n, A.ringOvf n] s.dev t.dev)

/-- Balancing plan and tests, configuration retries, challenges, keys and HDCFG. For every fitted port and hop from 1 to 64: a challenge run sends AUTHCH with a fresh challenge, unless Heartwood's tests fail, the hop was accepted without a key or the other twin challenges it; a configuration retry of a stale hop starts its sequence, of another nothing; a balance-switch test of an authentic hop starts with its first pass, of another nothing. Without a record for 1 h the hop's identity becomes FAILED (2), except NEW and accepted without a key. Where the frame arrives intact, AUTHCH counts in the module and answers DENIED (4) without a key, else the CMAC of the challenge; KEYSET with a right tag and a higher generation stores key and generation, else answers DENIED; HDCFG sets KATO from 20 to 200 ms, else answers BADARG (2). BALANCE_PLAN queues BAL for the modules of the next string in string order whose tag matches, and none when none does. Each touches only its port. -/
def Obligations.BalanceAndIdentity : Prop :=
  (∀ (n h : Nat) (s : State), n < s.dev.rings → 1 ≤ h → h ≤ 64 →
      (¬(s.dev.identity n h = 4 ∧ s.dev.hopKey n h = 0) → s.dev.hwdOk = true → s.dev.challenges n h = true →
        ∃ t, exec (.authChallengeRun n h) s = .next t ∧ PortOnly n s t ∧ t.dev.regs = s.dev.regs ∧
          (t.dev.port n).challengeOf h = challengeBytes s.dev.freeCnt ∧ (∃ x ∈ (t.dev.port n).txns ++ (t.dev.port n).backlog, x.code = 8 ∧ x.holder = 0)) ∧
      ((s.dev.identity n h = 4 ∧ s.dev.hopKey n h = 0) ∨ s.dev.hwdOk = false ∨ s.dev.challenges n h = false → s.dev.discovering n h = false →
        exec (.authChallengeRun n h) s = .next s) ∧
      (FMap.get (fun _ => false) (s.dev.port n).cfgStale h = true → ∃ t, exec (.cfgRetry n h) s = .next t ∧ PortOnly n s t ∧
        t.dev.regs = s.dev.regs ∧ (t.dev.port n).cfgAt h = 1 ∧ (∃ x ∈ (t.dev.port n).txns ++ (t.dev.port n).backlog, x.code = 10 ∧ x.holder = 0)) ∧
      (FMap.get (fun _ => false) (s.dev.port n).cfgStale h = false → exec (.cfgRetry n h) s = .next s) ∧
      (s.dev.authentic n h = true → ∃ t, exec (.balanceTestRun n h) s = .next t ∧ PortOnly n s t ∧ t.dev.regs = s.dev.regs ∧
        (t.dev.port n).test h = some {} ∧ (∃ x ∈ (t.dev.port n).txns ++ (t.dev.port n).backlog, x.code = 33 ∧ x.holder = 0)) ∧
      (s.dev.authentic n h = false → exec (.balanceTestRun n h) s = .next s) ∧
      (s.dev.identity n h ≠ 3 → ¬(s.dev.identity n h = 4 ∧ s.dev.hopKey n h = 0) → ∃ t, exec (.authRecordTimeout n h) s = .next t ∧ PortOnly n s t ∧
        t.dev.identity n h = 2 ∧ RegsKept [A.ringAuth0 n, A.ringAuth1 n] s.dev t.dev ∧ (s.dev.identity n h ≠ 2 → t.dev.eventPending 306 = true)) ∧
      (s.dev.identity n h = 3 ∨ (s.dev.identity n h = 4 ∧ s.dev.hopKey n h = 0) → exec (.authRecordTimeout n h) s = .next s) ∧
      (s.dev.executes n h = true → let M := s.dev.modNow n h
        (∃ t, exec (.authch n h) s = .next t ∧ HopsOnly n h h (s.dev.port n).head s t ∧ t.dev.regs = s.dev.regs ∧ (t.dev.port n).mod h = { M with nAuth := min (M.nAuth + 1) 0xFFFFFFFF } ∧ (t.dev.port n).record h = (if M.keygen = 0 then { res := 4, hop := h } else { res := 0, hop := h, data := M.respond M.key ((s.dev.port n).challengeOf h) })) ∧
        (∀ ok, (∃ t, exec (.keyset n h ok) s = .next t ∧ HopsOnly n h h (s.dev.port n).head s t ∧ t.dev.regs = s.dev.regs ∧ (if ok = true ∧ M.keygen < ((s.dev.port n).keyFor h).1 then (t.dev.port n).mod h = { M with key := ((s.dev.port n).keyFor h).2, keygen := ((s.dev.port n).keyFor h).1 } ∧ ((t.dev.port n).record h).res = 0 else (t.dev.port n).mod h = M ∧ ((t.dev.port n).record h).res = 4)))) ∧
      ((s.dev.port n).headDeaf (s.dev.ringL n) = false → ∀ k,
        (20 ≤ k → k ≤ 200 → (∃ t, exec (.hdcfg n k) s = .next t ∧ HopsOnly n 1 1 { (s.dev.port n).head.expire s.dev.time.now with kato := k } s t ∧ t.dev.regs = s.dev.regs ∧ ((t.dev.port n).record 1).res = 0)) ∧
        (k < 20 ∨ 200 < k → (∃ t, exec (.hdcfg n k) s = .next t ∧ HopsOnly n 1 1 (s.dev.port n).head s t ∧ t.dev.regs = s.dev.regs ∧ ((t.dev.port n).record 1).res = 2)))) ∧
    (∀ (n : Nat) (s : State), (s.dev.ringsOn.find? (fun n => decide (s.dev.cnpy.balNext ≤ n)) <|> s.dev.ringsOn.head?) = some n →
      ∃ t, exec .balancePlan s = .next t ∧ DevOnly s t ∧ t.dev.cnpy.balNext = n + 1 ∧
        ((∃ h ∈ s.dev.hopsOf n, s.dev.tagOk n h = true) → (∃ x ∈ (t.dev.port n).txns ++ (t.dev.port n).backlog, x.code = 32 ∧ x.holder = 0)) ∧ ((∀ h ∈ s.dev.hopsOf n, s.dev.tagOk n h = false) → t.dev.ports = s.dev.ports) ∧ (∀ k, k ≠ n → t.dev.port k = s.dev.port k) ∧
        RegsKept [] s.dev t.dev ∧ t.dev.k0 = s.dev.k0 ∧ t.dev.k1 = s.dev.k1 ∧ t.dev.prot = s.dev.prot)

/-- Load switch channels: current limit, over-temperature, open load, clamp, free-wheel and selects. For every fitted channel in use on this device: a current limit that lasts TBLANK turns an on channel off, sets OC and counts a retry; the end of the pause ends it; 1 s of conduction clears RCNT and OC; the 300 ms sum sets RETRYLATCH and turns it off; over-temperature sets OT and turns it off; a restart clears OT unless OTM latches it; OL follows an on channel's open load; a clamp pulse without FWD takes the pulse's budget and lock; a missing free-wheel path with FWD sets CLAMPLOCK and FWFAIL and turns it off; the selects of members without demand open; the select of a waiting member closes when the other is open and not waiting, and WAIT stays until the high side is on, 100 us later. Only that channel and events change. A channel not fitted is a fault, and one not in use on this device changes nothing. -/
def Obligations.LoadSwitchCommands : Prop :=
  (∀ (n : Nat) (s : State), s.dev.hasLsw n = true → s.dev.switches n = true →
    (∃ t, exec (.currentLimitExpiry n) s = .next t ∧ ChanOnly n s t ∧ ((s.dev.chan n).on = true →
      (t.dev.chan n).on = false ∧ (t.dev.chan n).oc = true ∧ (t.dev.chan n).rcnt = min ((s.dev.chan n).rcnt + 1) 15)) ∧
    (∃ t, exec (.retryPauseEnd n) s = .next t ∧ ChanOnly n s t ∧ (t.dev.chan n).pause = false) ∧
    (∃ t, exec (.conductionClear n) s = .next t ∧ ChanOnly n s t ∧ ((s.dev.chan n).on = true → (t.dev.chan n).rcnt = 0 ∧ (t.dev.chan n).oc = false)) ∧
    (∃ t, exec (.currentLimitSumReached n) s = .next t ∧ ChanOnly n s t ∧ (t.dev.chan n).retry = true ∧ (t.dev.chan n).on = false) ∧
    (∃ t, exec (.powerStageOvertemp n) s = .next t ∧ ChanOnly n s t ∧ (t.dev.chan n).ot = true ∧ (t.dev.chan n).on = false) ∧
    (∃ t, exec (.powerStageRestart n) s = .next t ∧ ChanOnly n s t ∧ (t.dev.chan n).otHot = false ∧
      (t.dev.chan n).ot = ((s.dev.chan n).ot && s.dev.rbit (A.lswCfg n) 26)) ∧
    (∀ b, ∃ t, exec (.openLoadChange n b) s = .next t ∧ ChanOnly n s t ∧ (t.dev.chan n).ol = (if (s.dev.chan n).on then b else (s.dev.chan n).ol)) ∧
    (∀ e u, ∃ t, exec (.clampPulse n e u) s = .next t ∧ ChanOnly n s t ∧
      (s.dev.rbit (A.lswCfg n) 27 = true → t.dev.chan n = s.dev.chan n) ∧
      (s.dev.rbit (A.lswCfg n) 27 = false → (t.dev.chan n).b = (Lsw.pulse e u (s.dev.chan n)).b ∧
        (t.dev.chan n).clamp = (Lsw.pulse e u (s.dev.chan n)).clamp ∧ ((t.dev.chan n).clamp = true → (t.dev.chan n).on = false))) ∧
    (∃ t, exec (.freewheelCheck n) s = .next t ∧ ChanOnly n s t ∧
      (s.dev.rbit (A.lswCfg n) 27 = true → (t.dev.chan n).clamp = true ∧ (t.dev.chan n).fwfail = true ∧ (t.dev.chan n).on = false) ∧
      (s.dev.rbit (A.lswCfg n) 27 = false → t = s)) ∧
    (∃ t, exec (.selectOpen n) s = .next t ∧ ChanOnly n s t ∧ (s.dev.lswDemand n = ((s.dev.chan n).demA, (s.dev.chan n).demB) →
      ((s.dev.chan n).demA = false → (t.dev.chan n).selA = false) ∧ ((s.dev.chan n).demB = false → (t.dev.chan n).selB = false))) ∧
    (∃ t, exec (.selectClose n) s = .next t ∧ ChanOnly n s t ∧ (s.dev.lswDemand n = (true, false) → (s.dev.chan n).waitA = true →
      (s.dev.chan n).selB = false → (s.dev.chan n).waitB = false → (t.dev.chan n).selA = true ∧
        ((s.dev.chan n).on = false → (t.dev.chan n).waitA = true ∧ ((t.dev.chan n).on = true → (t.dev.chan n).turnOnAt = s.dev.time.now + 100000))) ∧
      (s.dev.lswDemand n = (false, true) → (s.dev.chan n).waitB = true → s.dev.rbit (A.lswCfg n) 30 = true →
        (s.dev.chan n).selA = false → (s.dev.chan n).waitA = false → (t.dev.chan n).selB = true ∧
        ((s.dev.chan n).on = false → (t.dev.chan n).waitB = true ∧ ((t.dev.chan n).on = true → (t.dev.chan n).turnOnAt = s.dev.time.now + 100000))))) ∧
    (∀ (n : Nat) (i : Instr) (s : State), i ∈ [Instr.currentLimitExpiry n, .retryPauseEnd n, .conductionClear n, .currentLimitSumReached n, .powerStageOvertemp n,
        .powerStageRestart n, .openLoadChange n true, .openLoadChange n false, .freewheelCheck n, .selectOpen n, .selectClose n] ∨ (∃ e u, i = .clampPulse n e u) →
      (s.dev.hasLsw n = false → exec i s = .fault .noSuchUnit) ∧
      (s.dev.hasLsw n = true → s.dev.switches n = false → exec i s = .next s))

/-- Limp-home: map load, watchdog, inputs and the enable line. LH_MAP_LOAD marks the map as loaded; LH_WATCHDOG_EXPIRY declares the device dead; outside STORAGE LH_EN_LOW activates limp-home, and LH_EN_RETURN lets the line go and, while the device is alive, ends every channel's wait under the map; an LH_IN bit changes at its third equal sample, else stays; LH_IN_SAMPLE, LH_EN_LOW and LH_EN_RETURN in STORAGE change nothing. None of them changes memory, a core, a ring port or a published output. -/
def Obligations.LimpHome : Prop :=
  (∀ s : State, ∃ t, exec .lhMapLoad s = .next t ∧ t.dev.lh.loaded = true ∧ PlantOnly s t) ∧
    (∀ s : State, ∃ t, exec .lhWatchdogExpiry s = .next t ∧ t.dev.lh.wdog = true ∧ t.dev.lhDead = true ∧ PlantOnly s t) ∧
    (∀ (v : Nat) (s : State), (∃ t, exec (.lhInSample v) s = .next t ∧ PlantOnly s t ∧
        (s.dev.pstate ≠ 1 → ∀ i, i < 8 → t.dev.lh.ins.testBit i =
          (if v.testBit i ≠ s.dev.lh.ins.testBit i ∧ 2 ≤ FMap.get (fun _ => 0) s.dev.lh.insCand i then v.testBit i else s.dev.lh.ins.testBit i))) ∧
      (s.dev.pstate = 1 → exec (.lhInSample v) s = .next s ∧ exec .lhEnLow s = .next s)) ∧
    (∀ s : State, s.dev.pstate ≠ 1 → ∃ t, exec .lhEnLow s = .next t ∧ t.dev.lh.enLow = true ∧ t.dev.lhActive = true ∧ PlantOnly s t) ∧
    (∀ s : State, s.dev.pstate = 1 → exec .lhEnReturn s = .next s) ∧
    (∀ s : State, s.dev.pstate ≠ 1 → ∃ t, exec .lhEnReturn s = .next t ∧ t.dev.lh.enLow = false ∧
      (s.dev.lhDead = false → t.dev.lh.waiting = []) ∧ PlantOnly s t)

/-- A close that fails drives the gates low, turns both holds off and reports its result. While a CLOSE or PRELINK runs that answers one request: TLINK_EXPIRY in step 1 ends it with LINKHIGH (12), RAMP_TIMEOUT while the ramp runs or waits for its match with TIMEOUT (15), THOLD_EXPIRY of a PRELINK hold with TIMEOUT (15), and a falling PC_FLT_N with GATEFLT (14): both hold outputs are off, the gates are low, no block sequence runs, CTL.SEQRES holds code, tag, source and result, and event 224 is pending. With no close running the three timers change nothing, and PC_FLT_N high again changes only its own input. -/
def Obligations.FailedClose : Prop :=
  (∀ s : State, s.dev.closing = true → s.dev.ctl.blk.alsoTag = [] →
      (s.dev.ctl.blk.step = 1 → ∃ t, exec .tlinkExpiry s = .next t ∧ t.dev.rbit A.ctlStat 26 = false ∧ t.dev.rbit A.ctlStat 25 = false ∧ t.dev.ctl.gateLow = true ∧ t.dev.ctl.blk.code = 0 ∧ t.dev.reg A.ctlSeqres = resWord s.dev.ctl.blk.code s.dev.ctl.blk.tag s.dev.ctl.blk.src 12 ∧ t.dev.eventPending 224 = true ∧ PlantOnly s t) ∧
      (s.dev.ctl.blk.step = 3 ∨ s.dev.ctl.blk.step = 4 → s.dev.ctl.blk.hold = false → ∃ t, exec .rampTimeout s = .next t ∧ t.dev.rbit A.ctlStat 26 = false ∧ t.dev.rbit A.ctlStat 25 = false ∧ t.dev.ctl.gateLow = true ∧ t.dev.ctl.blk.code = 0 ∧ t.dev.reg A.ctlSeqres = resWord s.dev.ctl.blk.code s.dev.ctl.blk.tag s.dev.ctl.blk.src 15 ∧ t.dev.eventPending 224 = true ∧ PlantOnly s t) ∧
      (s.dev.ctl.blk.hold = true → ∃ t, exec .tholdExpiry s = .next t ∧ t.dev.rbit A.ctlStat 26 = false ∧ t.dev.rbit A.ctlStat 25 = false ∧ t.dev.ctl.gateLow = true ∧ t.dev.ctl.blk.code = 0 ∧ t.dev.reg A.ctlSeqres = resWord s.dev.ctl.blk.code s.dev.ctl.blk.tag s.dev.ctl.blk.src 15 ∧ t.dev.eventPending 224 = true ∧ PlantOnly s t) ∧
      (∃ t, exec (.gateFault true) s = .next t ∧ t.dev.ctl.fltN = false ∧ t.dev.rbit A.ctlStat 26 = false ∧ t.dev.rbit A.ctlStat 25 = false ∧ t.dev.ctl.gateLow = true ∧ t.dev.ctl.blk.code = 0 ∧ t.dev.reg A.ctlSeqres = resWord s.dev.ctl.blk.code s.dev.ctl.blk.tag s.dev.ctl.blk.src 14 ∧ t.dev.eventPending 224 = true ∧ PlantOnly s t)) ∧
    (∀ s : State, s.dev.closing = false → exec .tlinkExpiry s = .next s ∧ exec .rampTimeout s = .next s ∧ exec .tholdExpiry s = .next s ∧
      exec .linkMatch s = .next s) ∧
    (∀ s : State, exec (.gateFault false) s = .next { s with dev := { s.dev with ctl := { s.dev.ctl with fltN := true } } }) ∧
    (∀ s : State, s.dev.closing = true → s.dev.ctl.blk.step = 3 ∨ s.dev.ctl.blk.step = 4 → s.dev.ctl.blk.hold = false →
      s.dev.ctl.blk.pre = false → ∃ t, exec .linkMatch s = .next t ∧ t.dev.ctl.agrPos = true ∧
        (s.dev.isTwin = false ∨ s.dev.twinState ≠ 2 → t.dev.rbit A.ctlStat 26 = true) ∧ DevOnly s t) ∧
    (∀ s : State, s.dev.closing = true → s.dev.ctl.blk.step = 3 ∨ s.dev.ctl.blk.step = 4 → s.dev.ctl.blk.hold = false →
      s.dev.ctl.blk.pre = true → ∃ t, exec .linkMatch s = .next t ∧ t.dev.ctl.blk.hold = true ∧
        t.dev.rbit A.ctlStat 26 = s.dev.rbit A.ctlStat 26 ∧ DevOnly s t)

/-- Block sequence requests of tasks: taken, refused, or without action. NONE starts nothing and has the result OK in CTL.SEQRES, or in CTL.SRES of a string in the topology. OPEN from rest starts the current wait; OPENNOW from rest or during a close turns both holds off at once; an open code during another open is refused with BUSY (1). SHUTDOWN starts the orderly shutdown and sets CTL.STAT.SHUT, and during one is refused with BUSY. OPEN, OPENNOW and SHUTDOWN with an ARG, and CLOSE and PRELINK with one that is neither 0 nor 10 to 6,000, are refused with BADCODE (8); a refusal raises event 225. A CLOSE or PRELINK that nothing refuses starts its sequence. Memory and the queue are as before. -/
def Obligations.BlockSequences : Prop :=
  ∀ (tag : Nat) (s : State), tag < 256 →
    exec (.seqNone 0 tag .task) s = .next { s with dev := s.dev.setReg A.ctlSeqres (resWord 0 tag 0 0) } ∧
    (∀ n, exec (.seqNone (n + 1) tag .task) s = .next (if s.dev.portEn n then { s with dev := s.dev.setReg (A.ctlSres n) (resWord 0 tag 0 0) } else s)) ∧
    (s.dev.ctl.blk.code = 0 → ∃ t, exec (.seqOpen 0 tag .task) s = .next t ∧ t.dev.ctl.blk.code = 3 ∧ t.dev.ctl.blk.tag = tag ∧
      t.dev.ctl.blk.step = 1 ∧ t.dev.ctl.blk.waiting = true ∧ DevOnly s t) ∧
    (s.dev.ctl.blk.code = 0 ∨ s.dev.closing = true → ∃ t, exec (.seqOpenNow 0 tag .task) s = .next t ∧
      t.dev.rbit A.ctlStat 26 = false ∧ t.dev.rbit A.ctlStat 25 = false ∧ DevOnly s t) ∧
    (s.dev.ctl.blk.code ≠ 0 → s.dev.closing = false →
      (∃ t, exec (.seqOpen 0 tag .task) s = .next t ∧ t.dev.reg A.ctlSeqres = resWord 3 tag 0 1 ∧ EventsOnly (s.dev.setReg A.ctlSeqres (resWord 3 tag 0 1)) t.dev) ∧
      (∃ t, exec (.seqOpenNow 0 tag .task) s = .next t ∧ t.dev.reg A.ctlSeqres = resWord 4 tag 0 1 ∧ t.dev.eventPending 225 = true)) ∧
    (s.dev.shutting = false → ∃ t, exec (.seqShutdown 0 tag .task) s = .next t ∧ t.dev.ctl.blk.code = 5 ∧ t.dev.ctl.blk.step = 2 ∧
      t.dev.rbit A.ctlStat 27 = true ∧ DevOnly s t) ∧
    (s.dev.shutting = true → ∃ t, exec (.seqShutdown 0 tag .task) s = .next t ∧ t.dev.reg A.ctlSeqres = resWord 5 tag 0 1 ∧ DevOnly s t) ∧
    (∀ arg, 0 < arg → arg < 65536 →
      (∃ t, exec (.seqOpen arg tag .task) s = .next t ∧ t.dev.reg A.ctlSeqres = resWord 3 tag 0 8 ∧ t.dev.eventPending 225 = true) ∧
      (∃ t, exec (.seqOpenNow arg tag .task) s = .next t ∧ t.dev.reg A.ctlSeqres = resWord 4 tag 0 8 ∧ t.dev.eventPending 225 = true) ∧
      (∃ t, exec (.seqShutdown arg tag .task) s = .next t ∧ t.dev.reg A.ctlSeqres = resWord 5 tag 0 8 ∧ t.dev.eventPending 225 = true) ∧
      (arg < 10 ∨ 6000 < arg →
        (∃ t, exec (.seqClose arg tag .task) s = .next t ∧ t.dev.reg A.ctlSeqres = resWord 1 tag 0 8 ∧ t.dev.eventPending 225 = true) ∧
        (∃ t, exec (.seqPrelink arg tag .task) s = .next t ∧ t.dev.reg A.ctlSeqres = resWord 2 tag 0 8 ∧ t.dev.eventPending 225 = true))) ∧
    (s.dev.pstate ≠ 2 → s.dev.ctl.blk.code = 0 → s.dev.refuseBlock = none →
      (∃ t, exec (.seqClose 0 tag .task) s = .next t ∧ t.dev.ctl.blk.code = 1 ∧ t.dev.ctl.blk.tag = tag ∧ t.dev.ctl.blk.pre = false ∧ DevOnly s t) ∧
      (∃ t, exec (.seqPrelink 0 tag .task) s = .next t ∧ t.dev.ctl.blk.code = 2 ∧ t.dev.ctl.blk.tag = tag ∧ t.dev.ctl.blk.pre = true ∧ DevOnly s t))

/-- String sequence requests of tasks: CONNECT, DISCONNECT and DISCONNOW. For every string n: a CONNECT that nothing refuses, outside WATCH, starts the sequence at step 2 with NEGCLOSE queued for the head; while a sequence of the string runs it is refused with BUSY (1); with an ARG any of the three is refused with BADCODE (8); a result stands in CTL.SRES where the string is in the topology. DISCONNECT starts with the current wait, DISCONNOW with OPEN to the head, and either is refused with BUSY while one of them runs. CURRENT_WAIT_END of a waiting DISCONNECT goes to the open step. Memory, the queue and the other strings' sequences are as before. -/
def Obligations.StringSequences : Prop :=
  ∀ (n tag : Nat) (s : State), n < 48 → tag < 256 →
    (s.dev.pstate ≠ 2 → (s.dev.strSeq n).code = 0 → s.dev.refuseStr n = none →
      ∃ t, exec (.strConnect n 0 tag .task) s = .next t ∧ (t.dev.strSeq n).code = 1 ∧ (t.dev.strSeq n).step = 2 ∧ (t.dev.strSeq n).tag = tag ∧
        (t.dev.port n).headSeq = ((s.dev.port n).headSeq + 1) % 256 ∧ (∀ k, k ≠ n → t.dev.strSeq k = s.dev.strSeq k) ∧ DevOnly s t) ∧
    (s.dev.pstate ≠ 2 → (s.dev.strSeq n).code ≠ 0 →
      ∃ t, exec (.strConnect n 0 tag .task) s = .next t ∧ (s.dev.portEn n = true → t.dev.reg (A.ctlSres n) = resWord 1 tag 0 1) ∧ t.dev.eventPending 225 = true ∧ DevOnly s t) ∧
    ((s.dev.strSeq n).code = 0 ∨ (s.dev.strSeq n).code = 1 →
      (∃ t, exec (.strDisconnect n 0 tag .task) s = .next t ∧ (t.dev.strSeq n).code = 2 ∧ (t.dev.strSeq n).step = 2 ∧ (t.dev.str n).discon = true ∧
        (∀ k, k ≠ n → t.dev.strSeq k = s.dev.strSeq k) ∧ DevOnly s t) ∧
      (∃ t, exec (.strDisconnow n 0 tag .task) s = .next t ∧ (t.dev.strSeq n).code = 3 ∧ (t.dev.strSeq n).step = 3 ∧ (t.dev.str n).discon = true ∧
        (t.dev.port n).headSeq = ((s.dev.port n).headSeq + 1) % 256 ∧ DevOnly s t)) ∧
    ((s.dev.strSeq n).code = 2 ∨ (s.dev.strSeq n).code = 3 →
      (∃ t, exec (.strDisconnect n 0 tag .task) s = .next t ∧ (s.dev.portEn n = true → t.dev.reg (A.ctlSres n) = resWord 2 tag 0 1) ∧ DevOnly s t) ∧
      (∃ t, exec (.strDisconnow n 0 tag .task) s = .next t ∧ (s.dev.portEn n = true → t.dev.reg (A.ctlSres n) = resWord 3 tag 0 1) ∧ DevOnly s t)) ∧
    (∀ arg, 0 < arg → arg < 65536 →
      (∃ t, exec (.strConnect n arg tag .task) s = .next t ∧ (s.dev.portEn n = true → t.dev.reg (A.ctlSres n) = resWord 1 tag 0 8) ∧ DevOnly s t) ∧
      (∃ t, exec (.strDisconnect n arg tag .task) s = .next t ∧ (s.dev.portEn n = true → t.dev.reg (A.ctlSres n) = resWord 2 tag 0 8) ∧ DevOnly s t) ∧
      (∃ t, exec (.strDisconnow n arg tag .task) s = .next t ∧ (s.dev.portEn n = true → t.dev.reg (A.ctlSres n) = resWord 3 tag 0 8) ∧ DevOnly s t)) ∧
    ((s.dev.strSeq n).code = 2 → (s.dev.strSeq n).step = 2 →
      ∃ t, exec (.currentWaitEnd (n + 1)) s = .next t ∧ (t.dev.strSeq n).step = 3 ∧ DevOnly s t)

/-- Contactor feedback, holds, waits and control loops. HOLD_ECONOMY only marks a hold that is on as in economy drive. A feedback change is recorded in CTL.STAT. At a feedback time-out a hold that is on with its contact open raises event 226, and sets FBERR unless the time-out ends a close and turns the hold off, a contact closed with its hold off sets WELD and event 227, and agreement changes nothing. A hold in current limit is turned off. TVSD_EXPIRY without TVSD running changes nothing and otherwise runs a shutdown. The end of the current wait starts step 2 of an OPEN and step 3 of a shutdown. A string's pre-charge timer in step 3 of CONNECT, its pre-charge contact closed, goes on to step 5 or fails; else it changes nothing. There are 16 control loops: another number is a fault. One that is off or not enabled changes nothing, and one of a twin without authority only the ramp reference; one without a fresh sample counts a miss, and one in mode run that the sequencer does not own drives the output of its law. -/
def Obligations.ContactorInputs : Prop :=
  ∀ (k : Contactor) (s : State),
    exec (.holdEconomy .pos) s = .next { s with dev := { s.dev with ctl := { s.dev.ctl with posEco := s.dev.ctl.posEco || s.dev.rbit A.ctlStat 26 } } } ∧
    exec (.holdEconomy .neg) s = .next { s with dev := { s.dev with ctl := { s.dev.ctl with negEco := s.dev.ctl.negEco || s.dev.rbit A.ctlStat 25 } } } ∧
    (∀ b, ∃ t, exec (.feedbackChange k b) s = .next t ∧ t.dev.rbit A.ctlStat (fbBit k) = b ∧ DevOnly s t) ∧
    (s.dev.rbit A.ctlStat (holdBit k) = true → s.dev.rbit A.ctlStat (fbBit k) = false →
      ∃ t, exec (.feedbackTimeout k) s = .next t ∧ (t.dev.rbit A.ctlStat (holdBit k) = true → t.dev.rbit A.ctlStat 28 = true) ∧ t.dev.eventPending 226 = true ∧ DevOnly s t) ∧
    (s.dev.rbit A.ctlStat (holdBit k) = false → s.dev.rbit A.ctlStat (fbBit k) = true →
      ∃ t, exec (.feedbackTimeout k) s = .next t ∧ t.dev.rbit A.ctlStat 29 = true ∧ t.dev.eventPending 227 = true ∧ DevOnly s t) ∧
    (s.dev.rbit A.ctlStat (holdBit k) = s.dev.rbit A.ctlStat (fbBit k) → exec (.feedbackTimeout k) s = .next s) ∧
    (s.dev.rbit A.ctlStat (holdBit k) = true → ∃ t, exec (.holdCurrentLimit k) s = .next t ∧ t.dev.rbit A.ctlStat (holdBit k) = false ∧ DevOnly s t) ∧
    (s.dev.rbit A.ctlStat (holdBit k) = false → exec (.holdCurrentLimit k) s = .next s) ∧
    (s.dev.rbit A.pwrStat 21 = false → exec .tvsdExpiry s = .next s) ∧
    (s.dev.rbit A.pwrStat 21 = true → ∃ t, exec .tvsdExpiry s = .next t ∧ t.dev.shutting = true ∧ t.dev.rbit A.pwrStat 21 = false ∧ DevOnly s t) ∧
    (s.dev.ctl.blk.code ≠ 3 → s.dev.ctl.blk.code ≠ 5 → exec (.currentWaitEnd 0) s = .next s) ∧
    (s.dev.ctl.blk.code = 3 → s.dev.ctl.blk.step = 1 → ∃ t, exec (.currentWaitEnd 0) s = .next t ∧ t.dev.rbit A.ctlStat 26 = false ∧ t.dev.ctl.agrPos = false ∧ DevOnly s t) ∧
    (s.dev.ctl.blk.code = 5 → s.dev.ctl.blk.step = 2 → ∃ t, exec (.currentWaitEnd 0) s = .next t ∧ t.dev.rbit A.ctlStat 26 = false ∧ t.dev.ctl.agrPos = false ∧ DevOnly s t) ∧
    (∀ n, (s.dev.strSeq n).code ≠ 1 ∨ (s.dev.strSeq n).step ≠ 3 ∨ (s.dev.port n).head.conPre = false → exec (.tspreExpiry n) s = .next s) ∧
    (∀ n, (s.dev.strSeq n).code = 1 → (s.dev.strSeq n).step = 3 → (s.dev.port n).head.conPre = true →
      ∃ t, exec (.tspreExpiry n) s = .next t ∧ DevOnly s t ∧ ((t.dev.strSeq n).code = 0 ∨ (t.dev.strSeq n).step = 5)) ∧
    (∀ n y, 16 ≤ n → exec (.controlLoopEval n y) s = .fault .noSuchUnit) ∧
    (∀ n y, n < 16 →
      ((s.dev.loopCfg n).en = false ∨ (s.dev.loop n).mode = 0 → exec (.controlLoopEval n y) s = .next s) ∧
      (s.dev.authority = false → s.dev.seqLoop n = false ∨ n ≠ 14 → exec (.controlLoopEval n y) s = .next s) ∧
      (s.dev.authority = false → ∃ t, exec (.controlLoopEval n y) s = .next t ∧
        t.dev = { s.dev with regs := t.dev.regs, ctl := { s.dev.ctl with blk := { s.dev.ctl.blk with r := t.dev.ctl.blk.r } } } ∧ (∀ a, a ≠ A.ctlStat → t.dev.reg a = s.dev.reg a) ∧ DevOnly s t) ∧
      ((s.dev.loopCfg n).en = true → s.dev.authority = true → (s.dev.loop n).mode ≠ 0 →
        (∃ t, exec (.controlLoopEval n y) s = .next t ∧ DevOnly s t) ∧
        (∀ v, y = some v → (s.dev.loopCfg n).src ≠ 9 → (s.dev.loop n).mode = 1 → s.dev.seqLoop n = false → (s.dev.loopCfg n).feact ≠ 2 →
          ∃ t, exec (.controlLoopEval n y) s = .next t ∧ DevOnly s t ∧
            t.dev.reg (A.ctlLout n) = Word.ofInt ((s.dev.loop n).law (s.dev.loopCfg n) (s.dev.loop n).sp (s.dev.loop n).ff v).2) ∧
        ((s.dev.loopCfg n).src ≠ 9 → ∃ t, exec (.controlLoopEval n none) s = .next t ∧ t.dev.rbit (A.ctlLstat n) 31 = true ∧
          t.dev.reg (A.ctlLmiss n) = satInc (s.dev.reg (A.ctlLmiss n)) ∧ (t.dev.loop n).missed = true ∧ PlantOnly s t)))

/-- Scan job, task jobs, health, snapshot, impedance and the timers of reported state. SCAN_JOB_END without a scan job changes nothing; a single-use device confirms the page written, a twin keeps it written for the comparison. An overrun drops the job with event 200. EST_JOB_START takes a waiting job only when none runs. EST_JOB_END writes the job's header and output at its output address and no other byte. EST_JOB_START also waits when the job would still run at the next scan job; the pair it came from gives way to the other. HEALTH_JOB starts new charge intervals of the strings in service and changes no cell's SoC; SNAPSHOT_REFRESH writes the next string's entry; a failed write leaves one that fails its check, with events 199 and 365. Arming, its timeout, FIT and its end act on their string alone when their condition holds and otherwise change nothing; a ring that is not fitted is a fault. The timers of SOCM, of the reserve release and of the PCS requests end what they time. -/
def Obligations.EstimationJobs : Prop :=
  ∀ s : State,
    (s.dev.cnpy.job = none → exec .scanJobEnd s = .next s) ∧
    (s.dev.cnpy.job ≠ none → s.dev.agreed = false → s.dev.cnpy.conf < 2 → ∃ t, exec .scanJobEnd s = .next t ∧ t.dev.cnpy.conf = 1 - s.dev.cnpy.conf ∧ t.dev.reg A.cnpyConf = BitVec.ofNat 32 s.dev.view0.hdr.scan ∧
      t.dev.cnpy.page t.dev.cnpy.conf = (s.dev.jobCells s.dev.view0).page ∧ DevOnly s t) ∧
    (s.dev.cnpy.job ≠ none → s.dev.agreed = true → ∃ t, exec .scanJobEnd s = .next t ∧ t.dev.cnpy.job = none ∧ t.dev.cnpy.wrote = true ∧ t.dev.cnpy.conf = s.dev.cnpy.conf ∧ DevOnly s t) ∧
    (s.dev.cnpy.job = none → exec .scanJobOverrun s = .next s) ∧
    (s.dev.cnpy.job ≠ none → ∃ t, exec .scanJobOverrun s = .next t ∧ t.dev.cnpy.job = none ∧ t.dev.cnpy.wrote = false ∧ t.dev.cnpy.conf = s.dev.cnpy.conf ∧ t.dev.eventPending 200 = true ∧ RegsKept [] s.dev t.dev ∧ DevOnly s t) ∧
    (s.dev.cnpy.job ≠ none ∨ s.dev.cnpy.running ≠ none → exec .estJobStart s = .next s) ∧
    (∀ p j, s.dev.cnpy.job = none → s.dev.cnpy.running = none → (p = if s.dev.cnpy.turn then 1 else 0) →
      (s.dev.estQ p).jobs.find? (fun j => j.st == 0) = some j →
      (s.dev.jobFits j = false → exec .estJobStart s = .next s) ∧
      (s.dev.jobFits j = true → ∃ t, exec .estJobStart s = .next t ∧ t.dev.cnpy.running = some (p, j.handle) ∧ t.dev.cnpy.turn = decide (p = 0) ∧ t.dev.regs = s.dev.regs ∧ DevOnly s t)) ∧
    (∀ p j, s.dev.cnpy.job = none → s.dev.cnpy.running = none → (p = if s.dev.cnpy.turn then 1 else 0) →
      (s.dev.estQ p).jobs.find? (fun j => j.st == 0) = none → (s.dev.estQ (1 - p)).jobs.find? (fun j => j.st == 0) = some j → s.dev.jobFits j = true →
      ∃ t, exec .estJobStart s = .next t ∧ t.dev.cnpy.running = some (1 - p, j.handle) ∧ t.dev.cnpy.turn = decide (1 - p = 0) ∧ t.dev.regs = s.dev.regs ∧ DevOnly s t) ∧
    (s.dev.cnpy.running = none → exec .estJobEnd s = .next s) ∧
    (∀ p h j, s.dev.cnpy.running = some (p, h) → (s.dev.estQ p).jobs.find? (fun j => j.handle == h) = some j →
      ∃ t, exec .estJobEnd s = .next t ∧ t.dev.cnpy.running = none ∧ t.pending = s.pending ∧
        BytesKept (pickWord j.desc 6) (4 * (4 + (s.jobOut j.desc).2.length)) s t ∧ t.byte (pickWord j.desc 6) = BitVec.ofNat 8 (s.jobOut j.desc).1 ∧
        ((s.jobOut j.desc).1 ≠ 0 → t.dev.eventPending 195 = true)) ∧
    (∃ t, exec .healthJob s = .next t ∧ t.dev.cnpy.lastHealth = s.dev.time.now ∧ (∀ n ∈ s.dev.ringsOn, (t.dev.str n).qch0 = (s.dev.str n).qch ∧ (t.dev.str n).qds0 = (s.dev.str n).qds) ∧
      (∀ n, n ∉ s.dev.ringsOn → t.dev.str n = s.dev.str n) ∧ (∀ j, (t.dev.slot j).z = (s.dev.slot j).z) ∧ t.dev.cnpy.conf = s.dev.cnpy.conf ∧
      t.dev.acq = s.dev.acq ∧ PlantOnly s t) ∧
    (∀ ok, ∃ t, exec (.snapshotRefresh ok) s = .next t ∧ t.dev.rbit A.cnpyStat 28 = t.dev.snapsOk ∧ PlantOnly s t ∧
      ∀ n, s.dev.ringsOn.find? (fun n => decide (s.dev.cnpy.snapNext ≤ n)) = some n →
        FMap.get (fun _ => {}) (if s.dev.cnpy.snapUseB then t.dev.cnpy.snapB else t.dev.cnpy.snapA) n = s.dev.snapOf n ok ∧
        (ok = false → (s.dev.snapOf n ok).valid = false ∧ t.dev.eventPending 199 = true ∧ t.dev.eventPending 365 = true)) ∧
    (∀ n, s.dev.rings ≤ n → ∀ i ∈ [Instr.impedanceArm n, .armTimeout n, .fitJob n, .fitJobEnd n], exec i s = .fault .noSuchUnit) ∧
    (∀ n, n < s.dev.rings →
      (s.dev.mayArm n = false → exec (.impedanceArm n) s = .next s) ∧
      (s.dev.mayArm n = true → ∃ t, exec (.impedanceArm n) s = .next t ∧ (t.dev.str n).armed = true ∧ (t.dev.str n).frozen = false ∧ (∀ k, k ≠ n → t.dev.str k = s.dev.str k) ∧ DevOnly s t) ∧
      ((s.dev.str n).armed = false ∨ (s.dev.str n).reading = true → exec (.armTimeout n) s = .next s) ∧
      ((s.dev.str n).armed = true → (s.dev.str n).reading = false → ∃ t, exec (.armTimeout n) s = .next t ∧ (t.dev.str n).rot = (s.dev.str n).rot + 1 ∧ DevOnly s t) ∧
      (s.dev.burstsRead n = false → exec (.fitJob n) s = .next s) ∧
      (s.dev.burstsRead n = true → ∃ t, exec (.fitJob n) s = .next t ∧ (t.dev.str n).capT = some s.dev.time.now ∧ (t.dev.str n).rot = (s.dev.str n).rot + 1 ∧ DevOnly s t) ∧
      (s.dev.cnpy.impWork.filter (fun p => p.1 / 64 == n) = [] → exec (.fitJobEnd n) s = .next s) ∧
      (s.dev.cnpy.impWork.filter (fun p => p.1 / 64 == n) ≠ [] → ∃ t, exec (.fitJobEnd n) s = .next t ∧
        t.dev.cnpy.impWork = s.dev.cnpy.impWork.filter (fun p => !(p.1 / 64 == n)) ∧ t.dev.eventPending 208 = true ∧ DevOnly s t)) ∧
    (s.dev.rep.restT = none → exec .socmRestExpiry s = .next s) ∧
    (∀ u, s.dev.rep.restT = some u → ∃ t, exec .socmRestExpiry s = .next t ∧ t.dev.rep.socm = s.dev.rep.blk0.socf ∧ t.dev.rep.restT = none ∧ t.dev.rep.tracking = true ∧ PlantOnly s t) ∧
    (s.dev.rep.relFrel = none → exec .reserveExpiry s = .next s) ∧
    (s.dev.rep.relFrel ≠ none → ∃ t, exec .reserveExpiry s = .next t ∧ t.dev.rep.relFrel = none ∧ t.dev.rbit A.cnpyRsv 31 = false ∧ t.dev.eventPending 210 = true ∧ DevOnly s t) ∧
    ((∀ x, s.dev.rep.dis = some x → x.until_ = none) → exec (.pcsRequestExpiry true) s = .next s) ∧
    ((∀ x, s.dev.rep.chg = some x → x.until_ = none) → exec (.pcsRequestExpiry false) s = .next s) ∧
    (∀ x, s.dev.rep.dis = some x → x.until_ ≠ none → ∃ t, exec (.pcsRequestExpiry true) s = .next t ∧ t.dev.rep.dis = none ∧ t.dev.rep.chg = s.dev.rep.chg ∧ PlantOnly s t) ∧
    (∀ x, s.dev.rep.chg = some x → x.until_ ≠ none → ∃ t, exec (.pcsRequestExpiry false) s = .next t ∧ t.dev.rep.chg = none ∧ t.dev.rep.dis = s.dev.rep.dis ∧ PlantOnly s t)

/-- Lockstep pairs and the twins' digest comparison. There are two pairs; for another number the pair commands are a fault. A mismatch of a running pair counts in SYS.KCMP, records its group and raises event 383, leaving the pair stopped or halted. A failed injection test clears the pair's test bit and halts it; a passed one sets the bit. A split or a join that is due takes effect with event 383, and one that is not due changes nothing. A split pair joins when the other is halted. A device outside agreement skips the digest comparison; in agreement the comparison records the scan, and the repeat comparison ends the repetition. TWIN_SELFTEST_END raises event 297. -/
def Obligations.LockstepPairs : Prop :=
  ∀ s : State,
    (∀ p g u b, 2 ≤ p → ∀ i ∈ [Instr.lockstepMismatch p g u, .injectionTestEnd p b, .injectionTestDaily p b, .autoJoin p, .splitEffect p, .joinEffect p],
      exec i s = .fault .noSuchUnit) ∧
    (∀ p, p < 2 →
      (∀ g u, s.dev.kstate p = 0 → ∃ t, exec (.lockstepMismatch p g u) s = .next t ∧ t.dev.reg (A.sysKcmp p) = satInc (s.dev.reg (A.sysKcmp p)) ∧
        t.dev.fld (A.sysKstat p) 21 16 = g % 64 ∧ (t.dev.kstate p = 2 ∨ t.dev.kstate p = 3) ∧ t.dev.eventPending 383 = true ∧ DevOnly s t) ∧
      (∀ g u, s.dev.kstate p ≠ 0 → exec (.lockstepMismatch p g u) s = .next { s with dev := s.dev.at u }) ∧
      (s.dev.kstate p = 3 → ∀ b, exec (.injectionTestEnd p b) s = .next s) ∧
      (s.dev.kstate p ≠ 0 → ∀ b, exec (.injectionTestDaily p b) s = .next s) ∧
      (s.dev.kstate p ≠ 3 → ∃ t, exec (.injectionTestEnd p true) s = .next t ∧ t.dev.rbit (A.sysKstat p) 29 = true ∧ t.dev.kstate p = s.dev.kstate p ∧
        RegsKept [A.sysKstat p] s.dev t.dev ∧ DevOnly s t) ∧
      (s.dev.kstate p ≠ 3 → ∃ t, exec (.injectionTestEnd p false) s = .next t ∧ t.dev.rbit (A.sysKstat p) 29 = false ∧ t.dev.kstate p = 3 ∧
        t.dev.eventPending 383 = true ∧ DevOnly s t) ∧
      (s.dev.kstate p = 0 → ∀ b, exec (.injectionTestDaily p b) s = exec (.injectionTestEnd p b) s) ∧
      (s.dev.kstate p = 1 → s.dev.kstate (1 - p) = 3 → ∃ t, exec (.autoJoin p) s = .next t ∧ t.dev.kstate p = 0 ∧ t.dev.eventPending 383 = true ∧ DevOnly s t) ∧
      (s.dev.kstate p ≠ 1 ∨ s.dev.kstate (1 - p) ≠ 3 → exec (.autoJoin p) s = .next s) ∧
      (s.dev.pairDue p false = true → ∃ t, exec (.splitEffect p) s = .next t ∧ t.dev.kstate p = 1 ∧ (t.dev.pair p).pend = none ∧ t.dev.eventPending 383 = true ∧ DevOnly s t) ∧
      (s.dev.pairDue p false = false → exec (.splitEffect p) s = .next s) ∧
      (s.dev.pairDue p true = true → ∃ t, exec (.joinEffect p) s = .next t ∧ t.dev.kstate p = 0 ∧ (t.dev.pair p).pend = none ∧ t.dev.eventPending 383 = true ∧ DevOnly s t) ∧
      (s.dev.pairDue p true = false → exec (.joinEffect p) s = .next s)) ∧
    (s.dev.isTwin = false → ∀ x, exec (.digestCompare x) s = .next s) ∧
    (s.dev.agreed = true → ∀ x, ∃ t, exec (.digestCompare x) s = .next t ∧ t.dev.reg A.twinDscan = BitVec.ofNat 32 s.dev.view0.hdr.scan ∧ DevOnly s t) ∧
    (s.dev.cnpy.repeated = false → ∀ x, exec (.repeatJobEnd x) s = .next s) ∧
    (s.dev.cnpy.repeated = true → ∀ x, ∃ t, exec (.repeatJobEnd x) s = .next t ∧ t.dev.cnpy.repeated = false ∧ DevOnly s t) ∧
    (∀ a b, ∃ t, exec (.twinSelftestEnd a b) s = .next t ∧ t.dev.eventPending 297 = true ∧ (s.dev.agreed = false → t.dev.twin.selftest = false ∧ RegsKept [] s.dev t.dev) ∧ DevOnly s t)

/-- Mooring, TWIN_ALIVE, GRAFT and the twins' timers. A single-use device changes nothing at the twin signals, and a twin only notes that a message with a bad CRC is to come again. A lane that trains or is lost sets or clears its bit, and there are two; silence clears both. The twin without authority takes the instant, a ring's state and a CAN frame from the other; the authority takes none of them, and no discovery, image or reset either. A joiner takes bulk memory. ALIVE loss clears ALIVE, its return sets it and clears GIN, and a high GRAFT input sets GIN. A Graft completes into ALONE with event 293. Time exchange moves a mirror's clock by at most 100 ns once it is set (the model's bound, log entry 32), and not the authority's. The pairing timeout of a started twin without authority or trained lane takes authority in ALONE, and otherwise changes nothing. The first RESYNC deadline tries again, the second yields, each with event 296. -/
def Obligations.TwinSignals : Prop :=
  ∀ s : State,
    (s.dev.isTwin = false → ∀ m k l x a b (dt : Int), ∀ i ∈ [Instr.mooringMessageRx a k m, .mooringLaneTrained l x, .mooringLaneLoss l, .mooringSilent, .aliveLoss a b,
      .aliveReturn, .graftInHigh, .graftComplete, .timeExchange dt, .pairingTimeout, .resyncDeadline], exec i s = .next s) ∧
    (s.dev.isTwin = true →
      (∀ k m, exec (.mooringMessageRx false k m) s = .next { s with dev := { s.dev with twin := { s.dev.twin with rxAgain := !s.dev.twin.rxAgain } } }) ∧
      (∀ k m, ∃ t, exec (.mooringMessageRx true k m) s = .next t ∧ t.pending = s.pending) ∧
      (s.dev.authority = true → ∀ k c f n st ra rb x b, ∀ m ∈ [Mooring.canFrame c f, .ringState n st ra rb, .instantAt x b, .discover n ra rb, .imageFwd [] x, .resetMirror],
        exec (.mooringMessageRx true k m) s = .next { s with dev := { s.dev with twin := { s.dev.twin with rxScan := k, rxAgain := false } } }) ∧
      (s.dev.authority = false → ∀ k n st ra rb, s.dev.portEn n = true → st < 16 → ∃ t, exec (.mooringMessageRx true k (.ringState n st ra rb)) s = .next t ∧ t.dev.ringState n = st ∧ t.pending = s.pending) ∧
      (s.dev.authority = false → s.dev.time.scanning = true → s.dev.time.instLocal = false → s.dev.time.msg = false → ∀ k x f, s.dev.time.inst + 1000000 ≤ x →
        ∃ t, exec (.mooringMessageRx true k (.instantAt x f)) s = .next t ∧ t.dev.time.placed = some x ∧ t.dev.time.msg = true ∧ DevOnly s t) ∧
      (s.dev.authority = false → ∀ k c f, ∃ t, exec (.mooringMessageRx true k (.canFrame c f)) s = .next t ∧ (t.dev.can c).waiting = (s.dev.can c).waiting ++ [(f, s.dev.time.now)] ∧ t.dev.regs = s.dev.regs ∧ DevOnly s t) ∧
      (∀ k b, ∃ t, exec (.mooringMessageRx true k (.halving b)) s = .next t ∧ t.dev.twin.partnerHalf = b ∧ t.dev.regs = s.dev.regs ∧ DevOnly s t) ∧
      (s.dev.twinState = 2 → s.wf = true → ∀ k a n cells, (∀ c ∈ cells, c.1 < n) → ∃ t, exec (.mooringMessageRx true k (.bulkMem a n cells)) s = .next t ∧
        t.dev = { s.dev with twin := { s.dev.twin with rxScan := k, rxAgain := false } } ∧ t.pending = s.pending ∧
        BytesKept a n s t ∧ ((cells.map Prod.fst).Nodup → ∀ c ∈ cells, t.byte (a + c.1) = c.2) ∧ ∀ k, k < n → (∀ c ∈ cells, c.1 ≠ k) → t.byte (a + k) = 0) ∧
      (∀ l x, 2 ≤ l → exec (.mooringLaneTrained l x) s = .next s ∧ exec (.mooringLaneLoss l) s = .next s) ∧
      (∀ l x, l < 2 → ∃ t, exec (.mooringLaneTrained l x) s = .next t ∧ t.dev.rbit A.twinStat (laneBit l) = true ∧ DevOnly s t) ∧
      (∀ l, l < 2 → ∃ t, exec (.mooringLaneLoss l) s = .next t ∧ t.dev.rbit A.twinStat (laneBit l) = false ∧
        (s.dev.rbit A.twinStat (laneBit l) = true → t.dev.eventPending 289 = true) ∧ RegsKept [A.twinStat] s.dev t.dev ∧ DevOnly s t) ∧
      (∃ t, exec .mooringSilent s = .next t ∧ t.dev.rbit A.twinStat (laneBit 0) = false ∧ t.dev.rbit A.twinStat (laneBit 1) = false ∧ DevOnly s t) ∧
      (∀ a b, ∃ t, exec (.aliveLoss a b) s = .next t ∧ t.dev.rbit A.twinStat 22 = false ∧ DevOnly s t) ∧
      (∃ t, exec .aliveReturn s = .next t ∧ t.dev.rbit A.twinStat 22 = true ∧ t.dev.rbit A.twinStat 21 = false ∧ RegsKept [A.twinStat] s.dev t.dev ∧ PlantOnly s t) ∧
      (∃ t, exec .graftInHigh s = .next t ∧ t.dev.rbit A.twinStat 21 = true ∧ DevOnly s t) ∧
      (s.dev.twinState = 6 → ∃ t, exec .graftComplete s = .next t ∧ t.dev.twinState = 0 ∧ t.dev.rbit A.twinStat 20 = false ∧ t.dev.eventPending 293 = true ∧ DevOnly s t) ∧
      (s.dev.twinState ≠ 6 → exec .graftComplete s = .next s) ∧
      (s.dev.authority = true → ∀ dt : Int, exec (.timeExchange dt) s = .next s) ∧
      (s.dev.authority = false → ∀ dt : Int, ∃ t, exec (.timeExchange dt) s = .next t ∧ t.dev.twin.timeSet = true ∧ t.dev.regs = s.dev.regs ∧ DevOnly s t ∧
        t.dev.time.now = ((s.dev.time.now : Int) + (if s.dev.twin.timeSet then max (-100) (min 100 dt) else dt)).toNat) ∧
      (s.dev.twinState = 0 ∨ s.dev.twinState = 1 → s.dev.authority = false → s.dev.pstate ≠ 7 → s.dev.rbit A.twinStat 23 = false → s.dev.rbit A.twinStat 24 = false →
        ∃ t, exec .pairingTimeout s = .next t ∧ t.dev.twinState = 0 ∧ t.dev.authority = true ∧ DevOnly s t) ∧
      ((s.dev.twinState ≠ 0 ∧ s.dev.twinState ≠ 1) ∨ s.dev.authority = true ∨ s.dev.pstate = 7 ∨ s.dev.rbit A.twinStat 23 = true ∨ s.dev.rbit A.twinStat 24 = true → exec .pairingTimeout s = .next s) ∧
      (s.dev.twinState ≠ 2 → exec .resyncDeadline s = .next s) ∧
      (s.dev.twinState = 2 → s.dev.twin.resyncTry = 0 → ∃ t, exec .resyncDeadline s = .next t ∧ t.dev.twinState = 2 ∧ t.dev.twin.resyncTry = 1 ∧ t.dev.eventPending 296 = true ∧ DevOnly s t) ∧
      (s.dev.twinState = 2 → s.dev.twin.resyncTry ≠ 0 → ∃ t, exec .resyncDeadline s = .next t ∧ t.dev.twinState = 7 ∧ t.dev.eventPending 296 = true ∧ DevOnly s t))

/-- Ownership, sessions, Heartwood's own tests and the session's first and last messages. CLAIM of a P-256, P-384 or Ed25519 key with the right MAC sets CLAIMED, installs the Owner key and a new KT and closes the UNCLAIMED session; a wrong one is refused and remembered; a session's second, or one on a claimed device, in recovery or after five wrong ones within the hour, is refused. With TMODE, and in recovery on another port than Ethernet 0, no handshake begins. One that fails, or its timeout, counts in HWD.REFUSE with event 305, with the alert of its step; one that passes opens an UNCLAIMED or a tenant session. KEYUPDATE moves to the next keys; an expired slot's session closes while UTC is known. An Owner record needs a token, capability IMAGE and no suspension; one that passes is stamped and moves OWNSEQ, one that does not is refused, both with event 310. The firmware floor never falls. A failed TRNG or self-test clears its bit with event 311; a passed one sets both bits. HELLO chooses a version, or closes the session where none is common or one was chosen, and BYE closes it. -/
def Obligations.SessionsAndOwnership : Prop :=
  ∀ s : State,
    (∀ n z kb mac, s.dev.session n = none → exec (.claim n z kb mac) s = .next s) ∧
    (∀ n z kb mac x, s.dev.session n = some x → s.dev.rbit A.hwdStat 31 = true ∨ x.unclaimed = false ∨ x.tried = true ∨ s.dev.hwd.recovery = true ∨ 5 ≤ s.dev.claimFails.length →
      ∃ t, exec (.claim n z kb mac) s = .next t ∧ t.dev = { s.dev with hwd := { s.dev.hwd with reply := (8, []) } } ∧ DevOnly s t) ∧
    (∀ n z kb mac x, s.dev.session n = some x → s.dev.rbit A.hwdStat 31 = false → x.unclaimed = true → x.tried = false → s.dev.hwd.recovery = false → s.dev.claimFails.length < 5 →
      (mac = claimMac kb → 1 ≤ z → z ≤ 3 → ∃ t, exec (.claim n z kb mac) s = .next t ∧ t.dev.rbit A.hwdStat 31 = true ∧ t.dev.eventPending 312 = true ∧
        FMap.get (fun _ => 0) t.dev.hwd.ownerKeys 0 = ofBe (sha256 kb) ∧ t.dev.hwd.kt = Config.trng s.dev.freeCnt ∧ t.dev.session n = none ∧ t.dev.hwd.reply = (0, []) ∧ t.pending = s.pending) ∧
      (mac ≠ claimMac kb ∨ z = 0 ∨ 3 < z → ∃ t y, exec (.claim n z kb mac) s = .next t ∧ t.dev.hwd.reply = (8, []) ∧ t.dev.hwd.failT = s.dev.claimFails ++ [s.dev.time.now] ∧
        t.dev.session n = some y ∧ y = { x with tried := true } ∧ t.dev.regs = s.dev.regs ∧ DevOnly s t)) ∧
    (s.dev.rbit A.sysStrap 2 = true → ∀ hs : Handshake, exec (.sessionHandshake hs) s = .next s) ∧
    (∀ hs : Handshake, s.dev.hwd.recovery = true → hs.port ≠ 0 → exec (.sessionHandshake hs) s = .next s) ∧
    (∀ hs : Handshake, s.dev.rbit A.sysStrap 2 = false → s.dev.hwd.recovery = false ∨ hs.port = 0 →
      let R := fun (a : Option Nat) => ∃ t, exec (.sessionHandshake hs) s = .next t ∧ t.dev.reg A.hwdRefuse = satInc (s.dev.reg A.hwdRefuse) ∧ t.dev.hwd.alert = a ∧ t.dev.eventPending 305 = true ∧ DevOnly s t
      let M := (0x1301 ∈ hs.suites ∨ 0x1303 ∈ hs.suites) ∧ (23 ∈ hs.groups ∨ 29 ∈ hs.groups) ∧ 0x0403 ∈ hs.schemes
      let V := hs.verifyOk = true ∧ (hs.scheme = 0x0403 ∨ hs.scheme = 0x0503 ∨ hs.scheme = 0x0807)
      (s.dev.hwdOk = false → R none) ∧
      (s.dev.hwdOk = true → 0x0304 ∉ hs.versions → R (some 70)) ∧
      (s.dev.hwdOk = true → 0x0304 ∈ hs.versions → ¬M → R (some 40)) ∧
      (s.dev.hwdOk = true → 0x0304 ∈ hs.versions → M → ¬V → R (some 51)) ∧
      (s.dev.hwdOk = true → 0x0304 ∈ hs.versions → M → V →
        (s.dev.rbit A.hwdStat 31 = false →
          (hs.finishedOk = false → R (some 51)) ∧
          (hs.finishedOk = true → 64 ≤ s.dev.openSessions → s.dev.session s.dev.freeSession = none → R (some 90)) ∧
          (hs.finishedOk = true → s.dev.openSessions < 64 → ∃ t y, exec (.sessionHandshake hs) s = .next t ∧ t.dev.session s.dev.freeSession = some y ∧ y.unclaimed = true ∧ y.ver = 0 ∧ y.e = 1 ∧
            t.dev.eventPending 305 = true ∧ RegsKept [A.pwrStat] s.dev t.dev ∧ (s.dev.pstate ≠ 2 → RegsKept [] s.dev t.dev) ∧ t.pending = s.pending)) ∧
        (s.dev.rbit A.hwdStat 31 = true → (∀ p ∈ s.dev.hwd.ownerKeys, p.2 ≠ hs.keyHash) →
          (s.dev.hwd.slotByKey hs.keyHash = none → R (some 46)) ∧
          (∀ p, s.dev.hwd.slotByKey hs.keyHash = some p →
            (s.dev.slotValid p.2 = false → R (some 45)) ∧
            (s.dev.slotValid p.2 = true → hs.finishedOk = false → R (some 51)) ∧
            (s.dev.slotValid p.2 = true → hs.finishedOk = true → s.dev.openSessions < 64 → ∃ t y, exec (.sessionHandshake hs) s = .next t ∧ t.dev.session p.1 = some y ∧ y.slot = p.1 ∧
              y.unclaimed = false ∧ y.owner = false ∧ y.ver = 0 ∧ y.e = 1 ∧ t.dev.eventPending 305 = true ∧ t.pending = s.pending))))) ∧
    (∃ t, exec .handshakeTimeout s = .next t ∧ t.dev.reg A.hwdRefuse = satInc (s.dev.reg A.hwdRefuse) ∧ t.dev.eventPending 305 = true ∧ RegsKept [A.hwdRefuse, A.hwdOvf] s.dev t.dev ∧ DevOnly s t) ∧
    (∀ n x, s.dev.session n = some x → ∃ t, exec (.keyupdate n) s = .next t ∧ t.dev.session n = some { x with keyGen := x.keyGen + 1, secret := Config.trng s.dev.freeCnt, recs := 0, rekey := false } ∧ t.dev.regs = s.dev.regs ∧ DevOnly s t) ∧
    (∀ n, s.dev.session n = none → exec (.keyupdate n) s = .next s ∧ exec (.sessionExpiry n) s = .next s ∧ (∀ q, exec (.fspBye n q) s = .next s) ∧ ∀ lo hi, exec (.fspHello n lo hi) s = .next s) ∧
    (∀ n x, s.dev.session n = some x → s.dev.rbit A.ethPtp 30 = false ∨ s.dev.hwd.slotOf x = none → exec (.sessionExpiry n) s = .next s) ∧
    (∀ n x, s.dev.session n = some x → s.dev.rbit A.ethPtp 30 = true → (s.dev.hwd.slotOf x).isSome = true →
      ∃ t, exec (.sessionExpiry n) s = .next t ∧ t.dev.session n = none ∧ t.dev.eventPending 305 = true ∧ t.pending = s.pending) ∧
    (∀ (r : OwnRec) (n h u x z k : Nat) (w : Option Nat) (c : Option TenantSlot) (i : Instr) (a : OwnAct),
      (i, a) ∈ [(Instr.ownOwnerkey r k x, .ownerKey k x), (.ownRolekey r z k x, .roleKey z k x), (.ownTenant r k c, .tenant k c), (.ownAccept r n h u w, .accept n h u w), (.ownFloor r k x, .floor k x), (.ownTwinpair r x u, .twinPair x u), (.ownKtrotate r, .ktRotate), (.ownRelease r, .release)] →
      (s.dev.session r.sess = none → exec i s = .next s) ∧
      (∀ y, s.dev.session r.sess = some y → (s.dev.takeToken r.sess y).2 = false →
        ∃ t, exec i s = .next t ∧ t.dev.hwd.ownActs = s.dev.hwd.ownActs ∧ t.dev.hwd.reply = (2, []) ∧ RegsKept [A.hwdRate, A.hwdOvf] s.dev t.dev ∧ DevOnly s t) ∧
      (∀ y, s.dev.session r.sess = some y → (s.dev.takeToken r.sess y).2 = true →
        (s.dev.holds y 25 = false → ∃ t, exec i s = .next t ∧ t.dev.hwd.ownActs = s.dev.hwd.ownActs ∧ t.dev.hwd.reply = (4, []) ∧ t.dev.regs = s.dev.regs ∧ DevOnly s t) ∧
        (s.dev.holds y 25 = true → s.dev.suspended y = true → ∃ t, exec i s = .next t ∧ t.dev.hwd.ownActs = s.dev.hwd.ownActs ∧ t.dev.hwd.reply = (5, []) ∧ t.dev.regs = s.dev.regs ∧ DevOnly s t) ∧
        (s.dev.holds y 25 = true → s.dev.suspended y = false →
          ((s.dev.ownRecOk r a && s.dev.ownActOk a) = true →
            ∃ t, exec i s = .next t ∧ t.dev.hwd.ownActs = s.dev.hwd.ownActs ++ [(s.dev.stampDue, a)] ∧ t.dev.reg A.hwdOwnseq = BitVec.ofNat 32 (ownSeq r) ∧
              t.dev.hwd.reply = (0, [0]) ∧ t.dev.eventPending 310 = true ∧ DevOnly s t) ∧
          ((s.dev.ownRecOk r a && s.dev.ownActOk a) = false →
            ∃ t, exec i s = .next t ∧ t.dev.hwd.ownActs = s.dev.hwd.ownActs ∧ t.dev.hwd.reply = (8, [1]) ∧ t.dev.eventPending 310 = true ∧ RegsKept [] s.dev t.dev ∧ DevOnly s t)))) ∧
    (∃ t, exec .firmwareFloorRaise s = .next t ∧ t.dev.fld A.hwdStat 15 8 = max (s.dev.fld A.hwdStat 15 8) (s.dev.fld A.hwdStat 23 16) ∧ (∀ a, a ≠ A.hwdStat → t.dev.reg a = s.dev.reg a) ∧ PlantOnly s t) ∧
    (∃ t, exec .trngHealthFail s = .next t ∧ t.dev.rbit A.hwdStat 30 = false ∧ t.dev.eventPending 311 = true ∧ RegsKept [A.hwdStat] s.dev t.dev ∧ DevOnly s t) ∧
    (∃ t, exec (.hwdTestEnd true) s = .next t ∧ t.dev.rbit A.hwdStat 30 = true ∧ t.dev.rbit A.hwdStat 29 = true ∧ t.dev.hwdOk = s.dev.hwd.ks.isSome ∧ (∀ a, a ≠ A.hwdStat → t.dev.reg a = s.dev.reg a) ∧ PlantOnly s t) ∧
    (∃ t, exec (.hwdTestEnd false) s = .next t ∧ t.dev.rbit A.hwdStat 29 = false ∧ t.dev.eventPending 311 = true ∧ DevOnly s t) ∧
    (∀ n lo hi x v, s.dev.session n = some x → x.ver = 0 → fspVersion lo hi s.dev.topo.fspmax = some v →
      ∃ t, exec (.fspHello n lo hi) s = .next t ∧ t.dev.session n = some { x with ver := v, idle := s.dev.time.now } ∧ t.dev.hwd.reply = (0, [v]) ∧ t.dev.regs = s.dev.regs ∧ DevOnly s t) ∧
    (∀ n lo hi x, s.dev.session n = some x → x.ver = 0 → fspVersion lo hi s.dev.topo.fspmax = none →
      ∃ t, exec (.fspHello n lo hi) s = .next t ∧ t.dev.session n = none ∧ t.dev.hwd.reply = (9, []) ∧ t.pending = s.pending) ∧
    (∀ n lo hi x, s.dev.session n = some x → 0 < x.ver →
      ∃ t, exec (.fspHello n lo hi) s = .next t ∧ t.dev.session n = none ∧ t.dev.eventPending 357 = true ∧ t.pending = s.pending) ∧
    (∀ n q x, s.dev.session n = some x → ∃ t, exec (.fspBye n q) s = .next t ∧ t.dev.session n = none ∧ t.dev.eventPending 305 = true ∧ RegsKept [] s.dev t.dev ∧ t.pending = s.pending)

/-- FSP requests that their session may make, their answers and their stamped actions. A request that is its session's next and passes the common checks is answered OK when its operands are in range, and the session's window holds the response: the stamped operations, CAL among them, and the sequence requests join the list of their kind for the scan R346 names; TRIPREL, DISPATCH (for the scan R331 names), SUBSCRIBE, NOTIFYCTL, the image transfer and MEMTEST have their own effect; READ, LOGREAD and QUOTE answer with data. An operation that the device's state refuses is answered 8. Without the capability the answer is 4 and nothing else happens. A request of no session does nothing. A transfer times out. STREAM_SEND and NOTIFY_SEND send the oldest waiting message. Of memory only the session's window changes, but for an accepted image. -/
def Obligations.FspRequests : Prop :=
  ∀ (q : Req) (s : State),
    (∀ l v, Admits q 9 1 s → l ≤ 5 → ∃ t, exec (.dlimitSet q l v) s = .next t ∧ Stamped q (.dlimit l (some v)) s t) ∧
    (∀ l, Admits q 9 1 s → l ≤ 5 → ∃ t, exec (.dlimitWithdraw q l) s = .next t ∧ Stamped q (.dlimit l none) s t) ∧
    (∀ f d, Admits q 10 1 s → f < s.dev.topo.fres → 60 ≤ d → d ≤ 86400 → ∃ t, exec (.reserveRelease q f d) s = .next t ∧ Stamped q (.reserve (some f) d) s t) ∧
    (Admits q 10 1 s → ∃ t, exec (.reserveWithdraw q) s = .next t ∧ Stamped q (.reserve none 0) s t) ∧
    (Admits q 17 1 s → ∃ t, exec (.ctlclrWeld q) s = .next t ∧ Stamped q .weld s t) ∧
    (∀ n, Admits q 17 1 s → n < 16 → ∃ t, exec (.ctlclrLoop q n) s = .next t ∧ Stamped q (.loopClr n) s t) ∧
    (∀ m, Admits q 19 1 s → ∃ t, exec (.fspUnlock q m) s = .next t ∧ Stamped q (.unlock (m % 2 ^ 32)) s t) ∧
    (∀ e, Admits q 20 1 s → e < 128 → ∃ t, exec (.fspRearm q e) s = .next t ∧ Stamped q (.rearm e) s t) ∧
    (∀ n h, Admits q 21 1 s → n < s.dev.rings → 1 ≤ h → h ≤ 64 → s.dev.authentic n h = true → ∃ t, exec (.fspBaltest q n h) s = .next t ∧ Stamped q (.baltest n h) s t) ∧
    (∀ n h, Admits q 21 1 s → n < s.dev.rings → 1 ≤ h → h ≤ 64 → s.dev.authentic n h = false → ∃ t, exec (.fspBaltest q n h) s = .next t ∧ Answered q 8 [] s t ∧ t.dev.regs = s.dev.regs) ∧
    (∀ m x b, Admits q 22 1 s → m < 16 → ∃ t, exec (.calStart (.fsp q) m x b) s = .next t ∧ Stamped q (.cal m) s t) ∧
    (∀ (tgt code arg tag n : Nat) (i : Instr), (i, tgt, code) ∈ [(Instr.seqNone n tag (.fsp q), n, 0), (.seqClose arg tag (.fsp q), 0, 1), (.seqPrelink arg tag (.fsp q), 0, 2), (.seqOpen arg tag (.fsp q), 0, 3),
      (.seqOpenNow arg tag (.fsp q), 0, 4), (.seqShutdown arg tag (.fsp q), 0, 5), (.strConnect n arg tag (.fsp q), n + 1, 1), (.strDisconnect n arg tag (.fsp q), n + 1, 2), (.strDisconnow n arg tag (.fsp q), n + 1, 3)] →
      Admits q 16 1 s → tgt ≤ 48 → ∃ t, exec i s = .next t ∧ Answered q 0 [] s t ∧ t.dev.regs = s.dev.regs ∧
        t.dev.ctl.reqs = s.dev.ctl.reqs ++ [{ tgt := tgt, word := (if code = 0 then 0 else arg % 65536) * 65536 + tag % 256 * 256 + code, src := 1, due := s.dev.stampDue }]) ∧
    (Admits q 23 1 s → s.dev.refuseStorage = false → ∃ t, exec (.fspStorage q) s = .next t ∧ Stamped q .storage s t) ∧
    (Admits q 23 1 s → s.dev.refuseStorage = true → ∃ t, exec (.fspStorage q) s = .next t ∧ Answered q 8 [] s t ∧ t.dev.regs = s.dev.regs) ∧
    (Admits q 24 1 s → s.dev.agreed = true → ∃ t, exec (.twinsvcResync q) s = .next t ∧ Stamped q .resync s t) ∧
    (Admits q 24 1 s → s.dev.agreed = false → ∃ t, exec (.twinsvcResync q) s = .next t ∧ Answered q 8 [] s t ∧ t.dev.regs = s.dev.regs) ∧
    (Admits q 24 1 s → s.dev.agreed = false ∨ s.dev.authority = false → ∃ t, exec (.twinsvcHandover q) s = .next t ∧ Answered q 8 [] s t ∧ t.dev.regs = s.dev.regs) ∧
    (Admits q 24 1 s → ∃ t, exec (.twinsvcReset q) s = .next t ∧ Stamped q .reset s t) ∧
    (Admits q 24 1 s → s.dev.agreed = true → s.dev.authority = true → ∃ t, exec (.twinsvcHandover q) s = .next t ∧ Stamped q .handover s t) ∧
    (∀ m, Admits q 18 1 s → 1 ≤ m → m < 256 → ∃ t, exec (.fspTriprel q m) s = .next t ∧ Answered q 0 [] s t ∧ t.dev.regs = s.dev.regs ∧
        t.dev.prot.rels = s.dev.prot.rels ++ [{ sess := q.sess, seq := q.seq, mask := m, due := s.dev.stampDue }]) ∧
    (∀ r, Admits q 8 1 s → badPcs r = false → ∃ t, exec (.fspDispatch q r) s = .next t ∧ Answered q 0 ((reqAck r.seq 0 s.dev.reportDue).take 8) s t ∧ t.dev.rep.pcsQ = s.dev.rep.pcsQ ++ [(s.dev.reportDue, r)] ∧ t.dev.regs = s.dev.regs) ∧
    (∀ m k, Admits q 4 2 s → 1 ≤ k → k ≤ 1000 → ∃ t, exec (.fspSubscribe q m k) s = .next t ∧ Answered q 0 [] s t ∧ (∀ y, t.dev.session q.sess = some y → y.subs = (bitsOf 64 m).map (fun i => (i, k)))) ∧
    (Admits q 5 3 s → ∃ t, exec (.notifyctlOn q) s = .next t ∧ Answered q 0 [] s t ∧ ∀ y, t.dev.session q.sess = some y → y.notify = true) ∧
    (Admits q 5 3 s → ∃ t, exec (.notifyctlOff q) s = .next t ∧ Answered q 0 [] s t ∧ ∀ y, t.dev.session q.sess = some y → y.notify = false) ∧
    (∀ a n, Admits q 2 1 s → ∃ t, exec (.fspLogread q a n) s = .next t ∧ Answered q (logRead s.dev.log a n (s.dev.sessVer q.sess)).1 (logRead s.dev.log a n (s.dev.sessVer q.sess)).2 s t ∧ t.dev.regs = s.dev.regs) ∧
    (∀ n, Admits q 3 1 s → n.length = 32 → s.dev.hwdOk = true → ∃ t, exec (.fspQuote q n) s = .next t ∧ (∃ b, Answered q 0 b s t) ∧ t.dev.regs = s.dev.regs) ∧
    (∀ n, Admits q 3 1 s → n.length = 32 → s.dev.hwdOk = false → ∃ t, exec (.fspQuote q n) s = .next t ∧ Answered q 8 [] s t ∧ t.dev.regs = s.dev.regs) ∧
    (∀ a n, Admits q (readCap a) 1 s → 4 ≤ n → n ≤ 4080 → n % 4 = 0 → a % 4 = 0 → readRegion a n = true → ∃ t, exec (.fspRead q a n) s = .next t ∧ ∃ b, Answered q 0 b s t ∧ b.length = n) ∧
    (∀ n, Admits q 25 1 s → 1 ≤ n → n ≤ 0xC0000 → s.dev.hwd.xfer = none → ∃ t, exec (.imageBegin q n) s = .next t ∧ Answered q 0 [] s t ∧ t.dev.hwd.xfer = some { sess := q.sess, len := n, lastT := s.dev.time.now }) ∧
    (∀ o l x, Admits q 25 1 s → s.dev.hwd.xfer = some x → x.sess = q.sess → o + l.length ≤ x.len → l.length ≤ 4064 → ∃ t, exec (.imageData q o l) s = .next t ∧ Answered q 0 [] s t ∧
        ∃ y, t.dev.hwd.xfer = some y ∧ y.len = x.len ∧ y.lastT = s.dev.time.now ∧ ∀ i, i < l.length → FMap.get (fun _ => 0) y.bytes (o + i) = l.getD i 0 % 256) ∧
    (∀ k x, Admits q 25 1 s → s.dev.hwd.xfer = some x → x.sess = q.sess → s.dev.ownerSess q.sess = false → ∃ t, exec (.imageEnd q k) s = .next t ∧ t.dev.hwd.xfer = none ∧ t.dev.hwd.reply.1 = 0 ∧ t.pending = s.pending ∧ (t.dev.hwd.reply.2 ≠ [0] → WindowOnly q.sess s t)) ∧
    (∀ k, Admits q 25 1 s → s.dev.hwd.xfer = none → ∃ t, exec (.imageEnd q k) s = .next t ∧ Answered q 8 [] s t ∧ t.dev.regs = s.dev.regs) ∧
    (∃ t, exec .imageTransferTimeout s = .next t ∧ t.dev.hwd.xfer = none ∧ t.dev.regs = s.dev.regs ∧ DevOnly s t) ∧
    (∀ k a b, Admits q 26 1 s → badMemtest k a b = false → s.dev.ram.queue = [] → (s.dev.bank 42).st ≠ 4 → ∃ t, exec (.memtestPreserving q k a b) s = .next t ∧ (∃ m, Answered q 0 m s t) ∧ t.dev.ram.test = k ∧ t.dev.ram.destructive = false) ∧
    (∀ k a b, Admits q 26 1 s → badMemtest k a b = false → s.dev.ram.queue = [] → (∀ j, (s.dev.bank j).st ≠ 0) → ∃ t, exec (.memtestDestructive q k a b) s = .next t ∧ (∃ m, Answered q 0 m s t) ∧ t.dev.ram.test = k ∧ t.dev.ram.destructive = true) ∧
    (∀ k a b, Admits q 26 1 s → badMemtest k a b = false → s.dev.ram.queue = [] → (s.dev.bank a).st = 0 → ∃ t, exec (.memtestDestructive q k a b) s = .next t ∧ Answered q 8 [3] s t ∧ t.dev.ram = s.dev.ram) ∧
    (∀ (m k h : Nat) (b : Bool) (l : List Nat) (r : PcsReq) (i : Instr) (cap ver : Nat), (i, cap, ver) ∈ [(Instr.fspRead q m k, readCap m, 1), (.fspLogread q m k, 2, 1), (.fspQuote q l, 3, 1), (.fspSubscribe q m k, 4, 2), (.notifyctlOn q, 5, 3), (.notifyctlOff q, 5, 3), (.fspDispatch q r, 8, 1), (.dlimitSet q m k, 9, 1), (.dlimitWithdraw q m, 9, 1), (.reserveRelease q m k, 10, 1), (.reserveWithdraw q, 10, 1), (.ctlclrWeld q, 17, 1), (.ctlclrLoop q m, 17, 1), (.fspTriprel q m, 18, 1), (.fspUnlock q m, 19, 1), (.fspRearm q m, 20, 1), (.fspBaltest q m k, 21, 1), (.calStart (.fsp q) m k b, 22, 1), (.fspStorage q, 23, 1), (.twinsvcResync q, 24, 1), (.twinsvcReset q, 24, 1), (.twinsvcHandover q, 24, 1), (.imageBegin q m, 25, 1), (.imageData q m l, 25, 1), (.imageEnd q m, 25, 1), (.memtestPreserving q m k h, 26, 1), (.memtestDestructive q m k h, 26, 1), (.seqNone m k (.fsp q), 16, 1), (.seqClose m k (.fsp q), 16, 1), (.seqPrelink m k (.fsp q), 16, 1), (.seqOpen m k (.fsp q), 16, 1), (.seqOpenNow m k (.fsp q), 16, 1), (.seqShutdown m k (.fsp q), 16, 1), (.strConnect h m k (.fsp q), 16, 1), (.strDisconnect h m k (.fsp q), 16, 1), (.strDisconnow h m k (.fsp q), 16, 1)] →
      (s.dev.session q.sess = none → exec i s = .next s) ∧
      (∀ x, s.dev.session q.sess = some x → 0 < x.ver → ver ≤ x.ver → q.seq = x.e → q.len ≤ 4080 → (s.dev.takeToken q.sess x).2 = true → s.dev.holds x cap = false →
        ∃ t, exec i s = .next t ∧ Answered q 4 [] s t ∧ t.dev.regs = s.dev.regs ∧ t.dev.hwd.fspActs = s.dev.hwd.fspActs ∧ t.dev.ctl = s.dev.ctl ∧ t.dev.prot = s.dev.prot)) ∧
    (∀ n, s.dev.session n = none → exec (.streamSend n) s = .next s ∧ exec (.notifySend n) s = .next s) ∧
    (∀ n x p r, s.dev.session n = some x → x.streamQ = p :: r →
      ∃ t y, exec (.streamSend n) s = .next t ∧ t.dev.session n = some y ∧ y.streamQ = r ∧ y.sent.length = x.sent.length + 1 ∧ t.dev.regs = s.dev.regs ∧ DevOnly s t) ∧
    (∀ n x p r, s.dev.session n = some x → x.notifyQ = p :: r →
      ∃ t y, exec (.notifySend n) s = .next t ∧ t.dev.session n = some y ∧ y.notifyQ = r ∧ y.notifyDrop = 0 ∧ y.sent.length = x.sent.length + 1 ∧ t.dev.regs = s.dev.regs ∧ DevOnly s t)

/-- Switch-over of images and Heartwood's boot. A switch-over without a pending image, or one that is not to happen now (in tick 0 before any task, from the image's scan on, in the order of their kinds, at a twin pair with the same image on both), changes nothing. When it is, the pending image becomes the one in force and its hash is recorded: a program also writes its data at its destination, with event 381; an envelope sets ENVOK; a chemistry shows its version. A topology switches only in STANDBY with all contactors open; transactions that ended rings held may have their status written too. Of memory only the image's in-force area and a program's destination change. HEARTWOOD_BOOT counts a boot with event 304 and forms KR from DUS and KPUF; without KPUF, or without a bootable firmware slot, it enters recovery and leaves memory alone, and a failed test of the ROM leaves SELFOK 0 with event 311. -/
def Obligations.ImageSwitches : Prop :=
  ∀ s : State,
    (s.dev.img.pendProg = none → exec .programSwitchover s = .next s) ∧
    (s.dev.img.pendEnv = none → exec .envelopeSwitchover s = .next s) ∧
    (s.dev.img.pendChem = none → exec .chemistrySwitchover s = .next s) ∧
    (s.dev.img.pendTopo = none → exec .topologySwitchover s = .next s) ∧
    (∀ g h due, s.dev.img.pendProg = some (g, h, due) →
      (s.dev.switchNow 2 = false → exec .programSwitchover s = .next s) ∧
      (s.dev.switchNow 2 = true → ∃ t, exec .programSwitchover s = .next t ∧ t.dev.img.prog = some g ∧ t.dev.img.pendProg = none ∧ t.dev.hwd.progh = h ∧
        t.dev.eventPending 381 = true ∧ t.pending = s.pending ∧
        (s.wf = true → ∀ k, (k < 0x20210000 ∨ 0x20230000 ≤ k) → (k < g.dest ∨ g.dest + g.data.length ≤ k) → t.byte k = s.byte k))) ∧
    (∀ x v h due, s.dev.img.pendEnv = some (x, v, h, due) →
      (s.dev.switchNow 0 = false → exec .envelopeSwitchover s = .next s) ∧
      (s.dev.switchNow 0 = true → ∃ t, exec .envelopeSwitchover s = .next t ∧ t.dev.prot.env = x ∧ t.dev.prot.envVer = v ∧ t.dev.img.pendEnv = none ∧
        t.dev.hwd.envh = h ∧ t.dev.rbit A.protStat 30 = true ∧ t.pending = s.pending ∧ (s.wf = true → BytesKept 0x201C0000 0x2000 s t))) ∧
    (∀ x v h due, s.dev.img.pendChem = some (x, v, h, due) →
      (s.dev.switchNow 1 = false → exec .chemistrySwitchover s = .next s) ∧
      (s.dev.switchNow 1 = true → ∃ t, exec .chemistrySwitchover s = .next t ∧ t.dev.cnpy.chem = x ∧ t.dev.reg A.cnpyChem = BitVec.ofNat 32 v ∧
        t.dev.img.pendChem = none ∧ t.dev.hwd.chemh = h ∧ t.pending = s.pending ∧ (s.wf = true → BytesKept 0x201D4000 0x1E000 s t))) ∧
    (∀ x h due, s.dev.img.pendTopo = some (x, h, due) →
      (s.dev.switchNow 3 = false → exec .topologySwitchover s = .next s) ∧
      (s.dev.mayTopo = false → exec .topologySwitchover s = .next s) ∧
      (s.dev.switchNow 3 = true → ∃ t, exec .topologySwitchover s = .next t ∧ t.dev.img.topo = some x ∧ t.dev.img.pendTopo = none ∧
        t.dev.hwd.toph = h ∧ t.pending = s.pending ∧ (s.wf = true → (∀ n w, w ∈ (s.dev.port n).txns → w.holder = 0) → BytesKept 0x201A0000 0x10000 s t))) ∧
    (∀ ok a b, ∃ t, exec (.heartwoodBoot ok none a b) s = .next t ∧ t.dev.hwd.recovery = true ∧ t.dev.hwd.kr = none ∧ t.dev.hwd.ks = none ∧ t.dev.hwdOk = false ∧
      t.dev.hwd.boots = s.dev.hwd.boots + 1 ∧ t.dev.eventPending 304 = true ∧ DevOnly s t) ∧
    (∀ ok p a b, s.dev.bootSlot a b = none → ∃ t, exec (.heartwoodBoot ok (some p) a b) s = .next t ∧ t.dev.hwd.recovery = true ∧ t.dev.hwd.boots = s.dev.hwd.boots + 1 ∧
      t.dev.rbit A.hwdStat 29 = ok ∧ t.dev.eventPending 304 = true ∧ (ok = false → t.dev.eventPending 311 = true) ∧ DevOnly s t) ∧
    (∀ ok p a b k, s.dev.bootSlot a b = some k → ∃ t, exec (.heartwoodBoot ok (some p) a b) s = .next t ∧ t.dev.hwd.recovery = false ∧ t.dev.hwd.boots = s.dev.hwd.boots + 1 ∧
      t.dev.hwd.kr = some (Config.hkdf384 [Config.dus, p] "FN-ROOT") ∧ t.dev.hwd.fwh = (s.dev.hwd.fwOf k).hash ∧ t.dev.eventPending 304 = true ∧ t.pending = s.pending ∧
      ((∀ j, j < 4 → s.dev.img.waits j = false) → t.dev.img.prog = none → t.mem = s.mem))

/-- CAN frames and states, the dispatch profile, Ethernet ports and time. A command of a CAN controller or an Ethernet port that is not fitted is a fault. A frame heard lowers REC; a plant frame waits for its tick at the authority and is only remembered at a mirror; a sent object completes as its request's time asks. The twin without authority follows the other's states. Bus-off, error-passive, recovery and restricted operation move the controller's state, each with its event. Without dispatch over CAN the profile commands change nothing; with it HELLO chooses the version, a heartbeat restarts the timeout, an acceptable request is queued for its scan, and the timeout drops both requests once. Link, address and time commands show in ETH registers. -/
def Obligations.NetworkCommands : Prop :=
  ∀ s : State,
    (∀ c f o b u v, s.dev.hasCan c = false → ∀ i ∈ [Instr.canFrameRx c b f, .canFrameSent c o u v, .canBusOff c, .canErrorPassive c b u v, .busOffRecovery c, .busOffRecovered c, .restrictedEnter c, .restrictedLeave c], exec i s = .fault .noSuchUnit) ∧
    (∀ p a b k, s.dev.hasEth p = false → ∀ i ∈ [Instr.ethLinkChange p a b, .ethFrameRx p k, .addressConflict p], exec i s = .fault .noSuchUnit) ∧
    (∀ c, s.dev.hasCan c = true →
      (∀ f, ∃ t, exec (.canFrameRx c true f) s = .next t ∧ t.dev.eventPending (326 + 8 * c) = true ∧ t.dev.cans = s.dev.cans ∧ RegsKept [] s.dev t.dev ∧ DevOnly s t) ∧
      (∀ f, s.dev.follows = false → ∃ t, exec (.canFrameRx c false f) s = .next t ∧
        t.dev.fld (A.canStat c) 15 8 = if s.dev.fld (A.canStat c) 15 8 ≤ 127 then s.dev.fld (A.canStat c) 15 8 - 1 else s.dev.fld (A.canStat c) 15 8) ∧
      (∀ f, s.dev.profileFrame c f = none → ∃ t, exec (.canFrameRx c false f) s = .next t ∧ RegsKept [A.canStat c] s.dev t.dev ∧ DevOnly s t ∧
        (s.dev.authority = true → (t.dev.can c).waiting = (s.dev.can c).waiting ++ [(f, max s.dev.time.now f.t)]) ∧
        (s.dev.authority = false → (t.dev.can c).seen = (s.dev.can c).seen ++ [(f, max s.dev.time.now f.t)])) ∧
      (∀ f, s.dev.profileFrame c f = some true → ∃ t, exec (.canFrameRx c false f) s = .next t ∧ RegsKept [A.canStat c] s.dev t.dev ∧ t.dev.cans = s.dev.cans ∧ DevOnly s t) ∧
      (∀ f, s.dev.profileFrame c f = some false → s.dev.follows = true → exec (.canFrameRx c false f) s = .next { s with dev := s.dev.at f.t }) ∧
      (∀ f, s.dev.profileFrame c f = some false → s.dev.follows = false → ∃ t, exec (.canFrameRx c false f) s = .next t ∧ t.dev.reg (A.canRxlost c) = satInc (s.dev.reg (A.canRxlost c)) ∧ t.dev.cans = s.dev.cans ∧ DevOnly s t) ∧
      (∀ o u v, s.dev.canState c < 2 → s.dev.follows = false → (s.dev.can c).ropMode = false → ((s.dev.can c).obj o).pend ≠ none → (s.dev.can c).outranked o u = false → ∃ t, exec (.canFrameSent c o u v) s = .next t ∧
        (t.dev.can c).obj o = CanObj.complete u ((s.dev.can c).obj o) ∧ (∀ k, k ≠ o → (t.dev.can c).obj k = (s.dev.can c).obj k) ∧ RegsKept [A.canStat c] s.dev t.dev ∧ DevOnly s t) ∧
      (∀ o u v, 2 ≤ s.dev.canState c ∨ s.dev.follows = true ∨ (s.dev.can c).ropMode = true ∨ ((s.dev.can c).obj o).pend = none ∨ (s.dev.can c).outranked o u = true → exec (.canFrameSent c o u v) s = .next s) ∧
      (s.dev.canState c = 2 ∨ s.dev.follows = true → exec (.canBusOff c) s = .next s) ∧
      (s.dev.canState c ≠ 2 → s.dev.follows = false → ∃ t, exec (.canBusOff c) s = .next t ∧ t.dev.canState c = 2 ∧ t.dev.eventPending (320 + 8 * c) = true ∧ RegsKept [A.canStat c] s.dev t.dev ∧ DevOnly s t) ∧
      (∀ b u v, s.dev.canState c = 1 - b2n b → s.dev.follows = false → ∃ t, exec (.canErrorPassive c b u v) s = .next t ∧ t.dev.canState c = b2n b ∧ t.dev.fld (A.canStat c) 15 8 = u % 256 ∧
        t.dev.fld (A.canStat c) 7 0 = v % 256 ∧ t.dev.eventPending (321 + 8 * c) = true ∧ RegsKept [A.canStat c] s.dev t.dev ∧ DevOnly s t) ∧
      (∀ b u v, s.dev.canState c ≠ 1 - b2n b ∨ s.dev.follows = true → exec (.canErrorPassive c b u v) s = .next s) ∧
      (s.dev.canState c = 2 → ∃ t, exec (.busOffRecovery c) s = .next t ∧ t.dev.canState c = 3 ∧ (∀ a, a ≠ A.canStat c → t.dev.reg a = s.dev.reg a) ∧ PlantOnly s t) ∧
      (s.dev.canState c ≠ 2 → exec (.busOffRecovery c) s = .next s) ∧
      (s.dev.canState c = 3 → s.dev.follows = false → ∃ t, exec (.busOffRecovered c) s = .next t ∧ t.dev.canState c = 0 ∧ t.dev.fld (A.canStat c) 15 0 = 0 ∧ t.dev.eventPending (320 + 8 * c) = true ∧ DevOnly s t) ∧
      (s.dev.canState c ≠ 3 ∨ s.dev.follows = true → exec (.busOffRecovered c) s = .next s) ∧
      (∃ t, exec (.restrictedEnter c) s = .next t ∧ t.dev.rbit (A.canStat c) 29 = true ∧ (t.dev.can c).ropMode = true ∧ DevOnly s t) ∧
      (∃ t, exec (.restrictedLeave c) s = .next t ∧ t.dev.rbit (A.canStat c) 29 = false ∧ (t.dev.can c).ropMode = false ∧ DevOnly s t)) ∧
    (s.dev.dispatches s.dev.topo.dispCtl = false → ∀ m r, ∀ i ∈ [Instr.profileHello m, .heartbeat, .profileRequest r, .profileWithdraw r, .profileReportSend, .ptoExpiry], exec i s = .next s) ∧
    (s.dev.dispatches s.dev.topo.dispCtl = true → s.dev.follows = true → exec .heartbeat s = .next s ∧
      (s.dev.pstate ≠ 2 → ∀ m r, ∀ i ∈ [Instr.profileHello m, .profileRequest r, .profileWithdraw r], exec i s = .next s)) ∧
    (s.dev.dispatches s.dev.topo.dispCtl = true →
      (∀ m, s.dev.follows = false → ∃ t, exec (.profileHello m) s = .next t ∧ t.dev.disp.ver = chooseVer m s.dev.topo.pmax ∧ t.dev.disp.ptoOut = false ∧ t.dev.disp.lastT = s.dev.time.now ∧ DevOnly s t) ∧
      (s.dev.follows = false → ∃ t, exec .heartbeat s = .next t ∧ t.dev.disp.ptoOut = false ∧ t.dev.disp.lastT = s.dev.time.now ∧ RegsKept [] s.dev t.dev ∧ DevOnly s t) ∧
      (∀ r : PcsReq, s.dev.disp.ver ≠ 0 → s.dev.authority = true → s.dev.disp.lastSeq ≠ some r.seq →
        (badPcs { r with withdraw := false } = false → ∃ t, exec (.profileRequest r) s = .next t ∧ t.dev.disp.lastSeq = some r.seq ∧
          t.dev.rep.pcsQ = s.dev.rep.pcsQ ++ [(s.dev.reportDue, { r with withdraw := false })] ∧ DevOnly s t) ∧
        (badPcs { r with withdraw := true } = false → ∃ t, exec (.profileWithdraw r) s = .next t ∧ t.dev.disp.lastSeq = some r.seq ∧
          t.dev.rep.pcsQ = s.dev.rep.pcsQ ++ [(s.dev.reportDue, { r with withdraw := true })] ∧ DevOnly s t)) ∧
      (∃ t, exec .profileReportSend s = .next t ∧ t.dev.disp.scansTo = (if s.dev.topo.pdiv ≤ s.dev.disp.scansTo + 1 then 0 else s.dev.disp.scansTo + 1) ∧ t.dev.regs = s.dev.regs ∧ DevOnly s t) ∧
      (s.dev.disp.ptoOut = true → exec .ptoExpiry s = .next s) ∧
      (s.dev.disp.ptoOut = false → ∃ t, exec .ptoExpiry s = .next t ∧ t.dev.disp.ptoOut = true ∧ t.dev.rep.chg = none ∧ t.dev.rep.dis = none ∧
        t.dev.eventPending (327 + 8 * s.dev.topo.dispCtl) = true ∧ DevOnly s t)) ∧
    (∀ p, s.dev.hasEth p = true →
      (∀ b k, ∃ t, exec (.ethLinkChange p b k) s = .next t ∧ t.dev.rbit (A.ethStat p) 31 = b ∧ (s.dev.rbit (A.ethStat p) 31 ≠ b → t.dev.eventPending (352 + p) = true) ∧
        RegsKept [A.ethStat p] s.dev t.dev ∧ DevOnly s t) ∧
      (∀ k, k ∈ [EthKind.arp, .icmp4Echo, .icmp6, .ptp] → exec (.ethFrameRx p k) s = .next s) ∧
      (∃ t, exec (.ethFrameRx p .dhcpLease) s = .next t ∧ t.dev.rbit (A.ethStat p) 27 = true ∧ PlantOnly s t) ∧
      (∃ t, exec (.ethFrameRx p .tcpClose) s = .next t ∧ t.dev.fld (A.ethStat p) 6 0 = s.dev.fld (A.ethStat p) 6 0 - 1 ∧ PlantOnly s t) ∧
      (72 ≤ s.dev.fld (A.ethStat 0) 6 0 + s.dev.fld (A.ethStat 1) 6 0 → exec (.ethFrameRx p .tcpOpen) s = .next s) ∧
      (∃ t, exec (.ethFrameRx p .other) s = .next t ∧ t.dev.reg A.ethDrop = satInc (s.dev.reg A.ethDrop) ∧ DevOnly s t) ∧
      (s.dev.fld (A.ethStat 0) 6 0 + s.dev.fld (A.ethStat 1) 6 0 < 72 → ∃ t, exec (.ethFrameRx p .tcpOpen) s = .next t ∧
        t.dev.fld (A.ethStat p) 6 0 = s.dev.fld (A.ethStat p) 6 0 + 1 ∧ PlantOnly s t) ∧
      (∃ t, exec (.addressConflict p) s = .next t ∧ t.dev.rbit (A.ethStat p) 26 = true ∧ t.dev.eventPending 356 = true ∧ RegsKept [A.ethStat p] s.dev t.dev ∧ DevOnly s t)) ∧
    (s.dev.follows = true → (∀ g u, exec (.ptpSyncRx g u) s = .next s) ∧ exec .ptpSyncLoss s = .next s) ∧
    (∀ g u, s.dev.follows = false → ∃ t, exec (.ptpSyncRx g u) s = .next t ∧ t.dev.rbit A.ethPtp 31 = true ∧ t.dev.rbit A.ethPtp 30 = true ∧ t.dev.fld A.ethPtp 15 0 = u % 65536 ∧
      t.dev.eth.offset = (g : Int) - u * 1000000000 - s.dev.time.now ∧ RegsKept [A.ethPtp] s.dev t.dev ∧ DevOnly s t) ∧
    (s.dev.eth.offsetOk = false → exec .utcTimeout s = .next s) ∧
    (s.dev.eth.offsetOk = true → ∃ t, exec .utcTimeout s = .next t ∧ t.dev.eth.offsetOk = false ∧ t.dev.rbit A.ethPtp 30 = false ∧ DevOnly s t) ∧
    (s.dev.follows = false → ∃ t, exec .ptpSyncLoss s = .next t ∧ t.dev.rbit A.ethPtp 31 = false ∧ (s.dev.rbit A.ethPtp 31 = true → t.dev.eventPending 354 = true) ∧ RegsKept [A.ethPtp] s.dev t.dev ∧ DevOnly s t)

/-- Row repair, bank retirement, scrubbing, march tests and the Growth log. A bank that is not one of the 43 is a fault. Row repair uses one more spare row with event 361, unless the bank is retired or has none left. Retirement marks the bank with event 363 and happens once. ARINGS takes the least of the operand and the two twins' values. A scrub pass adds its corrected errors to MEM.CECNT and raises event 368, and event 360 when it found uncorrectable ones; none ends while scrubbing pauses. A running preserving test redirects to the swap bank and back. Each running bank's test end moves to the next bank with event 362. LOG_RECORD_WRITE appends the oldest queued record and writes its entries in the log's area; a word that fails makes the record bad, with event 365. An event's window ends, or goes on when events came in it. -/
def Obligations.MemoryAndLogUnits : Prop :=
  ∀ s : State,
    (∀ b r, 43 ≤ b → exec (.rowRepairSwitch b r) s = .fault .noSuchUnit ∧ exec (.bankRetire b) s = .fault .noSuchUnit) ∧
    (∀ b r, b < 43 → (s.dev.bank b).st = 4 ∨ 8 ≤ (s.dev.bank b).rows → exec (.rowRepairSwitch b r) s = .next s) ∧
    (∀ b r, b < 43 → (s.dev.bank b).st ≠ 4 → (s.dev.bank b).rows < 8 → ∃ t, exec (.rowRepairSwitch b r) s = .next t ∧
      (t.dev.bank b).rows = (s.dev.bank b).rows + 1 ∧ (t.dev.bank b).st = (s.dev.bank b).st ∧ (∀ k, k ≠ b → t.dev.bank k = s.dev.bank k) ∧ t.dev.eventPending 361 = true ∧ RegsKept [] s.dev t.dev ∧ DevOnly s t) ∧
    (∀ b, b < 43 → (s.dev.bank b).st = 4 → exec (.bankRetire b) s = .next s) ∧
    (∀ b, b < 43 → (s.dev.bank b).st ≠ 4 → ∃ t, exec (.bankRetire b) s = .next t ∧ (t.dev.bank b).st = 4 ∧ t.dev.eventPending 363 = true ∧ DevOnly s t) ∧
    (∀ n, ∃ t, exec (.aringsApply n) s = .next t ∧ t.dev.arings = (min n (min s.dev.ownArings s.dev.twin.arings)) % 64 ∧ DevOnly s t) ∧
    (s.dev.rbit A.thermStat 31 = true → ∀ c u, exec (.scrubPassEnd c u) s = .next s) ∧
    (∀ c u, s.dev.rbit A.thermStat 31 = false → ∃ t, exec (.scrubPassEnd c u) s = .next t ∧ t.dev.reg A.memCecnt = BitVec.ofNat 32 (min ((s.dev.reg A.memCecnt).toNat + c) 0xFFFFFFFF) ∧
      (0 < u → t.dev.eventPending 360 = true) ∧ t.dev.eventPending 368 = true ∧ DevOnly s t) ∧
    (s.dev.ram.running = false ∨ s.dev.ram.destructive = true ∨ (s.dev.bank 42).st = 4 → exec .preservingRedirect s = .next s) ∧
    (s.dev.ram.running = true → s.dev.ram.destructive = false → (s.dev.bank 42).st ≠ 4 → ∃ t, exec .preservingRedirect s = .next t ∧
      t.dev = { s.dev with ram := { s.dev.ram with redirected := true } } ∧ DevOnly s t) ∧
    (∃ t, exec .preservingReturn s = .next t ∧ t.dev = { s.dev with ram := { s.dev.ram with redirected := false } } ∧ DevOnly s t) ∧
    (s.dev.ram.queue = [] ∨ s.dev.ram.running = false → ∀ f, exec (.marchTestEnd f) s = .next s) ∧
    (∀ b l f, s.dev.ram.queue = b :: l → s.dev.ram.running = true → ∃ t, exec (.marchTestEnd f) s = .next t ∧ t.dev.ram.queue = l ∧ t.dev.ram.redirected = false ∧
      t.dev.eventPending 362 = true ∧ RegsKept [A.memTstat] s.dev t.dev ∧ DevOnly s t) ∧
    (s.dev.log.queue = [] → ∀ k, exec (.logRecordWrite k) s = .next s) ∧
    (∀ r l, s.dev.log.queue = r :: l → ∃ t, exec (.logRecordWrite none) s = .next t ∧ t.dev.log.queue = l ∧ t.dev.log.nextSeq = seqAfter s.dev.log.nextSeq ∧
      t.dev.log.recs = trimLog 131072 (s.dev.log.recs ++ [{ r with seq := s.dev.log.nextSeq, bad := false }]) ∧ t.dev.regs = s.dev.regs ∧ t.pending = s.pending ∧ BytesKept 0x20400000 0x400000 s t ∧
      (r.conts = [] → ∀ j, j < 32 → t.byte (logAddr s.dev.log.pos + j) = BitVec.ofNat 8 ((LogRec.entryBytes { r with seq := s.dev.log.nextSeq }).flatten.getD j 0))) ∧
    (∀ r l k, s.dev.log.queue = r :: l → ∃ t, exec (.logRecordWrite (some k)) s = .next t ∧ t.dev.log.nextSeq = seqAfter s.dev.log.nextSeq ∧ t.dev.eventPending 365 = true ∧
      t.dev.log.recs = trimLog 131072 (s.dev.log.recs ++ [{ r with seq := s.dev.log.nextSeq, bad := true }]) ∧ RegsKept [] s.dev t.dev ∧ t.pending = s.pending ∧ BytesKept 0x20400000 0x400000 s t) ∧
    (∀ e, FMap.get (fun _ => none) s.dev.log.wins e = none → exec (.eventWindowEnd e) s = .next s) ∧
    (∀ e w, FMap.get (fun _ => none) s.dev.log.wins e = some w → w.count = 0 → ∃ t, exec (.eventWindowEnd e) s = .next t ∧
      FMap.get (fun _ => none) t.dev.log.wins e = none ∧ t.dev.regs = s.dev.regs ∧ DevOnly s t) ∧
    (∀ e w, FMap.get (fun _ => none) s.dev.log.wins e = some w → w.count ≠ 0 → s.dev.log.used + 1 ≤ 224 → ∃ t, exec (.eventWindowEnd e) s = .next t ∧
      t.dev.log.queue.length = s.dev.log.queue.length + 1 ∧ t.dev.regs = s.dev.regs ∧ DevOnly s t) ∧
    (s.dev.rbit A.ethPtp 30 = false → exec .timeRecord s = .next s) ∧
    (s.dev.rbit A.ethPtp 30 = true → s.dev.log.used + 1 ≤ 224 → ∃ t, exec .timeRecord s = .next t ∧ t.dev.log.queue.length = s.dev.log.queue.length + 1 ∧ t.dev.regs = s.dev.regs ∧ DevOnly s t)

/-- Reset and its release, supplies, clocks, WATCH and the thermal monitor. A device in reset leaves it only out of STORAGE and after a thermal shutdown has ended; the release starts in BOOT, keeps every byte from 0x01400000 up and clears the SRAM (the model's choice, log entry 1). BOOT_COMPLETE starts scans. A rail fault other than VAON's, VAUX below its reset level and a lost clock of a single-use device put the device in reset. VAUX at its reset level also turns every load switch channel off until the limp-home map loads again. The warning level sets VWARN and starts TVSD, and recovery clears both. A wake leaves STORAGE. WATCH is entered when the device is idle and the topology allows it, in an agreed pair at the stamped boundary. The shutdown element's start puts the device in reset. THERM shows the hottest sensor; the second stage sets FURTHER with event 7, once. -/
def Obligations.PowerCommands : Prop :=
  ∀ s : State,
    (s.dev.pwr.inReset = false ∨ s.dev.pwr.storeMark = true ∨ s.dev.pwr.shut = true → ∀ a b, exec (.resetRelease a b) s = .next s) ∧
    (s.dev.pwr.inReset = true → s.dev.pwr.storeMark = false → s.dev.pwr.shut = false → ∀ a b, ∃ t, exec (.resetRelease a b) s = .next t ∧
      t.dev.pwr.inReset = false ∧ t.dev.pstate = 7 ∧ t.dev.fld A.sysStrap 1 0 = (if s.dev.rbit A.sysUnitmap 9 then a % 4 else 0) ∧ t.dev.reg A.sysUnitmap = s.dev.reg A.sysUnitmap ∧
      (∀ n, causeEvent (resetCause s.dev.pwr.cause) = some n → t.dev.eventPending n = true) ∧ t.dev.rbit A.sysStrap 2 = b ∧ t.pending = s.pending ∧
      (∀ k, 0x01400000 ≤ k → t.byte k = s.byte k) ∧ (∀ k, k < 0x01400000 → t.byte k = 0)) ∧
    (s.dev.pstate ≠ 7 ∨ s.dev.pwr.inReset = true ∨ s.dev.hwd.recovery = true → exec .bootComplete s = .next s) ∧
    (s.dev.pstate = 7 → s.dev.pwr.inReset = false → s.dev.hwd.recovery = false → s.dev.fld A.sysStrap 1 0 ≠ 3 → s.dev.rbit A.sysStrap 2 = false →
      ∃ t, exec .bootComplete s = .next t ∧ t.dev.time.scanning = true ∧ DevOnly s t) ∧
    (∀ i, 7 ≤ i → exec (.railFault i) s = .fault .noSuchUnit) ∧
    (exec (.railFault 1) s = .next s) ∧
    (∀ i, i < 7 → s.dev.pwr.inReset = true → exec (.railFault i) s = .next s) ∧
    (∀ i, i < 7 → i ≠ 1 → s.dev.pwr.inReset = false → ∃ t, exec (.railFault i) s = .next t ∧ t.dev.pwr.inReset = true ∧
      t.dev.pwr.cause = s.dev.pwr.cause ||| 4 ∧ t.dev.pwr.rail = s.dev.pwr.rail ||| 2 ^ i ∧ t.dev.ctl.pwm = [] ∧ DevOnly s t) ∧
    (s.dev.pwr.inReset = true → ∀ mv, exec (.vauxWarning mv) s = .next s) ∧
    (s.dev.pwr.inReset = false → ∀ mv, ∃ t, exec (.vauxWarning mv) s = .next t ∧ t.dev.fld A.pwrStat 15 0 = min mv 65535 ∧ t.dev.rbit A.pwrStat 23 = true ∧
      t.dev.rbit A.pwrStat 21 = true ∧ (s.dev.rbit A.pwrStat 23 = false → t.dev.eventPending 1 = true) ∧ RegsKept [A.pwrStat] s.dev t.dev ∧ DevOnly s t) ∧
    (s.dev.pwr.inReset = false → ∀ mv, ∃ t, exec (.vauxRecovery mv) s = .next t ∧ t.dev.rbit A.pwrStat 23 = false ∧ t.dev.rbit A.pwrStat 21 = false ∧ DevOnly s t) ∧
    (s.dev.pwr.inReset = true → ∀ mv, exec (.vauxRecovery mv) s = .next { s with dev := s.dev.setVaux mv }) ∧
    (∀ mv, ∃ t, exec (.vauxReset mv) s = .next t ∧ t.dev.pwr.inReset = true ∧ t.dev.pwr.cause = (if s.dev.pwr.inReset then s.dev.pwr.cause else s.dev.pwr.cause ||| 2) ∧
      t.dev.lh.loaded = false ∧ t.dev.fld A.pwrStat 15 0 = min mv 65535 ∧ (∀ n, n < 32 → (t.dev.chan n).on = false) ∧ DevOnly s t) ∧
    (∀ i b, (i, b) ∈ [(Instr.vaonLost, true), (.vaonReturn, false)] → ∃ t, exec i s = .next t ∧ t.dev.rbit A.pwrStat 20 = b ∧
      (s.dev.rbit A.pwrStat 20 ≠ b → t.dev.eventPending 13 = true) ∧ RegsKept [A.pwrStat] s.dev t.dev ∧ DevOnly s t) ∧
    (∀ p n, p < 2 → 2000 < n → ∃ t, exec (.coreDroop p n) s = .next t ∧ t.dev.reg A.pwrDroop = satInc (s.dev.reg A.pwrDroop) ∧ t.dev.eventPending 3 = true ∧ DevOnly s t) ∧
    (∀ p n, n ≤ 2000 → exec (.coreDroop p n) s = .next s) ∧
    (∀ i e, (i, e) ∈ [(Instr.pllFail, 11), (.oscFail, 12)] → (s.dev.pwr.inReset = true → exec i s = .next s) ∧
      (s.dev.pwr.inReset = false → s.dev.isTwin = false → ∃ t, exec i s = .next t ∧ t.dev.pwr.inReset = true ∧ t.dev.pwr.cause = s.dev.pwr.cause ||| 16 ∧ t.dev.eventPending e = true ∧ DevOnly s t)) ∧
    (s.dev.idle = false ∨ s.dev.topo.twatch = 0 → exec .watchEntry s = .next s) ∧
    (s.dev.idle = true → 0 < s.dev.topo.twatch → s.dev.rbit A.protStat 31 = false → s.dev.agreed = false → ∃ t, exec .watchEntry s = .next t ∧ t.dev.pstate = 2 ∧ t.dev.eventPending 0 = true ∧ DevOnly s t) ∧
    (s.dev.idle = true → 0 < s.dev.topo.twatch → s.dev.agreed = true → (s.dev.authority = false → exec .watchEntry s = .next s) ∧
      (s.dev.authority = true → ∃ t, exec .watchEntry s = .next t ∧ t.dev.pwr.stDue = some (s.dev.stampDue, 2) ∧ t.dev.regs = s.dev.regs ∧ DevOnly s t)) ∧
    (∀ i b, (i, b) ∈ [(Instr.watchPllStart, true), (.watchPllStop, false)] → (s.dev.pstate ≠ 2 → exec i s = .next s) ∧
      (s.dev.pstate = 2 → exec i s = .next { s with dev := { s.dev with pwr := { s.dev.pwr with watchPll := b } } })) ∧
    (∀ i k, (i, k) ∈ [(Instr.wakeBusWake, 64), (.serviceKeyWake, 128)] → (s.dev.pwr.storeMark = false → exec i s = .next s) ∧
      (s.dev.pwr.storeMark = true → ∃ t, exec i s = .next t ∧ t.dev.pwr.storeMark = false ∧ t.dev.pwr.pwrEn = true ∧ t.dev.pwr.cause = s.dev.pwr.cause ||| k ∧ t.dev.regs = s.dev.regs ∧ DevOnly s t)) ∧
    (exec (.thermalSample []) s = .next s) ∧
    (∀ a l, ∃ t, exec (.thermalSample (a :: l)) s = .next t ∧ t.dev.fld A.thermStat 15 0 = toU 16 (l.foldl max a) ∧ t.dev.pwr.cold = decide (l.foldl max a < -4000) ∧ DevOnly s t ∧
      ((thermStep 13500 (l.foldl max a) s.dev.pwr.cnt135 s.dev.pwr.act135).2 = true → s.dev.pwr.act135 = false → t.dev.pwr.inReset = true ∧ t.dev.pwr.shut = true)) ∧
    (s.dev.pwr.act110 = true → s.dev.rbit A.thermStat 31 = true → s.dev.rbit A.thermStat 30 = false → ∃ t, exec .thermalEnforce s = .next t ∧
      t.dev.rbit A.thermStat 30 = true ∧ t.dev.rbit A.hwdStat 28 = true ∧ t.dev.eventPending 7 = true ∧ RegsKept [A.thermStat, A.hwdStat] s.dev t.dev ∧ DevOnly s t) ∧
    (s.dev.pwr.act110 = false ∨ s.dev.rbit A.thermStat 31 = false ∨ s.dev.rbit A.thermStat 30 = true → exec .thermalEnforce s = .next s) ∧
    (exec .thermalRestart s = .next { s with dev := { s.dev with pwr := { s.dev.pwr with shut := false } } }) ∧
    (∃ t, exec .sensorDiff s = .next t ∧ t.dev.rbit A.thermStat 29 = true ∧ t.dev.eventPending 9 = true ∧ RegsKept [A.thermStat] s.dev t.dev ∧ DevOnly s t)

end
end

