-- ==== Sys2Proof/Laws/Map.lean ====
section
/-! SUPPORT. Laws of the sparse tables: what a write changes and what it leaves, on every table, and that the canonical form is kept. -/

namespace Sys2Proof.Machine

variable {α : Type}

theorem FMap.get_put_same (d : Nat → α) (m : FMap α) (k : Nat) (x : α) : FMap.get d (FMap.put m k x) k = x := by
  induction m with
  | nil => simp [FMap.put, FMap.get]
  | cons p rest ih =>
    obtain ⟨j, v⟩ := p
    unfold FMap.put
    by_cases h : j = k
    · simp [h, FMap.get]
    · by_cases h2 : k < j
      · simp [h, h2, FMap.get]
      · simp [h, h2, FMap.get, ih]

theorem FMap.get_put_other (d : Nat → α) (m : FMap α) {k k' : Nat} (x : α) (hk : k' ≠ k) :
    FMap.get d (FMap.put m k x) k' = FMap.get d m k' := by
  have hk' : ¬ k = k' := fun h => hk h.symm
  induction m with
  | nil => by_cases h : k' < k <;> simp [FMap.put, FMap.get, hk', h]
  | cons p rest ih =>
    obtain ⟨j, v⟩ := p
    unfold FMap.put
    by_cases h : j = k
    · subst h; simp [FMap.get, hk']
    · by_cases h2 : k < j
      · by_cases h3 : k' < k
        · have : ¬ j = k' := by omega
          have : k' < j := by omega
          simp [FMap.get, *]
        · simp [h, h2, FMap.get, hk', h3]
      · simp [h, h2, FMap.get, ih]

theorem FMap.get_filter_above (d : Nat → α) (m : FMap α) {k k' : Nat} (h : k < k') :
    FMap.get d (m.filter (fun p => decide (k < p.1))) k' = FMap.get d m k' := by
  induction m with
  | nil => rfl
  | cons p rest ih =>
    obtain ⟨j, v⟩ := p
    by_cases h1 : k < j
    · simp [h1, FMap.get, ih]
    · have h2 : ¬ j = k' := by omega
      have h3 : ¬ k' < j := by omega
      simp [h1, FMap.get, h2, h3, ih]

theorem FMap.get_filter_below (d : Nat → α) (m : FMap α) {k k' : Nat} (h : k' ≤ k) :
    FMap.get d (m.filter (fun p => decide (k < p.1))) k' = d k' := by
  induction m with
  | nil => rfl
  | cons p rest ih =>
    obtain ⟨j, v⟩ := p
    by_cases h1 : k < j
    · have h2 : ¬ j = k' := by omega
      have h3 : k' < j := by omega
      simp [h1, FMap.get, h2, h3]
    · simp [h1, ih]

theorem FMap.get_del_same (d : Nat → α) (m : FMap α) (k : Nat) : FMap.get d (FMap.del m k) k = d k := by
  induction m with
  | nil => rfl
  | cons p rest ih =>
    obtain ⟨j, v⟩ := p
    unfold FMap.del
    by_cases h : j = k
    · simp only [h, if_true]
      exact FMap.get_filter_below d rest (Nat.le_refl k)
    · by_cases h2 : k < j <;> simp [h, h2, FMap.get, ih]

theorem FMap.get_del_other (d : Nat → α) (m : FMap α) {k k' : Nat} (hk : k' ≠ k) :
    FMap.get d (FMap.del m k) k' = FMap.get d m k' := by
  induction m with
  | nil => rfl
  | cons p rest ih =>
    obtain ⟨j, v⟩ := p
    unfold FMap.del
    by_cases h : j = k
    · subst h
      have h1 : ¬ j = k' := fun e => hk e.symm
      by_cases h3 : k' < j
      · simp [FMap.get, h1, h3, FMap.get_filter_below d rest (Nat.le_of_lt h3)]
      · have : j < k' := by omega
        simp [FMap.get, h1, h3, FMap.get_filter_above d rest this]
    · by_cases h2 : k < j <;> simp [h, h2, FMap.get, ih]

variable [DecidableEq α]

/-- A write is read back. -/
@[simp] theorem FMap.get_set_same (d : Nat → α) (m : FMap α) (k : Nat) (x : α) : FMap.get d (FMap.set d m k x) k = x := by
  unfold FMap.set
  by_cases h : x = d k
  · simp [h, FMap.get_del_same]
  · simp [h, FMap.get_put_same]

/-- A write leaves every other key. -/
theorem FMap.get_set_other (d : Nat → α) (m : FMap α) {k k' : Nat} (x : α) (hk : k' ≠ k) :
    FMap.get d (FMap.set d m k x) k' = FMap.get d m k' := by
  unfold FMap.set
  by_cases h : x = d k
  · simp [h, FMap.get_del_other d m hk]
  · simp [h, FMap.get_put_other d m x hk]

/-- A write, read anywhere. -/
theorem FMap.get_set (d : Nat → α) (m : FMap α) (k k' : Nat) (x : α) :
    FMap.get d (FMap.set d m k x) k' = if k' = k then x else FMap.get d m k' := by
  by_cases h : k' = k
  · simp [h]
  · simp [h, FMap.get_set_other d m x h]

theorem FMap.wfFrom_mono (d : Nat → α) {lo lo' : Nat} (m : FMap α) (h : lo' ≤ lo) (w : FMap.wfFrom d lo m = true) :
    FMap.wfFrom d lo' m = true := by
  cases m with
  | nil => rfl
  | cons p rest =>
    obtain ⟨j, v⟩ := p
    simp only [FMap.wfFrom, Bool.and_eq_true, decide_eq_true_eq] at w ⊢
    exact ⟨⟨by omega, w.1.2⟩, w.2⟩

theorem FMap.wfFrom_filter (d : Nat → α) {lo : Nat} (k : Nat) (m : FMap α) (w : FMap.wfFrom d lo m = true) :
    FMap.wfFrom d lo (m.filter (fun p => decide (k < p.1))) = true := by
  induction m generalizing lo with
  | nil => rfl
  | cons p rest ih =>
    obtain ⟨j, v⟩ := p
    simp only [FMap.wfFrom, Bool.and_eq_true, decide_eq_true_eq] at w
    by_cases h : k < j
    · simp only [h, decide_true, List.filter_cons_of_pos, FMap.wfFrom, Bool.and_eq_true, decide_eq_true_eq]
      exact ⟨w.1, ih w.2⟩
    · simp only [h, decide_false, Bool.false_eq_true, not_false_eq_true, List.filter_cons_of_neg]
      exact FMap.wfFrom_mono d _ (by omega) (ih w.2)

theorem FMap.wfFrom_del (d : Nat → α) {lo : Nat} (m : FMap α) (k : Nat) (w : FMap.wfFrom d lo m = true) :
    FMap.wfFrom d lo (FMap.del m k) = true := by
  induction m generalizing lo with
  | nil => rfl
  | cons p rest ih =>
    obtain ⟨j, v⟩ := p
    have w' := w
    simp only [FMap.wfFrom, Bool.and_eq_true, decide_eq_true_eq] at w
    unfold FMap.del
    by_cases h : j = k
    · simp only [h, if_true]
      exact FMap.wfFrom_mono d _ (by omega) (FMap.wfFrom_filter d k rest w.2)
    · by_cases h2 : k < j
      · simp only [h, h2, if_false, if_true]
        exact w'
      · simp only [h, h2, if_false, FMap.wfFrom, Bool.and_eq_true, decide_eq_true_eq]
        exact ⟨w.1, ih w.2⟩

theorem FMap.wfFrom_put (d : Nat → α) {lo : Nat} (m : FMap α) (k : Nat) (x : α) (hk : lo ≤ k) (hx : x ≠ d k)
    (w : FMap.wfFrom d lo m = true) : FMap.wfFrom d lo (FMap.put m k x) = true := by
  induction m generalizing lo with
  | nil => simp [FMap.put, FMap.wfFrom, hk, hx]
  | cons p rest ih =>
    obtain ⟨j, v⟩ := p
    simp only [FMap.wfFrom, Bool.and_eq_true, decide_eq_true_eq] at w
    unfold FMap.put
    by_cases h : j = k
    · subst h
      simp only [if_true, FMap.wfFrom, Bool.and_eq_true, decide_eq_true_eq]
      exact ⟨⟨hk, hx⟩, w.2⟩
    · by_cases h2 : k < j
      · simp only [h, h2, if_false, if_true, FMap.wfFrom, Bool.and_eq_true, decide_eq_true_eq]
        exact ⟨⟨hk, hx⟩, ⟨by omega, w.1.2⟩, w.2⟩
      · simp only [h, h2, if_false, FMap.wfFrom, Bool.and_eq_true, decide_eq_true_eq]
        exact ⟨w.1, ih (by omega) w.2⟩

/-- A write keeps the canonical form. -/
theorem FMap.wf_set (d : Nat → α) (m : FMap α) (k : Nat) (x : α) (w : FMap.wf d m = true) :
    FMap.wf d (FMap.set d m k x) = true := by
  unfold FMap.wf FMap.set
  by_cases h : x = d k
  · simp only [h, if_true]
    exact FMap.wfFrom_del d m k w
  · simp only [h, if_false]
    exact FMap.wfFrom_put d m k x (Nat.zero_le k) h w

/-- A change of one value keeps the canonical form. -/
theorem FMap.wf_upd (d : Nat → α) (m : FMap α) (k : Nat) (f : α → α) (w : FMap.wf d m = true) :
    FMap.wf d (FMap.upd d m k f) = true := FMap.wf_set d m k _ w

omit [DecidableEq α]

theorem foldOver_nil {σ : Type} (f : α → σ → σ) (s : σ) : foldOver [] f s = s := rfl

theorem foldOver_cons {σ : Type} (a : α) (l : List α) (f : α → σ → σ) (s : σ) : foldOver (a :: l) f s = foldOver l f (f a s) := rfl

/-- What every part of a fold keeps, the fold keeps. -/
theorem foldOver_keeps {σ : Type} (P : σ → Prop) (l : List α) (f : α → σ → σ) (s : σ) (h : ∀ a t, P t → P (f a t)) (hs : P s) :
    P (foldOver l f s) := by
  induction l generalizing s with
  | nil => exact hs
  | cons a rest ih => exact ih (f a s) (h a s hs)

end Sys2Proof.Machine
end

