-- ==== Sys2Proof/Laws/State.lean ====
section
/-! SUPPORT. One lemma for each field under each basic update of the device: what the update leaves. -/

namespace Sys2Proof.Machine
open Sys2Proof

@[simp] theorem State.onDev_dev (f : Dev → Dev) (s : State) : (s.onDev f).dev = f s.dev := rfl
@[simp] theorem State.onDev_mem (f : Dev → Dev) (s : State) : (s.onDev f).mem = s.mem := rfl
@[simp] theorem State.onDev_pending (f : Dev → Dev) (s : State) : (s.onDev f).pending = s.pending := rfl

/-! `Dev.setReg` changes regs only. -/

@[simp] theorem Dev.setReg_time (d : Dev) (a : Nat) (v : Word) : (d.setReg a v).time = d.time := rfl
@[simp] theorem Dev.setReg_k0 (d : Dev) (a : Nat) (v : Word) : (d.setReg a v).k0 = d.k0 := rfl
@[simp] theorem Dev.setReg_k1 (d : Dev) (a : Nat) (v : Word) : (d.setReg a v).k1 = d.k1 := rfl
@[simp] theorem Dev.setReg_k0b (d : Dev) (a : Nat) (v : Word) : (d.setReg a v).k0b = d.k0b := rfl
@[simp] theorem Dev.setReg_k1b (d : Dev) (a : Nat) (v : Word) : (d.setReg a v).k1b = d.k1b := rfl
@[simp] theorem Dev.setReg_pair0 (d : Dev) (a : Nat) (v : Word) : (d.setReg a v).pair0 = d.pair0 := rfl
@[simp] theorem Dev.setReg_pair1 (d : Dev) (a : Nat) (v : Word) : (d.setReg a v).pair1 = d.pair1 := rfl
@[simp] theorem Dev.setReg_pubs (d : Dev) (a : Nat) (v : Word) : (d.setReg a v).pubs = d.pubs := rfl
@[simp] theorem Dev.setReg_pubSet (d : Dev) (a : Nat) (v : Word) : (d.setReg a v).pubSet = d.pubSet := rfl
@[simp] theorem Dev.setReg_committed (d : Dev) (a : Nat) (v : Word) : (d.setReg a v).committed = d.committed := rfl
@[simp] theorem Dev.setReg_factZones0 (d : Dev) (a : Nat) (v : Word) : (d.setReg a v).factZones0 = d.factZones0 := rfl
@[simp] theorem Dev.setReg_factZones1 (d : Dev) (a : Nat) (v : Word) : (d.setReg a v).factZones1 = d.factZones1 := rfl
@[simp] theorem Dev.setReg_acq (d : Dev) (a : Nat) (v : Word) : (d.setReg a v).acq = d.acq := rfl
@[simp] theorem Dev.setReg_ports (d : Dev) (a : Nat) (v : Word) : (d.setReg a v).ports = d.ports := rfl
@[simp] theorem Dev.setReg_prot (d : Dev) (a : Nat) (v : Word) : (d.setReg a v).prot = d.prot := rfl
@[simp] theorem Dev.setReg_cnpy (d : Dev) (a : Nat) (v : Word) : (d.setReg a v).cnpy = d.cnpy := rfl
@[simp] theorem Dev.setReg_rep (d : Dev) (a : Nat) (v : Word) : (d.setReg a v).rep = d.rep := rfl
@[simp] theorem Dev.setReg_ctl (d : Dev) (a : Nat) (v : Word) : (d.setReg a v).ctl = d.ctl := rfl
@[simp] theorem Dev.setReg_lsw (d : Dev) (a : Nat) (v : Word) : (d.setReg a v).lsw = d.lsw := rfl
@[simp] theorem Dev.setReg_lh (d : Dev) (a : Nat) (v : Word) : (d.setReg a v).lh = d.lh := rfl
@[simp] theorem Dev.setReg_twin (d : Dev) (a : Nat) (v : Word) : (d.setReg a v).twin = d.twin := rfl
@[simp] theorem Dev.setReg_hwd (d : Dev) (a : Nat) (v : Word) : (d.setReg a v).hwd = d.hwd := rfl
@[simp] theorem Dev.setReg_cans (d : Dev) (a : Nat) (v : Word) : (d.setReg a v).cans = d.cans := rfl
@[simp] theorem Dev.setReg_disp (d : Dev) (a : Nat) (v : Word) : (d.setReg a v).disp = d.disp := rfl
@[simp] theorem Dev.setReg_eth (d : Dev) (a : Nat) (v : Word) : (d.setReg a v).eth = d.eth := rfl
@[simp] theorem Dev.setReg_ram (d : Dev) (a : Nat) (v : Word) : (d.setReg a v).ram = d.ram := rfl
@[simp] theorem Dev.setReg_log (d : Dev) (a : Nat) (v : Word) : (d.setReg a v).log = d.log := rfl
@[simp] theorem Dev.setReg_pwr (d : Dev) (a : Nat) (v : Word) : (d.setReg a v).pwr = d.pwr := rfl
@[simp] theorem Dev.setReg_img (d : Dev) (a : Nat) (v : Word) : (d.setReg a v).img = d.img := rfl
@[simp] theorem Dev.setReg_readData (d : Dev) (a : Nat) (v : Word) : (d.setReg a v).readData = d.readData := rfl
@[simp] theorem Dev.setReg_freeCnt (d : Dev) (a : Nat) (v : Word) : (d.setReg a v).freeCnt = d.freeCnt := rfl

/-! `Dev.setFld` changes regs only. -/

@[simp] theorem Dev.setFld_time (d : Dev) (a hi lo v : Nat) : (d.setFld a hi lo v).time = d.time := rfl
@[simp] theorem Dev.setFld_k0 (d : Dev) (a hi lo v : Nat) : (d.setFld a hi lo v).k0 = d.k0 := rfl
@[simp] theorem Dev.setFld_k1 (d : Dev) (a hi lo v : Nat) : (d.setFld a hi lo v).k1 = d.k1 := rfl
@[simp] theorem Dev.setFld_k0b (d : Dev) (a hi lo v : Nat) : (d.setFld a hi lo v).k0b = d.k0b := rfl
@[simp] theorem Dev.setFld_k1b (d : Dev) (a hi lo v : Nat) : (d.setFld a hi lo v).k1b = d.k1b := rfl
@[simp] theorem Dev.setFld_pair0 (d : Dev) (a hi lo v : Nat) : (d.setFld a hi lo v).pair0 = d.pair0 := rfl
@[simp] theorem Dev.setFld_pair1 (d : Dev) (a hi lo v : Nat) : (d.setFld a hi lo v).pair1 = d.pair1 := rfl
@[simp] theorem Dev.setFld_pubs (d : Dev) (a hi lo v : Nat) : (d.setFld a hi lo v).pubs = d.pubs := rfl
@[simp] theorem Dev.setFld_pubSet (d : Dev) (a hi lo v : Nat) : (d.setFld a hi lo v).pubSet = d.pubSet := rfl
@[simp] theorem Dev.setFld_committed (d : Dev) (a hi lo v : Nat) : (d.setFld a hi lo v).committed = d.committed := rfl
@[simp] theorem Dev.setFld_factZones0 (d : Dev) (a hi lo v : Nat) : (d.setFld a hi lo v).factZones0 = d.factZones0 := rfl
@[simp] theorem Dev.setFld_factZones1 (d : Dev) (a hi lo v : Nat) : (d.setFld a hi lo v).factZones1 = d.factZones1 := rfl
@[simp] theorem Dev.setFld_acq (d : Dev) (a hi lo v : Nat) : (d.setFld a hi lo v).acq = d.acq := rfl
@[simp] theorem Dev.setFld_ports (d : Dev) (a hi lo v : Nat) : (d.setFld a hi lo v).ports = d.ports := rfl
@[simp] theorem Dev.setFld_prot (d : Dev) (a hi lo v : Nat) : (d.setFld a hi lo v).prot = d.prot := rfl
@[simp] theorem Dev.setFld_cnpy (d : Dev) (a hi lo v : Nat) : (d.setFld a hi lo v).cnpy = d.cnpy := rfl
@[simp] theorem Dev.setFld_rep (d : Dev) (a hi lo v : Nat) : (d.setFld a hi lo v).rep = d.rep := rfl
@[simp] theorem Dev.setFld_ctl (d : Dev) (a hi lo v : Nat) : (d.setFld a hi lo v).ctl = d.ctl := rfl
@[simp] theorem Dev.setFld_lsw (d : Dev) (a hi lo v : Nat) : (d.setFld a hi lo v).lsw = d.lsw := rfl
@[simp] theorem Dev.setFld_lh (d : Dev) (a hi lo v : Nat) : (d.setFld a hi lo v).lh = d.lh := rfl
@[simp] theorem Dev.setFld_twin (d : Dev) (a hi lo v : Nat) : (d.setFld a hi lo v).twin = d.twin := rfl
@[simp] theorem Dev.setFld_hwd (d : Dev) (a hi lo v : Nat) : (d.setFld a hi lo v).hwd = d.hwd := rfl
@[simp] theorem Dev.setFld_cans (d : Dev) (a hi lo v : Nat) : (d.setFld a hi lo v).cans = d.cans := rfl
@[simp] theorem Dev.setFld_disp (d : Dev) (a hi lo v : Nat) : (d.setFld a hi lo v).disp = d.disp := rfl
@[simp] theorem Dev.setFld_eth (d : Dev) (a hi lo v : Nat) : (d.setFld a hi lo v).eth = d.eth := rfl
@[simp] theorem Dev.setFld_ram (d : Dev) (a hi lo v : Nat) : (d.setFld a hi lo v).ram = d.ram := rfl
@[simp] theorem Dev.setFld_log (d : Dev) (a hi lo v : Nat) : (d.setFld a hi lo v).log = d.log := rfl
@[simp] theorem Dev.setFld_pwr (d : Dev) (a hi lo v : Nat) : (d.setFld a hi lo v).pwr = d.pwr := rfl
@[simp] theorem Dev.setFld_img (d : Dev) (a hi lo v : Nat) : (d.setFld a hi lo v).img = d.img := rfl
@[simp] theorem Dev.setFld_readData (d : Dev) (a hi lo v : Nat) : (d.setFld a hi lo v).readData = d.readData := rfl
@[simp] theorem Dev.setFld_freeCnt (d : Dev) (a hi lo v : Nat) : (d.setFld a hi lo v).freeCnt = d.freeCnt := rfl

/-! `Dev.setRbit` changes regs only. -/

@[simp] theorem Dev.setRbit_time (d : Dev) (a i : Nat) (b : Bool) : (d.setRbit a i b).time = d.time := rfl
@[simp] theorem Dev.setRbit_k0 (d : Dev) (a i : Nat) (b : Bool) : (d.setRbit a i b).k0 = d.k0 := rfl
@[simp] theorem Dev.setRbit_k1 (d : Dev) (a i : Nat) (b : Bool) : (d.setRbit a i b).k1 = d.k1 := rfl
@[simp] theorem Dev.setRbit_k0b (d : Dev) (a i : Nat) (b : Bool) : (d.setRbit a i b).k0b = d.k0b := rfl
@[simp] theorem Dev.setRbit_k1b (d : Dev) (a i : Nat) (b : Bool) : (d.setRbit a i b).k1b = d.k1b := rfl
@[simp] theorem Dev.setRbit_pair0 (d : Dev) (a i : Nat) (b : Bool) : (d.setRbit a i b).pair0 = d.pair0 := rfl
@[simp] theorem Dev.setRbit_pair1 (d : Dev) (a i : Nat) (b : Bool) : (d.setRbit a i b).pair1 = d.pair1 := rfl
@[simp] theorem Dev.setRbit_pubs (d : Dev) (a i : Nat) (b : Bool) : (d.setRbit a i b).pubs = d.pubs := rfl
@[simp] theorem Dev.setRbit_pubSet (d : Dev) (a i : Nat) (b : Bool) : (d.setRbit a i b).pubSet = d.pubSet := rfl
@[simp] theorem Dev.setRbit_committed (d : Dev) (a i : Nat) (b : Bool) : (d.setRbit a i b).committed = d.committed := rfl
@[simp] theorem Dev.setRbit_factZones0 (d : Dev) (a i : Nat) (b : Bool) : (d.setRbit a i b).factZones0 = d.factZones0 := rfl
@[simp] theorem Dev.setRbit_factZones1 (d : Dev) (a i : Nat) (b : Bool) : (d.setRbit a i b).factZones1 = d.factZones1 := rfl
@[simp] theorem Dev.setRbit_acq (d : Dev) (a i : Nat) (b : Bool) : (d.setRbit a i b).acq = d.acq := rfl
@[simp] theorem Dev.setRbit_ports (d : Dev) (a i : Nat) (b : Bool) : (d.setRbit a i b).ports = d.ports := rfl
@[simp] theorem Dev.setRbit_prot (d : Dev) (a i : Nat) (b : Bool) : (d.setRbit a i b).prot = d.prot := rfl
@[simp] theorem Dev.setRbit_cnpy (d : Dev) (a i : Nat) (b : Bool) : (d.setRbit a i b).cnpy = d.cnpy := rfl
@[simp] theorem Dev.setRbit_rep (d : Dev) (a i : Nat) (b : Bool) : (d.setRbit a i b).rep = d.rep := rfl
@[simp] theorem Dev.setRbit_ctl (d : Dev) (a i : Nat) (b : Bool) : (d.setRbit a i b).ctl = d.ctl := rfl
@[simp] theorem Dev.setRbit_lsw (d : Dev) (a i : Nat) (b : Bool) : (d.setRbit a i b).lsw = d.lsw := rfl
@[simp] theorem Dev.setRbit_lh (d : Dev) (a i : Nat) (b : Bool) : (d.setRbit a i b).lh = d.lh := rfl
@[simp] theorem Dev.setRbit_twin (d : Dev) (a i : Nat) (b : Bool) : (d.setRbit a i b).twin = d.twin := rfl
@[simp] theorem Dev.setRbit_hwd (d : Dev) (a i : Nat) (b : Bool) : (d.setRbit a i b).hwd = d.hwd := rfl
@[simp] theorem Dev.setRbit_cans (d : Dev) (a i : Nat) (b : Bool) : (d.setRbit a i b).cans = d.cans := rfl
@[simp] theorem Dev.setRbit_disp (d : Dev) (a i : Nat) (b : Bool) : (d.setRbit a i b).disp = d.disp := rfl
@[simp] theorem Dev.setRbit_eth (d : Dev) (a i : Nat) (b : Bool) : (d.setRbit a i b).eth = d.eth := rfl
@[simp] theorem Dev.setRbit_ram (d : Dev) (a i : Nat) (b : Bool) : (d.setRbit a i b).ram = d.ram := rfl
@[simp] theorem Dev.setRbit_log (d : Dev) (a i : Nat) (b : Bool) : (d.setRbit a i b).log = d.log := rfl
@[simp] theorem Dev.setRbit_pwr (d : Dev) (a i : Nat) (b : Bool) : (d.setRbit a i b).pwr = d.pwr := rfl
@[simp] theorem Dev.setRbit_img (d : Dev) (a i : Nat) (b : Bool) : (d.setRbit a i b).img = d.img := rfl
@[simp] theorem Dev.setRbit_readData (d : Dev) (a i : Nat) (b : Bool) : (d.setRbit a i b).readData = d.readData := rfl
@[simp] theorem Dev.setRbit_freeCnt (d : Dev) (a i : Nat) (b : Bool) : (d.setRbit a i b).freeCnt = d.freeCnt := rfl

/-! `Dev.at` changes time only. -/

@[simp] theorem Dev.at_regs (d : Dev) (t : Nat) : (d.at t).regs = d.regs := rfl
@[simp] theorem Dev.at_k0 (d : Dev) (t : Nat) : (d.at t).k0 = d.k0 := rfl
@[simp] theorem Dev.at_k1 (d : Dev) (t : Nat) : (d.at t).k1 = d.k1 := rfl
@[simp] theorem Dev.at_k0b (d : Dev) (t : Nat) : (d.at t).k0b = d.k0b := rfl
@[simp] theorem Dev.at_k1b (d : Dev) (t : Nat) : (d.at t).k1b = d.k1b := rfl
@[simp] theorem Dev.at_pair0 (d : Dev) (t : Nat) : (d.at t).pair0 = d.pair0 := rfl
@[simp] theorem Dev.at_pair1 (d : Dev) (t : Nat) : (d.at t).pair1 = d.pair1 := rfl
@[simp] theorem Dev.at_pubs (d : Dev) (t : Nat) : (d.at t).pubs = d.pubs := rfl
@[simp] theorem Dev.at_pubSet (d : Dev) (t : Nat) : (d.at t).pubSet = d.pubSet := rfl
@[simp] theorem Dev.at_committed (d : Dev) (t : Nat) : (d.at t).committed = d.committed := rfl
@[simp] theorem Dev.at_factZones0 (d : Dev) (t : Nat) : (d.at t).factZones0 = d.factZones0 := rfl
@[simp] theorem Dev.at_factZones1 (d : Dev) (t : Nat) : (d.at t).factZones1 = d.factZones1 := rfl
@[simp] theorem Dev.at_acq (d : Dev) (t : Nat) : (d.at t).acq = d.acq := rfl
@[simp] theorem Dev.at_ports (d : Dev) (t : Nat) : (d.at t).ports = d.ports := rfl
@[simp] theorem Dev.at_prot (d : Dev) (t : Nat) : (d.at t).prot = d.prot := rfl
@[simp] theorem Dev.at_cnpy (d : Dev) (t : Nat) : (d.at t).cnpy = d.cnpy := rfl
@[simp] theorem Dev.at_rep (d : Dev) (t : Nat) : (d.at t).rep = d.rep := rfl
@[simp] theorem Dev.at_ctl (d : Dev) (t : Nat) : (d.at t).ctl = d.ctl := rfl
@[simp] theorem Dev.at_lsw (d : Dev) (t : Nat) : (d.at t).lsw = d.lsw := rfl
@[simp] theorem Dev.at_lh (d : Dev) (t : Nat) : (d.at t).lh = d.lh := rfl
@[simp] theorem Dev.at_twin (d : Dev) (t : Nat) : (d.at t).twin = d.twin := rfl
@[simp] theorem Dev.at_hwd (d : Dev) (t : Nat) : (d.at t).hwd = d.hwd := rfl
@[simp] theorem Dev.at_cans (d : Dev) (t : Nat) : (d.at t).cans = d.cans := rfl
@[simp] theorem Dev.at_disp (d : Dev) (t : Nat) : (d.at t).disp = d.disp := rfl
@[simp] theorem Dev.at_eth (d : Dev) (t : Nat) : (d.at t).eth = d.eth := rfl
@[simp] theorem Dev.at_ram (d : Dev) (t : Nat) : (d.at t).ram = d.ram := rfl
@[simp] theorem Dev.at_log (d : Dev) (t : Nat) : (d.at t).log = d.log := rfl
@[simp] theorem Dev.at_pwr (d : Dev) (t : Nat) : (d.at t).pwr = d.pwr := rfl
@[simp] theorem Dev.at_img (d : Dev) (t : Nat) : (d.at t).img = d.img := rfl
@[simp] theorem Dev.at_readData (d : Dev) (t : Nat) : (d.at t).readData = d.readData := rfl
@[simp] theorem Dev.at_freeCnt (d : Dev) (t : Nat) : (d.at t).freeCnt = d.freeCnt := rfl

/-! `Dev.takeFree` changes freeCnt only. -/

@[simp] theorem Dev.takeFree_regs (d : Dev) : (d.takeFree).regs = d.regs := rfl
@[simp] theorem Dev.takeFree_time (d : Dev) : (d.takeFree).time = d.time := rfl
@[simp] theorem Dev.takeFree_k0 (d : Dev) : (d.takeFree).k0 = d.k0 := rfl
@[simp] theorem Dev.takeFree_k1 (d : Dev) : (d.takeFree).k1 = d.k1 := rfl
@[simp] theorem Dev.takeFree_k0b (d : Dev) : (d.takeFree).k0b = d.k0b := rfl
@[simp] theorem Dev.takeFree_k1b (d : Dev) : (d.takeFree).k1b = d.k1b := rfl
@[simp] theorem Dev.takeFree_pair0 (d : Dev) : (d.takeFree).pair0 = d.pair0 := rfl
@[simp] theorem Dev.takeFree_pair1 (d : Dev) : (d.takeFree).pair1 = d.pair1 := rfl
@[simp] theorem Dev.takeFree_pubs (d : Dev) : (d.takeFree).pubs = d.pubs := rfl
@[simp] theorem Dev.takeFree_pubSet (d : Dev) : (d.takeFree).pubSet = d.pubSet := rfl
@[simp] theorem Dev.takeFree_committed (d : Dev) : (d.takeFree).committed = d.committed := rfl
@[simp] theorem Dev.takeFree_factZones0 (d : Dev) : (d.takeFree).factZones0 = d.factZones0 := rfl
@[simp] theorem Dev.takeFree_factZones1 (d : Dev) : (d.takeFree).factZones1 = d.factZones1 := rfl
@[simp] theorem Dev.takeFree_acq (d : Dev) : (d.takeFree).acq = d.acq := rfl
@[simp] theorem Dev.takeFree_ports (d : Dev) : (d.takeFree).ports = d.ports := rfl
@[simp] theorem Dev.takeFree_prot (d : Dev) : (d.takeFree).prot = d.prot := rfl
@[simp] theorem Dev.takeFree_cnpy (d : Dev) : (d.takeFree).cnpy = d.cnpy := rfl
@[simp] theorem Dev.takeFree_rep (d : Dev) : (d.takeFree).rep = d.rep := rfl
@[simp] theorem Dev.takeFree_ctl (d : Dev) : (d.takeFree).ctl = d.ctl := rfl
@[simp] theorem Dev.takeFree_lsw (d : Dev) : (d.takeFree).lsw = d.lsw := rfl
@[simp] theorem Dev.takeFree_lh (d : Dev) : (d.takeFree).lh = d.lh := rfl
@[simp] theorem Dev.takeFree_twin (d : Dev) : (d.takeFree).twin = d.twin := rfl
@[simp] theorem Dev.takeFree_hwd (d : Dev) : (d.takeFree).hwd = d.hwd := rfl
@[simp] theorem Dev.takeFree_cans (d : Dev) : (d.takeFree).cans = d.cans := rfl
@[simp] theorem Dev.takeFree_disp (d : Dev) : (d.takeFree).disp = d.disp := rfl
@[simp] theorem Dev.takeFree_eth (d : Dev) : (d.takeFree).eth = d.eth := rfl
@[simp] theorem Dev.takeFree_ram (d : Dev) : (d.takeFree).ram = d.ram := rfl
@[simp] theorem Dev.takeFree_log (d : Dev) : (d.takeFree).log = d.log := rfl
@[simp] theorem Dev.takeFree_pwr (d : Dev) : (d.takeFree).pwr = d.pwr := rfl
@[simp] theorem Dev.takeFree_img (d : Dev) : (d.takeFree).img = d.img := rfl
@[simp] theorem Dev.takeFree_readData (d : Dev) : (d.takeFree).readData = d.readData := rfl

/-! `Dev.setPort` changes ports only. -/

@[simp] theorem Dev.setPort_regs (d : Dev) (n : Nat) (f : Port → Port) : (d.setPort n f).regs = d.regs := rfl
@[simp] theorem Dev.setPort_time (d : Dev) (n : Nat) (f : Port → Port) : (d.setPort n f).time = d.time := rfl
@[simp] theorem Dev.setPort_k0 (d : Dev) (n : Nat) (f : Port → Port) : (d.setPort n f).k0 = d.k0 := rfl
@[simp] theorem Dev.setPort_k1 (d : Dev) (n : Nat) (f : Port → Port) : (d.setPort n f).k1 = d.k1 := rfl
@[simp] theorem Dev.setPort_k0b (d : Dev) (n : Nat) (f : Port → Port) : (d.setPort n f).k0b = d.k0b := rfl
@[simp] theorem Dev.setPort_k1b (d : Dev) (n : Nat) (f : Port → Port) : (d.setPort n f).k1b = d.k1b := rfl
@[simp] theorem Dev.setPort_pair0 (d : Dev) (n : Nat) (f : Port → Port) : (d.setPort n f).pair0 = d.pair0 := rfl
@[simp] theorem Dev.setPort_pair1 (d : Dev) (n : Nat) (f : Port → Port) : (d.setPort n f).pair1 = d.pair1 := rfl
@[simp] theorem Dev.setPort_pubs (d : Dev) (n : Nat) (f : Port → Port) : (d.setPort n f).pubs = d.pubs := rfl
@[simp] theorem Dev.setPort_pubSet (d : Dev) (n : Nat) (f : Port → Port) : (d.setPort n f).pubSet = d.pubSet := rfl
@[simp] theorem Dev.setPort_committed (d : Dev) (n : Nat) (f : Port → Port) : (d.setPort n f).committed = d.committed := rfl
@[simp] theorem Dev.setPort_factZones0 (d : Dev) (n : Nat) (f : Port → Port) : (d.setPort n f).factZones0 = d.factZones0 := rfl
@[simp] theorem Dev.setPort_factZones1 (d : Dev) (n : Nat) (f : Port → Port) : (d.setPort n f).factZones1 = d.factZones1 := rfl
@[simp] theorem Dev.setPort_acq (d : Dev) (n : Nat) (f : Port → Port) : (d.setPort n f).acq = d.acq := rfl
@[simp] theorem Dev.setPort_prot (d : Dev) (n : Nat) (f : Port → Port) : (d.setPort n f).prot = d.prot := rfl
@[simp] theorem Dev.setPort_cnpy (d : Dev) (n : Nat) (f : Port → Port) : (d.setPort n f).cnpy = d.cnpy := rfl
@[simp] theorem Dev.setPort_rep (d : Dev) (n : Nat) (f : Port → Port) : (d.setPort n f).rep = d.rep := rfl
@[simp] theorem Dev.setPort_ctl (d : Dev) (n : Nat) (f : Port → Port) : (d.setPort n f).ctl = d.ctl := rfl
@[simp] theorem Dev.setPort_lsw (d : Dev) (n : Nat) (f : Port → Port) : (d.setPort n f).lsw = d.lsw := rfl
@[simp] theorem Dev.setPort_lh (d : Dev) (n : Nat) (f : Port → Port) : (d.setPort n f).lh = d.lh := rfl
@[simp] theorem Dev.setPort_twin (d : Dev) (n : Nat) (f : Port → Port) : (d.setPort n f).twin = d.twin := rfl
@[simp] theorem Dev.setPort_hwd (d : Dev) (n : Nat) (f : Port → Port) : (d.setPort n f).hwd = d.hwd := rfl
@[simp] theorem Dev.setPort_cans (d : Dev) (n : Nat) (f : Port → Port) : (d.setPort n f).cans = d.cans := rfl
@[simp] theorem Dev.setPort_disp (d : Dev) (n : Nat) (f : Port → Port) : (d.setPort n f).disp = d.disp := rfl
@[simp] theorem Dev.setPort_eth (d : Dev) (n : Nat) (f : Port → Port) : (d.setPort n f).eth = d.eth := rfl
@[simp] theorem Dev.setPort_ram (d : Dev) (n : Nat) (f : Port → Port) : (d.setPort n f).ram = d.ram := rfl
@[simp] theorem Dev.setPort_log (d : Dev) (n : Nat) (f : Port → Port) : (d.setPort n f).log = d.log := rfl
@[simp] theorem Dev.setPort_pwr (d : Dev) (n : Nat) (f : Port → Port) : (d.setPort n f).pwr = d.pwr := rfl
@[simp] theorem Dev.setPort_img (d : Dev) (n : Nat) (f : Port → Port) : (d.setPort n f).img = d.img := rfl
@[simp] theorem Dev.setPort_readData (d : Dev) (n : Nat) (f : Port → Port) : (d.setPort n f).readData = d.readData := rfl
@[simp] theorem Dev.setPort_freeCnt (d : Dev) (n : Nat) (f : Port → Port) : (d.setPort n f).freeCnt = d.freeCnt := rfl

/-! `Dev.setSession` changes hwd only. -/

@[simp] theorem Dev.setSession_regs (d : Dev) (n : Nat) (x : Option Session) : (d.setSession n x).regs = d.regs := rfl
@[simp] theorem Dev.setSession_time (d : Dev) (n : Nat) (x : Option Session) : (d.setSession n x).time = d.time := rfl
@[simp] theorem Dev.setSession_k0 (d : Dev) (n : Nat) (x : Option Session) : (d.setSession n x).k0 = d.k0 := rfl
@[simp] theorem Dev.setSession_k1 (d : Dev) (n : Nat) (x : Option Session) : (d.setSession n x).k1 = d.k1 := rfl
@[simp] theorem Dev.setSession_k0b (d : Dev) (n : Nat) (x : Option Session) : (d.setSession n x).k0b = d.k0b := rfl
@[simp] theorem Dev.setSession_k1b (d : Dev) (n : Nat) (x : Option Session) : (d.setSession n x).k1b = d.k1b := rfl
@[simp] theorem Dev.setSession_pair0 (d : Dev) (n : Nat) (x : Option Session) : (d.setSession n x).pair0 = d.pair0 := rfl
@[simp] theorem Dev.setSession_pair1 (d : Dev) (n : Nat) (x : Option Session) : (d.setSession n x).pair1 = d.pair1 := rfl
@[simp] theorem Dev.setSession_pubs (d : Dev) (n : Nat) (x : Option Session) : (d.setSession n x).pubs = d.pubs := rfl
@[simp] theorem Dev.setSession_pubSet (d : Dev) (n : Nat) (x : Option Session) : (d.setSession n x).pubSet = d.pubSet := rfl
@[simp] theorem Dev.setSession_committed (d : Dev) (n : Nat) (x : Option Session) : (d.setSession n x).committed = d.committed := rfl
@[simp] theorem Dev.setSession_factZones0 (d : Dev) (n : Nat) (x : Option Session) : (d.setSession n x).factZones0 = d.factZones0 := rfl
@[simp] theorem Dev.setSession_factZones1 (d : Dev) (n : Nat) (x : Option Session) : (d.setSession n x).factZones1 = d.factZones1 := rfl
@[simp] theorem Dev.setSession_acq (d : Dev) (n : Nat) (x : Option Session) : (d.setSession n x).acq = d.acq := rfl
@[simp] theorem Dev.setSession_ports (d : Dev) (n : Nat) (x : Option Session) : (d.setSession n x).ports = d.ports := rfl
@[simp] theorem Dev.setSession_prot (d : Dev) (n : Nat) (x : Option Session) : (d.setSession n x).prot = d.prot := rfl
@[simp] theorem Dev.setSession_cnpy (d : Dev) (n : Nat) (x : Option Session) : (d.setSession n x).cnpy = d.cnpy := rfl
@[simp] theorem Dev.setSession_rep (d : Dev) (n : Nat) (x : Option Session) : (d.setSession n x).rep = d.rep := rfl
@[simp] theorem Dev.setSession_ctl (d : Dev) (n : Nat) (x : Option Session) : (d.setSession n x).ctl = d.ctl := rfl
@[simp] theorem Dev.setSession_lsw (d : Dev) (n : Nat) (x : Option Session) : (d.setSession n x).lsw = d.lsw := rfl
@[simp] theorem Dev.setSession_lh (d : Dev) (n : Nat) (x : Option Session) : (d.setSession n x).lh = d.lh := rfl
@[simp] theorem Dev.setSession_twin (d : Dev) (n : Nat) (x : Option Session) : (d.setSession n x).twin = d.twin := rfl
@[simp] theorem Dev.setSession_cans (d : Dev) (n : Nat) (x : Option Session) : (d.setSession n x).cans = d.cans := rfl
@[simp] theorem Dev.setSession_disp (d : Dev) (n : Nat) (x : Option Session) : (d.setSession n x).disp = d.disp := rfl
@[simp] theorem Dev.setSession_eth (d : Dev) (n : Nat) (x : Option Session) : (d.setSession n x).eth = d.eth := rfl
@[simp] theorem Dev.setSession_ram (d : Dev) (n : Nat) (x : Option Session) : (d.setSession n x).ram = d.ram := rfl
@[simp] theorem Dev.setSession_log (d : Dev) (n : Nat) (x : Option Session) : (d.setSession n x).log = d.log := rfl
@[simp] theorem Dev.setSession_pwr (d : Dev) (n : Nat) (x : Option Session) : (d.setSession n x).pwr = d.pwr := rfl
@[simp] theorem Dev.setSession_img (d : Dev) (n : Nat) (x : Option Session) : (d.setSession n x).img = d.img := rfl
@[simp] theorem Dev.setSession_readData (d : Dev) (n : Nat) (x : Option Session) : (d.setSession n x).readData = d.readData := rfl
@[simp] theorem Dev.setSession_freeCnt (d : Dev) (n : Nat) (x : Option Session) : (d.setSession n x).freeCnt = d.freeCnt := rfl

/-! `Dev.answer` changes hwd only. -/

@[simp] theorem Dev.answer_regs (d : Dev) (st : Nat) (body : List Nat) : (d.answer st body).regs = d.regs := rfl
@[simp] theorem Dev.answer_time (d : Dev) (st : Nat) (body : List Nat) : (d.answer st body).time = d.time := rfl
@[simp] theorem Dev.answer_k0 (d : Dev) (st : Nat) (body : List Nat) : (d.answer st body).k0 = d.k0 := rfl
@[simp] theorem Dev.answer_k1 (d : Dev) (st : Nat) (body : List Nat) : (d.answer st body).k1 = d.k1 := rfl
@[simp] theorem Dev.answer_k0b (d : Dev) (st : Nat) (body : List Nat) : (d.answer st body).k0b = d.k0b := rfl
@[simp] theorem Dev.answer_k1b (d : Dev) (st : Nat) (body : List Nat) : (d.answer st body).k1b = d.k1b := rfl
@[simp] theorem Dev.answer_pair0 (d : Dev) (st : Nat) (body : List Nat) : (d.answer st body).pair0 = d.pair0 := rfl
@[simp] theorem Dev.answer_pair1 (d : Dev) (st : Nat) (body : List Nat) : (d.answer st body).pair1 = d.pair1 := rfl
@[simp] theorem Dev.answer_pubs (d : Dev) (st : Nat) (body : List Nat) : (d.answer st body).pubs = d.pubs := rfl
@[simp] theorem Dev.answer_pubSet (d : Dev) (st : Nat) (body : List Nat) : (d.answer st body).pubSet = d.pubSet := rfl
@[simp] theorem Dev.answer_committed (d : Dev) (st : Nat) (body : List Nat) : (d.answer st body).committed = d.committed := rfl
@[simp] theorem Dev.answer_factZones0 (d : Dev) (st : Nat) (body : List Nat) : (d.answer st body).factZones0 = d.factZones0 := rfl
@[simp] theorem Dev.answer_factZones1 (d : Dev) (st : Nat) (body : List Nat) : (d.answer st body).factZones1 = d.factZones1 := rfl
@[simp] theorem Dev.answer_acq (d : Dev) (st : Nat) (body : List Nat) : (d.answer st body).acq = d.acq := rfl
@[simp] theorem Dev.answer_ports (d : Dev) (st : Nat) (body : List Nat) : (d.answer st body).ports = d.ports := rfl
@[simp] theorem Dev.answer_prot (d : Dev) (st : Nat) (body : List Nat) : (d.answer st body).prot = d.prot := rfl
@[simp] theorem Dev.answer_cnpy (d : Dev) (st : Nat) (body : List Nat) : (d.answer st body).cnpy = d.cnpy := rfl
@[simp] theorem Dev.answer_rep (d : Dev) (st : Nat) (body : List Nat) : (d.answer st body).rep = d.rep := rfl
@[simp] theorem Dev.answer_ctl (d : Dev) (st : Nat) (body : List Nat) : (d.answer st body).ctl = d.ctl := rfl
@[simp] theorem Dev.answer_lsw (d : Dev) (st : Nat) (body : List Nat) : (d.answer st body).lsw = d.lsw := rfl
@[simp] theorem Dev.answer_lh (d : Dev) (st : Nat) (body : List Nat) : (d.answer st body).lh = d.lh := rfl
@[simp] theorem Dev.answer_twin (d : Dev) (st : Nat) (body : List Nat) : (d.answer st body).twin = d.twin := rfl
@[simp] theorem Dev.answer_cans (d : Dev) (st : Nat) (body : List Nat) : (d.answer st body).cans = d.cans := rfl
@[simp] theorem Dev.answer_disp (d : Dev) (st : Nat) (body : List Nat) : (d.answer st body).disp = d.disp := rfl
@[simp] theorem Dev.answer_eth (d : Dev) (st : Nat) (body : List Nat) : (d.answer st body).eth = d.eth := rfl
@[simp] theorem Dev.answer_ram (d : Dev) (st : Nat) (body : List Nat) : (d.answer st body).ram = d.ram := rfl
@[simp] theorem Dev.answer_log (d : Dev) (st : Nat) (body : List Nat) : (d.answer st body).log = d.log := rfl
@[simp] theorem Dev.answer_pwr (d : Dev) (st : Nat) (body : List Nat) : (d.answer st body).pwr = d.pwr := rfl
@[simp] theorem Dev.answer_img (d : Dev) (st : Nat) (body : List Nat) : (d.answer st body).img = d.img := rfl
@[simp] theorem Dev.answer_readData (d : Dev) (st : Nat) (body : List Nat) : (d.answer st body).readData = d.readData := rfl
@[simp] theorem Dev.answer_freeCnt (d : Dev) (st : Nat) (body : List Nat) : (d.answer st body).freeCnt = d.freeCnt := rfl

/-! `Dev.setChan` changes lsw only. -/

@[simp] theorem Dev.setChan_regs (d : Dev) (n : Nat) (f : Lsw → Lsw) : (d.setChan n f).regs = d.regs := rfl
@[simp] theorem Dev.setChan_time (d : Dev) (n : Nat) (f : Lsw → Lsw) : (d.setChan n f).time = d.time := rfl
@[simp] theorem Dev.setChan_k0 (d : Dev) (n : Nat) (f : Lsw → Lsw) : (d.setChan n f).k0 = d.k0 := rfl
@[simp] theorem Dev.setChan_k1 (d : Dev) (n : Nat) (f : Lsw → Lsw) : (d.setChan n f).k1 = d.k1 := rfl
@[simp] theorem Dev.setChan_k0b (d : Dev) (n : Nat) (f : Lsw → Lsw) : (d.setChan n f).k0b = d.k0b := rfl
@[simp] theorem Dev.setChan_k1b (d : Dev) (n : Nat) (f : Lsw → Lsw) : (d.setChan n f).k1b = d.k1b := rfl
@[simp] theorem Dev.setChan_pair0 (d : Dev) (n : Nat) (f : Lsw → Lsw) : (d.setChan n f).pair0 = d.pair0 := rfl
@[simp] theorem Dev.setChan_pair1 (d : Dev) (n : Nat) (f : Lsw → Lsw) : (d.setChan n f).pair1 = d.pair1 := rfl
@[simp] theorem Dev.setChan_pubs (d : Dev) (n : Nat) (f : Lsw → Lsw) : (d.setChan n f).pubs = d.pubs := rfl
@[simp] theorem Dev.setChan_pubSet (d : Dev) (n : Nat) (f : Lsw → Lsw) : (d.setChan n f).pubSet = d.pubSet := rfl
@[simp] theorem Dev.setChan_committed (d : Dev) (n : Nat) (f : Lsw → Lsw) : (d.setChan n f).committed = d.committed := rfl
@[simp] theorem Dev.setChan_factZones0 (d : Dev) (n : Nat) (f : Lsw → Lsw) : (d.setChan n f).factZones0 = d.factZones0 := rfl
@[simp] theorem Dev.setChan_factZones1 (d : Dev) (n : Nat) (f : Lsw → Lsw) : (d.setChan n f).factZones1 = d.factZones1 := rfl
@[simp] theorem Dev.setChan_acq (d : Dev) (n : Nat) (f : Lsw → Lsw) : (d.setChan n f).acq = d.acq := rfl
@[simp] theorem Dev.setChan_ports (d : Dev) (n : Nat) (f : Lsw → Lsw) : (d.setChan n f).ports = d.ports := rfl
@[simp] theorem Dev.setChan_prot (d : Dev) (n : Nat) (f : Lsw → Lsw) : (d.setChan n f).prot = d.prot := rfl
@[simp] theorem Dev.setChan_cnpy (d : Dev) (n : Nat) (f : Lsw → Lsw) : (d.setChan n f).cnpy = d.cnpy := rfl
@[simp] theorem Dev.setChan_rep (d : Dev) (n : Nat) (f : Lsw → Lsw) : (d.setChan n f).rep = d.rep := rfl
@[simp] theorem Dev.setChan_ctl (d : Dev) (n : Nat) (f : Lsw → Lsw) : (d.setChan n f).ctl = d.ctl := rfl
@[simp] theorem Dev.setChan_lh (d : Dev) (n : Nat) (f : Lsw → Lsw) : (d.setChan n f).lh = d.lh := rfl
@[simp] theorem Dev.setChan_twin (d : Dev) (n : Nat) (f : Lsw → Lsw) : (d.setChan n f).twin = d.twin := rfl
@[simp] theorem Dev.setChan_hwd (d : Dev) (n : Nat) (f : Lsw → Lsw) : (d.setChan n f).hwd = d.hwd := rfl
@[simp] theorem Dev.setChan_cans (d : Dev) (n : Nat) (f : Lsw → Lsw) : (d.setChan n f).cans = d.cans := rfl
@[simp] theorem Dev.setChan_disp (d : Dev) (n : Nat) (f : Lsw → Lsw) : (d.setChan n f).disp = d.disp := rfl
@[simp] theorem Dev.setChan_eth (d : Dev) (n : Nat) (f : Lsw → Lsw) : (d.setChan n f).eth = d.eth := rfl
@[simp] theorem Dev.setChan_ram (d : Dev) (n : Nat) (f : Lsw → Lsw) : (d.setChan n f).ram = d.ram := rfl
@[simp] theorem Dev.setChan_log (d : Dev) (n : Nat) (f : Lsw → Lsw) : (d.setChan n f).log = d.log := rfl
@[simp] theorem Dev.setChan_pwr (d : Dev) (n : Nat) (f : Lsw → Lsw) : (d.setChan n f).pwr = d.pwr := rfl
@[simp] theorem Dev.setChan_img (d : Dev) (n : Nat) (f : Lsw → Lsw) : (d.setChan n f).img = d.img := rfl
@[simp] theorem Dev.setChan_readData (d : Dev) (n : Nat) (f : Lsw → Lsw) : (d.setChan n f).readData = d.readData := rfl
@[simp] theorem Dev.setChan_freeCnt (d : Dev) (n : Nat) (f : Lsw → Lsw) : (d.setChan n f).freeCnt = d.freeCnt := rfl

/-! `Dev.setCore` changes k0, k1, k0b, k1b only. -/

@[simp] theorem Dev.setCore_regs (d : Dev) (c : Core) (f : CoreSt → CoreSt) : (d.setCore c f).regs = d.regs := by cases c <;> rfl
@[simp] theorem Dev.setCore_time (d : Dev) (c : Core) (f : CoreSt → CoreSt) : (d.setCore c f).time = d.time := by cases c <;> rfl
@[simp] theorem Dev.setCore_pair0 (d : Dev) (c : Core) (f : CoreSt → CoreSt) : (d.setCore c f).pair0 = d.pair0 := by cases c <;> rfl
@[simp] theorem Dev.setCore_pair1 (d : Dev) (c : Core) (f : CoreSt → CoreSt) : (d.setCore c f).pair1 = d.pair1 := by cases c <;> rfl
@[simp] theorem Dev.setCore_pubs (d : Dev) (c : Core) (f : CoreSt → CoreSt) : (d.setCore c f).pubs = d.pubs := by cases c <;> rfl
@[simp] theorem Dev.setCore_pubSet (d : Dev) (c : Core) (f : CoreSt → CoreSt) : (d.setCore c f).pubSet = d.pubSet := by cases c <;> rfl
@[simp] theorem Dev.setCore_committed (d : Dev) (c : Core) (f : CoreSt → CoreSt) : (d.setCore c f).committed = d.committed := by cases c <;> rfl
@[simp] theorem Dev.setCore_factZones0 (d : Dev) (c : Core) (f : CoreSt → CoreSt) : (d.setCore c f).factZones0 = d.factZones0 := by cases c <;> rfl
@[simp] theorem Dev.setCore_factZones1 (d : Dev) (c : Core) (f : CoreSt → CoreSt) : (d.setCore c f).factZones1 = d.factZones1 := by cases c <;> rfl
@[simp] theorem Dev.setCore_acq (d : Dev) (c : Core) (f : CoreSt → CoreSt) : (d.setCore c f).acq = d.acq := by cases c <;> rfl
@[simp] theorem Dev.setCore_ports (d : Dev) (c : Core) (f : CoreSt → CoreSt) : (d.setCore c f).ports = d.ports := by cases c <;> rfl
@[simp] theorem Dev.setCore_prot (d : Dev) (c : Core) (f : CoreSt → CoreSt) : (d.setCore c f).prot = d.prot := by cases c <;> rfl
@[simp] theorem Dev.setCore_cnpy (d : Dev) (c : Core) (f : CoreSt → CoreSt) : (d.setCore c f).cnpy = d.cnpy := by cases c <;> rfl
@[simp] theorem Dev.setCore_rep (d : Dev) (c : Core) (f : CoreSt → CoreSt) : (d.setCore c f).rep = d.rep := by cases c <;> rfl
@[simp] theorem Dev.setCore_ctl (d : Dev) (c : Core) (f : CoreSt → CoreSt) : (d.setCore c f).ctl = d.ctl := by cases c <;> rfl
@[simp] theorem Dev.setCore_lsw (d : Dev) (c : Core) (f : CoreSt → CoreSt) : (d.setCore c f).lsw = d.lsw := by cases c <;> rfl
@[simp] theorem Dev.setCore_lh (d : Dev) (c : Core) (f : CoreSt → CoreSt) : (d.setCore c f).lh = d.lh := by cases c <;> rfl
@[simp] theorem Dev.setCore_twin (d : Dev) (c : Core) (f : CoreSt → CoreSt) : (d.setCore c f).twin = d.twin := by cases c <;> rfl
@[simp] theorem Dev.setCore_hwd (d : Dev) (c : Core) (f : CoreSt → CoreSt) : (d.setCore c f).hwd = d.hwd := by cases c <;> rfl
@[simp] theorem Dev.setCore_cans (d : Dev) (c : Core) (f : CoreSt → CoreSt) : (d.setCore c f).cans = d.cans := by cases c <;> rfl
@[simp] theorem Dev.setCore_disp (d : Dev) (c : Core) (f : CoreSt → CoreSt) : (d.setCore c f).disp = d.disp := by cases c <;> rfl
@[simp] theorem Dev.setCore_eth (d : Dev) (c : Core) (f : CoreSt → CoreSt) : (d.setCore c f).eth = d.eth := by cases c <;> rfl
@[simp] theorem Dev.setCore_ram (d : Dev) (c : Core) (f : CoreSt → CoreSt) : (d.setCore c f).ram = d.ram := by cases c <;> rfl
@[simp] theorem Dev.setCore_log (d : Dev) (c : Core) (f : CoreSt → CoreSt) : (d.setCore c f).log = d.log := by cases c <;> rfl
@[simp] theorem Dev.setCore_pwr (d : Dev) (c : Core) (f : CoreSt → CoreSt) : (d.setCore c f).pwr = d.pwr := by cases c <;> rfl
@[simp] theorem Dev.setCore_img (d : Dev) (c : Core) (f : CoreSt → CoreSt) : (d.setCore c f).img = d.img := by cases c <;> rfl
@[simp] theorem Dev.setCore_readData (d : Dev) (c : Core) (f : CoreSt → CoreSt) : (d.setCore c f).readData = d.readData := by cases c <;> rfl
@[simp] theorem Dev.setCore_freeCnt (d : Dev) (c : Core) (f : CoreSt → CoreSt) : (d.setCore c f).freeCnt = d.freeCnt := by cases c <;> rfl

/-! `Dev.moorSend` changes twin only. -/

@[simp] theorem Dev.moorSend_regs (d : Dev) (m : Mooring) : (d.moorSend m).regs = d.regs := by unfold Dev.moorSend; split <;> rfl
@[simp] theorem Dev.moorSend_time (d : Dev) (m : Mooring) : (d.moorSend m).time = d.time := by unfold Dev.moorSend; split <;> rfl
@[simp] theorem Dev.moorSend_k0 (d : Dev) (m : Mooring) : (d.moorSend m).k0 = d.k0 := by unfold Dev.moorSend; split <;> rfl
@[simp] theorem Dev.moorSend_k1 (d : Dev) (m : Mooring) : (d.moorSend m).k1 = d.k1 := by unfold Dev.moorSend; split <;> rfl
@[simp] theorem Dev.moorSend_k0b (d : Dev) (m : Mooring) : (d.moorSend m).k0b = d.k0b := by unfold Dev.moorSend; split <;> rfl
@[simp] theorem Dev.moorSend_k1b (d : Dev) (m : Mooring) : (d.moorSend m).k1b = d.k1b := by unfold Dev.moorSend; split <;> rfl
@[simp] theorem Dev.moorSend_pair0 (d : Dev) (m : Mooring) : (d.moorSend m).pair0 = d.pair0 := by unfold Dev.moorSend; split <;> rfl
@[simp] theorem Dev.moorSend_pair1 (d : Dev) (m : Mooring) : (d.moorSend m).pair1 = d.pair1 := by unfold Dev.moorSend; split <;> rfl
@[simp] theorem Dev.moorSend_pubs (d : Dev) (m : Mooring) : (d.moorSend m).pubs = d.pubs := by unfold Dev.moorSend; split <;> rfl
@[simp] theorem Dev.moorSend_pubSet (d : Dev) (m : Mooring) : (d.moorSend m).pubSet = d.pubSet := by unfold Dev.moorSend; split <;> rfl
@[simp] theorem Dev.moorSend_committed (d : Dev) (m : Mooring) : (d.moorSend m).committed = d.committed := by unfold Dev.moorSend; split <;> rfl
@[simp] theorem Dev.moorSend_factZones0 (d : Dev) (m : Mooring) : (d.moorSend m).factZones0 = d.factZones0 := by unfold Dev.moorSend; split <;> rfl
@[simp] theorem Dev.moorSend_factZones1 (d : Dev) (m : Mooring) : (d.moorSend m).factZones1 = d.factZones1 := by unfold Dev.moorSend; split <;> rfl
@[simp] theorem Dev.moorSend_acq (d : Dev) (m : Mooring) : (d.moorSend m).acq = d.acq := by unfold Dev.moorSend; split <;> rfl
@[simp] theorem Dev.moorSend_ports (d : Dev) (m : Mooring) : (d.moorSend m).ports = d.ports := by unfold Dev.moorSend; split <;> rfl
@[simp] theorem Dev.moorSend_prot (d : Dev) (m : Mooring) : (d.moorSend m).prot = d.prot := by unfold Dev.moorSend; split <;> rfl
@[simp] theorem Dev.moorSend_cnpy (d : Dev) (m : Mooring) : (d.moorSend m).cnpy = d.cnpy := by unfold Dev.moorSend; split <;> rfl
@[simp] theorem Dev.moorSend_rep (d : Dev) (m : Mooring) : (d.moorSend m).rep = d.rep := by unfold Dev.moorSend; split <;> rfl
@[simp] theorem Dev.moorSend_ctl (d : Dev) (m : Mooring) : (d.moorSend m).ctl = d.ctl := by unfold Dev.moorSend; split <;> rfl
@[simp] theorem Dev.moorSend_lsw (d : Dev) (m : Mooring) : (d.moorSend m).lsw = d.lsw := by unfold Dev.moorSend; split <;> rfl
@[simp] theorem Dev.moorSend_lh (d : Dev) (m : Mooring) : (d.moorSend m).lh = d.lh := by unfold Dev.moorSend; split <;> rfl
@[simp] theorem Dev.moorSend_hwd (d : Dev) (m : Mooring) : (d.moorSend m).hwd = d.hwd := by unfold Dev.moorSend; split <;> rfl
@[simp] theorem Dev.moorSend_cans (d : Dev) (m : Mooring) : (d.moorSend m).cans = d.cans := by unfold Dev.moorSend; split <;> rfl
@[simp] theorem Dev.moorSend_disp (d : Dev) (m : Mooring) : (d.moorSend m).disp = d.disp := by unfold Dev.moorSend; split <;> rfl
@[simp] theorem Dev.moorSend_eth (d : Dev) (m : Mooring) : (d.moorSend m).eth = d.eth := by unfold Dev.moorSend; split <;> rfl
@[simp] theorem Dev.moorSend_ram (d : Dev) (m : Mooring) : (d.moorSend m).ram = d.ram := by unfold Dev.moorSend; split <;> rfl
@[simp] theorem Dev.moorSend_log (d : Dev) (m : Mooring) : (d.moorSend m).log = d.log := by unfold Dev.moorSend; split <;> rfl
@[simp] theorem Dev.moorSend_pwr (d : Dev) (m : Mooring) : (d.moorSend m).pwr = d.pwr := by unfold Dev.moorSend; split <;> rfl
@[simp] theorem Dev.moorSend_img (d : Dev) (m : Mooring) : (d.moorSend m).img = d.img := by unfold Dev.moorSend; split <;> rfl
@[simp] theorem Dev.moorSend_readData (d : Dev) (m : Mooring) : (d.moorSend m).readData = d.readData := by unfold Dev.moorSend; split <;> rfl
@[simp] theorem Dev.moorSend_freeCnt (d : Dev) (m : Mooring) : (d.moorSend m).freeCnt = d.freeCnt := by unfold Dev.moorSend; split <;> rfl

/-! `Dev.setPair` changes pair0, pair1 only. -/

@[simp] theorem Dev.setPair_regs (d : Dev) (p : Nat) (f : PairSt → PairSt) : (d.setPair p f).regs = d.regs := by unfold Dev.setPair; split <;> rfl
@[simp] theorem Dev.setPair_time (d : Dev) (p : Nat) (f : PairSt → PairSt) : (d.setPair p f).time = d.time := by unfold Dev.setPair; split <;> rfl
@[simp] theorem Dev.setPair_k0 (d : Dev) (p : Nat) (f : PairSt → PairSt) : (d.setPair p f).k0 = d.k0 := by unfold Dev.setPair; split <;> rfl
@[simp] theorem Dev.setPair_k1 (d : Dev) (p : Nat) (f : PairSt → PairSt) : (d.setPair p f).k1 = d.k1 := by unfold Dev.setPair; split <;> rfl
@[simp] theorem Dev.setPair_k0b (d : Dev) (p : Nat) (f : PairSt → PairSt) : (d.setPair p f).k0b = d.k0b := by unfold Dev.setPair; split <;> rfl
@[simp] theorem Dev.setPair_k1b (d : Dev) (p : Nat) (f : PairSt → PairSt) : (d.setPair p f).k1b = d.k1b := by unfold Dev.setPair; split <;> rfl
@[simp] theorem Dev.setPair_pubs (d : Dev) (p : Nat) (f : PairSt → PairSt) : (d.setPair p f).pubs = d.pubs := by unfold Dev.setPair; split <;> rfl
@[simp] theorem Dev.setPair_pubSet (d : Dev) (p : Nat) (f : PairSt → PairSt) : (d.setPair p f).pubSet = d.pubSet := by unfold Dev.setPair; split <;> rfl
@[simp] theorem Dev.setPair_committed (d : Dev) (p : Nat) (f : PairSt → PairSt) : (d.setPair p f).committed = d.committed := by unfold Dev.setPair; split <;> rfl
@[simp] theorem Dev.setPair_factZones0 (d : Dev) (p : Nat) (f : PairSt → PairSt) : (d.setPair p f).factZones0 = d.factZones0 := by unfold Dev.setPair; split <;> rfl
@[simp] theorem Dev.setPair_factZones1 (d : Dev) (p : Nat) (f : PairSt → PairSt) : (d.setPair p f).factZones1 = d.factZones1 := by unfold Dev.setPair; split <;> rfl
@[simp] theorem Dev.setPair_acq (d : Dev) (p : Nat) (f : PairSt → PairSt) : (d.setPair p f).acq = d.acq := by unfold Dev.setPair; split <;> rfl
@[simp] theorem Dev.setPair_ports (d : Dev) (p : Nat) (f : PairSt → PairSt) : (d.setPair p f).ports = d.ports := by unfold Dev.setPair; split <;> rfl
@[simp] theorem Dev.setPair_prot (d : Dev) (p : Nat) (f : PairSt → PairSt) : (d.setPair p f).prot = d.prot := by unfold Dev.setPair; split <;> rfl
@[simp] theorem Dev.setPair_cnpy (d : Dev) (p : Nat) (f : PairSt → PairSt) : (d.setPair p f).cnpy = d.cnpy := by unfold Dev.setPair; split <;> rfl
@[simp] theorem Dev.setPair_rep (d : Dev) (p : Nat) (f : PairSt → PairSt) : (d.setPair p f).rep = d.rep := by unfold Dev.setPair; split <;> rfl
@[simp] theorem Dev.setPair_ctl (d : Dev) (p : Nat) (f : PairSt → PairSt) : (d.setPair p f).ctl = d.ctl := by unfold Dev.setPair; split <;> rfl
@[simp] theorem Dev.setPair_lsw (d : Dev) (p : Nat) (f : PairSt → PairSt) : (d.setPair p f).lsw = d.lsw := by unfold Dev.setPair; split <;> rfl
@[simp] theorem Dev.setPair_lh (d : Dev) (p : Nat) (f : PairSt → PairSt) : (d.setPair p f).lh = d.lh := by unfold Dev.setPair; split <;> rfl
@[simp] theorem Dev.setPair_twin (d : Dev) (p : Nat) (f : PairSt → PairSt) : (d.setPair p f).twin = d.twin := by unfold Dev.setPair; split <;> rfl
@[simp] theorem Dev.setPair_hwd (d : Dev) (p : Nat) (f : PairSt → PairSt) : (d.setPair p f).hwd = d.hwd := by unfold Dev.setPair; split <;> rfl
@[simp] theorem Dev.setPair_cans (d : Dev) (p : Nat) (f : PairSt → PairSt) : (d.setPair p f).cans = d.cans := by unfold Dev.setPair; split <;> rfl
@[simp] theorem Dev.setPair_disp (d : Dev) (p : Nat) (f : PairSt → PairSt) : (d.setPair p f).disp = d.disp := by unfold Dev.setPair; split <;> rfl
@[simp] theorem Dev.setPair_eth (d : Dev) (p : Nat) (f : PairSt → PairSt) : (d.setPair p f).eth = d.eth := by unfold Dev.setPair; split <;> rfl
@[simp] theorem Dev.setPair_ram (d : Dev) (p : Nat) (f : PairSt → PairSt) : (d.setPair p f).ram = d.ram := by unfold Dev.setPair; split <;> rfl
@[simp] theorem Dev.setPair_log (d : Dev) (p : Nat) (f : PairSt → PairSt) : (d.setPair p f).log = d.log := by unfold Dev.setPair; split <;> rfl
@[simp] theorem Dev.setPair_pwr (d : Dev) (p : Nat) (f : PairSt → PairSt) : (d.setPair p f).pwr = d.pwr := by unfold Dev.setPair; split <;> rfl
@[simp] theorem Dev.setPair_img (d : Dev) (p : Nat) (f : PairSt → PairSt) : (d.setPair p f).img = d.img := by unfold Dev.setPair; split <;> rfl
@[simp] theorem Dev.setPair_readData (d : Dev) (p : Nat) (f : PairSt → PairSt) : (d.setPair p f).readData = d.readData := by unfold Dev.setPair; split <;> rfl
@[simp] theorem Dev.setPair_freeCnt (d : Dev) (p : Nat) (f : PairSt → PairSt) : (d.setPair p f).freeCnt = d.freeCnt := by unfold Dev.setPair; split <;> rfl

/-! What each update writes. -/

@[simp] theorem Dev.reg_setReg (d : Dev) (a : Nat) (v : Word) : (d.setReg a v).reg a = v := by simp [Dev.reg, Dev.setReg]

theorem Dev.reg_setReg_other (d : Dev) {a b : Nat} (v : Word) (h : b ≠ a) : (d.setReg a v).reg b = d.reg b :=
  FMap.get_set_other _ _ _ h

@[simp] theorem Dev.reg_setRbit (d : Dev) (a i : Nat) (b : Bool) : (d.setRbit a i b).reg a = (d.reg a).setBit i b :=
  Dev.reg_setReg _ _ _

theorem Dev.reg_setRbit_other (d : Dev) {a c : Nat} (i : Nat) (b : Bool) (h : c ≠ a) : (d.setRbit a i b).reg c = d.reg c :=
  Dev.reg_setReg_other _ _ h

@[simp] theorem Dev.reg_setFld (d : Dev) (a hi lo v : Nat) : (d.setFld a hi lo v).reg a = (d.reg a).setField hi lo v :=
  Dev.reg_setReg _ _ _

theorem Dev.reg_setFld_other (d : Dev) {a c : Nat} (hi lo v : Nat) (h : c ≠ a) : (d.setFld a hi lo v).reg c = d.reg c :=
  Dev.reg_setReg_other _ _ h

@[simp] theorem Dev.at_now (d : Dev) (t : Nat) : (d.at t).time.now = max d.time.now t := rfl

@[simp] theorem Dev.core_setCore (d : Dev) (c : Core) (f : CoreSt → CoreSt) : (d.setCore c f).core c = f (d.core c) := by
  cases c <;> rfl

theorem Dev.core_setCore_other (d : Dev) {c e : Core} (f : CoreSt → CoreSt) (h : e ≠ c) : (d.setCore c f).core e = d.core e := by
  cases c <;> cases e <;> first | rfl | exact absurd rfl h

@[simp] theorem Dev.port_setPort (d : Dev) (n : Nat) (f : Port → Port) : (d.setPort n f).port n = f (d.port n) := by
  simp [Dev.port, Dev.setPort, FMap.upd]

theorem Dev.port_setPort_other (d : Dev) {n m : Nat} (f : Port → Port) (h : m ≠ n) : (d.setPort n f).port m = d.port m :=
  FMap.get_set_other _ _ _ h

@[simp] theorem Dev.chan_setChan (d : Dev) (n : Nat) (f : Lsw → Lsw) : (d.setChan n f).chan n = f (d.chan n) := by
  simp [Dev.chan, Dev.setChan, FMap.upd]

theorem Dev.chan_setChan_other (d : Dev) {n m : Nat} (f : Lsw → Lsw) (h : m ≠ n) : (d.setChan n f).chan m = d.chan m :=
  FMap.get_set_other _ _ _ h

@[simp] theorem Dev.session_setSession (d : Dev) (n : Nat) (x : Option Session) : (d.setSession n x).session n = x := by
  simp [Dev.session, Dev.setSession]

/-- g0 reads 0 whatever was written (02 R37). -/
@[simp] theorem Ctx.r_zero (x : Ctx) : x.r 0 = 0 := by simp [Ctx.r]

@[simp] theorem Ctx.w_zero (x : Ctx) (v : Word) : x.w 0 v = x := by simp [Ctx.w]

/-- A register write, read anywhere. -/
theorem Ctx.r_w (x : Ctx) (g k : Reg) (v : Word) : (x.w g v).r k = if k = g ∧ g ≠ 0 then v else x.r k := by
  unfold Ctx.r Ctx.w
  by_cases hg : g = 0
  · subst hg; simp
  · by_cases hk : k = g
    · subst hk; simp [hg]
    · have : k.val ≠ g.val := fun e => hk (Fin.ext e)
      simp [hg, hk, FMap.get_set_other _ _ v this]

end Sys2Proof.Machine
end

