-- ==== Sys2Proof/Laws/Memory.lean ====
section
/-! SUPPORT. Laws of memory: what a write is read back as, what it leaves, and that every memory operation keeps the canonical form. -/

namespace Sys2Proof.Machine
open Sys2Proof

theorem writeByte_wf (a : Nat) (b : Byte) (m : FMap Byte) (h : Memory.wf m = true) : Memory.wf (writeByte a b m) = true :=
  FMap.wf_set _ _ _ _ h

theorem writeBytes_wf (a : Nat) (bs : List Byte) (m : FMap Byte) (h : Memory.wf m = true) : Memory.wf (writeBytes a bs m) = true := by
  induction bs generalizing a m with
  | nil => exact h
  | cons b rest ih => exact ih (a + 1) _ (writeByte_wf a b m h)

theorem writeWord_wf (a : Nat) (w : Word) (m : FMap Byte) (h : Memory.wf m = true) : Memory.wf (writeWord a w m) = true :=
  writeBytes_wf a _ m h

theorem filter_wf {α : Type} [DecidableEq α] (d : Nat → α) (lo : Nat) (p : Nat × α → Bool) (m : FMap α)
    (h : FMap.wfFrom d lo m = true) : FMap.wfFrom d lo (m.filter p) = true := by
  induction m generalizing lo with
  | nil => rfl
  | cons x rest ih =>
    obtain ⟨j, v⟩ := x
    simp only [FMap.wfFrom, Bool.and_eq_true, decide_eq_true_eq] at h
    by_cases hp : p (j, v) = true
    · rw [List.filter_cons_of_pos hp]
      simp only [FMap.wfFrom, Bool.and_eq_true, decide_eq_true_eq]
      exact ⟨h.1, ih _ h.2⟩
    · rw [List.filter_cons_of_neg hp]
      exact FMap.wfFrom_mono d _ (by omega) (ih _ h.2)

theorem zeroRange_wf (a n : Nat) (m : FMap Byte) (h : Memory.wf m = true) : Memory.wf (zeroRange a n m) = true :=
  filter_wf _ _ _ m h

theorem zeroWindow_wf (n : Nat) (m : FMap Byte) (h : Memory.wf m = true) : Memory.wf (zeroWindow n m) = true := by
  unfold zeroWindow
  split
  · exact zeroRange_wf _ _ m h
  · exact h

theorem copyRange_wf (a t n : Nat) (m : FMap Byte) (h : Memory.wf m = true) : Memory.wf (copyRange a t n m) = true :=
  foldOver_keeps (fun m => Memory.wf m = true) _ _ _ (fun _ m hm => writeByte_wf _ _ m hm) (zeroRange_wf t n m h)

/-- A byte written is read back, and no other byte changes. -/
theorem get_writeByte (a k : Nat) (b : Byte) (m : FMap Byte) :
    FMap.get memReset (writeByte a b m) k = if k = a then b else FMap.get memReset m k := FMap.get_set _ _ _ _ _

/-- Bytes written are read back, and no byte outside them changes. -/
theorem get_writeBytes (a k : Nat) (bs : List Byte) (m : FMap Byte) :
    FMap.get memReset (writeBytes a bs m) k =
      if a ≤ k ∧ k < a + bs.length then bs.getD (k - a) 0 else FMap.get memReset m k := by
  induction bs generalizing a m with
  | nil =>
    have : ¬ (a ≤ k ∧ k < a + 0) := by omega
    rw [List.length_nil, if_neg this]
    rfl
  | cons b rest ih =>
    unfold writeBytes
    rw [ih, get_writeByte]
    by_cases h1 : k = a
    · subst h1
      simp
    · by_cases h2 : a ≤ k ∧ k < a + (rest.length + 1)
      · have h3 : a + 1 ≤ k ∧ k < a + 1 + rest.length := by omega
        obtain ⟨i, hi⟩ : ∃ i, k - a = i + 1 := ⟨k - a - 1, by omega⟩
        have : k - (a + 1) = i := by omega
        simp [h2, h3, this, hi]
      · have h3 : ¬ (a + 1 ≤ k ∧ k < a + 1 + rest.length) := by omega
        rw [if_neg h3, if_neg h1, List.length_cons, if_neg h2]

/-- A store leaves every byte outside it. -/
theorem get_writeBytes_other {a k : Nat} (bs : List Byte) (m : FMap Byte) (h : k < a ∨ a + bs.length ≤ k) :
    FMap.get memReset (writeBytes a bs m) k = FMap.get memReset m k := by
  rw [get_writeBytes]
  have : ¬ (a ≤ k ∧ k < a + bs.length) := by omega
  simp [this]

end Sys2Proof.Machine
end

