-- ==== Sys2Proof/Laws/Ops.lean ====
section
/-! SUPPORT. What the shared operations do, once each: register fields and bits, counters, events, and an instruction that no cause stops. -/

namespace Sys2Proof.Machine
open Sys2Proof

/-! Fields and bits of a word. -/

theorem Word.bit_setField (w : Word) (hi lo v i : Nat) (hw : hi < 32) (hl : lo ≤ hi) (h32 : i < 32) :
    Word.bit (Word.setField w hi lo v) i = if lo ≤ i ∧ i ≤ hi then v.testBit (i - lo) else Word.bit w i := by
  unfold Word.bit Word.setField
  have hm : (2 ^ (hi + 1 - lo) - 1) <<< lo < 2 ^ 32 := by
    rw [Nat.shiftLeft_eq]
    calc (2 ^ (hi + 1 - lo) - 1) * 2 ^ lo < 2 ^ (hi + 1 - lo) * 2 ^ lo :=
          (Nat.mul_lt_mul_right (Nat.two_pow_pos lo)).2 (Nat.sub_lt (Nat.two_pow_pos _) Nat.one_pos)
      _ = 2 ^ (hi + 1) := by rw [← Nat.pow_add]; congr 1; omega
      _ ≤ 2 ^ 32 := Nat.pow_le_pow_right (by omega) (by omega)
  have key : (2 ^ 32 - 1 - (2 ^ (hi + 1 - lo) - 1) <<< lo).testBit i = (decide (i < 32) && !((2 ^ (hi + 1 - lo) - 1) <<< lo).testBit i) := by
    rw [Nat.sub_sub, Nat.add_comm]; exact Nat.testBit_two_pow_sub_succ hm i
  simp only [BitVec.getLsbD_or, BitVec.getLsbD_and, BitVec.getLsbD_ofNat, h32, decide_true, Bool.true_and, Nat.mod_eq_of_lt hm, key]
  simp only [Nat.testBit_shiftLeft, Nat.testBit_two_pow_sub_one, Nat.testBit_mod_two_pow]
  by_cases h1 : lo ≤ i
  · by_cases h2 : i ≤ hi
    · have h3 : i - lo < hi + 1 - lo := by omega
      simp [h1, h2, h3]
    · have h3 : ¬ i - lo < hi + 1 - lo := by omega
      simp [h1, h2, h3]
  · simp [h1]

theorem Word.bit_setBit (w : Word) (i j : Nat) (b : Bool) (hi : i < 32) (hj : j < 32) :
    Word.bit (Word.setBit w i b) j = if j = i then b else Word.bit w j := by
  unfold Word.setBit
  rw [Word.bit_setField w i i _ j hi (le_refl i) hj]
  by_cases h : j = i
  · subst h; cases b <;> simp
  · have : ¬ (i ≤ j ∧ j ≤ i) := fun x => h (by omega)
    simp [h, this]

theorem Dev.rbit_setRbit (d : Dev) (a i j : Nat) (b : Bool) (hi : i < 32) (hj : j < 32) :
    (d.setRbit a i b).rbit a j = if j = i then b else d.rbit a j := by
  unfold Dev.rbit
  rw [Dev.reg_setRbit]
  exact Word.bit_setBit _ _ _ _ hi hj

/-! Statistics counters (15 R528). -/

theorem Dev.reg_bump (d : Dev) {c o : Nat} (b : Nat) (h : c ≠ o) : (d.bump c o b).reg c = satInc (d.reg c) := by
  unfold Dev.bump
  dsimp only
  split
  · rw [Dev.reg_setRbit_other _ _ _ h, Dev.reg_setReg]
  · exact Dev.reg_setReg _ _ _

theorem Dev.reg_bump_other (d : Dev) {a c o : Nat} (b : Nat) (hc : a ≠ c) (ho : a ≠ o) : (d.bump c o b).reg a = d.reg a := by
  unfold Dev.bump
  dsimp only
  split
  · rw [Dev.reg_setRbit_other _ _ _ ho, Dev.reg_setReg_other _ _ hc]
  · exact Dev.reg_setReg_other _ _ hc

theorem Dev.bump_regs (d : Dev) (c o b : Nat) : d.bump c o b = { d with regs := (d.bump c o b).regs } := by
  unfold Dev.bump
  dsimp only
  split <;> rfl

/-! Events (15 R523-R526, R530): of the device only EVT and LOG registers, the log's queues and the sessions change. -/

/-- Registers, log and sessions apart, the two devices agree. -/
def Dev.sameBut (d e : Dev) : Prop := e = { d with regs := e.regs, log := e.log, hwd := { d.hwd with sessions := e.hwd.sessions } }

theorem Dev.sameBut_refl (d : Dev) : Dev.sameBut d d := rfl

theorem Dev.sameBut_trans {d e f : Dev} (h : Dev.sameBut d e) (k : Dev.sameBut e f) : Dev.sameBut d f := by
  unfold Dev.sameBut at *
  rw [k, h]

theorem Dev.sameBut_bump (d : Dev) (c o b : Nat) : Dev.sameBut d (d.bump c o b) := by
  unfold Dev.bump
  dsimp only
  split <;> exact rfl

theorem Dev.sameBut_raiseBase (d : Dev) (e : Nat) : Dev.sameBut d (d.raiseBase e) := by
  have h : Dev.sameBut d ((d.setRbit (A.evtPend (e / 32)) (e % 32) true).bump (A.evtCnt e) (A.evtOvf (e / 32)) (e % 32)) :=
    Dev.sameBut_trans (e := d.setRbit (A.evtPend (e / 32)) (e % 32) true) rfl (Dev.sameBut_bump _ _ _ _)
  unfold Dev.raiseBase
  dsimp only
  split
  · exact Dev.sameBut_trans h rfl
  · exact Dev.sameBut_trans h rfl

theorem Dev.sameBut_logTry (d : Dev) (r : LogRec) : Dev.sameBut d (d.logTry r).1 := by
  unfold Dev.logTry
  dsimp only
  split <;> split
  · exact rfl
  · exact Dev.sameBut_trans (e := { d with log := { d.log with gap := true } }) rfl (Dev.sameBut_bump _ _ _ _)
  · exact rfl
  · exact Dev.sameBut_trans (e := { d with log := { d.log with gap := true } }) rfl (Dev.sameBut_bump _ _ _ _)

theorem Dev.sameBut_logEvent (d : Dev) (e i : Nat) : Dev.sameBut d (d.logEvent e i).1 := by
  unfold Dev.logEvent
  dsimp only
  split
  · split
    · exact Dev.sameBut_trans (e := { d with log := _ }) (by exact rfl) (Dev.sameBut_logTry _ _)
    · exact rfl
  · exact rfl

theorem Dev.sameBut_dropEvent (d : Dev) : Dev.sameBut d d.dropEvent := by
  have h : ∀ l : LogSt, Dev.sameBut d ((({ d with log := l } : Dev).raiseBase 367).logEvent 367 0).1 := fun l =>
    Dev.sameBut_trans (Dev.sameBut_trans (e := { d with log := l }) rfl (Dev.sameBut_raiseBase _ _)) (Dev.sameBut_logEvent _ _ _)
  unfold Dev.dropEvent
  dsimp only
  split <;> split <;> first | exact h _ | exact rfl

/-- Raising an event changes registers, the log and the sessions only. -/
theorem Dev.sameBut_raise (d : Dev) (e i : Nat) : Dev.sameBut d (d.raise e i) := by
  have h := Dev.sameBut_trans (Dev.sameBut_raiseBase d e) (Dev.sameBut_logEvent _ e i)
  unfold Dev.raise
  dsimp only
  split
  · exact h
  · exact Dev.sameBut_trans h (Dev.sameBut_dropEvent _)

/-- A log record that is queued or dropped changes registers, the log and the sessions only. -/
theorem Dev.sameBut_logRec (d : Dev) (ty e : Nat) (l : List Nat) (m : List (List Nat)) : Dev.sameBut d (d.logRec ty e l m) := by
  unfold Dev.logRec
  dsimp only
  split
  · exact Dev.sameBut_logTry _ _
  · exact Dev.sameBut_trans (Dev.sameBut_logTry _ _) (Dev.sameBut_dropEvent _)

/-! Commands of a unit that may be absent, and memory. -/

theorem present_next {ok : Bool} (k : State) (h : ok = true) : present ok k = .next k := by
  unfold present; simp [h]

theorem present_absent {ok : Bool} (k : State) (h : ok = false) : present ok k = .fault .noSuchUnit := by
  unfold present; simp [h]

theorem DevOnly_onDev (f : Dev → Dev) (s : State) : DevOnly s (s.onDev f) := ⟨rfl, rfl⟩

theorem DevOnly_trans {s t u : State} (h : DevOnly s t) (k : DevOnly t u) : DevOnly s u := ⟨k.1.trans h.1, k.2.trans h.2⟩

end Sys2Proof.Machine
end

