-- ==== Sys2Proof/WellFormed.lean ====
section
/-! DEFINITION. Which commands are well formed: every number of a unit names a unit that the largest variant has (00 R5), every hop is
1-64 (04 R125), and every field of an instruction lies within its range. What a request asks for may still be refused: that is the
meaning's concern. -/

namespace Sys2Proof

/-- A hop number (04 R125). -/
def hopOk (h : Nat) : Bool := decide (1 ≤ h) && decide (h ≤ 64)

/-- A span of hops. -/
def spanOk (a b : Nat) : Bool := decide (1 ≤ a) && decide (a ≤ b) && decide (b ≤ 64)

/-- The command names only what exists. -/
def Instr.wellFormed (i : Instr) : Bool :=
  match i with
  | .pcsSyncEdge _ => true
  | .captureWindowClose => true
  | .quietLaunch => true
  | .syncLaunch => true
  | .samplingInstant => true
  | .scanFrameLaunch _ _ => true
  | .scanFrameReturn port _ _ => decide (port < 48)
  | .slotCutoff _ _ => true
  | .l0Verdict => true
  | .l0SelftestEnd _ _ => true
  | .zoneLineLow z => decide (z < 8)
  | .readbackFault z => decide (z < 8)
  | .tripReleaseEval => true
  | .releaseLineCheckEnd high _ => decide (high < 256)
  | .tickBoundary => true
  | .activationStart _ task => decide (task < 128)
  | .segmentResume _ task => decide (task < 128)
  | .deadlineMiss _ task => decide (task < 128)
  | .add _ _ _ _ => true
  | .sub _ _ _ _ => true
  | .and _ _ _ _ => true
  | .or _ _ _ _ => true
  | .xor _ _ _ _ => true
  | .sll _ _ _ _ => true
  | .srl _ _ _ _ => true
  | .sra _ _ _ _ => true
  | .slt _ _ _ _ => true
  | .sltu _ _ _ _ => true
  | .min _ _ _ _ => true
  | .max _ _ _ _ => true
  | .minu _ _ _ _ => true
  | .maxu _ _ _ _ => true
  | .csel _ _ _ _ => true
  | .mul _ _ _ _ => true
  | .mulh _ _ _ _ => true
  | .mulhu _ _ _ _ => true
  | .div _ _ _ _ => true
  | .divu _ _ _ _ => true
  | .rem _ _ _ _ => true
  | .remu _ _ _ _ => true
  | .clz _ _ _ => true
  | .sadd _ _ _ _ => true
  | .ssub _ _ _ _ => true
  | .sneg _ _ _ => true
  | .sabs _ _ _ => true
  | .qmul16 _ _ _ _ => true
  | .qmul31 _ _ _ _ => true
  | .qmulm _ _ _ _ => true
  | .qmac16 _ _ _ _ => true
  | .qdiv16 _ _ _ _ => true
  | .qshl _ _ _ _ => true
  | .qshr _ _ _ _ => true
  | .q16to31 _ _ _ => true
  | .q31to16 _ _ _ => true
  | .addi _ _ _ _ => true
  | .andi _ _ _ _ => true
  | .ori _ _ _ _ => true
  | .xori _ _ _ _ => true
  | .lui _ _ _ => true
  | .slti _ _ _ _ => true
  | .sltiu _ _ _ _ => true
  | .slli _ _ _ _ => true
  | .srli _ _ _ _ => true
  | .srai _ _ _ _ => true
  | .lw _ _ _ _ => true
  | .lh _ _ _ _ => true
  | .lhu _ _ _ _ => true
  | .lb _ _ _ _ => true
  | .lbu _ _ _ _ => true
  | .sw _ _ _ _ => true
  | .sh _ _ _ _ => true
  | .sb _ _ _ _ => true
  | .lwx _ _ _ _ => true
  | .swx _ _ _ _ => true
  | .beq _ _ _ _ => true
  | .bne _ _ _ _ => true
  | .blt _ _ _ _ => true
  | .bge _ _ _ _ => true
  | .bltu _ _ _ _ => true
  | .bgeu _ _ _ _ => true
  | .j _ _ => true
  | .jal _ _ => true
  | .ret _ => true
  | .loop _ _ bound len => decide (1 ≤ bound) && decide (bound ≤ 4096) && decide (1 ≤ len) && decide (len ≤ 512)
  | .mfs _ _ idx => decide (idx < 65536)
  | .out _ _ cls idx => decide (cls < 12) && decide (idx < 65536)
  | .outx _ _ _ cls => decide (cls < 12)
  | .trip _ _ _ _ => true
  | .chk _ _ _ _ n => decide (1 ≤ n) && decide (n ≤ 2048)
  | .waitt _ k => decide (1 ≤ k) && decide (k ≤ 79)
  | .commit _ => true
  | .ring _ _ _ => true
  | .rstat _ _ _ => true
  | .est _ _ _ => true
  | .estat _ _ _ => true
  | .split _ _ => true
  | .join _ _ => true
  | .reservedEncoding _ w => (Machine.wordInfo w.toNat).isNone
  | .lockstepMismatch p group _ => decide (p < 2) && decide (group < 64)
  | .injectionTestEnd p _ => decide (p < 2)
  | .injectionTestDaily p _ => decide (p < 2)
  | .autoJoin p => decide (p < 2)
  | .splitEffect p => decide (p < 2)
  | .joinEffect p => decide (p < 2)
  | .currentSample _ => true
  | .quietTimerExpiry => true
  | .ownResultsReady _ => true
  | .isoCycleEnd _ => true
  | .calStart _ _ _ _ => true
  | .calSample _ _ _ => true
  | .calCompute => true
  | .acqCtlWrite _ => true
  | .acqFiltWrite _ => true
  | .acqStretchWrite _ => true
  | .acqValcfgWrite _ => true
  | .cnpyBalenWrite k _ => decide (k < 2)
  | .cnpyImpctlWrite _ => true
  | .ucodeWrite p _ => decide (p < 2)
  | .qcntlRead _ => true
  | .timelRead _ => true
  | .utclRead _ => true
  | .rcCounterRead _ _ => true
  | .canLockRead p _ => decide (p < 2)
  | .canData15Read p _ => decide (p < 2)
  | .absentSpaceAccess _ _ => true
  | .registerWrite _ _ => true
  | .transactionLaunch port _ _ _ => decide (port < 48)
  | .frameReturn port _ _ _ => decide (port < 48)
  | .frameLost port => decide (port < 48)
  | .portLockGain port => decide (port < 48)
  | .portLockLoss port => decide (port < 48)
  | .discoveryLockTimeout port => decide (port < 48)
  | .keepLaunch port _ _ => decide (port < 48)
  | .rerange port => decide (port < 48)
  | .enumMod port _ => decide (port < 48)
  | .rangeMod port _ _ _ => decide (port < 48)
  | .rdrange port first last => decide (port < 48) && spanOk first last
  | .setver port first vers => decide (port < 48) && spanOk first (first + vers.length - 1)
  | .setdly port first dlys => decide (port < 48) && spanOk first (first + dlys.length - 1)
  | .setturnRelease port hop _ => decide (port < 48) && hopOk hop
  | .setturnForceTa port hop => decide (port < 48) && hopOk hop
  | .setturnForceTb port hop => decide (port < 48) && hopOk hop
  | .authch port hop => decide (port < 48) && hopOk hop
  | .keyset port hop _ => decide (port < 48) && hopOk hop
  | .cfgtag port first last _ => decide (port < 48) && spanOk first last
  | .rdreg port first last _ _ => decide (port < 48) && spanOk first last
  | .wrreg port first last _ _ => decide (port < 48) && spanOk first last
  | .clrst port first last _ => decide (port < 48) && spanOk first last
  | .balMod port first timers => decide (port < 48) && spanOk first (first + timers.length - 1)
  | .baltestStart port first entries _ => decide (port < 48) && spanOk first (first + entries.length - 1)
  | .baltestRead port first last => decide (port < 48) && spanOk first last
  | .burstArm port first cells => decide (port < 48) && spanOk first (first + cells.length - 1)
  | .burstFreeze port first cells => decide (port < 48) && spanOk first (first + cells.length - 1)
  | .burstDisarm port first last => decide (port < 48) && spanOk first last
  | .burstrd port first last block _ => decide (port < 48) && spanOk first last && decide (block < 4)
  | .diagrd port first last _ _ => decide (port < 48) && spanOk first last
  | .hdstat port first last => decide (port < 48) && spanOk first last
  | .hdcfg port _ => decide (port < 48)
  | .echoMod port first last => decide (port < 48) && spanOk first last
  | .headNop port seq => decide (port < 48) && decide (seq < 256)
  | .headNegClose port seq => decide (port < 48) && decide (seq < 256)
  | .headPreClose port seq => decide (port < 48) && decide (seq < 256)
  | .headPosClose port seq => decide (port < 48) && decide (seq < 256)
  | .headPreOpen port seq => decide (port < 48) && decide (seq < 256)
  | .headOpen port seq => decide (port < 48) && decide (seq < 256)
  | .headOpenAll port seq => decide (port < 48) && decide (seq < 256)
  | .balancePlan => true
  | .balanceTestRun port hop => decide (port < 48) && hopOk hop
  | .cfgRetry port hop => decide (port < 48) && hopOk hop
  | .authChallengeRun port hop => decide (port < 48) && hopOk hop
  | .authRecordTimeout port hop => decide (port < 48) && hopOk hop
  | .scanJobEnd => true
  | .scanJobOverrun => true
  | .digestCompare _ => true
  | .repeatJobEnd _ => true
  | .twinSelftestEnd _ _ => true
  | .estJobStart => true
  | .estJobEnd => true
  | .healthJob => true
  | .snapshotRefresh _ => true
  | .impedanceArm port => decide (port < 48)
  | .armTimeout port => decide (port < 48)
  | .fitJob port => decide (port < 48)
  | .fitJobEnd port => decide (port < 48)
  | .socmRestExpiry => true
  | .reserveExpiry => true
  | .pcsRequestExpiry _ => true
  | .ggraceExpiry => true
  | .seqNone tgt tag _ => decide (tgt < 49) && decide (tag < 256)
  | .seqClose arg tag _ => decide (arg < 65536) && decide (tag < 256)
  | .seqPrelink arg tag _ => decide (arg < 65536) && decide (tag < 256)
  | .seqOpen arg tag _ => decide (arg < 65536) && decide (tag < 256)
  | .seqOpenNow arg tag _ => decide (arg < 65536) && decide (tag < 256)
  | .seqShutdown arg tag _ => decide (arg < 65536) && decide (tag < 256)
  | .strConnect n arg tag _ => decide (n < 48) && decide (arg < 65536) && decide (tag < 256)
  | .strDisconnect n arg tag _ => decide (n < 48) && decide (arg < 65536) && decide (tag < 256)
  | .strDisconnow n arg tag _ => decide (n < 48) && decide (arg < 65536) && decide (tag < 256)
  | .holdEconomy _ => true
  | .feedbackChange _ _ => true
  | .feedbackTimeout _ => true
  | .gateFault _ => true
  | .linkMatch => true
  | .tlinkExpiry => true
  | .rampTimeout => true
  | .tholdExpiry => true
  | .currentWaitEnd tgt => decide (tgt < 49)
  | .tspreExpiry n => decide (n < 48)
  | .tvsdExpiry => true
  | .controlLoopEval n _ => decide (n < 16)
  | .currentLimitExpiry n => decide (n < 32)
  | .retryPauseEnd n => decide (n < 32)
  | .conductionClear n => decide (n < 32)
  | .powerStageOvertemp n => decide (n < 32)
  | .powerStageRestart n => decide (n < 32)
  | .openLoadChange n _ => decide (n < 32)
  | .clampPulse n _ _ => decide (n < 32)
  | .freewheelCheck n => decide (n < 32)
  | .selectOpen n => decide (n < 32)
  | .selectClose n => decide (n < 32)
  | .lhMapLoad => true
  | .lhWatchdogExpiry => true
  | .lhInSample _ => true
  | .lhEnLow => true
  | .lhEnReturn => true
  | .mooringMessageRx _ _ _ => true
  | .mooringLaneTrained lane _ => decide (lane < 2)
  | .mooringLaneLoss lane => decide (lane < 2)
  | .mooringSilent => true
  | .aliveLoss _ _ => true
  | .graftInHigh => true
  | .graftComplete => true
  | .timeExchange _ => true
  | .pairingTimeout => true
  | .resyncDeadline => true
  | .claim _ _ _ _ => true
  | .sessionHandshake _ => true
  | .handshakeTimeout => true
  | .keyupdate _ => true
  | .sessionExpiry _ => true
  | .fspHello _ _ _ => true
  | .fspBye _ _ => true
  | .fspRead _ _ _ => true
  | .fspLogread _ _ _ => true
  | .fspQuote _ _ => true
  | .fspSubscribe _ _ _ => true
  | .notifyctlOn _ => true
  | .notifyctlOff _ => true
  | .fspDispatch _ _ => true
  | .dlimitSet _ _ _ => true
  | .dlimitWithdraw _ _ => true
  | .reserveRelease _ _ _ => true
  | .reserveWithdraw _ => true
  | .ctlclrWeld _ => true
  | .ctlclrLoop _ n => decide (n < 16)
  | .fspTriprel _ _ => true
  | .fspUnlock _ _ => true
  | .fspRearm _ e => decide (e < 128)
  | .fspBaltest _ rg hop => decide (rg < 48) && hopOk hop
  | .fspStorage _ => true
  | .twinsvcResync _ => true
  | .twinsvcReset _ => true
  | .twinsvcHandover _ => true
  | .imageBegin _ _ => true
  | .imageData _ _ _ => true
  | .imageEnd _ _ => true
  | .imageTransferTimeout => true
  | .memtestPreserving _ _ _ _ => true
  | .memtestDestructive _ _ _ _ => true
  | .ownOwnerkey _ _ _ => true
  | .ownRolekey _ _ _ _ => true
  | .ownTenant _ _ _ => true
  | .ownAccept _ rg hop _ _ => decide (rg < 48) && hopOk hop
  | .ownFloor _ _ _ => true
  | .ownTwinpair _ _ _ => true
  | .ownKtrotate _ => true
  | .ownRelease _ => true
  | .programSwitchover => true
  | .envelopeSwitchover => true
  | .chemistrySwitchover => true
  | .topologySwitchover => true
  | .firmwareFloorRaise => true
  | .trngHealthFail => true
  | .hwdTestEnd _ => true
  | .heartwoodBoot _ _ _ _ => true
  | .streamSend _ => true
  | .notifySend _ => true
  | .canFrameRx c _ _ => decide (c < 4)
  | .canFrameSent c obj _ _ => decide (c < 4) && decide (obj < 128)
  | .canBusOff c => decide (c < 4)
  | .canErrorPassive c _ r t => decide (c < 4) && decide (r < 256) && decide (t < 256)
  | .busOffRecovery c => decide (c < 4)
  | .busOffRecovered c => decide (c < 4)
  | .restrictedEnter c => decide (c < 4)
  | .restrictedLeave c => decide (c < 4)
  | .profileHello _ => true
  | .heartbeat => true
  | .profileRequest _ => true
  | .profileWithdraw _ => true
  | .profileReportSend => true
  | .ptoExpiry => true
  | .ethLinkChange p _ _ => decide (p < 2)
  | .ethFrameRx p _ => decide (p < 2)
  | .ptpSyncRx _ _ => true
  | .utcTimeout => true
  | .addressConflict p => decide (p < 2)
  | .rowRepairSwitch bank _ => decide (bank < 43)
  | .bankRetire bank => decide (bank < 43)
  | .aringsApply n => decide (n ≤ 48)
  | .scrubPassEnd _ _ => true
  | .preservingRedirect => true
  | .preservingReturn => true
  | .marchTestEnd _ => true
  | .logRecordWrite _ => true
  | .eventWindowEnd e => decide (e < 384)
  | .resetRelease tws _ => decide (tws < 4)
  | .bootComplete => true
  | .railFault i => decide (i < 7)
  | .vauxWarning _ => true
  | .vauxRecovery _ => true
  | .vauxReset _ => true
  | .vaonLost => true
  | .coreDroop p _ => decide (p < 2)
  | .pllFail => true
  | .oscFail => true
  | .watchEntry => true
  | .watchPllStart => true
  | .watchPllStop => true
  | .wakeBusWake => true
  | .serviceKeyWake => true
  | .thermalSample _ => true
  | .thermalEnforce => true
  | .thermalRestart => true
  | .sensorDiff => true
  | .instantLocalDeadline => true
  | .l0SelftestDaily _ _ => true
  | .currentLimitSumReached n => decide (n < 32)
  | .holdCurrentLimit _ => true
  | .timeRecord => true
  | .vaonReturn => true
  | .ptpSyncLoss => true
  | .aliveReturn => true

end Sys2Proof
end

