-- ==== Sys2Proof/Laws/PerInstr.lean ====
section
/-! SUPPORT. Statements about every command as syntax, one lemma for each constructor. Family Port: a well-formed command that
names a ring port names one of the 48 (00 R5). -/

namespace Sys2Proof.Laws
open Sys2Proof

/-- The ring port that a command names. -/
def portOf (i : Instr) : Option Nat :=
  match i with
  | .pcsSyncEdge _ => none
  | .captureWindowClose => none
  | .quietLaunch => none
  | .syncLaunch => none
  | .samplingInstant => none
  | .scanFrameLaunch _ _ => none
  | .scanFrameReturn port _ _ => some port
  | .slotCutoff _ _ => none
  | .l0Verdict => none
  | .l0SelftestEnd _ _ => none
  | .zoneLineLow _ => none
  | .readbackFault _ => none
  | .tripReleaseEval => none
  | .releaseLineCheckEnd _ _ => none
  | .tickBoundary => none
  | .activationStart _ _ => none
  | .segmentResume _ _ => none
  | .deadlineMiss _ _ => none
  | .add _ _ _ _ => none
  | .sub _ _ _ _ => none
  | .and _ _ _ _ => none
  | .or _ _ _ _ => none
  | .xor _ _ _ _ => none
  | .sll _ _ _ _ => none
  | .srl _ _ _ _ => none
  | .sra _ _ _ _ => none
  | .slt _ _ _ _ => none
  | .sltu _ _ _ _ => none
  | .min _ _ _ _ => none
  | .max _ _ _ _ => none
  | .minu _ _ _ _ => none
  | .maxu _ _ _ _ => none
  | .csel _ _ _ _ => none
  | .mul _ _ _ _ => none
  | .mulh _ _ _ _ => none
  | .mulhu _ _ _ _ => none
  | .div _ _ _ _ => none
  | .divu _ _ _ _ => none
  | .rem _ _ _ _ => none
  | .remu _ _ _ _ => none
  | .clz _ _ _ => none
  | .sadd _ _ _ _ => none
  | .ssub _ _ _ _ => none
  | .sneg _ _ _ => none
  | .sabs _ _ _ => none
  | .qmul16 _ _ _ _ => none
  | .qmul31 _ _ _ _ => none
  | .qmulm _ _ _ _ => none
  | .qmac16 _ _ _ _ => none
  | .qdiv16 _ _ _ _ => none
  | .qshl _ _ _ _ => none
  | .qshr _ _ _ _ => none
  | .q16to31 _ _ _ => none
  | .q31to16 _ _ _ => none
  | .addi _ _ _ _ => none
  | .andi _ _ _ _ => none
  | .ori _ _ _ _ => none
  | .xori _ _ _ _ => none
  | .lui _ _ _ => none
  | .slti _ _ _ _ => none
  | .sltiu _ _ _ _ => none
  | .slli _ _ _ _ => none
  | .srli _ _ _ _ => none
  | .srai _ _ _ _ => none
  | .lw _ _ _ _ => none
  | .lh _ _ _ _ => none
  | .lhu _ _ _ _ => none
  | .lb _ _ _ _ => none
  | .lbu _ _ _ _ => none
  | .sw _ _ _ _ => none
  | .sh _ _ _ _ => none
  | .sb _ _ _ _ => none
  | .lwx _ _ _ _ => none
  | .swx _ _ _ _ => none
  | .beq _ _ _ _ => none
  | .bne _ _ _ _ => none
  | .blt _ _ _ _ => none
  | .bge _ _ _ _ => none
  | .bltu _ _ _ _ => none
  | .bgeu _ _ _ _ => none
  | .j _ _ => none
  | .jal _ _ => none
  | .ret _ => none
  | .loop _ _ _ _ => none
  | .mfs _ _ _ => none
  | .out _ _ _ _ => none
  | .outx _ _ _ _ => none
  | .trip _ _ _ _ => none
  | .chk _ _ _ _ _ => none
  | .waitt _ _ => none
  | .commit _ => none
  | .ring _ _ _ => none
  | .rstat _ _ _ => none
  | .est _ _ _ => none
  | .estat _ _ _ => none
  | .split _ _ => none
  | .join _ _ => none
  | .reservedEncoding _ _ => none
  | .lockstepMismatch _ _ _ => none
  | .injectionTestEnd _ _ => none
  | .injectionTestDaily _ _ => none
  | .autoJoin _ => none
  | .splitEffect _ => none
  | .joinEffect _ => none
  | .currentSample _ => none
  | .quietTimerExpiry => none
  | .ownResultsReady _ => none
  | .isoCycleEnd _ => none
  | .calStart _ _ _ _ => none
  | .calSample _ _ _ => none
  | .calCompute => none
  | .acqCtlWrite _ => none
  | .acqFiltWrite _ => none
  | .acqStretchWrite _ => none
  | .acqValcfgWrite _ => none
  | .cnpyBalenWrite _ _ => none
  | .cnpyImpctlWrite _ => none
  | .ucodeWrite _ _ => none
  | .qcntlRead _ => none
  | .timelRead _ => none
  | .utclRead _ => none
  | .rcCounterRead _ _ => none
  | .canLockRead _ _ => none
  | .canData15Read _ _ => none
  | .absentSpaceAccess _ _ => none
  | .registerWrite _ _ => none
  | .transactionLaunch port _ _ _ => some port
  | .frameReturn port _ _ _ => some port
  | .frameLost port => some port
  | .portLockGain port => some port
  | .portLockLoss port => some port
  | .discoveryLockTimeout port => some port
  | .keepLaunch port _ _ => some port
  | .rerange port => some port
  | .enumMod port _ => some port
  | .rangeMod port _ _ _ => some port
  | .rdrange port _ _ => some port
  | .setver port _ _ => some port
  | .setdly port _ _ => some port
  | .setturnRelease port _ _ => some port
  | .setturnForceTa port _ => some port
  | .setturnForceTb port _ => some port
  | .authch port _ => some port
  | .keyset port _ _ => some port
  | .cfgtag port _ _ _ => some port
  | .rdreg port _ _ _ _ => some port
  | .wrreg port _ _ _ _ => some port
  | .clrst port _ _ _ => some port
  | .balMod port _ _ => some port
  | .baltestStart port _ _ _ => some port
  | .baltestRead port _ _ => some port
  | .burstArm port _ _ => some port
  | .burstFreeze port _ _ => some port
  | .burstDisarm port _ _ => some port
  | .burstrd port _ _ _ _ => some port
  | .diagrd port _ _ _ _ => some port
  | .hdstat port _ _ => some port
  | .hdcfg port _ => some port
  | .echoMod port _ _ => some port
  | .headNop port _ => some port
  | .headNegClose port _ => some port
  | .headPreClose port _ => some port
  | .headPosClose port _ => some port
  | .headPreOpen port _ => some port
  | .headOpen port _ => some port
  | .headOpenAll port _ => some port
  | .balancePlan => none
  | .balanceTestRun port _ => some port
  | .cfgRetry port _ => some port
  | .authChallengeRun port _ => some port
  | .authRecordTimeout port _ => some port
  | .scanJobEnd => none
  | .scanJobOverrun => none
  | .digestCompare _ => none
  | .repeatJobEnd _ => none
  | .twinSelftestEnd _ _ => none
  | .estJobStart => none
  | .estJobEnd => none
  | .healthJob => none
  | .snapshotRefresh _ => none
  | .impedanceArm port => some port
  | .armTimeout port => some port
  | .fitJob port => some port
  | .fitJobEnd port => some port
  | .socmRestExpiry => none
  | .reserveExpiry => none
  | .pcsRequestExpiry _ => none
  | .ggraceExpiry => none
  | .seqNone _ _ _ => none
  | .seqClose _ _ _ => none
  | .seqPrelink _ _ _ => none
  | .seqOpen _ _ _ => none
  | .seqOpenNow _ _ _ => none
  | .seqShutdown _ _ _ => none
  | .strConnect _ _ _ _ => none
  | .strDisconnect _ _ _ _ => none
  | .strDisconnow _ _ _ _ => none
  | .holdEconomy _ => none
  | .feedbackChange _ _ => none
  | .feedbackTimeout _ => none
  | .gateFault _ => none
  | .linkMatch => none
  | .tlinkExpiry => none
  | .rampTimeout => none
  | .tholdExpiry => none
  | .currentWaitEnd _ => none
  | .tspreExpiry _ => none
  | .tvsdExpiry => none
  | .controlLoopEval _ _ => none
  | .currentLimitExpiry _ => none
  | .retryPauseEnd _ => none
  | .conductionClear _ => none
  | .powerStageOvertemp _ => none
  | .powerStageRestart _ => none
  | .openLoadChange _ _ => none
  | .clampPulse _ _ _ => none
  | .freewheelCheck _ => none
  | .selectOpen _ => none
  | .selectClose _ => none
  | .lhMapLoad => none
  | .lhWatchdogExpiry => none
  | .lhInSample _ => none
  | .lhEnLow => none
  | .lhEnReturn => none
  | .mooringMessageRx _ _ _ => none
  | .mooringLaneTrained _ _ => none
  | .mooringLaneLoss _ => none
  | .mooringSilent => none
  | .aliveLoss _ _ => none
  | .graftInHigh => none
  | .graftComplete => none
  | .timeExchange _ => none
  | .pairingTimeout => none
  | .resyncDeadline => none
  | .claim _ _ _ _ => none
  | .sessionHandshake _ => none
  | .handshakeTimeout => none
  | .keyupdate _ => none
  | .sessionExpiry _ => none
  | .fspHello _ _ _ => none
  | .fspBye _ _ => none
  | .fspRead _ _ _ => none
  | .fspLogread _ _ _ => none
  | .fspQuote _ _ => none
  | .fspSubscribe _ _ _ => none
  | .notifyctlOn _ => none
  | .notifyctlOff _ => none
  | .fspDispatch _ _ => none
  | .dlimitSet _ _ _ => none
  | .dlimitWithdraw _ _ => none
  | .reserveRelease _ _ _ => none
  | .reserveWithdraw _ => none
  | .ctlclrWeld _ => none
  | .ctlclrLoop _ _ => none
  | .fspTriprel _ _ => none
  | .fspUnlock _ _ => none
  | .fspRearm _ _ => none
  | .fspBaltest _ _ _ => none
  | .fspStorage _ => none
  | .twinsvcResync _ => none
  | .twinsvcReset _ => none
  | .twinsvcHandover _ => none
  | .imageBegin _ _ => none
  | .imageData _ _ _ => none
  | .imageEnd _ _ => none
  | .imageTransferTimeout => none
  | .memtestPreserving _ _ _ _ => none
  | .memtestDestructive _ _ _ _ => none
  | .ownOwnerkey _ _ _ => none
  | .ownRolekey _ _ _ _ => none
  | .ownTenant _ _ _ => none
  | .ownAccept _ _ _ _ _ => none
  | .ownFloor _ _ _ => none
  | .ownTwinpair _ _ _ => none
  | .ownKtrotate _ => none
  | .ownRelease _ => none
  | .programSwitchover => none
  | .envelopeSwitchover => none
  | .chemistrySwitchover => none
  | .topologySwitchover => none
  | .firmwareFloorRaise => none
  | .trngHealthFail => none
  | .hwdTestEnd _ => none
  | .heartwoodBoot _ _ _ _ => none
  | .streamSend _ => none
  | .notifySend _ => none
  | .canFrameRx _ _ _ => none
  | .canFrameSent _ _ _ _ => none
  | .canBusOff _ => none
  | .canErrorPassive _ _ _ _ => none
  | .busOffRecovery _ => none
  | .busOffRecovered _ => none
  | .restrictedEnter _ => none
  | .restrictedLeave _ => none
  | .profileHello _ => none
  | .heartbeat => none
  | .profileRequest _ => none
  | .profileWithdraw _ => none
  | .profileReportSend => none
  | .ptoExpiry => none
  | .ethLinkChange _ _ _ => none
  | .ethFrameRx _ _ => none
  | .ptpSyncRx _ _ => none
  | .utcTimeout => none
  | .addressConflict _ => none
  | .rowRepairSwitch _ _ => none
  | .bankRetire _ => none
  | .aringsApply _ => none
  | .scrubPassEnd _ _ => none
  | .preservingRedirect => none
  | .preservingReturn => none
  | .marchTestEnd _ => none
  | .logRecordWrite _ => none
  | .eventWindowEnd _ => none
  | .resetRelease _ _ => none
  | .bootComplete => none
  | .railFault _ => none
  | .vauxWarning _ => none
  | .vauxRecovery _ => none
  | .vauxReset _ => none
  | .vaonLost => none
  | .coreDroop _ _ => none
  | .pllFail => none
  | .oscFail => none
  | .watchEntry => none
  | .watchPllStart => none
  | .watchPllStop => none
  | .wakeBusWake => none
  | .serviceKeyWake => none
  | .thermalSample _ => none
  | .thermalEnforce => none
  | .thermalRestart => none
  | .sensorDiff => none
  | .instantLocalDeadline => none
  | .l0SelftestDaily _ _ => none
  | .currentLimitSumReached _ => none
  | .holdCurrentLimit _ => none
  | .timeRecord => none
  | .vaonReturn => none
  | .ptpSyncLoss => none
  | .aliveReturn => none

/-- What family Port says of a command. -/
def Port.Statement (i : Instr) : Prop := ∀ n, portOf i = some n → i.wellFormed = true → n < 48

theorem Port.nameless {i : Instr} (h : portOf i = none) : Port.Statement i := by
  intro n hn
  rw [h] at hn
  cases hn

theorem Port.names0 {i : Instr} {p : Nat} (h : portOf i = some p) (w : i.wellFormed = decide (p < 48)) : Port.Statement i := by
  intro n hn hw
  rw [h] at hn
  cases hn
  rw [w] at hw
  exact of_decide_eq_true hw

theorem Port.names1 {i : Instr} {p : Nat} {a : Bool} (h : portOf i = some p) (w : i.wellFormed = (decide (p < 48) && a)) :
    Port.Statement i := by
  intro n hn hw
  rw [h] at hn
  cases hn
  rw [w, Bool.and_eq_true] at hw
  exact of_decide_eq_true hw.1

theorem Port.names2 {i : Instr} {p : Nat} {a b : Bool} (h : portOf i = some p) (w : i.wellFormed = (decide (p < 48) && a && b)) :
    Port.Statement i := by
  intro n hn hw
  rw [h] at hn
  cases hn
  rw [w, Bool.and_eq_true, Bool.and_eq_true] at hw
  exact of_decide_eq_true hw.1.1

theorem Port.pcsSyncEdge (t : Nat) : Port.Statement (.pcsSyncEdge t) := Port.nameless rfl
theorem Port.captureWindowClose : Port.Statement .captureWindowClose := Port.nameless rfl
theorem Port.quietLaunch : Port.Statement .quietLaunch := Port.nameless rfl
theorem Port.syncLaunch : Port.Statement .syncLaunch := Port.nameless rfl
theorem Port.samplingInstant : Port.Statement .samplingInstant := Port.nameless rfl
theorem Port.scanFrameLaunch (hdrBad : List (Nat × Nat)) (cut : List (Nat × Nat)) : Port.Statement (.scanFrameLaunch hdrBad cut) := Port.nameless rfl
theorem Port.scanFrameReturn (port : Nat) (reachA : Nat) (reachB : Nat) : Port.Statement (.scanFrameReturn port reachA reachB) := Port.names0 rfl rfl
theorem Port.slotCutoff (slots : List SlotIn) (heads : List HeadIn) : Port.Statement (.slotCutoff slots heads) := Port.nameless rfl
theorem Port.l0Verdict : Port.Statement .l0Verdict := Port.nameless rfl
theorem Port.l0SelftestEnd (passA : Bool) (passB : Bool) : Port.Statement (.l0SelftestEnd passA passB) := Port.nameless rfl
theorem Port.zoneLineLow (z : Nat) : Port.Statement (.zoneLineLow z) := Port.nameless rfl
theorem Port.readbackFault (z : Nat) : Port.Statement (.readbackFault z) := Port.nameless rfl
theorem Port.tripReleaseEval : Port.Statement .tripReleaseEval := Port.nameless rfl
theorem Port.releaseLineCheckEnd (high : Nat) (partner : Bool) : Port.Statement (.releaseLineCheckEnd high partner) := Port.nameless rfl
theorem Port.tickBoundary : Port.Statement .tickBoundary := Port.nameless rfl
theorem Port.activationStart (c : Core) (task : Nat) : Port.Statement (.activationStart c task) := Port.nameless rfl
theorem Port.segmentResume (c : Core) (task : Nat) : Port.Statement (.segmentResume c task) := Port.nameless rfl
theorem Port.deadlineMiss (c : Core) (task : Nat) : Port.Statement (.deadlineMiss c task) := Port.nameless rfl
theorem Port.add (c : Core) (gd : Reg) (ga : Reg) (gb : Reg) : Port.Statement (.add c gd ga gb) := Port.nameless rfl
theorem Port.sub (c : Core) (gd : Reg) (ga : Reg) (gb : Reg) : Port.Statement (.sub c gd ga gb) := Port.nameless rfl
theorem Port.and (c : Core) (gd : Reg) (ga : Reg) (gb : Reg) : Port.Statement (.and c gd ga gb) := Port.nameless rfl
theorem Port.or (c : Core) (gd : Reg) (ga : Reg) (gb : Reg) : Port.Statement (.or c gd ga gb) := Port.nameless rfl
theorem Port.xor (c : Core) (gd : Reg) (ga : Reg) (gb : Reg) : Port.Statement (.xor c gd ga gb) := Port.nameless rfl
theorem Port.sll (c : Core) (gd : Reg) (ga : Reg) (gb : Reg) : Port.Statement (.sll c gd ga gb) := Port.nameless rfl
theorem Port.srl (c : Core) (gd : Reg) (ga : Reg) (gb : Reg) : Port.Statement (.srl c gd ga gb) := Port.nameless rfl
theorem Port.sra (c : Core) (gd : Reg) (ga : Reg) (gb : Reg) : Port.Statement (.sra c gd ga gb) := Port.nameless rfl
theorem Port.slt (c : Core) (gd : Reg) (ga : Reg) (gb : Reg) : Port.Statement (.slt c gd ga gb) := Port.nameless rfl
theorem Port.sltu (c : Core) (gd : Reg) (ga : Reg) (gb : Reg) : Port.Statement (.sltu c gd ga gb) := Port.nameless rfl
theorem Port.min (c : Core) (gd : Reg) (ga : Reg) (gb : Reg) : Port.Statement (.min c gd ga gb) := Port.nameless rfl
theorem Port.max (c : Core) (gd : Reg) (ga : Reg) (gb : Reg) : Port.Statement (.max c gd ga gb) := Port.nameless rfl
theorem Port.minu (c : Core) (gd : Reg) (ga : Reg) (gb : Reg) : Port.Statement (.minu c gd ga gb) := Port.nameless rfl
theorem Port.maxu (c : Core) (gd : Reg) (ga : Reg) (gb : Reg) : Port.Statement (.maxu c gd ga gb) := Port.nameless rfl
theorem Port.csel (c : Core) (gd : Reg) (ga : Reg) (gb : Reg) : Port.Statement (.csel c gd ga gb) := Port.nameless rfl
theorem Port.mul (c : Core) (gd : Reg) (ga : Reg) (gb : Reg) : Port.Statement (.mul c gd ga gb) := Port.nameless rfl
theorem Port.mulh (c : Core) (gd : Reg) (ga : Reg) (gb : Reg) : Port.Statement (.mulh c gd ga gb) := Port.nameless rfl
theorem Port.mulhu (c : Core) (gd : Reg) (ga : Reg) (gb : Reg) : Port.Statement (.mulhu c gd ga gb) := Port.nameless rfl
theorem Port.div (c : Core) (gd : Reg) (ga : Reg) (gb : Reg) : Port.Statement (.div c gd ga gb) := Port.nameless rfl
theorem Port.divu (c : Core) (gd : Reg) (ga : Reg) (gb : Reg) : Port.Statement (.divu c gd ga gb) := Port.nameless rfl
theorem Port.rem (c : Core) (gd : Reg) (ga : Reg) (gb : Reg) : Port.Statement (.rem c gd ga gb) := Port.nameless rfl
theorem Port.remu (c : Core) (gd : Reg) (ga : Reg) (gb : Reg) : Port.Statement (.remu c gd ga gb) := Port.nameless rfl
theorem Port.clz (c : Core) (gd : Reg) (ga : Reg) : Port.Statement (.clz c gd ga) := Port.nameless rfl
theorem Port.sadd (c : Core) (gd : Reg) (ga : Reg) (gb : Reg) : Port.Statement (.sadd c gd ga gb) := Port.nameless rfl
theorem Port.ssub (c : Core) (gd : Reg) (ga : Reg) (gb : Reg) : Port.Statement (.ssub c gd ga gb) := Port.nameless rfl
theorem Port.sneg (c : Core) (gd : Reg) (ga : Reg) : Port.Statement (.sneg c gd ga) := Port.nameless rfl
theorem Port.sabs (c : Core) (gd : Reg) (ga : Reg) : Port.Statement (.sabs c gd ga) := Port.nameless rfl
theorem Port.qmul16 (c : Core) (gd : Reg) (ga : Reg) (gb : Reg) : Port.Statement (.qmul16 c gd ga gb) := Port.nameless rfl
theorem Port.qmul31 (c : Core) (gd : Reg) (ga : Reg) (gb : Reg) : Port.Statement (.qmul31 c gd ga gb) := Port.nameless rfl
theorem Port.qmulm (c : Core) (gd : Reg) (ga : Reg) (gb : Reg) : Port.Statement (.qmulm c gd ga gb) := Port.nameless rfl
theorem Port.qmac16 (c : Core) (gd : Reg) (ga : Reg) (gb : Reg) : Port.Statement (.qmac16 c gd ga gb) := Port.nameless rfl
theorem Port.qdiv16 (c : Core) (gd : Reg) (ga : Reg) (gb : Reg) : Port.Statement (.qdiv16 c gd ga gb) := Port.nameless rfl
theorem Port.qshl (c : Core) (gd : Reg) (ga : Reg) (gb : Reg) : Port.Statement (.qshl c gd ga gb) := Port.nameless rfl
theorem Port.qshr (c : Core) (gd : Reg) (ga : Reg) (gb : Reg) : Port.Statement (.qshr c gd ga gb) := Port.nameless rfl
theorem Port.q16to31 (c : Core) (gd : Reg) (ga : Reg) : Port.Statement (.q16to31 c gd ga) := Port.nameless rfl
theorem Port.q31to16 (c : Core) (gd : Reg) (ga : Reg) : Port.Statement (.q31to16 c gd ga) := Port.nameless rfl
theorem Port.addi (c : Core) (gd : Reg) (ga : Reg) (imm : BitVec 16) : Port.Statement (.addi c gd ga imm) := Port.nameless rfl
theorem Port.andi (c : Core) (gd : Reg) (ga : Reg) (imm : BitVec 16) : Port.Statement (.andi c gd ga imm) := Port.nameless rfl
theorem Port.ori (c : Core) (gd : Reg) (ga : Reg) (imm : BitVec 16) : Port.Statement (.ori c gd ga imm) := Port.nameless rfl
theorem Port.xori (c : Core) (gd : Reg) (ga : Reg) (imm : BitVec 16) : Port.Statement (.xori c gd ga imm) := Port.nameless rfl
theorem Port.lui (c : Core) (gd : Reg) (imm : BitVec 16) : Port.Statement (.lui c gd imm) := Port.nameless rfl
theorem Port.slti (c : Core) (gd : Reg) (ga : Reg) (imm : BitVec 16) : Port.Statement (.slti c gd ga imm) := Port.nameless rfl
theorem Port.sltiu (c : Core) (gd : Reg) (ga : Reg) (imm : BitVec 16) : Port.Statement (.sltiu c gd ga imm) := Port.nameless rfl
theorem Port.slli (c : Core) (gd : Reg) (ga : Reg) (sh : Fin 32) : Port.Statement (.slli c gd ga sh) := Port.nameless rfl
theorem Port.srli (c : Core) (gd : Reg) (ga : Reg) (sh : Fin 32) : Port.Statement (.srli c gd ga sh) := Port.nameless rfl
theorem Port.srai (c : Core) (gd : Reg) (ga : Reg) (sh : Fin 32) : Port.Statement (.srai c gd ga sh) := Port.nameless rfl
theorem Port.lw (c : Core) (gd : Reg) (ga : Reg) (imm : BitVec 16) : Port.Statement (.lw c gd ga imm) := Port.nameless rfl
theorem Port.lh (c : Core) (gd : Reg) (ga : Reg) (imm : BitVec 16) : Port.Statement (.lh c gd ga imm) := Port.nameless rfl
theorem Port.lhu (c : Core) (gd : Reg) (ga : Reg) (imm : BitVec 16) : Port.Statement (.lhu c gd ga imm) := Port.nameless rfl
theorem Port.lb (c : Core) (gd : Reg) (ga : Reg) (imm : BitVec 16) : Port.Statement (.lb c gd ga imm) := Port.nameless rfl
theorem Port.lbu (c : Core) (gd : Reg) (ga : Reg) (imm : BitVec 16) : Port.Statement (.lbu c gd ga imm) := Port.nameless rfl
theorem Port.sw (c : Core) (gs : Reg) (ga : Reg) (imm : BitVec 16) : Port.Statement (.sw c gs ga imm) := Port.nameless rfl
theorem Port.sh (c : Core) (gs : Reg) (ga : Reg) (imm : BitVec 16) : Port.Statement (.sh c gs ga imm) := Port.nameless rfl
theorem Port.sb (c : Core) (gs : Reg) (ga : Reg) (imm : BitVec 16) : Port.Statement (.sb c gs ga imm) := Port.nameless rfl
theorem Port.lwx (c : Core) (gd : Reg) (ga : Reg) (imm : BitVec 16) : Port.Statement (.lwx c gd ga imm) := Port.nameless rfl
theorem Port.swx (c : Core) (gs : Reg) (ga : Reg) (imm : BitVec 16) : Port.Statement (.swx c gs ga imm) := Port.nameless rfl
theorem Port.beq (c : Core) (ga : Reg) (gb : Reg) (off : BitVec 16) : Port.Statement (.beq c ga gb off) := Port.nameless rfl
theorem Port.bne (c : Core) (ga : Reg) (gb : Reg) (off : BitVec 16) : Port.Statement (.bne c ga gb off) := Port.nameless rfl
theorem Port.blt (c : Core) (ga : Reg) (gb : Reg) (off : BitVec 16) : Port.Statement (.blt c ga gb off) := Port.nameless rfl
theorem Port.bge (c : Core) (ga : Reg) (gb : Reg) (off : BitVec 16) : Port.Statement (.bge c ga gb off) := Port.nameless rfl
theorem Port.bltu (c : Core) (ga : Reg) (gb : Reg) (off : BitVec 16) : Port.Statement (.bltu c ga gb off) := Port.nameless rfl
theorem Port.bgeu (c : Core) (ga : Reg) (gb : Reg) (off : BitVec 16) : Port.Statement (.bgeu c ga gb off) := Port.nameless rfl
theorem Port.j (c : Core) (off : BitVec 26) : Port.Statement (.j c off) := Port.nameless rfl
theorem Port.jal (c : Core) (off : BitVec 26) : Port.Statement (.jal c off) := Port.nameless rfl
theorem Port.ret (c : Core) : Port.Statement (.ret c) := Port.nameless rfl
theorem Port.loop (c : Core) (gc : Reg) (bound : Nat) (len : Nat) : Port.Statement (.loop c gc bound len) := Port.nameless rfl
theorem Port.mfs (c : Core) (gd : Reg) (idx : Nat) : Port.Statement (.mfs c gd idx) := Port.nameless rfl
theorem Port.out (c : Core) (gs : Reg) (cls : Nat) (idx : Nat) : Port.Statement (.out c gs cls idx) := Port.nameless rfl
theorem Port.outx (c : Core) (gs : Reg) (gi : Reg) (cls : Nat) : Port.Statement (.outx c gs gi cls) := Port.nameless rfl
theorem Port.trip (c : Core) (form : TripForm) (reason : Nat) (shadowOk : Bool) : Port.Statement (.trip c form reason shadowOk) := Port.nameless rfl
theorem Port.chk (c : Core) (gd : Reg) (ga : Reg) (gb : Reg) (n : Nat) : Port.Statement (.chk c gd ga gb n) := Port.nameless rfl
theorem Port.waitt (c : Core) (k : Nat) : Port.Statement (.waitt c k) := Port.nameless rfl
theorem Port.commit (c : Core) : Port.Statement (.commit c) := Port.nameless rfl
theorem Port.ring (c : Core) (gd : Reg) (ga : Reg) : Port.Statement (.ring c gd ga) := Port.nameless rfl
theorem Port.rstat (c : Core) (gd : Reg) (ga : Reg) : Port.Statement (.rstat c gd ga) := Port.nameless rfl
theorem Port.est (c : Core) (gd : Reg) (ga : Reg) : Port.Statement (.est c gd ga) := Port.nameless rfl
theorem Port.estat (c : Core) (gd : Reg) (ga : Reg) : Port.Statement (.estat c gd ga) := Port.nameless rfl
theorem Port.split (c : Core) (gd : Reg) : Port.Statement (.split c gd) := Port.nameless rfl
theorem Port.join (c : Core) (gd : Reg) : Port.Statement (.join c gd) := Port.nameless rfl
theorem Port.reservedEncoding (c : Core) (word : Word) : Port.Statement (.reservedEncoding c word) := Port.nameless rfl
theorem Port.lockstepMismatch (p : Nat) (group : Nat) (t : Nat) : Port.Statement (.lockstepMismatch p group t) := Port.nameless rfl
theorem Port.injectionTestEnd (p : Nat) (ok : Bool) : Port.Statement (.injectionTestEnd p ok) := Port.nameless rfl
theorem Port.injectionTestDaily (p : Nat) (ok : Bool) : Port.Statement (.injectionTestDaily p ok) := Port.nameless rfl
theorem Port.autoJoin (p : Nat) : Port.Statement (.autoJoin p) := Port.nameless rfl
theorem Port.splitEffect (p : Nat) : Port.Statement (.splitEffect p) := Port.nameless rfl
theorem Port.joinEffect (p : Nat) : Port.Statement (.joinEffect p) := Port.nameless rfl
theorem Port.currentSample (i : Int) : Port.Statement (.currentSample i) := Port.nameless rfl
theorem Port.quietTimerExpiry : Port.Statement .quietTimerExpiry := Port.nameless rfl
theorem Port.ownResultsReady (own : OwnIn) : Port.Statement (.ownResultsReady own) := Port.nameless rfl
theorem Port.isoCycleEnd (res : Option (Nat × Nat)) : Port.Statement (.isoCycleEnd res) := Port.nameless rfl
theorem Port.calStart (src : ReqSrc) (mask : Nat) (quiet : Nat) (hvSteady : Bool) : Port.Statement (.calStart src mask quiet hvSteady) := Port.nameless rfl
theorem Port.calSample (vals : List Int) (quiet : Nat) (hvSteady : Bool) : Port.Statement (.calSample vals quiet hvSteady) := Port.nameless rfl
theorem Port.calCompute : Port.Statement .calCompute := Port.nameless rfl
theorem Port.acqCtlWrite (v : Word) : Port.Statement (.acqCtlWrite v) := Port.nameless rfl
theorem Port.acqFiltWrite (v : Word) : Port.Statement (.acqFiltWrite v) := Port.nameless rfl
theorem Port.acqStretchWrite (v : Word) : Port.Statement (.acqStretchWrite v) := Port.nameless rfl
theorem Port.acqValcfgWrite (v : Word) : Port.Statement (.acqValcfgWrite v) := Port.nameless rfl
theorem Port.cnpyBalenWrite (k : Nat) (v : Word) : Port.Statement (.cnpyBalenWrite k v) := Port.nameless rfl
theorem Port.cnpyImpctlWrite (v : Word) : Port.Statement (.cnpyImpctlWrite v) := Port.nameless rfl
theorem Port.ucodeWrite (p : Nat) (v : Word) : Port.Statement (.ucodeWrite p v) := Port.nameless rfl
theorem Port.qcntlRead (m : Master) : Port.Statement (.qcntlRead m) := Port.nameless rfl
theorem Port.timelRead (m : Master) : Port.Statement (.timelRead m) := Port.nameless rfl
theorem Port.utclRead (m : Master) : Port.Statement (.utclRead m) := Port.nameless rfl
theorem Port.rcCounterRead (m : Master) (addr : Nat) : Port.Statement (.rcCounterRead m addr) := Port.nameless rfl
theorem Port.canLockRead (p : Nat) (addr : Nat) : Port.Statement (.canLockRead p addr) := Port.nameless rfl
theorem Port.canData15Read (p : Nat) (addr : Nat) : Port.Statement (.canData15Read p addr) := Port.nameless rfl
theorem Port.absentSpaceAccess (addr : Nat) (write : Bool) : Port.Statement (.absentSpaceAccess addr write) := Port.nameless rfl
theorem Port.registerWrite (addr : Nat) (v : Word) : Port.Statement (.registerWrite addr v) := Port.nameless rfl
theorem Port.transactionLaunch (port : Nat) (hdrBad : List Nat) (payBad : List Nat) (cut : Option Nat) : Port.Statement (.transactionLaunch port hdrBad payBad cut) := Port.names0 rfl rfl
theorem Port.frameReturn (port : Nat) (reached : Nat) (good : List Nat) (echo : List (Nat × Nat)) : Port.Statement (.frameReturn port reached good echo) := Port.names0 rfl rfl
theorem Port.frameLost (port : Nat) : Port.Statement (.frameLost port) := Port.names0 rfl rfl
theorem Port.portLockGain (port : Nat) : Port.Statement (.portLockGain port) := Port.names0 rfl rfl
theorem Port.portLockLoss (port : Nat) : Port.Statement (.portLockLoss port) := Port.names0 rfl rfl
theorem Port.discoveryLockTimeout (port : Nat) : Port.Statement (.discoveryLockTimeout port) := Port.names0 rfl rfl
theorem Port.keepLaunch (port : Nat) (hdrBad : List Nat) (cut : Option Nat) : Port.Statement (.keepLaunch port hdrBad cut) := Port.names0 rfl rfl
theorem Port.rerange (port : Nat) : Port.Statement (.rerange port) := Port.names0 rfl rfl
theorem Port.enumMod (port : Nat) (ids : List ModId) : Port.Statement (.enumMod port ids) := Port.names0 rfl rfl
theorem Port.rangeMod (port : Nat) (dirB : Bool) (c0 : Nat) (counts : List Nat) : Port.Statement (.rangeMod port dirB c0 counts) := Port.names0 rfl rfl
theorem Port.rdrange (port : Nat) (first : Nat) (last : Nat) : Port.Statement (.rdrange port first last) := Port.names1 rfl rfl
theorem Port.setver (port : Nat) (first : Nat) (vers : List Nat) : Port.Statement (.setver port first vers) := Port.names1 rfl rfl
theorem Port.setdly (port : Nat) (first : Nat) (dlys : List (Nat × Nat)) : Port.Statement (.setdly port first dlys) := Port.names1 rfl rfl
theorem Port.setturnRelease (port : Nat) (hop : Nat) (locked : Bool) : Port.Statement (.setturnRelease port hop locked) := Port.names1 rfl rfl
theorem Port.setturnForceTa (port : Nat) (hop : Nat) : Port.Statement (.setturnForceTa port hop) := Port.names1 rfl rfl
theorem Port.setturnForceTb (port : Nat) (hop : Nat) : Port.Statement (.setturnForceTb port hop) := Port.names1 rfl rfl
theorem Port.authch (port : Nat) (hop : Nat) : Port.Statement (.authch port hop) := Port.names1 rfl rfl
theorem Port.keyset (port : Nat) (hop : Nat) (tagOk : Bool) : Port.Statement (.keyset port hop tagOk) := Port.names1 rfl rfl
theorem Port.cfgtag (port : Nat) (first : Nat) (last : Nat) (tag : Word) : Port.Statement (.cfgtag port first last tag) := Port.names1 rfl rfl
theorem Port.rdreg (port : Nat) (first : Nat) (last : Nat) (addr : Nat) (count : Nat) : Port.Statement (.rdreg port first last addr count) := Port.names1 rfl rfl
theorem Port.wrreg (port : Nat) (first : Nat) (last : Nat) (addr : Nat) (words : List Word) : Port.Statement (.wrreg port first last addr words) := Port.names1 rfl rfl
theorem Port.clrst (port : Nat) (first : Nat) (last : Nat) (mask : BitVec 64) : Port.Statement (.clrst port first last mask) := Port.names1 rfl rfl
theorem Port.balMod (port : Nat) (first : Nat) (timers : List (List Nat)) : Port.Statement (.balMod port first timers) := Port.names1 rfl rfl
theorem Port.baltestStart (port : Nat) (first : Nat) (entries : List Word) (shifts : List (List Int)) : Port.Statement (.baltestStart port first entries shifts) := Port.names1 rfl rfl
theorem Port.baltestRead (port : Nat) (first : Nat) (last : Nat) : Port.Statement (.baltestRead port first last) := Port.names1 rfl rfl
theorem Port.burstArm (port : Nat) (first : Nat) (cells : List Nat) : Port.Statement (.burstArm port first cells) := Port.names1 rfl rfl
theorem Port.burstFreeze (port : Nat) (first : Nat) (cells : List Nat) : Port.Statement (.burstFreeze port first cells) := Port.names1 rfl rfl
theorem Port.burstDisarm (port : Nat) (first : Nat) (last : Nat) : Port.Statement (.burstDisarm port first last) := Port.names1 rfl rfl
theorem Port.burstrd (port : Nat) (first : Nat) (last : Nat) (block : Nat) (samples : List (List Nat)) : Port.Statement (.burstrd port first last block samples) := Port.names2 rfl rfl
theorem Port.diagrd (port : Nat) (first : Nat) (last : Nat) (page : Nat) (data : List (List Nat)) : Port.Statement (.diagrd port first last page data) := Port.names1 rfl rfl
theorem Port.hdstat (port : Nat) (first : Nat) (last : Nat) : Port.Statement (.hdstat port first last) := Port.names1 rfl rfl
theorem Port.hdcfg (port : Nat) (kato : Nat) : Port.Statement (.hdcfg port kato) := Port.names0 rfl rfl
theorem Port.echoMod (port : Nat) (first : Nat) (last : Nat) : Port.Statement (.echoMod port first last) := Port.names1 rfl rfl
theorem Port.headNop (port : Nat) (seq : Nat) : Port.Statement (.headNop port seq) := Port.names1 rfl rfl
theorem Port.headNegClose (port : Nat) (seq : Nat) : Port.Statement (.headNegClose port seq) := Port.names1 rfl rfl
theorem Port.headPreClose (port : Nat) (seq : Nat) : Port.Statement (.headPreClose port seq) := Port.names1 rfl rfl
theorem Port.headPosClose (port : Nat) (seq : Nat) : Port.Statement (.headPosClose port seq) := Port.names1 rfl rfl
theorem Port.headPreOpen (port : Nat) (seq : Nat) : Port.Statement (.headPreOpen port seq) := Port.names1 rfl rfl
theorem Port.headOpen (port : Nat) (seq : Nat) : Port.Statement (.headOpen port seq) := Port.names1 rfl rfl
theorem Port.headOpenAll (port : Nat) (seq : Nat) : Port.Statement (.headOpenAll port seq) := Port.names1 rfl rfl
theorem Port.balancePlan : Port.Statement .balancePlan := Port.nameless rfl
theorem Port.balanceTestRun (port : Nat) (hop : Nat) : Port.Statement (.balanceTestRun port hop) := Port.names1 rfl rfl
theorem Port.cfgRetry (port : Nat) (hop : Nat) : Port.Statement (.cfgRetry port hop) := Port.names1 rfl rfl
theorem Port.authChallengeRun (port : Nat) (hop : Nat) : Port.Statement (.authChallengeRun port hop) := Port.names1 rfl rfl
theorem Port.authRecordTimeout (port : Nat) (hop : Nat) : Port.Statement (.authRecordTimeout port hop) := Port.names1 rfl rfl
theorem Port.scanJobEnd : Port.Statement .scanJobEnd := Port.nameless rfl
theorem Port.scanJobOverrun : Port.Statement .scanJobOverrun := Port.nameless rfl
theorem Port.digestCompare (partner : Partner) : Port.Statement (.digestCompare partner) := Port.nameless rfl
theorem Port.repeatJobEnd (partner : Partner) : Port.Statement (.repeatJobEnd partner) := Port.nameless rfl
theorem Port.twinSelftestEnd (own : Bool) (partner : Bool) : Port.Statement (.twinSelftestEnd own partner) := Port.nameless rfl
theorem Port.estJobStart : Port.Statement .estJobStart := Port.nameless rfl
theorem Port.estJobEnd : Port.Statement .estJobEnd := Port.nameless rfl
theorem Port.healthJob : Port.Statement .healthJob := Port.nameless rfl
theorem Port.snapshotRefresh (ok : Bool) : Port.Statement (.snapshotRefresh ok) := Port.nameless rfl
theorem Port.impedanceArm (port : Nat) : Port.Statement (.impedanceArm port) := Port.names0 rfl rfl
theorem Port.armTimeout (port : Nat) : Port.Statement (.armTimeout port) := Port.names0 rfl rfl
theorem Port.fitJob (port : Nat) : Port.Statement (.fitJob port) := Port.names0 rfl rfl
theorem Port.fitJobEnd (port : Nat) : Port.Statement (.fitJobEnd port) := Port.names0 rfl rfl
theorem Port.socmRestExpiry : Port.Statement .socmRestExpiry := Port.nameless rfl
theorem Port.reserveExpiry : Port.Statement .reserveExpiry := Port.nameless rfl
theorem Port.pcsRequestExpiry (discharge : Bool) : Port.Statement (.pcsRequestExpiry discharge) := Port.nameless rfl
theorem Port.ggraceExpiry : Port.Statement .ggraceExpiry := Port.nameless rfl
theorem Port.seqNone (tgt : Nat) (tag : Nat) (src : ReqSrc) : Port.Statement (.seqNone tgt tag src) := Port.nameless rfl
theorem Port.seqClose (arg : Nat) (tag : Nat) (src : ReqSrc) : Port.Statement (.seqClose arg tag src) := Port.nameless rfl
theorem Port.seqPrelink (arg : Nat) (tag : Nat) (src : ReqSrc) : Port.Statement (.seqPrelink arg tag src) := Port.nameless rfl
theorem Port.seqOpen (arg : Nat) (tag : Nat) (src : ReqSrc) : Port.Statement (.seqOpen arg tag src) := Port.nameless rfl
theorem Port.seqOpenNow (arg : Nat) (tag : Nat) (src : ReqSrc) : Port.Statement (.seqOpenNow arg tag src) := Port.nameless rfl
theorem Port.seqShutdown (arg : Nat) (tag : Nat) (src : ReqSrc) : Port.Statement (.seqShutdown arg tag src) := Port.nameless rfl
theorem Port.strConnect (n : Nat) (arg : Nat) (tag : Nat) (src : ReqSrc) : Port.Statement (.strConnect n arg tag src) := Port.nameless rfl
theorem Port.strDisconnect (n : Nat) (arg : Nat) (tag : Nat) (src : ReqSrc) : Port.Statement (.strDisconnect n arg tag src) := Port.nameless rfl
theorem Port.strDisconnow (n : Nat) (arg : Nat) (tag : Nat) (src : ReqSrc) : Port.Statement (.strDisconnow n arg tag src) := Port.nameless rfl
theorem Port.holdEconomy (k : Contactor) : Port.Statement (.holdEconomy k) := Port.nameless rfl
theorem Port.feedbackChange (k : Contactor) (closed : Bool) : Port.Statement (.feedbackChange k closed) := Port.nameless rfl
theorem Port.feedbackTimeout (k : Contactor) : Port.Statement (.feedbackTimeout k) := Port.nameless rfl
theorem Port.gateFault (low : Bool) : Port.Statement (.gateFault low) := Port.nameless rfl
theorem Port.linkMatch : Port.Statement .linkMatch := Port.nameless rfl
theorem Port.tlinkExpiry : Port.Statement .tlinkExpiry := Port.nameless rfl
theorem Port.rampTimeout : Port.Statement .rampTimeout := Port.nameless rfl
theorem Port.tholdExpiry : Port.Statement .tholdExpiry := Port.nameless rfl
theorem Port.currentWaitEnd (tgt : Nat) : Port.Statement (.currentWaitEnd tgt) := Port.nameless rfl
theorem Port.tspreExpiry (n : Nat) : Port.Statement (.tspreExpiry n) := Port.nameless rfl
theorem Port.tvsdExpiry : Port.Statement .tvsdExpiry := Port.nameless rfl
theorem Port.controlLoopEval (n : Nat) (sample : Option Int) : Port.Statement (.controlLoopEval n sample) := Port.nameless rfl
theorem Port.currentLimitExpiry (n : Nat) : Port.Statement (.currentLimitExpiry n) := Port.nameless rfl
theorem Port.retryPauseEnd (n : Nat) : Port.Statement (.retryPauseEnd n) := Port.nameless rfl
theorem Port.conductionClear (n : Nat) : Port.Statement (.conductionClear n) := Port.nameless rfl
theorem Port.powerStageOvertemp (n : Nat) : Port.Statement (.powerStageOvertemp n) := Port.nameless rfl
theorem Port.powerStageRestart (n : Nat) : Port.Statement (.powerStageRestart n) := Port.nameless rfl
theorem Port.openLoadChange (n : Nat) (below : Bool) : Port.Statement (.openLoadChange n below) := Port.nameless rfl
theorem Port.clampPulse (n : Nat) (energy : Nat) (t : Nat) : Port.Statement (.clampPulse n energy t) := Port.nameless rfl
theorem Port.freewheelCheck (n : Nat) : Port.Statement (.freewheelCheck n) := Port.nameless rfl
theorem Port.selectOpen (n : Nat) : Port.Statement (.selectOpen n) := Port.nameless rfl
theorem Port.selectClose (n : Nat) : Port.Statement (.selectClose n) := Port.nameless rfl
theorem Port.lhMapLoad : Port.Statement .lhMapLoad := Port.nameless rfl
theorem Port.lhWatchdogExpiry : Port.Statement .lhWatchdogExpiry := Port.nameless rfl
theorem Port.lhInSample (v : Nat) : Port.Statement (.lhInSample v) := Port.nameless rfl
theorem Port.lhEnLow : Port.Statement .lhEnLow := Port.nameless rfl
theorem Port.lhEnReturn : Port.Statement .lhEnReturn := Port.nameless rfl
theorem Port.mooringMessageRx (crcOk : Bool) (scan : Nat) (msg : Mooring) : Port.Statement (.mooringMessageRx crcOk scan msg) := Port.nameless rfl
theorem Port.mooringLaneTrained (lane : Nat) (info : PairInfo) : Port.Statement (.mooringLaneTrained lane info) := Port.nameless rfl
theorem Port.mooringLaneLoss (lane : Nat) : Port.Statement (.mooringLaneLoss lane) := Port.nameless rfl
theorem Port.mooringSilent : Port.Statement .mooringSilent := Port.nameless rfl
theorem Port.aliveLoss (mooringSilent : Bool) (partnerYielded : Bool) : Port.Statement (.aliveLoss mooringSilent partnerYielded) := Port.nameless rfl
theorem Port.graftInHigh : Port.Statement .graftInHigh := Port.nameless rfl
theorem Port.graftComplete : Port.Statement .graftComplete := Port.nameless rfl
theorem Port.timeExchange (delta : Int) : Port.Statement (.timeExchange delta) := Port.nameless rfl
theorem Port.pairingTimeout : Port.Statement .pairingTimeout := Port.nameless rfl
theorem Port.resyncDeadline : Port.Statement .resyncDeadline := Port.nameless rfl
theorem Port.claim (sess : Nat) (kind : Nat) (keyBytes : List Nat) (mac : List Nat) : Port.Statement (.claim sess kind keyBytes mac) := Port.nameless rfl
theorem Port.sessionHandshake (hs : Handshake) : Port.Statement (.sessionHandshake hs) := Port.nameless rfl
theorem Port.handshakeTimeout : Port.Statement .handshakeTimeout := Port.nameless rfl
theorem Port.keyupdate (sess : Nat) : Port.Statement (.keyupdate sess) := Port.nameless rfl
theorem Port.sessionExpiry (slot : Nat) : Port.Statement (.sessionExpiry slot) := Port.nameless rfl
theorem Port.fspHello (sess : Nat) (lo : Nat) (hi : Nat) : Port.Statement (.fspHello sess lo hi) := Port.nameless rfl
theorem Port.fspBye (sess : Nat) (seq : Nat) : Port.Statement (.fspBye sess seq) := Port.nameless rfl
theorem Port.fspRead (req : Req) (addr : Nat) (len : Nat) : Port.Statement (.fspRead req addr len) := Port.nameless rfl
theorem Port.fspLogread (req : Req) (first : Nat) (count : Nat) : Port.Statement (.fspLogread req first count) := Port.nameless rfl
theorem Port.fspQuote (req : Req) (nonce : List Nat) : Port.Statement (.fspQuote req nonce) := Port.nameless rfl
theorem Port.fspSubscribe (req : Req) (mask : Nat) (dec : Nat) : Port.Statement (.fspSubscribe req mask dec) := Port.nameless rfl
theorem Port.notifyctlOn (req : Req) : Port.Statement (.notifyctlOn req) := Port.nameless rfl
theorem Port.notifyctlOff (req : Req) : Port.Statement (.notifyctlOff req) := Port.nameless rfl
theorem Port.fspDispatch (req : Req) (dr : PcsReq) : Port.Statement (.fspDispatch req dr) := Port.nameless rfl
theorem Port.dlimitSet (req : Req) (limit : Nat) (value : Nat) : Port.Statement (.dlimitSet req limit value) := Port.nameless rfl
theorem Port.dlimitWithdraw (req : Req) (limit : Nat) : Port.Statement (.dlimitWithdraw req limit) := Port.nameless rfl
theorem Port.reserveRelease (req : Req) (frel : Nat) (dur : Nat) : Port.Statement (.reserveRelease req frel dur) := Port.nameless rfl
theorem Port.reserveWithdraw (req : Req) : Port.Statement (.reserveWithdraw req) := Port.nameless rfl
theorem Port.ctlclrWeld (req : Req) : Port.Statement (.ctlclrWeld req) := Port.nameless rfl
theorem Port.ctlclrLoop (req : Req) (n : Nat) : Port.Statement (.ctlclrLoop req n) := Port.nameless rfl
theorem Port.fspTriprel (req : Req) (mask : Nat) : Port.Statement (.fspTriprel req mask) := Port.nameless rfl
theorem Port.fspUnlock (req : Req) (mask : Nat) : Port.Statement (.fspUnlock req mask) := Port.nameless rfl
theorem Port.fspRearm (req : Req) (e : Nat) : Port.Statement (.fspRearm req e) := Port.nameless rfl
theorem Port.fspBaltest (req : Req) (ring : Nat) (hop : Nat) : Port.Statement (.fspBaltest req ring hop) := Port.nameless rfl
theorem Port.fspStorage (req : Req) : Port.Statement (.fspStorage req) := Port.nameless rfl
theorem Port.twinsvcResync (req : Req) : Port.Statement (.twinsvcResync req) := Port.nameless rfl
theorem Port.twinsvcReset (req : Req) : Port.Statement (.twinsvcReset req) := Port.nameless rfl
theorem Port.twinsvcHandover (req : Req) : Port.Statement (.twinsvcHandover req) := Port.nameless rfl
theorem Port.imageBegin (req : Req) (len : Nat) : Port.Statement (.imageBegin req len) := Port.nameless rfl
theorem Port.imageData (req : Req) (off : Nat) (bytes : List Nat) : Port.Statement (.imageData req off bytes) := Port.nameless rfl
theorem Port.imageEnd (req : Req) (sigKey : Nat) : Port.Statement (.imageEnd req sigKey) := Port.nameless rfl
theorem Port.imageTransferTimeout : Port.Statement .imageTransferTimeout := Port.nameless rfl
theorem Port.memtestPreserving (req : Req) (test : Nat) (first : Nat) (last : Nat) : Port.Statement (.memtestPreserving req test first last) := Port.nameless rfl
theorem Port.memtestDestructive (req : Req) (test : Nat) (first : Nat) (last : Nat) : Port.Statement (.memtestDestructive req test first last) := Port.nameless rfl
theorem Port.ownOwnerkey (r : OwnRec) (slot : Nat) (key : Nat) : Port.Statement (.ownOwnerkey r slot key) := Port.nameless rfl
theorem Port.ownRolekey (r : OwnRec) (role : Nat) (slot : Nat) (key : Nat) : Port.Statement (.ownRolekey r role slot key) := Port.nameless rfl
theorem Port.ownTenant (r : OwnRec) (slot : Nat) (content : Option TenantSlot) : Port.Statement (.ownTenant r slot content) := Port.nameless rfl
theorem Port.ownAccept (r : OwnRec) (ring : Nat) (hop : Nat) (uid : Nat) (tkey : Option Nat) : Port.Statement (.ownAccept r ring hop uid tkey) := Port.nameless rfl
theorem Port.ownFloor (r : OwnRec) (kind : Nat) (floor : Nat) : Port.Statement (.ownFloor r kind floor) := Port.nameless rfl
theorem Port.ownTwinpair (r : OwnRec) (hashA : Nat) (hashB : Nat) : Port.Statement (.ownTwinpair r hashA hashB) := Port.nameless rfl
theorem Port.ownKtrotate (r : OwnRec) : Port.Statement (.ownKtrotate r) := Port.nameless rfl
theorem Port.ownRelease (r : OwnRec) : Port.Statement (.ownRelease r) := Port.nameless rfl
theorem Port.programSwitchover : Port.Statement .programSwitchover := Port.nameless rfl
theorem Port.envelopeSwitchover : Port.Statement .envelopeSwitchover := Port.nameless rfl
theorem Port.chemistrySwitchover : Port.Statement .chemistrySwitchover := Port.nameless rfl
theorem Port.topologySwitchover : Port.Statement .topologySwitchover := Port.nameless rfl
theorem Port.firmwareFloorRaise : Port.Statement .firmwareFloorRaise := Port.nameless rfl
theorem Port.trngHealthFail : Port.Statement .trngHealthFail := Port.nameless rfl
theorem Port.hwdTestEnd (ok : Bool) : Port.Statement (.hwdTestEnd ok) := Port.nameless rfl
theorem Port.heartwoodBoot (selfOk : Bool) (kpuf : Option Nat) (ok0 : Bool) (ok1 : Bool) : Port.Statement (.heartwoodBoot selfOk kpuf ok0 ok1) := Port.nameless rfl
theorem Port.streamSend (sess : Nat) : Port.Statement (.streamSend sess) := Port.nameless rfl
theorem Port.notifySend (sess : Nat) : Port.Statement (.notifySend sess) := Port.nameless rfl
theorem Port.canFrameRx (c : Nat) (exc : Bool) (f : CanFrame) : Port.Statement (.canFrameRx c exc f) := Port.nameless rfl
theorem Port.canFrameSent (c : Nat) (obj : Nat) (start : Nat) (delay : Nat) : Port.Statement (.canFrameSent c obj start delay) := Port.nameless rfl
theorem Port.canBusOff (c : Nat) : Port.Statement (.canBusOff c) := Port.nameless rfl
theorem Port.canErrorPassive (c : Nat) (enter : Bool) (rec_ : Nat) (tec : Nat) : Port.Statement (.canErrorPassive c enter rec_ tec) := Port.nameless rfl
theorem Port.busOffRecovery (c : Nat) : Port.Statement (.busOffRecovery c) := Port.nameless rfl
theorem Port.busOffRecovered (c : Nat) : Port.Statement (.busOffRecovered c) := Port.nameless rfl
theorem Port.restrictedEnter (c : Nat) : Port.Statement (.restrictedEnter c) := Port.nameless rfl
theorem Port.restrictedLeave (c : Nat) : Port.Statement (.restrictedLeave c) := Port.nameless rfl
theorem Port.profileHello (mask : Nat) : Port.Statement (.profileHello mask) := Port.nameless rfl
theorem Port.heartbeat : Port.Statement .heartbeat := Port.nameless rfl
theorem Port.profileRequest (dr : PcsReq) : Port.Statement (.profileRequest dr) := Port.nameless rfl
theorem Port.profileWithdraw (dr : PcsReq) : Port.Statement (.profileWithdraw dr) := Port.nameless rfl
theorem Port.profileReportSend : Port.Statement .profileReportSend := Port.nameless rfl
theorem Port.ptoExpiry : Port.Statement .ptoExpiry := Port.nameless rfl
theorem Port.ethLinkChange (p : Nat) (up : Bool) (speed : Nat) : Port.Statement (.ethLinkChange p up speed) := Port.nameless rfl
theorem Port.ethFrameRx (p : Nat) (kind : EthKind) : Port.Statement (.ethFrameRx p kind) := Port.nameless rfl
theorem Port.ptpSyncRx (gptp : Nat) (utcOffset : Nat) : Port.Statement (.ptpSyncRx gptp utcOffset) := Port.nameless rfl
theorem Port.utcTimeout : Port.Statement .utcTimeout := Port.nameless rfl
theorem Port.addressConflict (p : Nat) : Port.Statement (.addressConflict p) := Port.nameless rfl
theorem Port.rowRepairSwitch (bank : Nat) (row : Nat) : Port.Statement (.rowRepairSwitch bank row) := Port.nameless rfl
theorem Port.bankRetire (bank : Nat) : Port.Statement (.bankRetire bank) := Port.nameless rfl
theorem Port.aringsApply (n : Nat) : Port.Statement (.aringsApply n) := Port.nameless rfl
theorem Port.scrubPassEnd (corrected : Nat) (uncorrectable : Nat) : Port.Statement (.scrubPassEnd corrected uncorrectable) := Port.nameless rfl
theorem Port.preservingRedirect : Port.Statement .preservingRedirect := Port.nameless rfl
theorem Port.preservingReturn : Port.Statement .preservingReturn := Port.nameless rfl
theorem Port.marchTestEnd (faults : List Nat) : Port.Statement (.marchTestEnd faults) := Port.nameless rfl
theorem Port.logRecordWrite (fail : Option Nat) : Port.Statement (.logRecordWrite fail) := Port.nameless rfl
theorem Port.eventWindowEnd (e : Nat) : Port.Statement (.eventWindowEnd e) := Port.nameless rfl
theorem Port.resetRelease (tws : Nat) (tmode : Bool) : Port.Statement (.resetRelease tws tmode) := Port.nameless rfl
theorem Port.bootComplete : Port.Statement .bootComplete := Port.nameless rfl
theorem Port.railFault (i : Nat) : Port.Statement (.railFault i) := Port.nameless rfl
theorem Port.vauxWarning (mv : Nat) : Port.Statement (.vauxWarning mv) := Port.nameless rfl
theorem Port.vauxRecovery (mv : Nat) : Port.Statement (.vauxRecovery mv) := Port.nameless rfl
theorem Port.vauxReset (mv : Nat) : Port.Statement (.vauxReset mv) := Port.nameless rfl
theorem Port.vaonLost : Port.Statement .vaonLost := Port.nameless rfl
theorem Port.coreDroop (p : Nat) (cycles : Nat) : Port.Statement (.coreDroop p cycles) := Port.nameless rfl
theorem Port.pllFail : Port.Statement .pllFail := Port.nameless rfl
theorem Port.oscFail : Port.Statement .oscFail := Port.nameless rfl
theorem Port.watchEntry : Port.Statement .watchEntry := Port.nameless rfl
theorem Port.watchPllStart : Port.Statement .watchPllStart := Port.nameless rfl
theorem Port.watchPllStop : Port.Statement .watchPllStop := Port.nameless rfl
theorem Port.wakeBusWake : Port.Statement .wakeBusWake := Port.nameless rfl
theorem Port.serviceKeyWake : Port.Statement .serviceKeyWake := Port.nameless rfl
theorem Port.thermalSample (temps : List Int) : Port.Statement (.thermalSample temps) := Port.nameless rfl
theorem Port.thermalEnforce : Port.Statement .thermalEnforce := Port.nameless rfl
theorem Port.thermalRestart : Port.Statement .thermalRestart := Port.nameless rfl
theorem Port.sensorDiff : Port.Statement .sensorDiff := Port.nameless rfl
theorem Port.instantLocalDeadline : Port.Statement .instantLocalDeadline := Port.nameless rfl
theorem Port.l0SelftestDaily (passA : Bool) (passB : Bool) : Port.Statement (.l0SelftestDaily passA passB) := Port.nameless rfl
theorem Port.currentLimitSumReached (n : Nat) : Port.Statement (.currentLimitSumReached n) := Port.nameless rfl
theorem Port.holdCurrentLimit (k : Contactor) : Port.Statement (.holdCurrentLimit k) := Port.nameless rfl
theorem Port.timeRecord : Port.Statement .timeRecord := Port.nameless rfl
theorem Port.vaonReturn : Port.Statement .vaonReturn := Port.nameless rfl
theorem Port.ptpSyncLoss : Port.Statement .ptpSyncLoss := Port.nameless rfl
theorem Port.aliveReturn : Port.Statement .aliveReturn := Port.nameless rfl

end Sys2Proof.Laws
end

