-- ==== Sys2Proof/Tests/Slice0.lean ====
section
/-! SUPPORT. The model's own tests: ill-formed commands, known answers of the manual and of the standards it names, single commands
on small states, and for every statement with hypotheses a state and operands that meet them. -/

namespace Sys2Proof.Tests
open Sys2Proof Sys2Proof.Machine

set_option Elab.async false

/-- The reset state with its device changed. -/
def st (f : Dev → Dev) : State := { dev := f {} }

/-- A field of a register set. -/
def fl (a hi lo v : Nat) : Dev → Dev := Dev.setFld a hi lo v

/-! Commands that are not well-formed: each check refuses one. -/

theorem test_ill_ports : [Instr.scanFrameReturn 48 0 0, .transactionLaunch 48 [] [] none, .frameReturn 48 0 [] [], .frameLost 48, .portLockGain 48,
    .portLockLoss 48, .discoveryLockTimeout 48, .keepLaunch 48 [] none, .rerange 48, .enumMod 48 [], .rangeMod 48 false 0 [], .hdstat 48 1 1,
    .hdcfg 48 50, .impedanceArm 48, .armTimeout 48, .fitJob 48, .fitJobEnd 48].all (fun i => !i.wellFormed) = true := by decide

theorem test_ill_hops : [Instr.rdrange 0 2 1, .setver 0 64 [2, 2], .setdly 0 0 [(0, 0)], .setturnRelease 0 0 true, .setturnForceTa 0 65,
    .setturnForceTb 48 1, .authch 0 0, .keyset 0 65 true, .cfgtag 0 0 1 0, .rdreg 0 1 65 0 1, .wrreg 48 1 1 0 [], .clrst 0 3 2 0,
    .balMod 0 64 [[], []], .baltestStart 0 0 [0] [], .baltestRead 0 1 65, .burstArm 0 0 [0], .burstFreeze 48 1 [0], .burstDisarm 0 2 1,
    .burstrd 0 1 1 4 [], .diagrd 0 2 1 0 [], .echoMod 0 0 1].all (fun i => !i.wellFormed) = true := by decide

theorem test_ill_heads : [Instr.headNop 48 0, .headNegClose 0 256, .headPreClose 48 1, .headPosClose 0 256, .headPreOpen 48 0,
    .headOpen 0 256, .headOpenAll 48 0, .balanceTestRun 0 0, .cfgRetry 0 65, .authChallengeRun 48 1, .authRecordTimeout 0 0,
    .fspBaltest ⟨0, 0, 0, []⟩ 48 1, .ownAccept ⟨0, [], 0, 0⟩ 0 65 0 none].all (fun i => !i.wellFormed) = true := by decide

theorem test_ill_tasks : [Instr.activationStart .k0 128, .segmentResume .k0 128, .deadlineMiss .k0 128, .loop .k0 1 0 1, .loop .k0 1 4097 1,
    .loop .k0 1 1 0, .loop .k0 1 1 513, .mfs .k0 1 65536, .out .k0 1 12 0, .out .k0 1 0 65536, .outx .k0 1 2 12, .chk .k0 1 2 3 0,
    .chk .k0 1 2 3 2049, .waitt .k0 0, .waitt .k0 80, .fspRearm ⟨0, 0, 0, []⟩ 128].all (fun i => !i.wellFormed) = true := by decide

theorem test_ill_units : [Instr.zoneLineLow 8, .readbackFault 8, .releaseLineCheckEnd 256 true, .lockstepMismatch 2 0 0,
    .lockstepMismatch 0 64 0, .injectionTestEnd 2 true, .injectionTestDaily 2 true, .autoJoin 2, .splitEffect 2, .joinEffect 2,
    .cnpyBalenWrite 2 0, .ucodeWrite 2 0, .canLockRead 2 0, .canData15Read 2 0, .mooringLaneTrained 2 ⟨0, 0, false, false, 0, 0, false, 0⟩,
    .mooringLaneLoss 2].all (fun i => !i.wellFormed) = true := by decide

theorem test_ill_sequences : [Instr.seqNone 49 0 .task, .seqNone 0 256 .task, .seqClose 65536 0 .task, .seqPrelink 0 256 .task,
    .seqOpen 65536 0 .task, .seqOpenNow 0 256 .task, .seqShutdown 65536 0 .task, .strConnect 48 0 0 .task, .strDisconnect 0 65536 0 .task,
    .strDisconnow 0 0 256 .task, .currentWaitEnd 49, .tspreExpiry 48, .controlLoopEval 16 none,
    .ctlclrLoop ⟨0, 0, 0, []⟩ 16].all (fun i => !i.wellFormed) = true := by decide

theorem test_ill_channels : [Instr.currentLimitExpiry 32, .retryPauseEnd 32, .conductionClear 32, .powerStageOvertemp 32,
    .powerStageRestart 32, .openLoadChange 32 true, .clampPulse 32 0 0, .freewheelCheck 32, .selectOpen 32, .selectClose 32,
    .currentLimitSumReached 32].all (fun i => !i.wellFormed) = true := by decide

theorem test_ill_plant : [Instr.canFrameRx 4 false ⟨false, false, false, false, false, 0, 0, [], 0⟩, .canFrameSent 0 128 0 0, .canBusOff 4,
    .canErrorPassive 4 true 0 0, .busOffRecovery 4, .busOffRecovered 4, .restrictedEnter 4, .restrictedLeave 4, .ethLinkChange 2 true 100,
    .ethFrameRx 2 .arp, .addressConflict 2, .rowRepairSwitch 43 0, .bankRetire 43, .aringsApply 49, .eventWindowEnd 384, .resetRelease 4 false,
    .railFault 7, .coreDroop 2 0].all (fun i => !i.wellFormed) = true := by decide

theorem test_well_formed : [Instr.add .k0 1 2 3, .loop .k0 1 4096 512, .waitt .k1 79, .headOpen 47 255, .railFault 6, .rdrange 47 1 64,
    .keyset 0 64 true, .canFrameSent 3 127 0 0].all (fun i => i.wellFormed) = true := by decide

/-! Known answers: the check values of 04 R124, and the standards' own examples (FIPS 180-4 "abc", RFC 4231 case 2, RFC 4493). -/

theorem test_crc16_check : crc16 [49, 50, 51, 52, 53, 54, 55, 56, 57] = 0x29B1 := by decide +kernel
theorem test_crc32c_check : crc32c [49, 50, 51, 52, 53, 54, 55, 56, 57] = 0xE3069283 := by decide +kernel
theorem test_sha256_abc : ofBe (sha256 [0x61, 0x62, 0x63]) = 0xba7816bf8f01cfea414140de5dae2223b00361a396177a9cb410ff61f20015ad := by
  decide +kernel
theorem test_hmac_jefe : ofBe (hmacSha256 [0x4a, 0x65, 0x66, 0x65] ([0x77, 0x68, 0x61, 0x74, 0x20, 0x64, 0x6f, 0x20, 0x79, 0x61, 0x20, 0x77,
    0x61, 0x6e, 0x74, 0x20, 0x66, 0x6f, 0x72, 0x20, 0x6e, 0x6f, 0x74, 0x68, 0x69, 0x6e, 0x67, 0x3f])) =
    0x5bdcc146bf60754e6a042426089575c75a003f089d2739839dec58b964ec3843 := by decide +kernel
theorem test_cmac_empty : ofBe (aesCmac (beBytes 16 0x2b7e151628aed2a6abf7158809cf4f3c) []) = 0xbb1d6929e95937287fa37d129b756746 := by
  decide +kernel
theorem test_cmac_block : ofBe (aesCmac (beBytes 16 0x2b7e151628aed2a6abf7158809cf4f3c) (beBytes 16 0x6bc1bee22e409f96e93d7e117393172a)) =
    0x070a16b46b4d4144f79bdd9dd04a287c := by decide +kernel

/-! Tabbin: one instruction on a core whose task may use all of SRAM and FAR space. -/

/-- A program set with one SAFETY-free task in entry 0. -/
def prog : Prog :=
  { tasks := [(0, { en := true, cls := 1, period := 10, budgets := [1000, 1000], tags := 4, ports := 1,
                    outs := [⟨0, 0, 31⟩, ⟨9, 0, 100⟩], wins := [⟨0, 0x01400000, true, true, false⟩, ⟨0x20000000, 0x800000, true, true, false⟩,
                    ⟨0x40000000, 0x130000, true, true, false⟩] })], migrates := [0] }

/-- Core k0 with the registers given, in a state where that program set is in force. -/
def core (l : List (Nat × Word)) : State :=
  st (fun d => { d with img := { d.img with prog := some prog }, k0 := { cur := { regs := l } } })

/-- The register of core k0 after a command. -/
def after (i : Instr) (s : State) (g : Reg) : Option Word :=
  match exec i s with
  | .next t => some ((t.dev.core .k0).cur.r g)
  | .fault _ => none
  | .refused _ => none

theorem test_add_wraps : after (.add .k0 1 2 3) (core [(2, 0xFFFFFFFF), (3, 2)]) 1 = some 1 := by decide +kernel
theorem test_sub_same : after (.sub .k0 2 2 3) (core [(2, 5), (3, 7)]) 2 = some 0xFFFFFFFE := by decide +kernel
theorem test_sra_negative : after (.sra .k0 1 2 3) (core [(2, 0x80000000), (3, 33)]) 1 = some 0xC0000000 := by decide +kernel
theorem test_slt_signed : after (.slt .k0 1 2 3) (core [(2, 0xFFFFFFFF), (3, 1)]) 1 = some 1 := by decide +kernel
theorem test_sltu_unsigned : after (.sltu .k0 1 2 3) (core [(2, 0xFFFFFFFF), (3, 1)]) 1 = some 0 := by decide +kernel
theorem test_csel_keeps_order : after (.csel .k0 1 2 3) (core [(1, 7), (2, 5), (3, 6)]) 1 = some 5 := by decide +kernel
theorem test_mulh_negative : after (.mulh .k0 1 2 3) (core [(2, 0xFFFFFFFF), (3, 0x7FFFFFFF)]) 1 = some 0xFFFFFFFF := by decide +kernel
theorem test_mulhu_large : after (.mulhu .k0 1 2 3) (core [(2, 0xFFFFFFFF), (3, 0xFFFFFFFF)]) 1 = some 0xFFFFFFFE := by decide +kernel
theorem test_div_overflow : after (.div .k0 1 2 3) (core [(2, 0x80000000), (3, 0xFFFFFFFF)]) 1 = some 0x80000000 := by decide +kernel
theorem test_div_truncates : after (.div .k0 1 2 3) (core [(2, 0xFFFFFFF9), (3, 2)]) 1 = some 0xFFFFFFFD := by decide +kernel
theorem test_rem_sign : after (.rem .k0 1 2 3) (core [(2, 0xFFFFFFF9), (3, 2)]) 1 = some 0xFFFFFFFF := by decide +kernel
theorem test_divu_zero : after (.divu .k0 1 2 3) (core [(2, 9)]) 1 = some 0xFFFFFFFF := by decide +kernel
theorem test_clz_zero : after (.clz .k0 1 2) (core []) 1 = some 32 := by decide +kernel
theorem test_sadd_clamps : after (.sadd .k0 1 2 3) (core [(2, 0x7FFFFFFF), (3, 1)]) 1 = some 0x7FFFFFFF := by decide +kernel
theorem test_sneg_most_negative : after (.sneg .k0 1 2) (core [(2, 0x80000000)]) 1 = some 0x7FFFFFFF := by decide +kernel
theorem test_qmul31_minus_one : after (.qmul31 .k0 1 2 3) (core [(2, 0x80000000), (3, 0x80000000)]) 1 = some 0x7FFFFFFF := by decide +kernel
theorem test_qmul16_half : after (.qmul16 .k0 1 2 3) (core [(2, 0x00018000), (3, 0x00020000)]) 1 = some 0x00030000 := by decide +kernel
theorem test_qdiv16_third : after (.qdiv16 .k0 1 2 3) (core [(2, 0x00010000), (3, 0x00030000)]) 1 = some 0x00005555 := by decide +kernel
theorem test_lui : after (.lui .k0 1 0x8001) (core []) 1 = some 0x80010000 := by decide +kernel
theorem test_addi_signed : after (.addi .k0 1 1 0xFFFF) (core []) 1 = some 0xFFFFFFFF := by decide +kernel
theorem test_zero_register : after (.addi .k0 0 0 5) (core []) 0 = some 0 := by decide +kernel
theorem test_lb_signed : after (.lb .k0 1 0 0x1000) { core [] with mem := [(0x1000, 0x80)] } 1 = some 0xFFFFFF80 := by decide +kernel
theorem test_lhu_order : after (.lhu .k0 1 0 0x1000) { core [] with mem := [(0x1000, 0x34), (0x1001, 0x12)] } 1 = some 0x1234 := by
  decide +kernel
theorem test_sh_two_bytes : (match exec (.sh .k0 1 0 0x1000) (core [(1, 0x11223344)]) with
    | .next t => t.mem == [(0x1000, 0x44), (0x1001, 0x33)]
    | .fault _ => false
    | .refused _ => false) = true := by decide +kernel
theorem test_jal_links : after (.jal .k0 16) (core []) 31 = some 4 := by decide +kernel
theorem test_window_trap : (match exec (.lw .k0 1 0 0) (st (fun d => d)) with
    | .next t => t.dev.fld (A.sysTstat 0) 7 0 == 2
    | .fault _ => false
    | .refused _ => false) = true := by decide +kernel

/-! Tabbin words written out from the fields of 02 R52-R56, as the decoder reads them. -/

theorem test_decode_add : decodeTableWord 32 0x00221800 = some (.add .k0 1 2 3) := by decide +kernel
theorem test_decode_sadd : decodeTableWord 32 0x04221800 = some (.sadd .k0 1 2 3) := by decide +kernel
theorem test_decode_addi : decodeTableWord 32 0x1021FFFF = some (.addi .k0 1 1 0xFFFF) := by decide +kernel
theorem test_decode_slli_field : decodeTableWord 32 0x2C210020 = some (.reservedEncoding .k0 0x2C210020) := by decide +kernel
theorem test_decode_ret : decodeTableWord 32 0xA8000000 = some (.ret .k0) := by decide +kernel
theorem test_decode_commit : decodeTableWord 32 0xD0000000 = some (.commit .k0) := by decide +kernel

/-! Other commands. -/

/-- A test of the state after a command. -/
def then_ (i : Instr) (s : State) (p : State → Bool) : Bool :=
  match exec i s with
  | .next t => p t
  | .fault _ => false
  | .refused _ => false

theorem test_acq_ctl_per : then_ (.acqCtlWrite 0x00A136B0) State.reset (fun t => t.dev.fld A.acqCtl 31 20 == 10) = true := by decide +kernel
theorem test_acq_ctl_refused : then_ (.acqCtlWrite 0x009036B0) State.reset (fun t =>
    t.dev.fld A.acqCtl 31 20 == 10 && t.dev.rbit (A.evtPend 4) 7) = true := by decide +kernel
theorem test_absent_ring : then_ (.absentSpaceAccess 0x40090000 false) State.reset (fun t => t.dev.rbit (A.evtPend 11) 20) = true := by
  decide +kernel
theorem test_zone_line_latches : then_ (.zoneLineLow 3) (st (fun d => { d with prot := { d.prot with restored := true } })) (fun t => t.dev.latched.testBit 3) = true := by decide +kernel
theorem test_overcurrent_counts : then_ (.currentLimitExpiry 5) (st (fun d => (fl (A.lswCfg 5) 31 31 1 d).setChan 5 (fun x => { x with on := true })))
    (fun t => !(t.dev.chan 5).on && (t.dev.chan 5).rcnt == 1) = true := by decide +kernel
theorem test_open_nothing_closed : then_ (.seqOpenNow 0 7 .task) State.reset (fun t => t.dev.reg A.ctlSeqres == resWord 4 7 0 0) = true := by
  decide +kernel
theorem test_can_bus_off : then_ (.canBusOff 2) State.reset (fun t => t.dev.canState 2 == 2 && t.dev.rbit (A.evtPend 10) 16) = true := by
  decide +kernel
theorem test_sensor_diff : then_ .sensorDiff State.reset (fun t => t.dev.rbit A.thermStat 29) = true := by decide +kernel
theorem test_absent_port_faults : exec (.portLockGain 48) State.reset = .fault .noSuchUnit := rfl
theorem test_reset_release : then_ (.resetRelease 0 false) State.reset (fun t => t.dev.pstate == 7 && !t.dev.pwr.inReset) = true := by
  decide +kernel

/-! Worked examples of the manual: the update of 08 R272-R274, the limits of 09 R326, the grants of 09 R331, the timers of 06 R204. -/

/-- P of the worked update: no cross terms. -/
def workedP : List Int := [274878, 0, 0, 0, 2749, 0, 0, 2749, 0, 27487791]
/-- Gains and s at docv 0.050 V and M 0.008 V. -/
def workedGain : List Int × Int := gainRow workedP [13421773, 268435456, 268435456, 2147484] 274878
theorem test_worked_step : qdiv (oneZ * (-75 * 65536) * (dtOf 2500000 : Int)) (3600 * qmul (314 * 65536) (rndDiv (98 * oneZ) 100) 30 * 2 ^ 28) = -182 := by
  decide +kernel
theorem test_worked_update : (let y := ({ p := workedP } : Slot).update workedGain.1 workedGain.2 (-536871)
    gateOk (4 * 65536) (-536871) workedGain.2 && y.va == -5218 && y.vb == -5218 && decide ((y.z + 104358).natAbs ≤ 1)
      && decide ((y.p.getD 0 0 - 274218).natAbs ≤ 20)) = true := by decide +kernel
/-- The rested island cell at -10.00 °C. -/
def workedCell : Slot := { z := rndDiv oneZ 10, h := -2147483648, qeff := rndDiv (30772 * 65536) 100, tcell := -1000, fr := oneZ }
/-- Its parameters, with tau 4 s and 100 s. -/
def workedPar : Par := { ocv := rndDiv (3195 * 2 ^ 28) 1000, docv := rndDiv (8 * 2 ^ 28) 10, m := rndDiv (2 ^ 28) 100,
                         rser := rndDiv (14 * 2 ^ 31) 10000,
                         ra := rndDiv (6 * 2 ^ 31) 10000, rb := rndDiv (8 * 2 ^ 31) 10000, ca := rndDiv (666667 * 2 ^ 8) 100, cb := 125000 * 2 ^ 8 }
/-- A set with IDMAX 100 A and VDSMIN 3.000 V. -/
def workedRep : SetRep := { vchmax := 4 * 2 ^ 28, vdsmin := 3 * 2 ^ 28, icmax := List.replicate 16 6553600, zlo := 0,
                            idmax := List.replicate 16 6553600, zhi := oneZ }
/-- A temperature axis. -/
def workedChem : Chem := { eta := oneZ, taxis := (List.range 16).map (fun k => (k : Int) * 1000 - 5000) }
theorem test_worked_limits : [2, 10, 60].map (fun t => rndDiv ((workedCell.limitAt workedChem workedRep workedPar t).2 * 100) 65536) = [10000, 9095, 7695] := by
  decide +kernel
theorem test_worked_grants : ([(800000, 3600), (1200000, 3600), (5000000, 5)].map (fun x =>
    grant (some { preq := x.1, until_ := some (x.2 * 1000000000), fromScan := 0 }) 0 [3391200, 3391200, 3391200] [4232200, 4232200, 4232200] 1010300
      (some 1357000))) = [(800000, 589535), (1010300, 744509), (4232200, 3118791)] := by decide +kernel
theorem test_worked_timers : (let d : Dev := { time := { per := 2500000 }, img := { topo := some { rbal := 120, rsh := 15 } } }
    [d.timerOf 33000 (rndDiv (9525 * 65536) 10000), d.timerOf 33000 (rndDiv (62000 * 65536) 10000)]) = [1574, 4095] := by decide +kernel

/-- A wrong header spoils the frame for every module behind (04 R123): from end A hops 2 to 4 of four, from end B hops 2 and 1. -/
theorem test_spoiled_header : hdrBadHops false 4 4 [2] = [2, 3, 4] ∧ hdrBadHops true 4 4 [2] = [2, 1] := by decide +kernel

/-- Topology records end exactly at IMAGELEN (13 R447): type 5 with one word, and the same a byte short. -/
theorem test_topology_records : topoRecords 12 [5, 0, 4, 0, 1, 2, 0, 0] = some [(5, [513])] ∧ topoRecords 12 [5, 0, 4, 0, 1, 2, 0] = none := by
  decide +kernel

/-- Of two members demanded together A is selected, and B waits behind it until its release; a member demanded again does not pass one that
waits (11 R387). -/
theorem test_select_order :
    (let x := ({ demA := true, demB := true } : Lsw).select false; (x.selA, x.selB, x.waitB) = (true, false, true)) ∧
    (({ demA := true, demB := true, waitB := true } : Lsw).select false).selA = false := by decide +kernel

/-! For every statement with hypotheses: a state and operands that meet them, clause by clause. -/

/-- A twin in authority: end A, PRIMARY. -/
def twin : State := st (fun d => (fl A.twinStat 31 28 4 (fl A.twinStat 27 27 1 (fl A.sysStrap 1 0 1 d))))

/-- A twin without authority: end A, MIRROR. -/
def mirror : State := st (fun d => (fl A.twinStat 31 28 3 (fl A.sysStrap 1 0 1 d)))

/-- A device that scans. -/
def scanning : State := st (fun d => { d with time := { d.time with scanning := true, nextN := 1000000, ticks := 10 } })

/-- Core k0 inside an activation of task 0. -/
def running : State :=
  st (fun d => fl (A.sysKstat 0) 29 29 1
    { d with img := { d.img with prog := some prog }, k0 := { run := true }, time := { d.time with ticks := 10, ticksOn := true } })

/-- A session of tenant slot 5, which has every capability. -/
def ses : Session := { slot := 5, ver := 3 }

/-- A device with that session open, changed by `f`. -/
def served (f : Dev → Dev) : State :=
  st (fun d => f { d with hwd := { d.hwd with slots := [(5, some ⟨1, 2, 0xFFFFFFFF, 1, 1, false, 0, 0, 0⟩)], sessions := [(5, some ses)] } })

/-- `Admits` as a test of the session that the request names. -/
def admitted (q : Req) (cap ver : Nat) (s : State) : Bool :=
  (s.dev.session q.sess).any (fun x => decide (0 < x.ver ∧ ver ≤ x.ver ∧ q.seq = x.e ∧ q.len ≤ 4080) && s.dev.holds x cap &&
    !s.dev.suspended x && (s.dev.takeToken q.sess x).2)

theorem admits_iff (q : Req) (cap ver : Nat) (s : State) : Admits q cap ver s ↔ admitted q cap ver s = true := by
  simp only [Admits, admitted, Option.any_eq_true, Bool.and_eq_true, decide_eq_true_eq, Bool.not_eq_true', and_assoc]

/-- A close sequence in the step given. -/
def closeAt (step : Nat) (hold pre : Bool) : State :=
  st (fun d => { d with ctl := { d.ctl with blk := { d.ctl.blk with code := 1, step := step, hold := hold, pre := pre } } })

/-- A device whose close sequences nothing refuses. -/
def ready : State :=
  st (fun d => fl A.pwrStat 31 24 0x44 (fl (A.ringStat 0) 31 21 0x101
    { d with prot := { d.prot with env := [[]] }, cnpy := { d.cnpy with chem := [{}] },
             acq := { d.acq with views := [{ hdr := { val := List.replicate 30 0, own := List.replicate 30 1000000 } }],
                                 next := { hdr := { val := List.replicate 30 0, own := List.replicate 30 1000000 } } } }))

/-- Load switch channel 31, enabled. -/
def chanOn : State := st (fun d => (fl (A.lswCfg 31) 31 31 1 d).setChan 31 (fun x => { x with on := true }))

theorem witness_StepKeepsMemoryForm :
     ∃ t, State.wf { core [] with mem := [(5, 1)] } = true ∧ step { core [] with mem := [(5, 1)] } = .next t := ⟨_, by decide +kernel, rfl⟩
theorem witness_AluResults :
     ∀ n ∈ [1, 3], Fits .k0 n (core []) := by unfold Fits; decide +kernel
theorem witness_ImmediateResults :
     ∀ n ∈ [1], Fits .k0 n (core []) := by unfold Fits; decide +kernel
theorem witness_DivisionResults :
    ((core []).dev.val .k0 3 = 0 ∧
     (core [(3, 1)]).dev.val .k0 3 ≠ 0) ∧
    (∀ n ∈ [34, 36], Fits .k0 n (core [])) :=
  ⟨by decide +kernel,
   by unfold Fits; decide +kernel⟩
theorem witness_FixedPointResults :
     ∀ n ∈ [1, 2, 3, 4], Fits .k0 n (core []) := by unfold Fits; decide +kernel
theorem witness_NearLoads :
    (∀ n ∈ [4], Fits .k0 n (core [])) ∧
    (NearReadOk .k0 ((core []).dev.addr .k0 0 0x1000) 4 (core [])) ∧
    (NearReadOk .k0 ((core []).dev.addr .k0 0 0x1002) 2 (core [])) ∧
    (NearReadOk .k0 ((core []).dev.addr .k0 0 0x7FFF) 1 (core [])) :=
  ⟨by unfold Fits; decide +kernel,
   by unfold NearReadOk; decide +kernel,
   by unfold NearReadOk; decide +kernel,
   by unfold NearReadOk; decide +kernel⟩
theorem witness_NearStores :
    (∀ n ∈ [4], Fits .k0 n (core [])) ∧
    (NearWriteOk .k0 ((core []).dev.addr .k0 0 0) 4 (core [])) ∧
    (NearWriteOk .k0 ((core []).dev.addr .k0 0 2) 2 (core [])) ∧
    (NearWriteOk .k0 ((core []).dev.addr .k0 0 0x7FFF) 1 (core [])) :=
  ⟨by unfold Fits; decide +kernel,
   by unfold NearWriteOk; decide +kernel,
   by unfold NearWriteOk; decide +kernel,
   by unfold NearWriteOk; decide +kernel⟩
theorem witness_FarAccess :
    (∀ n ∈ [24], Fits .k0 n (core [(2, 0x20000000), (3, 0x40120000), (4, 0x207FFFFC), (5, 0x40090000)])) ∧
    (FarOk .k0 ((core [(2, 0x20000000), (3, 0x40120000), (4, 0x207FFFFC), (5, 0x40090000)]).dev.addr .k0 2 0) false (core [(2, 0x20000000), (3, 0x40120000), (4, 0x207FFFFC), (5, 0x40090000)]) ∧ isCtl ((core [(2, 0x20000000), (3, 0x40120000), (4, 0x207FFFFC), (5, 0x40090000)]).dev.addr .k0 2 0) = false) ∧
    (FarOk .k0 ((core [(2, 0x20000000), (3, 0x40120000), (4, 0x207FFFFC), (5, 0x40090000)]).dev.addr .k0 3 0) false (core [(2, 0x20000000), (3, 0x40120000), (4, 0x207FFFFC), (5, 0x40090000)]) ∧ isCtl ((core [(2, 0x20000000), (3, 0x40120000), (4, 0x207FFFFC), (5, 0x40090000)]).dev.addr .k0 3 0) = true) ∧
    (FarOk .k0 ((core [(2, 0x20000000), (3, 0x40120000), (4, 0x207FFFFC), (5, 0x40090000)]).dev.addr .k0 4 0) true (core [(2, 0x20000000), (3, 0x40120000), (4, 0x207FFFFC), (5, 0x40090000)]) ∧ isCtl ((core [(2, 0x20000000), (3, 0x40120000), (4, 0x207FFFFC), (5, 0x40090000)]).dev.addr .k0 4 0) = false) ∧
    (FarOk .k0 ((core [(2, 0x20000000), (3, 0x40120000), (4, 0x207FFFFC), (5, 0x40090000)]).dev.addr .k0 3 0) true (core [(2, 0x20000000), (3, 0x40120000), (4, 0x207FFFFC), (5, 0x40090000)]) ∧ isCtl ((core [(2, 0x20000000), (3, 0x40120000), (4, 0x207FFFFC), (5, 0x40090000)]).dev.addr .k0 3 0) = true) :=
  ⟨by unfold Fits; decide +kernel,
   by unfold FarOk; decide +kernel,
   by unfold FarOk; decide +kernel,
   by unfold FarOk; decide +kernel,
   by unfold FarOk; decide +kernel⟩
theorem witness_MisalignedTraps :
    ((core []).dev.addr .k0 0 1 % 4 ≠ 0 ∧ (core []).dev.addr .k0 0 2 % 4 ≠ 0 ∧ (core []).dev.addr .k0 0 3 % 4 ≠ 0 ∧
     (core []).dev.addr .k0 0 3 % 2 ≠ 0) ∧
    (∀ n ∈ [4, 24], Fits .k0 n (core [])) ∧
    (Trapped .k0 4 (core []) { core [] with dev := (core []).dev.trap .k0 4 }) :=
  ⟨by decide +kernel,
   by unfold Fits; decide +kernel,
   rfl⟩
theorem witness_AbsentTraps :
    ((core [(2, 0x20000000), (3, 0x40120000), (4, 0x207FFFFC), (5, 0x40090000)]).dev.addr .k0 5 0 % 4 = 0 ∧
     isCtl ((core [(2, 0x20000000), (3, 0x40120000), (4, 0x207FFFFC), (5, 0x40090000)]).dev.addr .k0 5 0) = true ∧
     (core [(2, 0x20000000), (3, 0x40120000), (4, 0x207FFFFC), (5, 0x40090000)]).dev.absentAt ((core [(2, 0x20000000), (3, 0x40120000), (4, 0x207FFFFC), (5, 0x40090000)]).dev.addr .k0 5 0) = true) ∧
    (∀ n ∈ [24], Fits .k0 n (core [(2, 0x20000000), (3, 0x40120000), (4, 0x207FFFFC), (5, 0x40090000)])) ∧
    (Trapped .k0 1 (core []) { core [] with dev := (core []).dev.trap .k0 1 }) :=
  ⟨by decide +kernel,
   by unfold Fits; decide +kernel,
   rfl⟩
theorem witness_WindowTraps :
    ((core []).dev.addr .k0 0 4 % 4 = 0 ∧
     State.reset.dev.winOk .k0 4 4 false = false ∧
     isNear ((core [(2, 0x20000000), (3, 0x40120000), (4, 0x207FFFFC), (5, 0x40090000)]).dev.addr .k0 2 0) = false ∧
     (core [(2, 0x20000000), (3, 0x40120000), (4, 0x207FFFFC), (5, 0x40090000)]).dev.readOnly 0x60000000 = true) ∧
    (∀ n ∈ [4], Fits .k0 n State.reset) :=
  ⟨by decide +kernel,
   by unfold Fits; decide +kernel⟩
theorem witness_TrapEndsActivation :
     255 < 256 ∧ (running.dev.core .k0).cur.task < 128 ∧ (running.dev.core .k0).run = true ∧
     (State.reset.dev.core .k0).cur.task < 128 ∧ (State.reset.dev.core .k0).run = false := by decide +kernel
theorem witness_ZeroRegister :
    ((31 : Reg) ≠ 0) ∧
    (FitsJump .k0 2 running) :=
  ⟨by decide +kernel,
   by unfold FitsJump; decide +kernel⟩
theorem witness_Transfers :
    (∀ n ∈ [2], Fits .k0 n running) ∧
    (FitsJump .k0 2 running) :=
  ⟨by unfold Fits; decide +kernel,
   by unfold FitsJump; decide +kernel⟩
theorem witness_CallAndReturn :
    (((st (fun d => { d with k0 := { cur := { regs := [(1, 3)], rstk := (List.replicate 7 (8, 0)), lstk := [] } } })).dev.core .k0).cur.rstk.length < 8 ∧
     ((st (fun d => { d with k0 := { cur := { regs := [(1, 3)], rstk := [(8, 1)], lstk := [⟨4, 8, 2⟩] } } })).dev.core .k0).cur.rstk = (8, 1) :: [] ∧ 1 ≤ ((st (fun d => { d with k0 := { cur := { regs := [(1, 3)], rstk := [(8, 1)], lstk := [⟨4, 8, 2⟩] } } })).dev.core .k0).cur.lstk.length ∧
     ((core []).dev.core .k0).cur.rstk = [] ∧ (core []).dev.fetchBad .k0 = false) ∧
    (FitsJump .k0 2 (st (fun d => { d with k0 := { cur := { regs := [(1, 3)], rstk := (List.replicate 7 (8, 0)), lstk := [] } } }))) :=
  ⟨by decide +kernel,
   by unfold FitsJump; decide +kernel⟩
theorem witness_LoopEntry :
    (0 < min (max (((st (fun d => { d with k0 := { cur := { regs := [(1, 3)], rstk := [], lstk := (List.replicate 3 ⟨4, 8, 2⟩) } } })).dev.core .k0).cur.r 1).toInt 0) ((4096 : Nat) : Int) ∧
     ((st (fun d => { d with k0 := { cur := { regs := [(1, 3)], rstk := [], lstk := (List.replicate 3 ⟨4, 8, 2⟩) } } })).dev.core .k0).cur.lstk.length < 4 ∧
     min (max (((core []).dev.core .k0).cur.r 1).toInt 0) ((1 : Nat) : Int) = 0) ∧
    (FitsJump .k0 2 (st (fun d => { d with k0 := { cur := { regs := [(1, 3)], rstk := [], lstk := (List.replicate 3 ⟨4, 8, 2⟩) } } }))) ∧
    (FitsJump .k0 (2 + (arrive 0 [] 8).extra) (core [])) :=
  ⟨by decide +kernel,
   by unfold FitsJump; decide +kernel,
   by unfold FitsJump; decide +kernel⟩
theorem witness_LoopIteration :
     0 ≤ ([] : List LoopEnt).length ∧
     (8 : Nat) = (⟨4, 8, 2⟩ : LoopEnt).stop ∧ 1 < (⟨4, 8, 2⟩ : LoopEnt).left ∧
     (8 : Nat) = (⟨4, 8, 1⟩ : LoopEnt).stop ∧ (⟨4, 8, 1⟩ : LoopEnt).left ≤ 1 ∧
     (4 : Nat) ≠ (⟨4, 8, 1⟩ : LoopEnt).stop := by decide +kernel
theorem witness_SpecialValues :
    (1 ≤ 1 ∧ 9 ≤ 9 ∧
     9 < 10 ∧ (core []).dev.fetchBad .k0 = false) ∧
    (∀ n ∈ [1, 2], Fits .k0 n running) :=
  ⟨by decide +kernel,
   by unfold Fits; decide +kernel⟩
theorem witness_StagedOutputs :
    ((core []).dev.outCauses .k0 0 0 = {} ∧
     (core [(2, 31)]).dev.outCauses .k0 0 ((core [(2, 31)]).dev.val .k0 2).toNat = {} ∧
     12 ≤ 12 ∧ 12 ≤ 15 ∧ (core []).dev.fetchBad .k0 = false) ∧
    (∀ n ∈ [2, 3], Fits .k0 n (core [])) :=
  ⟨by decide +kernel,
   by unfold Fits; decide +kernel⟩
theorem witness_CommitAndWait :
    ((running.dev.core .k0).run = true ∧
     (running.dev.core .k0).cur.task < 128 ∧
     running.dev.time.tick + 9 < running.dev.time.ticks) ∧
    (∀ n ∈ [4, 8], Fits .k0 n running) :=
  ⟨by decide +kernel,
   by unfold Fits; decide +kernel⟩
theorem witness_TripRequest :
    ((st (fun d => { d with prot := { d.prot with restored := true } })).dev.kstate (pairOf .k0) = 0 ∧ (st (fun d => { d with prot := { d.prot with restored := true } })).dev.prot.restored = true ∧
     (st (fun d => fl (A.sysKstat 0) 31 30 2 d)).dev.isSplit .k0 = false ∧ 2 ≤ (st (fun d => fl (A.sysKstat 0) 31 30 2 d)).dev.kstate (pairOf .k0) ∧
     (st (fun d => { d with prot := { d.prot with restored := true } })).dev.tripMask .k0 (.const 0x80) ≠ 0 ∧
     State.reset.dev.isSplit .k0 = false ∧ State.reset.dev.tripMask .k0 (.const 0) = 0 ∧ State.reset.dev.tripMask .k0 (.reg 1) = 0 ∧
     (st (fun d => fl (A.sysKstat 0) 31 30 1 d)).dev.isSplit .k0 = true ∧ (st (fun d => fl (A.sysKstat 0) 31 30 1 d)).dev.fetchBad .k0 = false) ∧
    (∀ n ∈ [2], Fits .k0 n (st (fun d => fl (A.sysKstat 0) 31 30 2 d))) ∧
    (∀ n ∈ [2], Fits .k0 n (st (fun d => { d with prot := { d.prot with restored := true } }))) ∧
    (∀ n ∈ [2], Fits .k0 n State.reset) :=
  ⟨by decide +kernel,
   by unfold Fits; decide +kernel,
   by unfold Fits; decide +kernel,
   by unfold Fits; decide +kernel⟩
theorem witness_BlockCheck :
    ((core [(1, 0x1000), (2, 0x4000)]).dev.chkCauses .k0 0x1000 0x4000 1 = {} ∧
     (core [(1, 0x1000), (2, 0x4000)]).dev.chkCauses .k0 0x1000 0x4000 2048 = {} ∧
     (st (fun d => fl (A.sysKstat 0) 31 30 1 d)).dev.isSplit .k0 = true ∧ (st (fun d => fl (A.sysKstat 0) 31 30 1 d)).dev.fetchBad .k0 = false ∧ ((st (fun d => fl (A.sysKstat 0) 31 30 1 d)).dev.chkCauses .k0 0 0 1).ecc = false) ∧
    (∀ n ∈ [14, 4108], Fits .k0 n (core [])) :=
  ⟨by decide +kernel,
   by unfold Fits; decide +kernel⟩
theorem witness_RingAndJobStatus :
    (0x1000 % 4 = 0 ∧ (core []).dev.winOk .k0 0x1000 16 false = true ∧ (core []).dev.poisoned 0x1000 16 = false ∧
     (ringDesc ((core []).anyBytes .k0 0x1000 16)).port < (core []).dev.rings ∧ (ringDesc ((core []).anyBytes .k0 0x1000 16)).reqLen = 0 ∧ (ringDesc ((core []).anyBytes .k0 0x1000 16)).rspLen = 0 ∧
     (core []).dev.winOk .k0 0x1000 32 false = true ∧ (core []).dev.poisoned 0x1000 32 = false ∧
     wordAt ((core []).anyBytes .k0 0x1000 32) 0 / 4096 % 64 < (core []).dev.lanes ∧ wordAt ((core []).anyBytes .k0 0x1000 32) 0 / 2 ^ 24 ≠ 3 ∧ wordAt ((core []).anyBytes .k0 0x1000 32) 7 = 0) ∧
    (∀ n ∈ [4, 12], Fits .k0 n (core [])) :=
  ⟨by decide +kernel,
   by unfold Fits; decide +kernel⟩
theorem witness_SplitAndJoin :
    (State.reset.dev.canMigrate 0 = false ∧
     (core []).dev.kstate 0 ≠ 1 ∧ (core []).dev.kstate 1 = 0 ∧ (core []).dev.canMigrate 0 = true ∧
     (st (fun d => fl (A.sysKstat 0) 31 30 1 d)).dev.kstate 0 = 1 ∧
     (wordInfo 0xFFFFFFFF).isNone = true ∧ (core []).dev.fetchBad .k0 = false) ∧
    (∀ n ∈ [6], Fits .k0 n (core [])) ∧
    (∀ n ∈ [6], Fits .k0 n (st (fun d => fl (A.sysKstat 0) 31 30 1 d))) :=
  ⟨by decide +kernel,
   by unfold Fits; decide +kernel,
   by unfold Fits; decide +kernel⟩
theorem witness_ActivationStarts :
     (st (fun d => fl (A.sysKstat 0) 29 29 1 { d with img := { d.img with prog := some prog }, time := { d.time with ticks := 10, ticksOn := true } })).dev.coreOf 0 = some .k0 ∧ (st (fun d => fl (A.sysKstat 0) 29 29 1 { d with img := { d.img with prog := some prog }, time := { d.time with ticks := 10, ticksOn := true } })).dev.mayRun .k0 = true ∧ (st (fun d => fl (A.sysKstat 0) 29 29 1 { d with img := { d.img with prog := some prog }, time := { d.time with ticks := 10, ticksOn := true } })).dev.activates 0 = true ∧
     (st (fun d => fl (A.sysKstat 0) 29 29 1 { d with img := { d.img with prog := some prog }, time := { d.time with ticks := 10, ticksOn := true } })).dev.rbit (A.sysTstat 0) 31 = false ∧ ((st (fun d => fl (A.sysKstat 0) 29 29 1 { d with img := { d.img with prog := some prog }, time := { d.time with ticks := 10, ticksOn := true } })).dev.core .k0).run = false ∧ 0 ∉ ((st (fun d => fl (A.sysKstat 0) 29 29 1 { d with img := { d.img with prog := some prog }, time := { d.time with ticks := 10, ticksOn := true } })).dev.core .k0).started ∧ (st (fun d => fl (A.sysKstat 0) 29 29 1 { d with img := { d.img with prog := some prog }, time := { d.time with ticks := 10, ticksOn := true } })).dev.segmentNext .k0 0 = true := by decide +kernel
theorem witness_SegmentsResumeOrMiss :
     ((st (fun d => fl (A.sysKstat 0) 29 29 1 { d with k0 := { susp := [{ task := 3, wake := 0, cyc := 9 }] } })).dev.core .k0).waiting 3 (st (fun d => fl (A.sysKstat 0) 29 29 1 { d with k0 := { susp := [{ task := 3, wake := 0, cyc := 9 }] } })).dev.time.tick = some { task := 3, wake := 0, cyc := 9 } ∧
     (st (fun d => fl (A.sysKstat 0) 29 29 1 { d with k0 := { susp := [{ task := 3, wake := 0, cyc := 9 }] } })).dev.rbit (A.sysTstat 3) 31 = false ∧ (st (fun d => fl (A.sysKstat 0) 29 29 1 { d with k0 := { susp := [{ task := 3, wake := 0, cyc := 9 }] } })).dev.mayRun .k0 = true ∧ ((st (fun d => fl (A.sysKstat 0) 29 29 1 { d with k0 := { susp := [{ task := 3, wake := 0, cyc := 9 }] } })).dev.core .k0).run = false ∧ (st (fun d => fl (A.sysKstat 0) 29 29 1 { d with k0 := { susp := [{ task := 3, wake := 0, cyc := 9 }] } })).dev.segmentNext .k0 3 = true ∧
     (running.dev.core .k0).run = true ∧ (running.dev.core .k0).cur.task = 0 := by decide +kernel
theorem witness_InstantPlacement :
     scanning.dev.time.scanning = true ∧ scanning.dev.time.placed = none ∧ scanning.dev.follows = false ∧
     ∀ u ∈ [860000, 960000], scanning.dev.time.nextN ≤ u + scanning.dev.time.off ∧ u + scanning.dev.time.off ≤ scanning.dev.time.nextN + 100000 ∧
     859999 + scanning.dev.time.off < scanning.dev.time.nextN ∧ scanning.dev.time.nextN + 100000 < 960001 + scanning.dev.time.off ∧
     (st (fun d => fl A.twinStat 31 28 3 (fl A.sysStrap 1 0 1 { d with time := { d.time with scanning := true } }))).dev.isTwin = true ∧ (st (fun d => fl A.twinStat 31 28 3 (fl A.sysStrap 1 0 1 { d with time := { d.time with scanning := true } }))).dev.authority = false ∧ (st (fun d => fl A.twinStat 31 28 3 (fl A.sysStrap 1 0 1 { d with time := { d.time with scanning := true } }))).dev.follows = true ∧ (st (fun d => fl A.twinStat 31 28 3 (fl A.sysStrap 1 0 1 { d with time := { d.time with scanning := true } }))).dev.time.scanning = true ∧ (st (fun d => fl A.twinStat 31 28 3 (fl A.sysStrap 1 0 1 { d with time := { d.time with scanning := true } }))).dev.time.placed = none ∧ (st (fun d => fl A.twinStat 31 28 3 (fl A.sysStrap 1 0 1 { d with time := { d.time with scanning := true } }))).dev.time.msg = false ∧ (st (fun d => fl A.twinStat 31 28 3 (fl A.sysStrap 1 0 1 { d with time := { d.time with scanning := true } }))).dev.time.instLocal = false ∧
     scanning.dev.launchesGroups = true ∧ ((scanning.dev.port 0).mod 1).test = none := by decide +kernel
theorem witness_ScanBegins :
     scanning.dev.time.scanning = true ∧
     State.reset.dev.time.scanning = false ∧
     47 < (st (fun d => fl (A.ringCfg 47) 31 31 1 (fl (A.ringStat 47) 31 28 2 d))).dev.rings ∧ (st (fun d => fl (A.ringCfg 47) 31 31 1 (fl (A.ringStat 47) 31 28 2 d))).dev.scans 47 = true ∧ 1 ∈ (span 1 (min ((st (fun d => fl (A.ringCfg 47) 31 31 1 (fl (A.ringStat 47) 31 28 2 d))).dev.passes (st (fun d => fl (A.ringCfg 47) 31 31 1 (fl (A.ringStat 47) 31 28 2 d))).dev.atEndB 47) 64)).map (wireHop (st (fun d => fl (A.ringCfg 47) 31 31 1 (fl (A.ringStat 47) 31 28 2 d))).dev.atEndB ((st (fun d => fl (A.ringCfg 47) 31 31 1 (fl (A.ringStat 47) 31 28 2 d))).dev.ringL 47)) ∧ 1 ∉ hdrBadHops (st (fun d => fl (A.ringCfg 47) 31 31 1 (fl (A.ringStat 47) 31 28 2 d))).dev.atEndB ((st (fun d => fl (A.ringCfg 47) 31 31 1 (fl (A.ringStat 47) 31 28 2 d))).dev.ringL 47) (min ((st (fun d => fl (A.ringCfg 47) 31 31 1 (fl (A.ringStat 47) 31 28 2 d))).dev.passes (st (fun d => fl (A.ringCfg 47) 31 31 1 (fl (A.ringStat 47) 31 28 2 d))).dev.atEndB 47) 64) (forRing 47 []) ∧
     ¬ (1 ∈ (span 1 (min ((st (fun d => fl (A.ringCfg 47) 31 31 1 (fl (A.ringStat 47) 31 28 2 d))).dev.passes (st (fun d => fl (A.ringCfg 47) 31 31 1 (fl (A.ringStat 47) 31 28 2 d))).dev.atEndB 47) ((forRing 47 [(47, 0)]).head?.getD 64))).map (wireHop (st (fun d => fl (A.ringCfg 47) 31 31 1 (fl (A.ringStat 47) 31 28 2 d))).dev.atEndB ((st (fun d => fl (A.ringCfg 47) 31 31 1 (fl (A.ringStat 47) 31 28 2 d))).dev.ringL 47)) ∧ 1 ∉ hdrBadHops (st (fun d => fl (A.ringCfg 47) 31 31 1 (fl (A.ringStat 47) 31 28 2 d))).dev.atEndB ((st (fun d => fl (A.ringCfg 47) 31 31 1 (fl (A.ringStat 47) 31 28 2 d))).dev.ringL 47) (min ((st (fun d => fl (A.ringCfg 47) 31 31 1 (fl (A.ringStat 47) 31 28 2 d))).dev.passes (st (fun d => fl (A.ringCfg 47) 31 31 1 (fl (A.ringStat 47) 31 28 2 d))).dev.atEndB 47) ((forRing 47 [(47, 0)]).head?.getD 64)) (forRing 47 [])) ∧ (st (fun d => fl (A.ringCfg 47) 31 31 1 (fl (A.ringStat 47) 31 28 2 d))).dev.isTwin = false ∧
     (st (fun d => fl (A.ringCfg 47) 31 31 1 (fl (A.ringStat 47) 31 28 2 d))).dev.launches 47 = true ∧ (st (fun d => fl (A.ringCfg 47) 31 31 1 (fl (A.ringStat 47) 31 28 2 d))).dev.atEndB = false ∧ (st (fun d => fl (A.ringCfg 47) 31 31 1 (fl (A.ringStat 47) 31 28 2 d))).dev.ringState 47 = 2 ∧
     (st (fun d => fl (A.ringCfg 47) 31 31 1 (fl (A.ringStat 47) 31 28 3 d))).dev.launches 47 = true ∧ (st (fun d => fl (A.ringCfg 47) 31 31 1 (fl (A.ringStat 47) 31 28 3 d))).dev.ringState 47 = 3 ∧ (st (fun d => fl (A.ringCfg 47) 31 31 1 (fl (A.ringStat 47) 31 28 3 d))).dev.linkWanted 47 = false := by decide +kernel
theorem witness_TicksAndCutoff :
     State.reset.dev.time.scanning = false ∧ State.reset.dev.twin.joining = false ∧
     (st (fun d => { d with time := { d.time with scanning := true, ticksOn := true, ticks := 10, tick := 8 } })).dev.time.scanning = true ∧ (st (fun d => { d with time := { d.time with scanning := true, ticksOn := true, ticks := 10, tick := 8 } })).dev.scan = (st (fun d => { d with time := { d.time with scanning := true, ticksOn := true, ticks := 10, tick := 8 } })).dev.time.tickScan ∧ (st (fun d => { d with time := { d.time with scanning := true, ticksOn := true, ticks := 10, tick := 8 } })).dev.time.ticksOn = true ∧ (st (fun d => { d with time := { d.time with scanning := true, ticksOn := true, ticks := 10, tick := 8 } })).dev.time.tick + 1 < (st (fun d => { d with time := { d.time with scanning := true, ticksOn := true, ticks := 10, tick := 8 } })).dev.time.ticks ∧
     (st (fun d => fl A.acqScan 31 0 7 { d with time := { d.time with scanning := true } })).dev.time.scanning = true ∧ (st (fun d => fl A.acqScan 31 0 7 { d with time := { d.time with scanning := true } })).dev.scan ≠ (st (fun d => fl A.acqScan 31 0 7 { d with time := { d.time with scanning := true } })).dev.time.tickScan ∧ (st (fun d => fl A.acqScan 31 0 7 { d with time := { d.time with scanning := true } })).dev.time.ticksOn = false ∧ (st (fun d => fl A.acqScan 31 0 7 { d with time := { d.time with scanning := true } })).dev.hwd.fspActs = [] ∧ (st (fun d => fl A.acqScan 31 0 7 { d with time := { d.time with scanning := true } })).dev.hwd.ownActs = [] ∧
     47 ∈ (st (fun d => fl (A.ringCfg 47) 31 24 0x81 (fl (A.ringStat 47) 31 28 2 d))).dev.ringsOn ∧ 2 ∈ (st (fun d => fl (A.ringCfg 47) 31 24 0x81 (fl (A.ringStat 47) 31 28 2 d))).dev.hopsOf 47 ∧
     (0 : BitVec 64).getLsbD 41 = false ∧ (State.reset.dev.shutting && State.reset.dev.ctl.blk.step == 4) = false := by decide +kernel
theorem witness_PublicationReachesOutput :
     65535 < 65536 ∧ ((9, 65535) : Nat × Nat) ≠ (9, 0) := by decide +kernel
theorem witness_ProtectionVerdicts :
    ((st (fun d => fl A.protStat 29 29 1 (fl A.protStat 15 8 0x80 { d with prot := { d.prot with restored := true, gPend := [(5, 1, 3)] } }))).dev.prot.restored = true ∧ (st (fun d => fl A.protStat 29 29 1 (fl A.protStat 15 8 0x80 { d with prot := { d.prot with restored := true, gPend := [(5, 1, 3)] } }))).dev.rbit A.protStat 29 = true ∧ State.reset.dev.rbit A.protStat 29 = false ∧
     7 < 8 ∧ (st (fun d => fl A.protStat 29 29 1 (fl A.protStat 15 8 0x80 { d with prot := { d.prot with restored := true, gPend := [(5, 1, 3)] } }))).dev.rbit A.protStat (8 + 7) = true ∧ (st (fun d => fl A.protStat 29 29 1 (fl A.protStat 15 8 0x80 { d with prot := { d.prot with restored := true, gPend := [(5, 1, 3)] } }))).dev.rbit A.protStat (8 + 0) = false ∧
     (st (fun d => fl A.pwrStat 31 28 7 d)).dev.pstate = 7 ∧ (true && false) = false ∧ (st (fun d => fl A.pwrStat 31 28 3 d)).dev.pstate ≠ 7 ∧ (st (fun d => fl A.pwrStat 31 28 3 d)).dev.isTwin = false ∧
     State.reset.dev.prot.gPend = [] ∧ (st (fun d => fl A.protStat 29 29 1 (fl A.protStat 15 8 0x80 { d with prot := { d.prot with restored := true, gPend := [(5, 1, 3)] } }))).dev.prot.gPend ≠ [] ∧
     8 ≤ 8) ∧
    (Instr.l0SelftestEnd = Instr.l0SelftestEnd ∨ Instr.l0SelftestEnd = Instr.l0SelftestDaily) :=
  ⟨by decide +kernel,
   Or.inl rfl⟩
theorem witness_TripRelease :
     State.reset.dev.prot.rels = [] ∧
     (st (fun d => { d with prot := { d.prot with rels := [⟨5, 1, 0x80, 1, 0⟩] } })).dev.prot.check = none ∧ (st (fun d => { d with prot := { d.prot with rels := [⟨5, 1, 0x80, 1, 0⟩] } })).dev.dueNow 1 = false ∧
     (st (fun d => fl A.protStat 7 0 0x81 { d with prot := { d.prot with rels := [⟨5, 1, 0x80, 0, 0⟩] }, time := { d.time with now := 1000000000 } })).dev.prot.check = none ∧ (st (fun d => fl A.protStat 7 0 0x81 { d with prot := { d.prot with rels := [⟨5, 1, 0x80, 0, 0⟩] }, time := { d.time with now := 1000000000 } })).dev.prot.rels = ⟨5, 1, 0x80, 0, 0⟩ :: [] ∧ (st (fun d => fl A.protStat 7 0 0x81 { d with prot := { d.prot with rels := [⟨5, 1, 0x80, 0, 0⟩] }, time := { d.time with now := 1000000000 } })).dev.dueNow 0 = true ∧ 0x80 &&& (st (fun d => fl A.protStat 7 0 0x81 { d with prot := { d.prot with rels := [⟨5, 1, 0x80, 0, 0⟩] }, time := { d.time with now := 1000000000 } })).dev.latched ≠ 0 ∧ (st (fun d => fl A.protStat 7 0 0x81 { d with prot := { d.prot with rels := [⟨5, 1, 0x80, 0, 0⟩] }, time := { d.time with now := 1000000000 } })).dev.mayRelease (0x80 &&& (st (fun d => fl A.protStat 7 0 0x81 { d with prot := { d.prot with rels := [⟨5, 1, 0x80, 0, 0⟩] }, time := { d.time with now := 1000000000 } })).dev.latched) 0 = true ∧
     State.reset.dev.prot.check = none ∧
     (st (fun d => { d with prot := { d.prot with check := some ⟨5, 1, 0x80, 0, 0⟩ } })).dev.prot.check = some ⟨5, 1, 0x80, 0, 0⟩ ∧ (0x80 &&& (st (fun d => fl A.protStat 7 0 0x81 { d with prot := { d.prot with rels := [⟨5, 1, 0x80, 0, 0⟩] }, time := { d.time with now := 1000000000 } })).dev.latched) &&& 1 ≠ (0x80 &&& (st (fun d => fl A.protStat 7 0 0x81 { d with prot := { d.prot with rels := [⟨5, 1, 0x80, 0, 0⟩] }, time := { d.time with now := 1000000000 } })).dev.latched) := by decide +kernel
theorem witness_AbsentSpace :
     State.reset.dev.absentAt 0x40090000 = true ∧
     (st (fun d => fl A.sysUnitmap 23 18 16 d)).dev.rings ≤ 16 ∧ 47 < 48 ∧ 0x3FF < 0x400 ∧
     State.reset.dev.isTwin = false ∧ 0xFFFF < 0x10000 ∧
     (false = false) ∧ (true = true) := by decide +kernel
theorem witness_RegisterWrites :
     State.reset.dev.hasImp = true ∧
     10 ≤ (0x00A136B0 : Word).field 31 20 ∧ (0x00A136B0 : Word).field 31 20 ≤ 4000 ∧ 14000 ≤ (0x00A136B0 : Word).field 15 0 ∧
     (0x0090FFFF : Word).field 31 20 < 10 ∧ (0x00A036AF : Word).field 15 0 < 14000 ∧
     (8 : Word).field 2 0 = 0 := by decide +kernel
theorem witness_PlainRegisterAccess :
    (State.reset.dev.absentAt 0x50000000 = false ∧ regRow 0x50000000 = none ∧ 0x50000000 ∉ [A.logUcode 0, A.logUcode 1] ∧ 0x50000000 ∉ [A.acqCtl, A.acqFilt, A.acqStretch, A.acqValcfg, A.acqCalctl, A.cnpyBalen0, A.cnpyBalen1, A.cnpyImpctl] ∧
     383 < 384 ∧
     State.reset.dev.acq.cal = none ∧ State.reset.dev.acq.calReq = none ∧
     (st (fun d => { d with cans := [(3, { fifo0 := [⟨false, false, false, false, false, 0, 0, [], 0⟩] })] })).dev.hasCan 3 = true ∧ 127 < 128 ∧ 0x7F < 0x80 ∧
     ((st (fun d => { d with cans := [(3, { fifo0 := [⟨false, false, false, false, false, 0, 0, [], 0⟩] })] })).dev.can 3).fifoHead 0 ≠ none ∧ (((st (fun d => { d with cans := [(3, { fifo0 := [⟨false, false, false, false, false, 0, 0, [], 0⟩] })] })).dev.can 3).fifoHead 0).isSome = true) ∧
    (∃ r, State.reset.dev.absentAt (A.ringCntctl 0) = false ∧ regRow (A.ringCntctl 0) = some r ∧ A.ringCntctl 0 ∉ [A.acqCtl, A.acqFilt, A.acqStretch, A.acqValcfg, A.acqCalctl, A.cnpyBalen0, A.cnpyBalen1, A.cnpyImpctl, A.logUcode 0, A.logUcode 1]) :=
  ⟨by decide +kernel,
   ⟨_, by decide +kernel, rfl, by decide +kernel⟩⟩
theorem witness_AcquisitionCommands :
     State.reset.dev.acq.hold = 0 ∧
     State.reset.dev.mirrors = false ∧ mirror.dev.mirrors = true ∧
     (st (fun d => { d with acq := { d.acq with cal := some ⟨1, [], false⟩ } })).dev.acq.cal.isSome = true ∧
     State.reset.dev.acq.cal = none ∧ State.reset.dev.calOk (State.reset.dev.acq.calReq.getD (State.reset.dev.fld A.acqCalctl 7 4)) 15 true = true ∧
     State.reset.dev.calOk (State.reset.dev.acq.calReq.getD (State.reset.dev.fld A.acqCalctl 7 4)) 15 false = false ∧
     (st (fun d => { d with acq := { d.acq with cal := some ⟨1, [], false⟩ } })).dev.acq.cal = some ⟨1, [], false⟩ ∧ (st (fun d => { d with acq := { d.acq with cal := some ⟨1, [], false⟩ } })).dev.calOk 1 1 true = true ∧ (st (fun d => { d with acq := { d.acq with cal := some ⟨1, [], false⟩ } })).dev.calOk 1 0 true = false := by decide +kernel
theorem witness_HeadCommands :
     47 < State.reset.dev.rings ∧ (State.reset.dev.port 47).headDeaf (State.reset.dev.ringL 47) = false ∧ (State.reset.dev.port 47).head.lastSeq ≠ some 255 ∧
     ((st (fun d => { d with ports := [(47, { head := { lastSeq := some 7 } })] })).dev.port 47).headDeaf ((st (fun d => { d with ports := [(47, { head := { lastSeq := some 7 } })] })).dev.ringL 47) = false ∧ ((st (fun d => { d with ports := [(47, { head := { lastSeq := some 7 } })] })).dev.port 47).head.lastSeq = some 7 ∧
     (st (fun d => { d with ports := [(0, { mods := [(1, { ident := some ⟨1, 1, 0, 4, 1, 1, 0, 0⟩ })] })] })).dev.executes 0 1 = true ∧ ((st (fun d => { d with ports := [(0, { mods := [(1, { ident := some ⟨1, 1, 0, 4, 1, 1, 0, 0⟩ })] })] })).dev.port 0).isHead 1 = false := by decide +kernel
theorem witness_ModuleReads :
     47 < State.reset.dev.rings ∧ 1 ≤ 64 ∧ 64 ≤ 64 ∧ State.reset.dev.executes 47 64 = true ∧
     (st (fun d => { d with ports := [(0, { hdrBad := [1], payBad := [2] })] })).dev.executes 0 1 = false ∧ (st (fun d => { d with ports := [(0, { hdrBad := [1], payBad := [2] })] })).dev.getsFrame 0 1 = false ∧
     (st (fun d => { d with ports := [(0, { hdrBad := [1], payBad := [2] })] })).dev.executes 0 2 = false ∧ (st (fun d => { d with ports := [(0, { hdrBad := [1], payBad := [2] })] })).dev.getsFrame 0 2 = true ∧
     FMap.get (fun _ => []) ({} : Module).capture 3 = [] := by decide +kernel
theorem witness_ModuleWrites :
    (47 < State.reset.dev.rings ∧ 1 ≤ 64 ∧ 64 ≤ 64 ∧ State.reset.dev.executes 47 64 = true ∧ 64 ≤ (List.replicate 64 0).length ∧ 64 < 65 ∧
     State.reset.dev.atEndB = false ∧ true ≠ State.reset.dev.atEndB ∧
     65535 < 65536 ∧
     (State.reset.dev.modNow 47 64).stored true (State.reset.dev.port 47).flying = none ∧
     ((st (fun d => { d with ports := [(0, { mods := [(1, { ver := 3, burst := some (15, 0) }), (2, { ver := 3, test := some ⟨none, 1, 1, []⟩, replay := [(7, { res := 4 })] })], txns := [{ tag := 7, holder := 0, code := 48, first := 2, last := 2, st := 1, retries := 1, lo := 2, hi := 2 }] })] })).dev.modNow 0 2).stored true ((st (fun d => { d with ports := [(0, { mods := [(1, { ver := 3, burst := some (15, 0) }), (2, { ver := 3, test := some ⟨none, 1, 1, []⟩, replay := [(7, { res := 4 })] })], txns := [{ tag := 7, holder := 0, code := 48, first := 2, last := 2, st := 1, retries := 1, lo := 2, hi := 2 }] })] })).dev.port 0).flying = some { res := 4 } ∧
     (List.replicate 16 4095).length = 16 ∧ (List.replicate 16 4095).all (fun x => decide (x ≤ 4095)) = true ∧ (List.replicate 16 4096).length = 16 ∧ (List.replicate 16 4096).any (fun x => decide (4095 < x)) = true ∧
     badTest 0xFFFFFFFF#32 = true ∧ badTest 0x00010000#32 = false ∧ (0x00010000 : Word).bit 24 = false ∧ badTest 0x01010001#32 = false ∧ (0x01010001 : Word).bit 24 = true ∧
     ((st (fun d => { d with ports := [(0, { mods := [(1, { ver := 3, burst := some (15, 0) }), (2, { ver := 3, test := some ⟨none, 1, 1, []⟩, replay := [(7, { res := 4 })] })], txns := [{ tag := 7, holder := 0, code := 48, first := 2, last := 2, st := 1, retries := 1, lo := 2, hi := 2 }] })] })).dev.modNow 0 2).test ≠ none ∧ ((st (fun d => { d with ports := [(0, { mods := [(1, { ver := 3, burst := some (15, 0) }), (2, { ver := 3, test := some ⟨none, 1, 1, []⟩, replay := [(7, { res := 4 })] })], txns := [{ tag := 7, holder := 0, code := 48, first := 2, last := 2, st := 1, retries := 1, lo := 2, hi := 2 }] })] })).dev.modNow 0 1).test = none) ∧
    (15 < 16 ∧ ((st (fun d => { d with ports := [(0, { mods := [(1, { ver := 3, burst := some (15, 0) }), (2, { ver := 3, test := some ⟨none, 1, 1, []⟩, replay := [(7, { res := 4 })] })], txns := [{ tag := 7, holder := 0, code := 48, first := 2, last := 2, st := 1, retries := 1, lo := 2, hi := 2 }] })] })).dev.modNow 0 1).ver ≠ 2 ∧ ((st (fun d => { d with ports := [(0, { mods := [(1, { ver := 3, burst := some (15, 0) }), (2, { ver := 3, test := some ⟨none, 1, 1, []⟩, replay := [(7, { res := 4 })] })], txns := [{ tag := 7, holder := 0, code := 48, first := 2, last := 2, st := 1, retries := 1, lo := 2, hi := 2 }] })] })).dev.modNow 0 1).stored true ((st (fun d => { d with ports := [(0, { mods := [(1, { ver := 3, burst := some (15, 0) }), (2, { ver := 3, test := some ⟨none, 1, 1, []⟩, replay := [(7, { res := 4 })] })], txns := [{ tag := 7, holder := 0, code := 48, first := 2, last := 2, st := 1, retries := 1, lo := 2, hi := 2 }] })] })).dev.port 0).flying = none ∧ ((st (fun d => { d with ports := [(0, { mods := [(1, { ver := 3, burst := some (15, 0) }), (2, { ver := 3, test := some ⟨none, 1, 1, []⟩, replay := [(7, { res := 4 })] })], txns := [{ tag := 7, holder := 0, code := 48, first := 2, last := 2, st := 1, retries := 1, lo := 2, hi := 2 }] })] })).dev.modNow 0 1).burst = some (15, 0) ∧ ((st (fun d => { d with ports := [(0, { mods := [(1, { ver := 3, burst := some (15, 0) }), (2, { ver := 3, test := some ⟨none, 1, 1, []⟩, replay := [(7, { res := 4 })] })], txns := [{ tag := 7, holder := 0, code := 48, first := 2, last := 2, st := 1, retries := 1, lo := 2, hi := 2 }] })] })).dev.modNow 0 1).burstReady = false ∧
     (State.reset.dev.modNow 47 64).ver = 2 ∧
     State.reset.dev.portEn 0 = false) :=
  ⟨by decide +kernel,
   by decide +kernel⟩
theorem witness_RingLinkCommands :
    ((st (fun d => fl (A.ringStat 47) 12 12 1 d)).dev.rbit (A.ringStat 47) 12 = true ∧
     State.reset.dev.rbit (A.ringStat 0) 12 = false ∧
     47 < (st (fun d => fl (A.ringCfg 47) 31 31 1 (fl (A.ringStat 47) 31 28 2 { d with ports := [(47, { head := { coilN := true, conN := true } })] }))).dev.rings ∧ (st (fun d => fl (A.ringCfg 47) 31 31 1 (fl (A.ringStat 47) 31 28 2 { d with ports := [(47, { head := { coilN := true, conN := true } })] }))).dev.launches 47 = true ∧ ((st (fun d => fl (A.ringCfg 47) 31 31 1 (fl (A.ringStat 47) 31 28 2 { d with ports := [(47, { head := { coilN := true, conN := true } })] }))).dev.port 47).head.armed = true ∧ ((st (fun d => fl (A.ringCfg 47) 31 31 1 (fl (A.ringStat 47) 31 28 2 { d with ports := [(47, { head := { coilN := true, conN := true } })] }))).dev.at 10000000).keepFits 47 = true ∧ ((st (fun d => fl (A.ringCfg 47) 31 31 1 (fl (A.ringStat 47) 31 28 2 { d with ports := [(47, { head := { coilN := true, conN := true } })] }))).dev.port 47).quiet = true ∧ 1 ∈ (span 1 (min ((st (fun d => fl (A.ringCfg 47) 31 31 1 (fl (A.ringStat 47) 31 28 2 { d with ports := [(47, { head := { coilN := true, conN := true } })] }))).dev.passes (st (fun d => fl (A.ringCfg 47) 31 31 1 (fl (A.ringStat 47) 31 28 2 { d with ports := [(47, { head := { coilN := true, conN := true } })] }))).dev.atEndB 47) 64)).map (wireHop (st (fun d => fl (A.ringCfg 47) 31 31 1 (fl (A.ringStat 47) 31 28 2 { d with ports := [(47, { head := { coilN := true, conN := true } })] }))).dev.atEndB ((st (fun d => fl (A.ringCfg 47) 31 31 1 (fl (A.ringStat 47) 31 28 2 { d with ports := [(47, { head := { coilN := true, conN := true } })] }))).dev.ringL 47)) ∧ 1 ∉ hdrBadHops (st (fun d => fl (A.ringCfg 47) 31 31 1 (fl (A.ringStat 47) 31 28 2 { d with ports := [(47, { head := { coilN := true, conN := true } })] }))).dev.atEndB ((st (fun d => fl (A.ringCfg 47) 31 31 1 (fl (A.ringStat 47) 31 28 2 { d with ports := [(47, { head := { coilN := true, conN := true } })] }))).dev.ringL 47) (min ((st (fun d => fl (A.ringCfg 47) 31 31 1 (fl (A.ringStat 47) 31 28 2 { d with ports := [(47, { head := { coilN := true, conN := true } })] }))).dev.passes (st (fun d => fl (A.ringCfg 47) 31 31 1 (fl (A.ringStat 47) 31 28 2 { d with ports := [(47, { head := { coilN := true, conN := true } })] }))).dev.atEndB 47) 64) [] ∧
     ¬ (1 ∈ (span 1 (min ((st (fun d => fl (A.ringCfg 47) 31 31 1 (fl (A.ringStat 47) 31 28 2 { d with ports := [(47, { head := { coilN := true, conN := true } })] }))).dev.passes (st (fun d => fl (A.ringCfg 47) 31 31 1 (fl (A.ringStat 47) 31 28 2 { d with ports := [(47, { head := { coilN := true, conN := true } })] }))).dev.atEndB 47) 64)).map (wireHop (st (fun d => fl (A.ringCfg 47) 31 31 1 (fl (A.ringStat 47) 31 28 2 { d with ports := [(47, { head := { coilN := true, conN := true } })] }))).dev.atEndB ((st (fun d => fl (A.ringCfg 47) 31 31 1 (fl (A.ringStat 47) 31 28 2 { d with ports := [(47, { head := { coilN := true, conN := true } })] }))).dev.ringL 47)) ∧ 1 ∉ hdrBadHops (st (fun d => fl (A.ringCfg 47) 31 31 1 (fl (A.ringStat 47) 31 28 2 { d with ports := [(47, { head := { coilN := true, conN := true } })] }))).dev.atEndB ((st (fun d => fl (A.ringCfg 47) 31 31 1 (fl (A.ringStat 47) 31 28 2 { d with ports := [(47, { head := { coilN := true, conN := true } })] }))).dev.ringL 47) (min ((st (fun d => fl (A.ringCfg 47) 31 31 1 (fl (A.ringStat 47) 31 28 2 { d with ports := [(47, { head := { coilN := true, conN := true } })] }))).dev.passes (st (fun d => fl (A.ringCfg 47) 31 31 1 (fl (A.ringStat 47) 31 28 2 { d with ports := [(47, { head := { coilN := true, conN := true } })] }))).dev.atEndB 47) 64) [1]) ∧
     State.reset.dev.launches 0 = false ∧ State.reset.dev.farScans 0 = false ∧
     State.reset.dev.scans 0 = false ∧ (st (fun d => fl (A.ringCfg 47) 31 31 1 (fl (A.ringStat 47) 31 28 2 { d with ports := [(47, { head := { coilN := true, conN := true } })] }))).dev.scans 47 = true ∧ (st (fun d => fl (A.ringCfg 47) 31 31 1 (fl (A.ringStat 47) 31 28 2 { d with ports := [(47, { head := { coilN := true, conN := true } })] }))).dev.ringState 47 ≠ 4 ∧
     State.reset.dev.nextTxn 0 = none ∧
     (st (fun d => fl (A.ringCfg 0) 31 31 1 (fl (A.ringStat 0) 31 28 2 { d with ports := [(0, { txns := [{ tag := 64, holder := 1, code := 1, first := 1, last := 1, st := 0, lo := 1, hi := 1 }] })] }))).dev.nextTxn 0 = some { tag := 64, holder := 1, code := 1, first := 1, last := 1, st := 0, lo := 1, hi := 1 } ∧ (st (fun d => fl (A.ringCfg 0) 31 31 1 (fl (A.ringStat 0) 31 28 2 { d with ports := [(0, { txns := [{ tag := 64, holder := 1, code := 1, first := 1, last := 1, st := 0, lo := 1, hi := 1 }] })] }))).dev.mayLaunch 0 = true ∧ ((st (fun d => fl (A.ringCfg 0) 31 31 1 (fl (A.ringStat 0) 31 28 2 { d with ports := [(0, { txns := [{ tag := 64, holder := 1, code := 1, first := 1, last := 1, st := 0, lo := 1, hi := 1 }] })] }))).dev.port 0).quiet = true ∧ (st (fun d => fl (A.ringCfg 0) 31 31 1 (fl (A.ringStat 0) 31 28 2 { d with ports := [(0, { txns := [{ tag := 64, holder := 1, code := 1, first := 1, last := 1, st := 0, lo := 1, hi := 1 }] })] }))).dev.fits 0 { tag := 64, holder := 1, code := 1, first := 1, last := 1, st := 0, lo := 1, hi := 1 } = true ∧ (st (fun d => fl (A.ringCfg 0) 31 31 1 (fl (A.ringStat 0) 31 28 2 { d with ports := [(0, { txns := [{ tag := 64, holder := 1, code := 1, first := 1, last := 1, st := 0, lo := 1, hi := 1 }] })] }))).dev.otherHops 0 { tag := 64, holder := 1, code := 1, first := 1, last := 1, st := 0, lo := 1, hi := 1 } = []) ∧
    ((st (fun d => fl (A.ringCfg 0) 31 31 1 (fl (A.ringStat 0) 31 28 2 { d with ports := [(0, { txns := [{ tag := 64, holder := 1, code := 1, first := 1, last := 1, st := 0, lo := 1, hi := 1, retries := 1 }] })] }))).dev.nextTxn 0 = some { tag := 64, holder := 1, code := 1, first := 1, last := 1, st := 0, lo := 1, hi := 1, retries := 1 } ∧ 0 < 1 ∧
     ((st (fun d => fl (A.ringCfg 0) 31 31 1 (fl (A.ringStat 0) 31 28 2 { d with ports := [(0, { txns := [{ tag := 64, holder := 1, code := 1, first := 1, last := 1, st := 1, lo := 1, hi := 1 }], records := [(1, { hop := 1 })] })] }))).dev.port 0).flying = some { tag := 64, holder := 1, code := 1, first := 1, last := 1, st := 1, lo := 1, hi := 1 } ∧ (st (fun d => fl (A.ringCfg 0) 31 31 1 (fl (A.ringStat 0) 31 28 2 { d with ports := [(0, { txns := [{ tag := 64, holder := 1, code := 1, first := 1, last := 1, st := 1, lo := 1, hi := 1 }], records := [(1, { hop := 1 })] })] }))).dev.orphan { tag := 64, holder := 1, code := 1, first := 1, last := 1, st := 1, lo := 1, hi := 1 } = false ∧ wireHop ((st (fun d => fl (A.ringCfg 0) 31 31 1 (fl (A.ringStat 0) 31 28 2 { d with ports := [(0, { txns := [{ tag := 64, holder := 1, code := 1, first := 1, last := 1, st := 1, lo := 1, hi := 1 }], records := [(1, { hop := 1 })] })] }))).dev.port 0).frame.dirB ((st (fun d => fl (A.ringCfg 0) 31 31 1 (fl (A.ringStat 0) 31 28 2 { d with ports := [(0, { txns := [{ tag := 64, holder := 1, code := 1, first := 1, last := 1, st := 1, lo := 1, hi := 1 }], records := [(1, { hop := 1 })] })] }))).dev.ringL 0) 1 ≤ 1 ∧ ((st (fun d => fl (A.ringCfg 0) 31 31 1 (fl (A.ringStat 0) 31 28 2 { d with ports := [(0, { txns := [{ tag := 64, holder := 1, code := 1, first := 1, last := 1, st := 1, lo := 1, hi := 1 }], records := [(1, { hop := 1 })] })] }))).dev.port 0).arrived [1] 1 = true ∧ retried 1 (((st (fun d => fl (A.ringCfg 0) 31 31 1 (fl (A.ringStat 0) 31 28 2 { d with ports := [(0, { txns := [{ tag := 64, holder := 1, code := 1, first := 1, last := 1, st := 1, lo := 1, hi := 1 }], records := [(1, { hop := 1 })] })] }))).dev.port 0).record 1).res = false ∧
     (State.reset.dev.port 0).flying = none ∧ State.reset.dev.launches 0 = false ∧ ((st (fun d => fl (A.ringCfg 47) 31 31 1 (fl (A.ringStat 47) 31 28 2 { d with ports := [(47, { head := { coilN := true, conN := true } })] }))).dev.port 47).flying = none ∧ ((st (fun d => fl (A.ringCfg 47) 31 31 1 (fl (A.ringStat 47) 31 28 2 { d with ports := [(47, { head := { coilN := true, conN := true } })] }))).dev.port 47).lostRun < 7 ∧
     ((st (fun d => fl (A.ringCfg 0) 31 31 1 (fl (A.ringStat 0) 31 28 2 { d with ports := [(0, { txns := [{ tag := 64, holder := 1, code := 1, first := 1, last := 1, st := 1, lo := 1, hi := 1 }], records := [(1, { hop := 1 })] })] }))).dev.port 0).lastTry { tag := 64, holder := 1, code := 1, first := 1, last := 1, st := 1, lo := 1, hi := 1 } = false ∧ ((st (fun d => fl (A.ringCfg 0) 31 31 1 (fl (A.ringStat 0) 31 28 2 { d with ports := [(0, { txns := [{ tag := 64, holder := 1, code := 1, first := 1, last := 1, st := 1, lo := 1, hi := 1 }], records := [(1, { hop := 1 })] })] }))).dev.port 0).lostRun < 7) :=
  ⟨by decide +kernel,
   by decide +kernel⟩
theorem witness_BalanceAndIdentity :
    ((st (fun d => fl A.hwdStat 30 29 3 (fl (A.ringCfg 0) 31 31 1 (fl (A.ringStat 0) 31 28 2 { d with hwd := { d.hwd with ks := some 0 } })))).dev.identity 0 1 ≠ 4 ∧ (st (fun d => fl A.hwdStat 30 29 3 (fl (A.ringCfg 0) 31 31 1 (fl (A.ringStat 0) 31 28 2 { d with hwd := { d.hwd with ks := some 0 } })))).dev.hwdOk = true ∧ (st (fun d => fl A.hwdStat 30 29 3 (fl (A.ringCfg 0) 31 31 1 (fl (A.ringStat 0) 31 28 2 { d with hwd := { d.hwd with ks := some 0 } })))).dev.challenges 0 1 = true ∧
     State.reset.dev.hwdOk = false ∧ State.reset.dev.challenges 0 1 = false ∧ State.reset.dev.discovering 0 1 = false ∧
     (st (fun d => { d with ports := [(0, { identity := [(1, 3), (2, 1), (3, 4)], cfgStale := [(1, true)] })] })).dev.identity 0 3 = 4 ∧ (st (fun d => { d with ports := [(0, { identity := [(1, 3), (2, 1), (3, 4)], cfgStale := [(1, true)] })] })).dev.hopKey 0 3 = 0 ∧
     FMap.get (fun _ => false) ((st (fun d => { d with ports := [(0, { identity := [(1, 3), (2, 1), (3, 4)], cfgStale := [(1, true)] })] })).dev.port 0).cfgStale 1 = true ∧ FMap.get (fun _ => false) (State.reset.dev.port 47).cfgStale 64 = false ∧
     (st (fun d => { d with ports := [(0, { identity := [(1, 3), (2, 1), (3, 4)], cfgStale := [(1, true)] })] })).dev.authentic 0 2 = true ∧ (st (fun d => { d with ports := [(0, { identity := [(1, 3), (2, 1), (3, 4)], cfgStale := [(1, true)] })] })).dev.authentic 0 1 = false ∧
     State.reset.dev.identity 0 1 ≠ 3 ∧ State.reset.dev.identity 0 1 ≠ 2 ∧ (st (fun d => { d with ports := [(0, { identity := [(1, 3), (2, 1), (3, 4)], cfgStale := [(1, true)] })] })).dev.identity 0 1 = 3 ∧
     State.reset.dev.executes 47 64 = true ∧ (State.reset.dev.port 47).headDeaf (State.reset.dev.ringL 47) = false ∧
     20 ≤ 20 ∧ 200 ≤ 200) ∧
    (((st (fun d => fl A.hwdStat 30 29 3 (fl (A.ringCfg 0) 31 31 1 (fl (A.ringStat 0) 31 28 2 { d with hwd := { d.hwd with ks := some 0 } })))).dev.ringsOn.find? (fun n => decide ((st (fun d => fl A.hwdStat 30 29 3 (fl (A.ringCfg 0) 31 31 1 (fl (A.ringStat 0) 31 28 2 { d with hwd := { d.hwd with ks := some 0 } })))).dev.cnpy.balNext ≤ n)) <|> (st (fun d => fl A.hwdStat 30 29 3 (fl (A.ringCfg 0) 31 31 1 (fl (A.ringStat 0) 31 28 2 { d with hwd := { d.hwd with ks := some 0 } })))).dev.ringsOn.head?) = some 0 ∧
     ∀ h ∈ (st (fun d => fl A.hwdStat 30 29 3 (fl (A.ringCfg 0) 31 31 1 (fl (A.ringStat 0) 31 28 2 { d with hwd := { d.hwd with ks := some 0 } })))).dev.hopsOf 0, (st (fun d => fl A.hwdStat 30 29 3 (fl (A.ringCfg 0) 31 31 1 (fl (A.ringStat 0) 31 28 2 { d with hwd := { d.hwd with ks := some 0 } })))).dev.tagOk 0 h = false) ∧
    (∃ h ∈ (st (fun d => fl (A.ringCfg 0) 31 31 1 { d with acq := { d.acq with views := [{ recs := [(0, { cfgtag := State.reset.dev.expectTag 0 1 })] }] } })).dev.hopsOf 0, (st (fun d => fl (A.ringCfg 0) 31 31 1 { d with acq := { d.acq with views := [{ recs := [(0, { cfgtag := State.reset.dev.expectTag 0 1 })] }] } })).dev.tagOk 0 h = true) :=
  ⟨by decide +kernel,
   by decide +kernel,
   ⟨1, by decide +kernel⟩⟩
theorem witness_LoadSwitchCommands :
     chanOn.dev.hasLsw 31 = true ∧ chanOn.dev.switches 31 = true ∧ (chanOn.dev.chan 31).on = true ∧
     chanOn.dev.rbit (A.lswCfg 31) 27 = false ∧
     (st (fun d => fl (A.lswCfg 0) 31 27 0x11 d)).dev.switches 0 = true ∧ (st (fun d => fl (A.lswCfg 0) 31 27 0x11 d)).dev.rbit (A.lswCfg 0) 27 = true ∧
     chanOn.dev.lswDemand 31 = ((chanOn.dev.chan 31).demA, (chanOn.dev.chan 31).demB) ∧ (chanOn.dev.chan 31).demB = false ∧
     (st (fun d => fl (A.lswCfg 0) 31 30 3 ((d.setChan 0 (fun x => { x with waitA := true }))|> fun d => { d with pubs := [(65536, 1)] }))).dev.hasLsw 0 = true ∧ (st (fun d => fl (A.lswCfg 0) 31 30 3 ((d.setChan 0 (fun x => { x with waitA := true }))|> fun d => { d with pubs := [(65536, 1)] }))).dev.switches 0 = true ∧ (st (fun d => fl (A.lswCfg 0) 31 30 3 ((d.setChan 0 (fun x => { x with waitA := true }))|> fun d => { d with pubs := [(65536, 1)] }))).dev.lswDemand 0 = (true, false) ∧ ((st (fun d => fl (A.lswCfg 0) 31 30 3 ((d.setChan 0 (fun x => { x with waitA := true }))|> fun d => { d with pubs := [(65536, 1)] }))).dev.chan 0).waitA = true ∧ ((st (fun d => fl (A.lswCfg 0) 31 30 3 ((d.setChan 0 (fun x => { x with waitA := true }))|> fun d => { d with pubs := [(65536, 1)] }))).dev.chan 0).selB = false ∧ ((st (fun d => fl (A.lswCfg 0) 31 30 3 ((d.setChan 0 (fun x => { x with waitA := true }))|> fun d => { d with pubs := [(65536, 1)] }))).dev.chan 0).waitB = false ∧ ((st (fun d => fl (A.lswCfg 0) 31 30 3 ((d.setChan 0 (fun x => { x with waitA := true }))|> fun d => { d with pubs := [(65536, 1)] }))).dev.chan 0).on = false ∧
     (st (fun d => fl (A.lswCfg 0) 31 30 3 ((d.setChan 0 (fun x => { x with waitB := true }))|> fun d => { d with pubs := [(65537, 1)] }))).dev.lswDemand 0 = (false, true) ∧ ((st (fun d => fl (A.lswCfg 0) 31 30 3 ((d.setChan 0 (fun x => { x with waitB := true }))|> fun d => { d with pubs := [(65537, 1)] }))).dev.chan 0).waitB = true ∧ (st (fun d => fl (A.lswCfg 0) 31 30 3 ((d.setChan 0 (fun x => { x with waitB := true }))|> fun d => { d with pubs := [(65537, 1)] }))).dev.rbit (A.lswCfg 0) 30 = true ∧ ((st (fun d => fl (A.lswCfg 0) 31 30 3 ((d.setChan 0 (fun x => { x with waitB := true }))|> fun d => { d with pubs := [(65537, 1)] }))).dev.chan 0).selA = false ∧ ((st (fun d => fl (A.lswCfg 0) 31 30 3 ((d.setChan 0 (fun x => { x with waitB := true }))|> fun d => { d with pubs := [(65537, 1)] }))).dev.chan 0).waitA = false ∧
     State.reset.dev.hasLsw 32 = false ∧ State.reset.dev.hasLsw 0 = true ∧ State.reset.dev.switches 0 = false := by decide +kernel
theorem witness_LimpHome :
     State.reset.dev.pstate ≠ 1 ∧ (st (fun d => fl A.pwrStat 31 28 3 { d with lh := { d.lh with inReset := false } })).dev.lhDead = false ∧
     (st (fun d => fl A.pwrStat 31 28 1 d)).dev.pstate = 1 ∧
     7 < 8 := by decide +kernel
theorem witness_FailedClose :
     (closeAt 1 false false).dev.closing = true ∧ (closeAt 1 false false).dev.ctl.blk.alsoTag = [] ∧ (closeAt 1 false false).dev.ctl.blk.step = 1 ∧
     ∀ k ∈ [3, 4], (closeAt k false false).dev.closing = true ∧ (closeAt k false false).dev.ctl.blk.step = k ∧ (closeAt k false false).dev.ctl.blk.hold = false ∧
     (closeAt 4 true true).dev.ctl.blk.hold = true ∧ (closeAt 4 true true).dev.closing = true ∧
     State.reset.dev.closing = false ∧
     (closeAt 3 false true).dev.ctl.blk.pre = true ∧ (closeAt 3 false true).dev.closing = true := by decide +kernel
theorem witness_BlockSequences :
     State.reset.dev.ctl.blk.code = 0 ∧ 255 < 256 ∧
     (closeAt 3 false false).dev.closing = true ∧
     (st (fun d => { d with ctl := { d.ctl with blk := { d.ctl.blk with code := 3 } } })).dev.ctl.blk.code ≠ 0 ∧ (st (fun d => { d with ctl := { d.ctl with blk := { d.ctl.blk with code := 3 } } })).dev.closing = false ∧
     State.reset.dev.shutting = false ∧ (st (fun d => { d with ctl := { d.ctl with blk := { d.ctl.blk with code := 5 } } })).dev.shutting = true ∧
     0 < 1 ∧ 65535 < 65536 ∧ 9 < 10 ∧ 6000 < 6001 ∧
     ready.dev.pstate ≠ 2 ∧ ready.dev.ctl.blk.code = 0 ∧ ready.dev.refuseBlock = none := by decide +kernel
theorem witness_StringSequences :
     ready.dev.pstate ≠ 2 ∧ (ready.dev.strSeq 0).code = 0 ∧ ready.dev.refuseStr 0 = none ∧
     ((st (fun d => { d with ctl := { d.ctl with strs := [(47, { code := 1, step := 2 })] } })).dev.strSeq 47).code ≠ 0 ∧ (st (fun d => { d with ctl := { d.ctl with strs := [(47, { code := 1, step := 2 })] } })).dev.pstate ≠ 2 ∧
     (State.reset.dev.strSeq 0).code = 0 ∧ ((st (fun d => { d with ctl := { d.ctl with strs := [(47, { code := 1, step := 2 })] } })).dev.strSeq 47).code = 1 ∧
     ((st (fun d => { d with ctl := { d.ctl with strs := [(47, { code := 2, step := 2 })] } })).dev.strSeq 47).code = 2 ∧ ((st (fun d => { d with ctl := { d.ctl with strs := [(47, { code := 2, step := 2 })] } })).dev.strSeq 47).step = 2 ∧ ((st (fun d => { d with ctl := { d.ctl with strs := [(47, { code := 3, step := 3 })] } })).dev.strSeq 47).code = 3 ∧
     47 < 48 ∧ 255 < 256 ∧ 0 < 1 ∧ 65535 < 65536 ∧
     (st (fun d => fl (A.ringCfg 47) 31 31 1 (fl (A.ringStat 47) 31 28 2 d))).dev.portEn 47 = true := by decide +kernel
theorem witness_ContactorInputs :
    ((st (fun d => fl A.ctlStat 26 25 3 d)).dev.rbit A.ctlStat (holdBit .pos) = true ∧ (st (fun d => fl A.ctlStat 26 25 3 d)).dev.rbit A.ctlStat (fbBit .pos) = false ∧
     (st (fun d => fl A.ctlStat 24 23 3 d)).dev.rbit A.ctlStat (holdBit .neg) = false ∧ (st (fun d => fl A.ctlStat 24 23 3 d)).dev.rbit A.ctlStat (fbBit .neg) = true ∧
     State.reset.dev.rbit A.ctlStat (holdBit .pos) = State.reset.dev.rbit A.ctlStat (fbBit .pos) ∧
     State.reset.dev.rbit A.pwrStat 21 = false ∧ (st (fun d => fl A.pwrStat 21 21 1 d)).dev.rbit A.pwrStat 21 = true ∧
     State.reset.dev.ctl.blk.code ≠ 3 ∧ State.reset.dev.ctl.blk.code ≠ 5 ∧ (State.reset.dev.strSeq 0).code ≠ 1 ∧
     ((st (fun d => { d with ctl := { d.ctl with strs := [(47, { code := 1, step := 3 })] } })).dev.strSeq 47).code = 1 ∧ ((st (fun d => { d with ctl := { d.ctl with strs := [(47, { code := 1, step := 3 })] } })).dev.strSeq 47).step = 3 ∧
     ((st (fun d => { d with ports := [(47, { head := { conPre := true } })], ctl := { d.ctl with strs := [(47, { code := 1, step := 3 })] } })).dev.port 47).head.conPre = true ∧
     13 < 16 ∧ (State.reset.dev.loopCfg 13).en = false) ∧
    (((st (fun d => { d with img := { d.img with topo := some { loops := [{ en := true, src := 1 }] } }, ctl := { d.ctl with loops := [(0, { mode := 1 })] } })).dev.loopCfg 0).en = true ∧ (st (fun d => { d with img := { d.img with topo := some { loops := [{ en := true, src := 1 }] } }, ctl := { d.ctl with loops := [(0, { mode := 1 })] } })).dev.authority = true ∧ ((st (fun d => { d with img := { d.img with topo := some { loops := [{ en := true, src := 1 }] } }, ctl := { d.ctl with loops := [(0, { mode := 1 })] } })).dev.loop 0).mode = 1 ∧ ((st (fun d => { d with img := { d.img with topo := some { loops := [{ en := true, src := 1 }] } }, ctl := { d.ctl with loops := [(0, { mode := 1 })] } })).dev.loopCfg 0).src ≠ 9 ∧ (st (fun d => { d with img := { d.img with topo := some { loops := [{ en := true, src := 1 }] } }, ctl := { d.ctl with loops := [(0, { mode := 1 })] } })).dev.seqLoop 0 = false ∧ ((st (fun d => { d with img := { d.img with topo := some { loops := [{ en := true, src := 1 }] } }, ctl := { d.ctl with loops := [(0, { mode := 1 })] } })).dev.loopCfg 0).feact ≠ 2 ∧
     mirror.dev.authority = false ∧ mirror.dev.seqLoop 13 = false ∧
     (st (fun d => { d with ctl := { d.ctl with blk := { d.ctl.blk with code := 3, step := 1 } } })).dev.ctl.blk.code = 3 ∧ (st (fun d => { d with ctl := { d.ctl with blk := { d.ctl.blk with code := 3, step := 1 } } })).dev.ctl.blk.step = 1 ∧ (st (fun d => { d with ctl := { d.ctl with blk := { d.ctl.blk with code := 5, step := 2 } } })).dev.ctl.blk.code = 5 ∧ (st (fun d => { d with ctl := { d.ctl with blk := { d.ctl.blk with code := 5, step := 2 } } })).dev.ctl.blk.step = 2) :=
  ⟨by decide +kernel,
   by decide +kernel⟩
theorem witness_EstimationJobs :
    (State.reset.dev.cnpy.job = none ∧
     (st (fun d =>  { d with cnpy := { d.cnpy with job := some 1 } })).dev.cnpy.job ≠ none ∧ (st (fun d =>  { d with cnpy := { d.cnpy with job := some 1 } })).dev.agreed = false ∧ (st (fun d =>  { d with cnpy := { d.cnpy with job := some 1 } })).dev.cnpy.conf < 2 ∧
     twin.dev.agreed = true ∧ (st (fun d => fl A.twinStat 31 27 9 (fl A.sysStrap 1 0 1 { d with cnpy := { d.cnpy with job := some 1 } }))).dev.agreed = true ∧
     (st (fun d =>  { d with cnpy := { d.cnpy with running := some (0, 0), q0 := { jobs := [⟨0, 0, [], 1⟩] } } })).dev.cnpy.running = some (0, 0) ∧
     ((st (fun d =>  { d with cnpy := { d.cnpy with running := some (0, 0), q0 := { jobs := [⟨0, 0, [], 1⟩] } } })).dev.estQ 0).jobs.find? (fun j => j.handle == 0) = some ⟨0, 0, [], 1⟩ ∧
     ((st (fun d =>  { d with cnpy := { d.cnpy with q0 := { jobs := [⟨0, 7, [], 0⟩] } } })).dev.estQ 0).jobs.find? (fun j => j.st == 0) = some ⟨0, 7, [], 0⟩ ∧ (st (fun d =>  { d with cnpy := { d.cnpy with q0 := { jobs := [⟨0, 7, [], 0⟩] } } })).dev.cnpy.turn = false ∧ (st (fun d =>  { d with cnpy := { d.cnpy with q0 := { jobs := [⟨0, 7, [], 0⟩] } } })).dev.jobFits ⟨0, 7, [], 0⟩ = true ∧ (st (fun d => { d with time := { d.time with scanning := true, now := 2000000 }, cnpy := { d.cnpy with q0 := { jobs := [⟨0, 7, [], 0⟩] } } })).dev.jobFits ⟨0, 7, [], 0⟩ = false ∧
     (st (fun d =>  { d with cnpy := { d.cnpy with turn := true, q0 := { jobs := [⟨0, 7, [], 0⟩] } } })).dev.cnpy.turn = true ∧ ((st (fun d =>  { d with cnpy := { d.cnpy with turn := true, q0 := { jobs := [⟨0, 7, [], 0⟩] } } })).dev.estQ 1).jobs.find? (fun j => j.st == 0) = none ∧ ((st (fun d =>  { d with cnpy := { d.cnpy with turn := true, q0 := { jobs := [⟨0, 7, [], 0⟩] } } })).dev.estQ 0).jobs.find? (fun j => j.st == 0) = some ⟨0, 7, [], 0⟩ ∧
     0 ∈ (st (fun d => fl (A.ringCfg 0) 31 31 1 (fl (A.ringStat 0) 31 28 2 d))).dev.ringsOn ∧ 1 ∉ State.reset.dev.ringsOn) ∧
    ((st (fun d => fl (A.ringCfg 0) 31 31 1 (fl (A.ringStat 0) 31 28 2 d))).dev.ringsOn.find? (fun n => decide ((st (fun d => fl (A.ringCfg 0) 31 31 1 (fl (A.ringStat 0) 31 28 2 d))).dev.cnpy.snapNext ≤ n)) = some 0 ∧
     State.reset.dev.rings ≤ 48 ∧ 47 < State.reset.dev.rings ∧
     State.reset.dev.mayArm 0 = false ∧
     (st (fun d => fl A.cnpyImpctl 31 31 1 (fl (A.ringCfg 0) 31 31 1 (fl (A.ringStat 0) 31 28 2 { d with acq := { d.acq with views := [{ recs := [(0, { head := [0, 0, 0, 0, 3] })] }] } })))).dev.mayArm 0 = true ∧
     ((st (fun d => d.setStr 0 (fun x => { x with armed := true }))).dev.str 0).armed = true ∧ ((st (fun d => d.setStr 0 (fun x => { x with armed := true }))).dev.str 0).reading = false ∧ (State.reset.dev.str 0).armed = false ∧
     State.reset.dev.burstsRead 0 = false ∧ (st (fun d => d.setStr 0 (fun x => { x with frozen := true, reading := true }))).dev.burstsRead 0 = true ∧
     (st (fun d =>  { d with cnpy := { d.cnpy with impWork := [(1, [])] } })).dev.cnpy.impWork.filter (fun p => p.1 / 64 == 0) ≠ [] ∧
     State.reset.dev.rep.restT = none ∧ State.reset.dev.rep.relFrel = none) ∧
    ((st (fun d => { d with rep := { d.rep with restT := some 5, relFrel := some 3 } })).dev.rep.restT = some 5 ∧
     (st (fun d => { d with rep := { d.rep with dis := some ⟨1, some 9, 0⟩, chg := some ⟨1, some 9, 0⟩ } })).dev.rep.dis = some ⟨1, some 9, 0⟩) ∧
    (∀ x, State.reset.dev.rep.dis = some x → x.until_ = none) :=
  ⟨by decide +kernel,
   by decide +kernel,
   by decide +kernel,
   by intro x h; exact absurd (show (none : Option PcsForce) = some x from h) (by simp)⟩
theorem witness_LockstepPairs :
    (2 ≤ 2 ∧ 1 < 2 ∧
     State.reset.dev.kstate 0 = 0 ∧ State.reset.dev.kstate 0 ≠ 3 ∧
     (st (fun d => fl (A.sysKstat 0) 31 30 1 d)).dev.kstate 0 ≠ 0 ∧
     (st (fun d => fl (A.sysKstat 0) 31 30 3 d)).dev.kstate 0 = 3 ∧
     (st (fun d => fl (A.sysKstat 0) 31 30 1 (fl (A.sysKstat 1) 31 30 3 d))).dev.kstate 0 = 1 ∧ (st (fun d => fl (A.sysKstat 0) 31 30 1 (fl (A.sysKstat 1) 31 30 3 d))).dev.kstate (1 - 0) = 3 ∧
     (st (fun d => { d with time := { d.time with ticksOn := true }, pair0 := { pend := some (false, 0) }, pair1 := { pend := some (true, 0) } } |> fl (A.sysKstat 1) 31 30 1)).dev.pairDue 0 false = true ∧ (st (fun d => { d with time := { d.time with ticksOn := true }, pair0 := { pend := some (false, 0) }, pair1 := { pend := some (true, 0) } } |> fl (A.sysKstat 1) 31 30 1)).dev.pairDue 1 true = true ∧
     State.reset.dev.pairDue 0 false = false ∧
     State.reset.dev.isTwin = false ∧ twin.dev.agreed = true) ∧
    (State.reset.dev.cnpy.repeated = false ∧ (st (fun d =>  { d with cnpy := { d.cnpy with repeated := true } })).dev.cnpy.repeated = true) :=
  ⟨by decide +kernel,
   by decide +kernel⟩
theorem witness_TwinSignals :
    (State.reset.dev.isTwin = false ∧ twin.dev.isTwin = true ∧
     twin.dev.twinState ≠ 2 ∧ twin.dev.twinState ≠ 6 ∧ twin.dev.twinState ≠ 0 ∧ twin.dev.twinState ≠ 1 ∧
     (st (fun d => fl A.twinStat 31 28 2 (fl A.sysStrap 1 0 1 { d with twin := { d.twin with resyncTry := 0 } }))).dev.twinState = 2 ∧ (st (fun d => fl A.twinStat 31 28 2 (fl A.sysStrap 1 0 1 { d with twin := { d.twin with resyncTry := 0 } }))).dev.twin.resyncTry = 0 ∧
     (st (fun d => fl A.twinStat 31 28 2 (fl A.sysStrap 1 0 1 { d with twin := { d.twin with resyncTry := 1 } }))).dev.twin.resyncTry ≠ 0 ∧
     (st (fun d => fl A.twinStat 31 28 6 (fl A.sysStrap 1 0 1 { d with twin := { d.twin with resyncTry := 0 } }))).dev.twinState = 6 ∧
     twin.dev.authority = true ∧ mirror.dev.authority = false ∧
     (st (fun d => fl A.twinStat 31 28 3 (fl A.sysStrap 1 0 1 (fl (A.ringCfg 0) 31 31 1 { d with time := { d.time with scanning := true } })))).dev.isTwin = true ∧ (st (fun d => fl A.twinStat 31 28 3 (fl A.sysStrap 1 0 1 (fl (A.ringCfg 0) 31 31 1 { d with time := { d.time with scanning := true } })))).dev.authority = false ∧ (st (fun d => fl A.twinStat 31 28 3 (fl A.sysStrap 1 0 1 (fl (A.ringCfg 0) 31 31 1 { d with time := { d.time with scanning := true } })))).dev.portEn 0 = true ∧ 15 < 16 ∧ (st (fun d => fl A.twinStat 31 28 3 (fl A.sysStrap 1 0 1 (fl (A.ringCfg 0) 31 31 1 { d with time := { d.time with scanning := true } })))).dev.time.scanning = true ∧ (st (fun d => fl A.twinStat 31 28 3 (fl A.sysStrap 1 0 1 (fl (A.ringCfg 0) 31 31 1 { d with time := { d.time with scanning := true } })))).dev.time.instLocal = false ∧ (st (fun d => fl A.twinStat 31 28 3 (fl A.sysStrap 1 0 1 (fl (A.ringCfg 0) 31 31 1 { d with time := { d.time with scanning := true } })))).dev.time.msg = false ∧ (st (fun d => fl A.twinStat 31 28 3 (fl A.sysStrap 1 0 1 (fl (A.ringCfg 0) 31 31 1 { d with time := { d.time with scanning := true } })))).dev.time.inst + 1000000 ≤ 1000000 ∧
     ∀ k ∈ [0, 1], (st (fun d => fl A.pwrStat 31 28 3 (fl A.twinStat 31 28 k (fl A.sysStrap 1 0 1 d)))).dev.twinState = k ∧ (st (fun d => fl A.pwrStat 31 28 3 (fl A.twinStat 31 28 k (fl A.sysStrap 1 0 1 d)))).dev.authority = false ∧ (st (fun d => fl A.pwrStat 31 28 3 (fl A.twinStat 31 28 k (fl A.sysStrap 1 0 1 d)))).dev.pstate ≠ 7 ∧ (st (fun d => fl A.pwrStat 31 28 3 (fl A.twinStat 31 28 k (fl A.sysStrap 1 0 1 d)))).dev.rbit A.twinStat 23 = false ∧ (st (fun d => fl A.pwrStat 31 28 3 (fl A.twinStat 31 28 k (fl A.sysStrap 1 0 1 d)))).dev.rbit A.twinStat 24 = false) ∧
    (1 < 2 ∧ 2 ≤ 2 ∧
     (st (fun d => fl A.twinStat 31 28 2 (fl A.sysStrap 1 0 1 { d with twin := { d.twin with resyncTry := 0 } }))).wf = true ∧
     (∀ c ∈ [((0 : Nat), (1 : Byte)), (3, 2)], c.1 < 4) ∧ ([((0 : Nat), (1 : Byte)), (3, 2)].map Prod.fst).Nodup) ∧
    (∀ c ∈ [((0 : Nat), (1 : Byte)), (3, 2)], c.1 ≠ 2) :=
  ⟨by decide +kernel,
   by decide +kernel,
   by decide⟩
theorem witness_SessionsAndOwnership :
    (State.reset.dev.session 5 = none ∧
     (served (fun d => d)).dev.session 5 = some ses ∧ ses.unclaimed = false ∧
     5 ≤ (st (fun d => { d with hwd := { d.hwd with failT := List.replicate 5 0, sessions := [(256, some { unclaimed := true })] } })).dev.claimFails.length ∧ (st (fun d => { d with hwd := { d.hwd with failT := List.replicate 5 0, sessions := [(256, some { unclaimed := true })] } })).dev.session 256 = some { unclaimed := true } ∧
     (st (fun d => { d with hwd := { d.hwd with sessions := [(256, some { unclaimed := true })] } })).dev.session 256 = some { unclaimed := true } ∧ (st (fun d => { d with hwd := { d.hwd with sessions := [(256, some { unclaimed := true })] } })).dev.rbit A.hwdStat 31 = false ∧ ({ unclaimed := true } : Session).tried = false ∧ (st (fun d => { d with hwd := { d.hwd with sessions := [(256, some { unclaimed := true })] } })).dev.hwd.recovery = false ∧ (st (fun d => { d with hwd := { d.hwd with sessions := [(256, some { unclaimed := true })] } })).dev.claimFails.length < 5 ∧
     1 ≤ 3 ∧ 3 ≤ 3 ∧ 3 < 4 ∧
     State.reset.dev.rbit A.sysStrap 2 = false ∧ (st (fun d => fl A.sysStrap 2 2 1 d)).dev.rbit A.sysStrap 2 = true ∧
     (st (fun d => { d with hwd := { d.hwd with recovery := true } })).dev.hwd.recovery = true ∧ (1 : Nat) ≠ 0 ∧
     State.reset.dev.hwdOk = false) ∧
    ((st (fun d => fl A.hwdStat 31 29 3 { d with hwd := { d.hwd with ks := some 0 } })).dev.hwdOk = true ∧ (st (fun d => fl A.hwdStat 31 29 3 { d with hwd := { d.hwd with ks := some 0 } })).dev.rbit A.sysStrap 2 = false ∧ (st (fun d => fl A.hwdStat 31 29 3 { d with hwd := { d.hwd with ks := some 0 } })).dev.rbit A.hwdStat 31 = false ∧ (st (fun d => fl A.hwdStat 31 29 3 { d with hwd := { d.hwd with ks := some 0 } })).dev.openSessions < 64 ∧
     0x0304 ∈ (⟨[0x0304], [0x1303], [29], [0x0403], 0x0807, 0, 1, true, true, false⟩ : Handshake).versions ∧ (0x1301 ∈ (⟨[0x0304], [0x1303], [29], [0x0403], 0x0807, 0, 1, true, true, false⟩ : Handshake).suites ∨ 0x1303 ∈ (⟨[0x0304], [0x1303], [29], [0x0403], 0x0807, 0, 1, true, true, false⟩ : Handshake).suites) ∧ (23 ∈ (⟨[0x0304], [0x1303], [29], [0x0403], 0x0807, 0, 1, true, true, false⟩ : Handshake).groups ∨ 29 ∈ (⟨[0x0304], [0x1303], [29], [0x0403], 0x0807, 0, 1, true, true, false⟩ : Handshake).groups) ∧ 0x0403 ∈ (⟨[0x0304], [0x1303], [29], [0x0403], 0x0807, 0, 1, true, true, false⟩ : Handshake).schemes ∧
     (⟨[0x0304], [0x1303], [29], [0x0403], 0x0807, 0, 1, true, true, false⟩ : Handshake).verifyOk = true ∧ ((⟨[0x0304], [0x1303], [29], [0x0403], 0x0807, 0, 1, true, true, false⟩ : Handshake).scheme = 0x0403 ∨ (⟨[0x0304], [0x1303], [29], [0x0403], 0x0807, 0, 1, true, true, false⟩ : Handshake).scheme = 0x0503 ∨ (⟨[0x0304], [0x1303], [29], [0x0403], 0x0807, 0, 1, true, true, false⟩ : Handshake).scheme = 0x0807) ∧ (⟨[0x0304], [0x1303], [29], [0x0403], 0x0807, 0, 1, true, true, false⟩ : Handshake).finishedOk = true ∧
     (st (fun d => fl A.hwdStat 31 29 7 { d with hwd := { d.hwd with ks := some 0, slots := [(5, some ⟨1, 2, 0xFFFFFFFF, 1, 1, false, 0, 0, 0⟩)] } })).dev.hwdOk = true ∧ (st (fun d => fl A.hwdStat 31 29 7 { d with hwd := { d.hwd with ks := some 0, slots := [(5, some ⟨1, 2, 0xFFFFFFFF, 1, 1, false, 0, 0, 0⟩)] } })).dev.rbit A.hwdStat 31 = true ∧ (st (fun d => fl A.hwdStat 31 29 7 { d with hwd := { d.hwd with ks := some 0, slots := [(5, some ⟨1, 2, 0xFFFFFFFF, 1, 1, false, 0, 0, 0⟩)] } })).dev.hwd.slotByKey 2 = none ∧
     (st (fun d => fl A.hwdStat 31 29 7 { d with hwd := { d.hwd with ks := some 0, slots := [(5, some ⟨1, 2, 0xFFFFFFFF, 1, 1, false, 0, 0, 0⟩)] } })).dev.hwd.slotByKey (⟨[0x0304], [0x1303], [29], [0x0403], 0x0807, 0, 1, true, true, false⟩ : Handshake).keyHash = some (5, ⟨1, 2, 0xFFFFFFFF, 1, 1, false, 0, 0, 0⟩) ∧ (st (fun d => fl A.hwdStat 31 29 7 { d with hwd := { d.hwd with ks := some 0, slots := [(5, some ⟨1, 2, 0xFFFFFFFF, 1, 1, false, 0, 0, 0⟩)] } })).dev.slotValid ⟨1, 2, 0xFFFFFFFF, 1, 1, false, 0, 0, 0⟩ = true ∧ (st (fun d => fl A.hwdStat 31 29 7 { d with hwd := { d.hwd with ks := some 0, slots := [(5, some ⟨1, 2, 0xFFFFFFFF, 1, 1, false, 0, 0, 0⟩)] } })).dev.openSessions < 64 ∧
     (st (fun d => fl A.ethPtp 30 30 1 (fl A.hwdStat 31 29 7 { d with hwd := { d.hwd with ks := some 0, slots := [(5, some ⟨1, 2, 0, 1, 1, false, 0, 0, 0⟩)] } }))).dev.slotValid ⟨1, 2, 0, 1, 1, false, 0, 0, 0⟩ = false ∧
     (st (fun d => fl A.ethPtp 30 30 1 { d with hwd := { d.hwd with slots := [(5, some ⟨1, 2, 0xFFFFFFFF, 1, 1, false, 0, 0, 0⟩)], sessions := [(5, some ses)] } })).dev.rbit A.ethPtp 30 = true ∧ ((st (fun d => fl A.ethPtp 30 30 1 { d with hwd := { d.hwd with slots := [(5, some ⟨1, 2, 0xFFFFFFFF, 1, 1, false, 0, 0, 0⟩)], sessions := [(5, some ses)] } })).dev.hwd.slotOf ses).isSome = true ∧ (served (fun d => d)).dev.rbit A.ethPtp 30 = false ∧
     ((served (fun d => { d with hwd := { d.hwd with tokens := [(5, (1000000000, 0))] } })).dev.takeToken 5 ses).2 = false) ∧
    (((served (fun d => d)).dev.takeToken 5 ses).2 = true ∧ (served (fun d => d)).dev.holds ses 25 = true ∧ (served (fun d => d)).dev.suspended ses = false ∧
     ((st (fun d => { d with hwd := { d.hwd with sessions := [(256, some { unclaimed := true })] } })).dev.takeToken 256 { unclaimed := true }).2 = true ∧ (st (fun d => { d with hwd := { d.hwd with sessions := [(256, some { unclaimed := true })] } })).dev.holds { unclaimed := true } 25 = false ∧
     (served (fun d => fl A.hwdStat 28 28 1 d)).dev.suspended ses = true ∧ (served (fun d => fl A.hwdStat 28 28 1 d)).dev.holds ses 25 = true ∧
     ((served (fun d => { d with hwd := { d.hwd with ownerKeys := [(0, 9)] } })).dev.ownRecOk ⟨5, [0x4F574E01, 0x00010714, 16, 1], 80, 9⟩ .ktRotate && (served (fun d => { d with hwd := { d.hwd with ownerKeys := [(0, 9)] } })).dev.ownActOk .ktRotate) = true ∧
     ((served (fun d => d)).dev.ownRecOk ⟨5, [0x4F574E01, 0x00010714, 16, 1], 80, 9⟩ .ktRotate && (served (fun d => d)).dev.ownActOk .ktRotate) = false ∧
     ({ unclaimed := true } : Session).ver = 0 ∧ fspVersion 1 3 State.reset.dev.topo.fspmax = some 3 ∧ fspVersion 4 5 State.reset.dev.topo.fspmax = none ∧
     0 < ses.ver ∧
     64 ≤ (st (fun d => { d with hwd := { d.hwd with sessions := (List.range 64).map (fun k => (k, some {})) } })).dev.openSessions ∧ (st (fun d => { d with hwd := { d.hwd with sessions := (List.range 64).map (fun k => (k, some {})) } })).dev.session (st (fun d => { d with hwd := { d.hwd with sessions := (List.range 64).map (fun k => (k, some {})) } })).dev.freeSession = none) ∧
    ((Instr.ownKtrotate ⟨5, [0x4F574E01, 0x00010714, 16, 1], 80, 9⟩, OwnAct.ktRotate) ∈ [(Instr.ownKtrotate ⟨5, [0x4F574E01, 0x00010714, 16, 1], 80, 9⟩, OwnAct.ktRotate)]) :=
  ⟨by decide +kernel,
   by decide +kernel,
   by decide +kernel,
   by simp⟩
theorem witness_FspRequests :
    ((st (fun d => { d with hwd := { d.hwd with sessions := [(256, some { unclaimed := true })] } })).dev.session 256 = some { unclaimed := true } ∧ (st (fun d => { d with hwd := { d.hwd with sessions := [(256, some { unclaimed := true })] } })).dev.holds { unclaimed := true } 18 = false ∧
     (st (fun d => { d with hwd := { d.hwd with sessions := [(5, some { streamQ := [(1, [])], notifyQ := [(1, 2, 3)] })] } })).dev.session 5 = some { streamQ := [(1, [])], notifyQ := [(1, 2, 3)] }) ∧
    ((Instr.seqNone 48 255 (.fsp ⟨5, 1, 0, []⟩), 48, 0) ∈ [(Instr.seqNone 48 255 (.fsp ⟨5, 1, 0, []⟩), 48, 0)]) ∧
    ((Admits ⟨5, 1, 0, []⟩ 9 1 (served (fun d => d)) ∧ 5 ≤ 5) ∧
     (Admits ⟨5, 1, 0, []⟩ 10 1 (served (fun d => d)) ∧ 99 < (served (fun d => d)).dev.topo.fres ∧ 60 ≤ 60 ∧ 86400 ≤ 86400) ∧
     (Admits ⟨5, 1, 0, []⟩ 17 1 (served (fun d => d)) ∧ 15 < 16) ∧
     (Admits ⟨5, 1, 0, []⟩ 19 1 (served (fun d => d))) ∧
     (Admits ⟨5, 1, 0, []⟩ 20 1 (served (fun d => d)) ∧ 127 < 128) ∧
     (Admits ⟨5, 1, 0, []⟩ 22 1 (served (fun d => d)) ∧ 15 < 16)) ∧
    ((Admits ⟨5, 1, 0, []⟩ 16 1 (served (fun d => d)) ∧ 48 ≤ 48) ∧
     (Admits ⟨5, 1, 0, []⟩ 21 1 (served (fun d => { d with ports := [(47, { identity := [(64, 1)] })] })) ∧ 47 < (served (fun d => { d with ports := [(47, { identity := [(64, 1)] })] })).dev.rings ∧ (served (fun d => { d with ports := [(47, { identity := [(64, 1)] })] })).dev.authentic 47 64 = true) ∧
     (Admits ⟨5, 1, 0, []⟩ 21 1 (served (fun d => d)) ∧ (served (fun d => d)).dev.authentic 0 1 = false) ∧
     (Admits ⟨5, 1, 0, []⟩ 23 1 (served (fun d => fl A.pwrStat 31 28 3 d)) ∧ (served (fun d => fl A.pwrStat 31 28 3 d)).dev.refuseStorage = false) ∧
     (Admits ⟨5, 1, 0, []⟩ 23 1 (served (fun d => fl A.pwrStat 20 20 1 d)) ∧ (served (fun d => fl A.pwrStat 20 20 1 d)).dev.refuseStorage = true) ∧
     (Admits ⟨5, 1, 0, []⟩ 24 1 (served (fun d => fl A.twinStat 31 27 9 (fl A.sysStrap 1 0 1 d))) ∧ (served (fun d => fl A.twinStat 31 27 9 (fl A.sysStrap 1 0 1 d))).dev.agreed = true ∧ (served (fun d => fl A.twinStat 31 27 9 (fl A.sysStrap 1 0 1 d))).dev.authority = true)) ∧
    ((Admits ⟨5, 1, 0, []⟩ 24 1 (served (fun d => d)) ∧ (served (fun d => d)).dev.agreed = false) ∧
     (Admits ⟨5, 1, 0, []⟩ 24 1 (served (fun d => fl A.twinStat 31 28 3 (fl A.sysStrap 1 0 1 d))) ∧ (served (fun d => fl A.twinStat 31 28 3 (fl A.sysStrap 1 0 1 d))).dev.authority = false) ∧
     (Admits ⟨5, 1, 0, []⟩ 18 1 (served (fun d => d)) ∧ 1 ≤ 1 ∧ 255 < 256) ∧
     (Admits ⟨5, 1, 0, []⟩ 8 1 (served (fun d => d)) ∧ badPcs ⟨1, false, false, 1, 0, false⟩ = false) ∧
     (Admits ⟨5, 1, 0, []⟩ 4 2 (served (fun d => d)) ∧ 1 ≤ 1 ∧ 1000 ≤ 1000) ∧
     (Admits ⟨5, 1, 0, []⟩ 5 3 (served (fun d => d)))) ∧
    ((Admits ⟨5, 1, 0, []⟩ 2 1 (served (fun d => d))) ∧
     (Admits ⟨5, 1, 0, []⟩ 3 1 (served (fun d => fl A.hwdStat 30 29 3 { d with hwd := { d.hwd with ks := some 0 } })) ∧ (List.replicate 32 0).length = 32 ∧ (served (fun d => fl A.hwdStat 30 29 3 { d with hwd := { d.hwd with ks := some 0 } })).dev.hwdOk = true) ∧
     (Admits ⟨5, 1, 0, []⟩ 3 1 (served (fun d => d)) ∧ (served (fun d => d)).dev.hwdOk = false) ∧
     (Admits ⟨5, 1, 0, []⟩ (readCap 0x60000000) 1 (served (fun d => d)) ∧ 4 ≤ 4080 ∧ readRegion 0x60000000 4080 = true) ∧
     (Admits ⟨5, 1, 0, []⟩ 25 1 (served (fun d => d)) ∧ (served (fun d => d)).dev.hwd.xfer = none ∧ 0xC0000 ≤ 0xC0000) ∧
     (Admits ⟨5, 1, 0, []⟩ 25 1 (served (fun d => { d with hwd := { d.hwd with xfer := some { sess := 5, len := 4064 } } })) ∧ (served (fun d => { d with hwd := { d.hwd with xfer := some { sess := 5, len := 4064 } } })).dev.hwd.xfer = some { sess := 5, len := 4064 } ∧ 0 + (List.replicate 4064 0).length ≤ 4064 ∧ (served (fun d => { d with hwd := { d.hwd with xfer := some { sess := 5, len := 4064 } } })).dev.ownerSess 5 = false)) ∧
    ((Admits ⟨5, 1, 0, []⟩ 26 1 (served (fun d => d)) ∧ badMemtest 1 0 42 = false ∧ (served (fun d => d)).dev.ram.queue = [] ∧ ((served (fun d => d)).dev.bank 42).st ≠ 4 ∧ ((served (fun d => d)).dev.bank 0).st = 0) ∧
     (Admits ⟨5, 1, 0, []⟩ 26 1 (served (fun d => { d with ram := { d.ram with banks := (List.range 43).map (fun b => (b, { st := 4 })) } })) ∧ badMemtest 2 42 42 = false ∧ ((served (fun d => { d with ram := { d.ram with banks := (List.range 43).map (fun b => (b, { st := 4 })) } })).dev.bank 0).st ≠ 0)) :=
  ⟨by decide +kernel,
   by simp,
   by simp only [admits_iff]; decide +kernel,
   by simp only [admits_iff]; decide +kernel,
   by simp only [admits_iff]; decide +kernel,
   by simp only [admits_iff]; decide +kernel,
   by simp only [admits_iff]; decide +kernel⟩
theorem witness_ImageSwitches :
    (State.reset.dev.img.pendProg = none ∧ State.reset.dev.img.pendTopo = none ∧
     (st (fun d => fl A.pwrStat 31 28 3 { d with time := { d.time with ticksOn := true, tick := 0 }, img := { d.img with pendProg := some (prog, [], 0) } })).dev.img.pendProg = some (prog, [], 0) ∧ (st (fun d => fl A.pwrStat 31 28 3 { d with time := { d.time with ticksOn := true, tick := 0 }, img := { d.img with pendProg := some (prog, [], 0) } })).dev.switchNow 2 = true ∧ (st (fun d => fl A.pwrStat 31 28 3 { d with time := { d.time with ticksOn := true, tick := 0 }, img := { d.img with pendProg := some (prog, [], 0) } })).wf = true ∧
     (st (fun d => fl A.pwrStat 31 28 3 { d with time := { d.time with ticksOn := true, tick := 0 }, img := { d.img with pendEnv := some ([], 1, [], 0) } })).dev.img.pendEnv = some ([], 1, [], 0) ∧ (st (fun d => fl A.pwrStat 31 28 3 { d with time := { d.time with ticksOn := true, tick := 0 }, img := { d.img with pendEnv := some ([], 1, [], 0) } })).dev.switchNow 0 = true ∧ (st (fun d => fl A.pwrStat 31 28 3 { d with time := { d.time with ticksOn := true, tick := 0 }, img := { d.img with pendEnv := some ([], 1, [], 0) } })).wf = true ∧
     (st (fun d => fl A.pwrStat 31 28 3 { d with time := { d.time with ticksOn := true, tick := 0 }, img := { d.img with pendChem := some ([], 1, [], 0) } })).dev.img.pendChem = some ([], 1, [], 0) ∧ (st (fun d => fl A.pwrStat 31 28 3 { d with time := { d.time with ticksOn := true, tick := 0 }, img := { d.img with pendChem := some ([], 1, [], 0) } })).dev.switchNow 1 = true ∧
     (st (fun d => fl A.pwrStat 31 28 3 { d with time := { d.time with ticksOn := true, tick := 0 }, img := { d.img with pendTopo := some ({}, [], 0) } })).dev.img.pendTopo = some ({}, [], 0) ∧ (st (fun d => fl A.pwrStat 31 28 3 { d with time := { d.time with ticksOn := true, tick := 0 }, img := { d.img with pendTopo := some ({}, [], 0) } })).dev.switchNow 3 = true ∧ (st (fun d => fl A.pwrStat 31 28 3 { d with time := { d.time with ticksOn := true, tick := 0 }, img := { d.img with pendTopo := some ({}, [], 0) } })).wf = true ∧
     (st (fun d => { d with img := { d.img with pendTopo := some ({}, [], 0) } })).dev.mayTopo = false ∧ (st (fun d => { d with img := { d.img with pendProg := some (prog, [], 1) } })).dev.switchNow 2 = false ∧
     (State.reset.dev.port 0).txns = [] ∧
     State.reset.dev.bootSlot false false = none) ∧
    ((st (fun d => { d with hwd := { d.hwd with fw := [(0, { valid := true })] } })).dev.bootSlot true false = some 0 ∧
     State.reset.dev.img.waits 3 = false) :=
  ⟨by decide +kernel,
   by decide +kernel⟩
theorem witness_NetworkCommands :
    (State.reset.dev.hasCan 4 = false ∧ State.reset.dev.hasEth 2 = false ∧ State.reset.dev.hasCan 3 = true ∧ State.reset.dev.hasEth 1 = true ∧
     State.reset.dev.profileFrame 3 ⟨true, true, true, false, false, 8, 0, [], 9⟩ = none ∧ State.reset.dev.authority = true ∧ mirror.dev.authority = false ∧ State.reset.dev.follows = false ∧ mirror.dev.follows = true ∧
     (st (fun d => { d with img := { d.img with topo := some { dispCtl := 3 } }, disp := { d.disp with ver := 1 } })).dev.profileFrame 3 ⟨true, true, true, false, false, 8, 0, [], 9⟩ = some false ∧ (st (fun d => { d with img := { d.img with topo := some { dispCtl := 3 } }, disp := { d.disp with ver := 1 } })).dev.follows = false ∧
     (st (fun d => fl A.twinStat 31 28 3 (fl A.sysStrap 1 0 1 { d with img := { d.img with topo := some { dispCtl := 3 } } }))).dev.profileFrame 3 ⟨true, true, true, false, false, 8, 0, [], 9⟩ = some false ∧
     State.reset.dev.canState 0 < 2 ∧ State.reset.dev.canState 0 = 1 - b2n true ∧ (st (fun d => fl (A.canStat 3) 31 30 1 d)).dev.canState 3 = 1 - b2n false ∧
     (((st (fun d => { d with cans := [(0, { objs := [(127, { pend := some (1, []) })] })] })).dev.can 0).obj 127).pend ≠ none ∧ ((st (fun d => { d with cans := [(0, { objs := [(127, { pend := some (1, []) })] })] })).dev.can 0).ropMode = false ∧ (st (fun d => { d with cans := [(0, { objs := [(127, { pend := some (1, []) })] })] })).dev.follows = false ∧ ((State.reset.dev.can 0).obj 0).pend = none ∧ ((st (fun d => { d with cans := [(0, { objs := [(127, { pend := some (1, []) })] })] })).dev.can 0).outranked 127 1 = false ∧
     ((st (fun d => { d with cans := [(0, { objs := [(3, { pend := some (1, []) }), (127, { pend := some (1, []) })] })] })).dev.can 0).outranked 127 1 = true ∧
     ∀ k ∈ [1, 2, 3], (st (fun d => fl (A.canStat 3) 31 30 k d)).dev.canState 3 = k) ∧
    (State.reset.dev.dispatches State.reset.dev.topo.dispCtl = false ∧
     (st (fun d => { d with img := { d.img with topo := some { dispCtl := 3 } }, disp := { d.disp with ver := 1 } })).dev.dispatches (st (fun d => { d with img := { d.img with topo := some { dispCtl := 3 } }, disp := { d.disp with ver := 1 } })).dev.topo.dispCtl = true ∧ (st (fun d => { d with img := { d.img with topo := some { dispCtl := 3 } }, disp := { d.disp with ver := 1 } })).dev.disp.ver ≠ 0 ∧ (st (fun d => { d with img := { d.img with topo := some { dispCtl := 3 } }, disp := { d.disp with ver := 1 } })).dev.authority = true ∧ (st (fun d => { d with img := { d.img with topo := some { dispCtl := 3 } }, disp := { d.disp with ver := 1 } })).dev.disp.lastSeq ≠ some 5 ∧ badPcs ⟨5, true, true, 0, 0, false⟩ = false ∧ (st (fun d => { d with img := { d.img with topo := some { dispCtl := 3 } }, disp := { d.disp with ver := 1 } })).dev.disp.ptoOut = false ∧
     (st (fun d => { d with disp := { d.disp with ptoOut := true } })).dev.disp.ptoOut = true ∧ mirror.dev.pstate ≠ 2 ∧
     State.reset.dev.fld (A.ethStat 0) 6 0 + State.reset.dev.fld (A.ethStat 1) 6 0 < 72 ∧
     72 ≤ (st (fun d => fl (A.ethStat 0) 6 0 72 d)).dev.fld (A.ethStat 0) 6 0 + (st (fun d => fl (A.ethStat 0) 6 0 72 d)).dev.fld (A.ethStat 1) 6 0 ∧
     State.reset.dev.eth.offsetOk = false ∧ (st (fun d => { d with eth := { d.eth with offsetOk := true } })).dev.eth.offsetOk = true ∧
     (st (fun d => { d with img := { d.img with topo := some {} } })).dev.profileFrame 0 ⟨true, true, true, false, false, 0, 8, [0, BitVec.ofNat 32 (crc16 [0, 0, 0, 0, 0, 0] * 65536)], 0⟩ = some true) :=
  ⟨by decide +kernel,
   by decide +kernel⟩
theorem witness_MemoryAndLogUnits :
    (43 ≤ 43 ∧ 42 < 43 ∧
     (State.reset.dev.bank 42).st ≠ 4 ∧ (State.reset.dev.bank 42).rows < 8 ∧
     ((st (fun d => { d with ram := { d.ram with banks := [(0, { st := 4 })] } })).dev.bank 0).st = 4 ∧ 8 ≤ ((st (fun d => { d with ram := { d.ram with banks := [(0, { rows := 8 })] } })).dev.bank 0).rows ∧
     State.reset.dev.ram.queue = [] ∧ State.reset.dev.ram.running = false ∧
     State.reset.dev.rbit A.thermStat 31 = false ∧ (st (fun d => fl A.thermStat 31 31 1 d)).dev.rbit A.thermStat 31 = true ∧
     (st (fun d => { d with ram := { d.ram with queue := [5, 6], running := true } })).dev.ram.queue = 5 :: [6] ∧ (st (fun d => { d with ram := { d.ram with queue := [5, 6], running := true } })).dev.ram.destructive = false ∧ (st (fun d => { d with ram := { d.ram with queue := [5, 6], running := true } })).dev.ram.running = true ∧ ((st (fun d => { d with ram := { d.ram with queue := [5, 6], running := true } })).dev.bank 42).st ≠ 4 ∧
     State.reset.dev.log.queue = [] ∧ (st (fun d => { d with log := { d.log with queue := [{}] } })).dev.log.queue = {} :: [] ∧ ({} : LogRec).conts = [] ∧
     FMap.get (fun _ => none) State.reset.dev.log.wins 5 = (none : Option EvtWin)) ∧
    (FMap.get (fun _ => none) (st (fun d => { d with log := { d.log with wins := [(5, some { count := 1 })] } })).dev.log.wins 5 = some ({ count := 1 } : EvtWin) ∧
     FMap.get (fun _ => none) (st (fun d => { d with log := { d.log with wins := [(5, some {})] } })).dev.log.wins 5 = some ({} : EvtWin) ∧
     State.reset.dev.log.used + 1 ≤ 224 ∧
     State.reset.dev.rbit A.ethPtp 30 = false ∧ (st (fun d => fl A.ethPtp 30 30 1 d)).dev.rbit A.ethPtp 30 = true) :=
  ⟨by decide +kernel,
   by decide +kernel⟩
theorem witness_PowerCommands :
    (State.reset.dev.pwr.inReset = true ∧ State.reset.dev.pwr.storeMark = false ∧ State.reset.dev.pwr.shut = false ∧ causeEvent (resetCause 2) = some 2 ∧
     (st (fun d => { d with pwr := { d.pwr with inReset := false } })).dev.pwr.inReset = false ∧ (st (fun d => { d with pwr := { d.pwr with inReset := false } })).dev.pstate = 7 ∧ (st (fun d => { d with pwr := { d.pwr with inReset := false } })).dev.hwd.recovery = false ∧ (st (fun d => { d with pwr := { d.pwr with inReset := false } })).dev.fld A.sysStrap 1 0 ≠ 3 ∧ (st (fun d => { d with pwr := { d.pwr with inReset := false } })).dev.rbit A.sysStrap 2 = false ∧
     (st (fun d => fl A.pwrStat 31 28 3 d)).dev.pstate ≠ 7 ∧
     7 ≤ 7 ∧ 6 < 7 ∧ 6 ≠ 1 ∧
     (st (fun d => { d with pwr := { d.pwr with inReset := false } })).dev.isTwin = false ∧
     (st (fun d => { d with pwr := { d.pwr with storeMark := true } })).dev.pwr.storeMark = true ∧ State.reset.dev.pwr.storeMark = false ∧
     1 < 2 ∧ 2000 < 2001 ∧ 2000 ≤ 2000 ∧
     State.reset.dev.idle = false) ∧
    ((st (fun d => fl A.pwrStat 31 28 3 { d with img := { d.img with topo := some {} } })).dev.idle = true ∧ 0 < (st (fun d => fl A.pwrStat 31 28 3 { d with img := { d.img with topo := some {} } })).dev.topo.twatch ∧ (st (fun d => fl A.pwrStat 31 28 3 { d with img := { d.img with topo := some {} } })).dev.rbit A.protStat 31 = false ∧ (st (fun d => fl A.pwrStat 31 28 3 { d with img := { d.img with topo := some {} } })).dev.agreed = false ∧
     (st (fun d => fl A.twinStat 31 27 9 (fl A.sysStrap 1 0 1 (fl A.pwrStat 31 28 3 { d with img := { d.img with topo := some {} } })))).dev.idle = true ∧ (st (fun d => fl A.twinStat 31 27 9 (fl A.sysStrap 1 0 1 (fl A.pwrStat 31 28 3 { d with img := { d.img with topo := some {} } })))).dev.agreed = true ∧ (st (fun d => fl A.twinStat 31 27 9 (fl A.sysStrap 1 0 1 (fl A.pwrStat 31 28 3 { d with img := { d.img with topo := some {} } })))).dev.authority = true ∧ (st (fun d => fl A.twinStat 31 28 3 (fl A.sysStrap 1 0 1 (fl A.pwrStat 31 28 3 { d with img := { d.img with topo := some {} } })))).dev.agreed = true ∧ (st (fun d => fl A.twinStat 31 28 3 (fl A.sysStrap 1 0 1 (fl A.pwrStat 31 28 3 { d with img := { d.img with topo := some {} } })))).dev.authority = false ∧
     (st (fun d => fl A.pwrStat 31 28 2 d)).dev.pstate = 2 ∧
     (st (fun d => fl A.thermStat 31 31 1 { d with pwr := { d.pwr with act110 := true } })).dev.pwr.act110 = true ∧ (st (fun d => fl A.thermStat 31 31 1 { d with pwr := { d.pwr with act110 := true } })).dev.rbit A.thermStat 31 = true ∧ (st (fun d => fl A.thermStat 31 31 1 { d with pwr := { d.pwr with act110 := true } })).dev.rbit A.thermStat 30 = false ∧
     State.reset.dev.pwr.act110 = false ∧
     (thermStep 13500 13500 999 false).2 = true ∧ State.reset.dev.pwr.act135 = false) :=
  ⟨by decide +kernel,
   by decide +kernel⟩

end Sys2Proof.Tests
end

section
/-! Every command keeps the queue of waiting commands and the canonical form of memory (00 R14). Memory is written by a few
operations only, each of which keeps the form (Laws/Memory.lean). What a command does is built of those, so that its proof follows
its definition: a change of the device alone, one write of memory, a choice, or a fold of such parts. -/

namespace Sys2Proof.Machine
open Sys2Proof

/-! What is kept, from a state to a state and from a state to what a command answers. -/

/-- `t` has the queue of `s`, and memory in canonical form if `s` has. -/
def Kept (s t : State) : Prop := t.pending = s.pending ∧ (s.wf = true → t.wf = true)

/-- A command that answers `o` in state `s` does not refuse, and a next state keeps queue and form. -/
def Keeps (s : State) (o : Out) : Prop :=
  match o with
  | .next t => Kept s t
  | .fault _ => True
  | .refused _ => False

theorem Kept.refl (s : State) : Kept s s := ⟨rfl, id⟩

theorem Kept.trans {s t u : State} (h : Kept s t) (k : Kept t u) : Kept s u := ⟨k.1.trans h.1, k.2 ∘ h.2⟩

/-- A change of the device alone. -/
theorem Kept.dev (s : State) (d : Dev) : Kept s { s with dev := d } := ⟨rfl, id⟩

theorem Kept.onDev (f : Dev → Dev) (s : State) : Kept s (s.onDev f) := Kept.dev s _

/-- A change of the device after what is kept. -/
theorem Kept.thenOnDev {s t : State} (h : Kept s t) (f : Dev → Dev) : Kept s (t.onDev f) := h.trans (Kept.onDev f t)

/-- A change of the device, and one of memory that keeps the form. -/
theorem Kept.write (s : State) (d : Dev) {m : FMap Byte} (h : s.wf = true → Memory.wf m = true) : Kept s { s with dev := d, mem := m } :=
  ⟨rfl, h⟩

theorem Kept.ite {s t u : State} {p : Prop} [Decidable p] (ht : Kept s t) (hu : Kept s u) : Kept s (if p then t else u) := by
  split
  · exact ht
  · exact hu

/-- What every part of a fold keeps, the fold keeps. -/
theorem Kept.foldOver {α : Type} (l : List α) (f : α → State → State) (s : State) (h : ∀ a t, Kept t (f a t)) : Kept s (foldOver l f s) :=
  foldOver_keeps (Kept s) l f s (fun a t ht => ht.trans (h a t)) (Kept.refl s)

/-- The form that a kept answer hands on. -/
theorem Keeps.next_wf {s t : State} {o : Out} (h : Keeps s o) (ho : o = .next t) (hs : s.wf = true) : t.wf = true := by
  subst ho
  exact h.2 hs

theorem Keeps.next {s t : State} (h : Kept s t) : Keeps s (.next t) := h

/-- The command changes the device alone. -/
theorem Keeps.dev (s : State) (d : Dev) : Keeps s (.next { s with dev := d }) := Kept.dev s d

theorem Keeps.ite {s : State} {o u : Out} {p : Prop} [Decidable p] (ho : Keeps s o) (hu : Keeps s u) : Keeps s (if p then o else u) := by
  split
  · exact ho
  · exact hu

/-- The command names a unit that may be absent. -/
theorem Keeps.present {s t : State} (ok : Bool) (h : Kept s t) : Keeps s (present ok t) := by
  unfold Machine.present
  split
  · exact h
  · trivial

theorem Keeps.ringCmd (n : Nat) (f : Dev → Dev) (s : State) : Keeps s (ringCmd n f s) := Keeps.present _ (Kept.onDev f s)

theorem Keeps.lswCmd (n : Nat) (f : Dev → Dev) (s : State) : Keeps s (lswCmd n f s) := Keeps.present _ (Kept.onDev _ s)

theorem Keeps.profileCmd (f : Dev → Dev) (s : State) : Keeps s (profileCmd f s) := Kept.ite (Kept.onDev f s) (Kept.refl s)

theorem Keeps.ownCmd (r : OwnRec) (a : OwnAct) (s : State) : Keeps s (ownCmd r a s) := by
  refine Keeps.next ?_
  split
  · exact Kept.refl s
  · exact Kept.onDev _ s

/-! Tabbin: the frame of an instruction that writes memory, and CHK's element by element stores (07 R236). -/

theorem State.instrMem_kept (c : Core) (cost : Nat) (q : Causes) (k : Ctx → Ctx) (g : Dev → Dev) (m : FMap Byte → FMap Byte) (s : State)
    (h : s.wf = true → Memory.wf (m s.mem) = true) : Kept s (s.instrMem c cost q k g m) := by
  unfold State.instrMem
  dsimp only
  split
  · exact Kept.dev s _
  · exact Kept.write s _ h

theorem nearStoreInstr_keeps (c : Core) (gs ga : Reg) (imm : BitVec 16) (n : Nat) (s : State) :
    Keeps s (nearStoreInstr c gs ga imm n s) :=
  State.instrMem_kept c 4 _ id _ _ s (writeBytes_wf _ _ _)

theorem chkRun_kept (va ea n i act : Nat) (s : State) : Kept s (chkRun va ea n i s act).1 := by
  induction n generalizing i act s with
  | zero => exact Kept.refl s
  | succ n ih =>
    unfold chkRun
    exact (Kept.write s s.dev (writeByte_wf _ _ _)).trans (ih _ _ _)

theorem execRet_keeps (c : Core) (s : State) : Keeps s (execRet c s) := by
  unfold execRet
  dsimp only
  split
  · exact Keeps.dev s _
  · exact Keeps.dev s _

theorem execLoop_keeps (c : Core) (gc : Reg) (bound len : Nat) (s : State) : Keeps s (execLoop c gc bound len s) := by
  unfold execLoop
  dsimp only
  split
  · exact Keeps.dev s _
  · exact Keeps.dev s _

theorem execRing_keeps (c : Core) (gd ga : Reg) (s : State) : Keeps s (execRing c gd ga s) := by
  unfold execRing
  dsimp only
  split
  · exact (Kept.dev s _).trans (State.instrMem_kept c 12 _ _ _ _ _ id)
  · exact (Kept.dev s _).trans (State.instrMem_kept c 12 _ _ _ _ _ (writeBytes_wf _ _ _))

theorem execEst_keeps (c : Core) (gd ga : Reg) (s : State) : Keeps s (execEst c gd ga s) := by
  unfold execEst
  dsimp only
  split
  · exact Keeps.dev s _
  · exact Keeps.dev s _

theorem execSwx_keeps (c : Core) (gs ga : Reg) (imm : BitVec 16) (s : State) : Keeps s (execSwx c gs ga imm s) := by
  refine Keeps.next ?_
  split
  · exact Kept.dev s _
  · refine Kept.write s _ fun h => ?_
    split
    · exact h
    · exact writeWord_wf _ _ _ h

theorem execChk_keeps (c : Core) (gd ga gb : Reg) (n : Nat) (s : State) : Keeps s (execChk c gd ga gb n s) :=
  (Kept.dev s _).trans (State.instrMem_kept c _ _ _ _ _ _ (chkRun_kept _ _ n 0 0 s).2)

theorem execReservedEncoding_keeps (c : Core) (w : Word) (s : State) : Keeps s (execReservedEncoding c w s) :=
  Kept.ite (Kept.dev s _) (Kept.refl s)

/-! Ring transactions: records go to the response buffers of tasks (02 R74). -/

theorem writeRecords_wf (p : Port) (t : Txn) (l seed : Nat) (cs : List (Nat × Nat)) (m : FMap Byte) (h : Memory.wf m = true) :
    Memory.wf (writeRecords p t l seed cs m) = true := by
  unfold writeRecords
  split
  · exact h
  · exact foldOver_keeps (fun m => Memory.wf m = true) cs _ m (fun _ m hm => writeBytes_wf _ _ m hm) h

theorem State.unreach_kept (n : Nat) (t : Txn) (s : State) : Kept s (s.unreach n t) := by
  unfold State.unreach
  split
  · exact Kept.refl s
  · exact Kept.write s _ (writeBytes_wf _ _ _)

theorem State.endTxns_kept (n : Nat) (s : State) : Kept s (s.endTxns n) :=
  (Kept.dev s _).trans (Kept.foldOver _ _ _ (fun t s => State.unreach_kept n t s))

theorem State.portDown_kept (n st : Nat) (s : State) : Kept s (s.portDown n st) :=
  (Kept.onDev _ s).trans (State.endTxns_kept n _)

theorem State.frameBack_kept (n reached : Nat) (good : List Nat) (echo : List (Nat × Nat)) (s : State) :
    Kept s (s.frameBack n reached good echo) := by
  unfold State.frameBack
  dsimp only
  split
  · exact Kept.refl s
  · exact Kept.write s _ (writeRecords_wf _ _ _ _ _ _)

theorem State.frameGone_kept (n : Nat) (s : State) : Kept s (s.frameGone n) := by
  unfold State.frameGone
  dsimp only
  split
  · exact Kept.ite (Kept.onDev _ s) (Kept.refl s)
  · exact Kept.write s _ (writeRecords_wf _ _ _ _ _ _)

theorem State.takeRecs_kept (n tag : Nat) (rs : List (Nat × Nat × List Nat)) (s : State) : Kept s (s.takeRecs n tag rs) := by
  unfold State.takeRecs
  split
  · exact Kept.refl s
  · exact Kept.write s _ (writeRecords_wf _ _ _ _ _ _)

theorem State.takePassed_kept (n tag code first last : Nat) (req : List Nat) (recLen : Nat) (rs : List (Nat × Nat × List Nat)) (s : State) :
    Kept s (s.takePassed n tag code first last req recLen rs) := by
  unfold State.takePassed
  dsimp only
  split
  · split
    · exact Kept.dev s _
    · exact Kept.write s _ (writeRecords_wf _ _ _ _ _ _)
  · exact Kept.dev s _

theorem execEnumMod_keeps (port : Nat) (ids : List ModId) (s : State) : Keeps s (execEnumMod port ids s) := by
  unfold execEnumMod
  exact Keeps.ite (Keeps.ringCmd _ _ s)
    (Keeps.ite (Keeps.present _ ((Kept.dev s _).trans (State.portDown_kept port 5 _))) (Keeps.ringCmd _ _ s))

/-! Sessions and FSP: a closing session's window reads zero, and an answered request is left in it (13 R456). -/

theorem State.closeSession_kept (n : Nat) (s : State) : Kept s (s.closeSession n) := by
  unfold State.closeSession
  split
  · exact Kept.refl s
  · exact Kept.write s _ (zeroWindow_wf _ _)

theorem State.closeWhere_kept (p : Session → Bool) (s : State) : Kept s (s.closeWhere p) := by
  refine Kept.foldOver _ _ _ fun x t => ?_
  split
  · exact Kept.ite (State.closeSession_kept _ t) (Kept.refl t)
  · exact Kept.refl t

theorem State.protoClose_kept (n : Nat) (s : State) : Kept s (s.protoClose n) := (State.closeSession_kept n s).trans (Kept.dev _ _)

theorem State.toWindow_kept (n : Nat) (big : Bool) (msg resp : List Nat) (s : State) : Kept s (s.toWindow n big msg resp) := by
  unfold State.toWindow
  refine Kept.ite (Kept.write s s.dev fun h => writeBytes_wf _ _ _ ?_) (Kept.refl s)
  split
  · exact h
  · exact writeBytes_wf _ _ _ h

theorem State.fsp_kept (q : Req) (cap ver : Nat) (bad rd : Bool) (op : FspOp) (s : State) : Kept s (s.fsp q cap ver bad rd op) := by
  unfold State.fsp
  split
  · exact Kept.refl s
  · split
    · exact State.protoClose_kept _ s
    · split
      · exact (Kept.dev s _).trans (State.toWindow_kept _ _ _ _ _)
      · split
        · exact State.protoClose_kept _ s
        · exact (Kept.dev s _).trans (State.toWindow_kept _ _ _ _ _)

theorem State.seqCmd_kept (src : ReqSrc) (tgt code arg tag : Nat) (s : State) : Kept s (s.seqCmd src tgt code arg tag) := by
  cases src with
  | task => exact Kept.dev s _
  | fsp q => exact State.fsp_kept _ _ _ _ _ _ s

theorem State.openSession_kept (n : Nat) (x : Session) (s : State) : Kept s (s.openSession n x) :=
  (State.closeSession_kept n s).trans (Kept.write _ _ (zeroWindow_wf _ _))

theorem State.seat_kept (n : Nat) (emerg : Bool) (x : Session) (s : State) : Kept s (s.seat n emerg x) := by
  unfold State.seat
  split
  · exact State.openSession_kept n x s
  · split
    · split
      · exact Kept.onDev _ s
      · exact (State.closeSession_kept _ s).trans (State.openSession_kept n x _)
    · exact Kept.onDev _ s

theorem State.handshake_kept (hs : Handshake) (s : State) : Kept s (s.handshake hs) := by
  have last : ∀ n em x, Kept s (if hs.finishedOk = true then s.seat n em x else s.onDev (Dev.refuseSession (some .decryptError))) :=
    fun n em x => Kept.ite (State.seat_kept n em x s) (Kept.onDev _ s)
  unfold State.handshake
  refine Kept.ite (Kept.refl s) (Kept.ite (Kept.onDev _ s) (Kept.ite (Kept.onDev _ s) (Kept.ite (Kept.onDev _ s)
    (Kept.ite (last _ _ _) (Kept.ite (last _ _ _) ?_)))))
  split
  · exact Kept.onDev _ s
  · exact Kept.ite (last _ _ _) (Kept.onDev _ s)

theorem State.takeSession_kept (n : Nat) (x : Option Session) (s : State) : Kept s (s.takeSession n x) := by
  refine Kept.write s _ fun h => ?_
  split
  · exact zeroWindow_wf _ _ h
  · exact h

theorem execCalStart_keeps (src : ReqSrc) (mask quiet : Nat) (hv : Bool) (s : State) : Keeps s (execCalStart src mask quiet hv s) := by
  cases src with
  | task => exact Keeps.dev s _
  | fsp q => exact State.fsp_kept _ _ _ _ _ _ s

theorem execFspHello_keeps (sess lo hi : Nat) (s : State) : Keeps s (execFspHello sess lo hi s) := by
  refine Keeps.next ?_
  split
  · exact Kept.refl s
  · refine Kept.ite (State.protoClose_kept sess s) ?_
    split
    · exact Kept.onDev _ s
    · exact (State.closeSession_kept sess s).thenOnDev _

theorem execSessionExpiry_keeps (slot : Nat) (s : State) : Keeps s (execSessionExpiry slot s) := by
  refine Keeps.next ?_
  split
  · exact Kept.refl s
  · exact Kept.ite (State.closeSession_kept slot s) (Kept.refl s)

theorem execClaim_keeps (sess kind : Nat) (keyBytes mac : List Nat) (s : State) : Keeps s (execClaim sess kind keyBytes mac s) := by
  refine Keeps.next ?_
  split
  · exact Kept.refl s
  · exact Kept.ite (Kept.onDev _ s) (Kept.ite ((Kept.onDev _ s).trans (State.closeWhere_kept _ _)) (Kept.onDev _ s))

/-! Owner actions (13 R449): a tenant's removal closes its session, a release closes them all. -/

theorem State.applyOwn_kept (a : OwnAct) (s : State) : Kept s (s.applyOwn a) := by
  cases a with
  | ownerKey k key => exact Kept.ite (Kept.onDev _ s) (Kept.refl s)
  | roleKey r k key => exact Kept.onDev _ s
  | tenant k c => exact (Kept.ite (State.closeSession_kept k s) (Kept.refl s)).thenOnDev _
  | accept n h uid t => exact Kept.onDev _ s
  | floor k f => exact Kept.onDev _ s
  | twinPair x y => exact Kept.onDev _ s
  | ktRotate => exact (Kept.onDev _ s).thenOnDev _
  | release => exact (State.closeWhere_kept _ s).thenOnDev _

theorem State.applyOwnActs_kept (s : State) : Kept s s.applyOwnActs := by
  unfold State.applyOwnActs
  dsimp only
  split
  · exact Kept.onDev _ s
  · exact ((Kept.onDev _ s).trans (Kept.foldOver _ _ _ fun _ t => State.applyOwn_kept _ t)).thenOnDev _

/-! Images: stored, promoted to the area in force, and loaded (13 R445-R452). -/

theorem State.storeImage_kept (b : List Nat) (s : State) : Kept s (s.storeImage b) :=
  Kept.write s s.dev fun h => writeBytes_wf _ _ _ (zeroRange_wf _ _ _ h)

theorem State.promote_kept (magic : Nat) (s : State) : Kept s (s.promote magic) := Kept.write s s.dev (copyRange_wf _ _ _ _)

theorem State.takeForwarded_kept (b : List Nat) (key : Nat) (s : State) : Kept s (s.takeForwarded b key) :=
  Kept.ite ((Kept.dev s _).trans (State.storeImage_kept b _)) (Kept.dev s _)

theorem State.rediscover_kept (old : Dev) (n : Nat) (s : State) : Kept s (s.rediscover old n) :=
  Kept.ite (Kept.refl s) (Kept.ite (State.portDown_kept n 0 s) (Kept.dev s _))

theorem State.switchTopo_kept (t : Topo) (h : List Nat) (s : State) : Kept s (s.switchTopo t h) := by
  unfold State.switchTopo
  exact ((Kept.dev s _).trans (Kept.foldOver _ _ _ fun n u => State.rediscover_kept s.dev n u)).thenOnDev _

theorem State.bootPending_kept (s : State) : Kept s s.bootPending :=
  Kept.foldOver _ _ _ fun _ t => Kept.ite ((State.promote_kept _ t).thenOnDev _) (Kept.refl t)

theorem execImageEnd_keeps (req : Req) (sigKey : Nat) (s : State) : Keeps s (execImageEnd req sigKey s) := by
  have hfsp := State.fsp_kept req 25 1 false false (imageEndOp req sigKey) s
  refine Keeps.next ?_
  split
  · exact hfsp
  · exact Kept.ite ((hfsp.trans (State.storeImage_kept _ _)).thenOnDev _) hfsp

theorem execProgramSwitchover_keeps (s : State) : Keeps s (execProgramSwitchover s) := by
  refine Keeps.next ?_
  split
  · exact Kept.refl s
  · exact Kept.ite (Kept.refl s) ((State.promote_kept _ s).trans (Kept.write _ _ (writeBytes_wf _ _ _)))

theorem execEnvelopeSwitchover_keeps (s : State) : Keeps s (execEnvelopeSwitchover s) := by
  refine Keeps.next ?_
  split
  · exact Kept.refl s
  · exact Kept.ite ((State.promote_kept _ s).thenOnDev _) (Kept.refl s)

theorem execChemistrySwitchover_keeps (s : State) : Keeps s (execChemistrySwitchover s) := by
  refine Keeps.next ?_
  split
  · exact Kept.refl s
  · exact Kept.ite ((State.promote_kept _ s).thenOnDev _) (Kept.refl s)

theorem execTopologySwitchover_keeps (s : State) : Keeps s (execTopologySwitchover s) := by
  refine Keeps.next ?_
  split
  · exact Kept.refl s
  · exact Kept.ite ((State.promote_kept _ s).trans (State.switchTopo_kept _ _ _)) (Kept.refl s)

theorem execHeartwoodBoot_keeps (selfOk : Bool) (kpuf : Option Nat) (ok0 ok1 : Bool) (s : State) :
    Keeps s (execHeartwoodBoot selfOk kpuf ok0 ok1 s) := by
  refine Keeps.next ((Kept.onDev (Dev.heartwoodStart selfOk kpuf) s).trans ?_)
  generalize s.onDev (Dev.heartwoodStart selfOk kpuf) = t
  refine Kept.ite (Kept.onDev _ t) ?_
  split
  · exact Kept.onDev _ t
  case h_2 k _ =>
    refine ((State.bootPending_kept t).thenOnDev (Dev.bootFrom k)).trans ?_
    generalize t.bootPending.onDev (Dev.bootFrom k) = u
    dsimp only
    split
    · exact Kept.refl _
    · exact Kept.write _ _ (writeBytes_wf _ _ _)

/-! What one twin takes from the other (12 R411, R430). -/

theorem State.carried_kept (msg : Mooring) (s : State) : Kept s (s.carried msg) := by
  unfold State.carried
  split
  · exact State.takeRecs_kept _ _ _ s
  · exact State.takePassed_kept _ _ _ _ _ _ _ _ s
  · exact Kept.ite (State.takeSession_kept _ _ s) (Kept.refl s)
  · exact Kept.ite (State.takeForwarded_kept _ _ s) (Kept.refl s)
  · exact Kept.ite (State.endTxns_kept _ s) (Kept.refl s)
  · exact Kept.refl s

theorem bulkCells_wf (a n : Nat) (cells : FMap Byte) (m : FMap Byte) (h : Memory.wf m = true) :
    Memory.wf (foldOver cells (fun c m => writeByte (a + c.1) c.2 m) (zeroRange a n m)) = true :=
  foldOver_keeps (fun m => Memory.wf m = true) cells _ _ (fun _ m hm => writeByte_wf _ _ m hm) (zeroRange_wf a n m h)

theorem State.bulk_kept (msg : Mooring) (s : State) : Kept s (s.bulk msg) := by
  unfold State.bulk
  refine Kept.ite (Kept.refl s) ?_
  split
  case h_2 a n cells => exact Kept.write s s.dev (bulkCells_wf a n cells s.mem)
  case h_14 => exact Kept.refl s
  all_goals exact Kept.onDev _ s

theorem State.sendBulk_kept (s : State) : Kept s s.sendBulk := Kept.ite (Kept.onDev _ s) (Kept.refl s)

theorem State.tickZero_kept (t : Nat) (s : State) : Kept s (s.tickZero t) := (Kept.onDev _ s).trans (State.applyOwnActs_kept _)

theorem execMooringMessageRx_keeps (crcOk : Bool) (scan : Nat) (msg : Mooring) (s : State) : Keeps s (execMooringMessageRx crcOk scan msg s) :=
  Kept.ite (Kept.refl s)
    (Kept.ite (((Kept.onDev _ s).trans (State.carried_kept msg _)).trans (State.bulk_kept msg _)) (Kept.onDev _ s))

theorem execTickBoundary_keeps (s : State) : Keeps s (execTickBoundary s) :=
  (Kept.ite (Kept.refl s)
    (Kept.ite (Kept.ite (Kept.onDev _ s) (Kept.ite (Kept.onDev _ s) (Kept.refl s)))
      (Kept.ite (Kept.onDev _ s) ((Kept.onDev _ s).trans (State.tickZero_kept _ _))))).trans (State.sendBulk_kept _)

/-! The step: an empty queue idles, else the front command runs. -/

theorem step_nil {s : State} (h : s.pending = []) : step s = .next s := by
  unfold step
  rw [h]

theorem step_cons {s : State} {c : Instr} {rest : List Instr} (h : s.pending = c :: rest) : step s = exec c { s with pending := rest } := by
  unfold step
  rw [h]

/-! The other commands with cases of their own. -/

theorem execIsoCycleEnd_keeps (res : Option (Nat × Nat)) (s : State) : Keeps s (execIsoCycleEnd res s) := by
  cases res with
  | none => exact Keeps.dev s _
  | some r => exact Keeps.dev s _

theorem execCalSample_keeps (vals : List Int) (quiet : Nat) (hv : Bool) (s : State) : Keeps s (execCalSample vals quiet hv s) := by
  unfold execCalSample
  split
  · exact Kept.refl s
  · dsimp only
    split
    · exact Kept.refl s
    · split
      · exact Keeps.dev s _
      · exact Keeps.dev s _

theorem execCalCompute_keeps (s : State) : Keeps s (execCalCompute s) := by
  unfold execCalCompute
  split
  · exact Kept.refl s
  · dsimp only
    split
    · exact Keeps.dev s _
    · exact Keeps.dev s _

theorem execEstJobEnd_keeps (s : State) : Keeps s (execEstJobEnd s) := by
  unfold execEstJobEnd
  dsimp only
  split
  · exact Kept.refl s
  · split
    · exact Keeps.dev s _
    · exact Kept.write s _ (writeBytes_wf _ _ _)

theorem execSocmRestExpiry_keeps (s : State) : Keeps s (execSocmRestExpiry s) := by
  unfold execSocmRestExpiry
  dsimp only
  split
  · exact Kept.refl s
  · exact Keeps.dev s _

theorem execDigestCompare_keeps (partner : Partner) (s : State) : Keeps s (execDigestCompare partner s) := by
  unfold execDigestCompare
  dsimp only
  split
  · exact Kept.refl s
  · split
    · exact Keeps.dev s _
    · exact Keeps.dev s _

theorem writeEntries_wf (k : Nat) (l : List (List Nat)) (m : FMap Byte) (h : Memory.wf m = true) : Memory.wf (writeEntries k l m) = true := by
  induction l generalizing k m with
  | nil => exact h
  | cons e rest ih => exact ih (k + 1) _ (writeBytes_wf _ _ m h)

theorem execLogRecordWrite_keeps (fail : Option Nat) (s : State) : Keeps s (execLogRecordWrite fail s) := by
  unfold execLogRecordWrite
  dsimp only
  split
  · exact Kept.refl s
  · refine Keeps.next ?_
    split
    · exact Kept.write s _ (writeEntries_wf _ _ _)
    · exact Kept.write s _ fun h => writeBytes_wf _ _ _ (writeEntries_wf _ _ _ h)

theorem execResetRelease_keeps (tws : Nat) (tmode : Bool) (s : State) : Keeps s (execResetRelease tws tmode s) :=
  Kept.ite (Kept.refl s) (Kept.write s _ (zeroRange_wf _ _ _))

/-- Every command keeps the queue and the form of memory, and none is refused. -/
theorem exec_keeps (i : Instr) (s : State) : Keeps s (exec i s) := by
  cases i with
  | pcsSyncEdge | captureWindowClose | quietLaunch | syncLaunch | samplingInstant | scanFrameLaunch | slotCutoff | l0Verdict |
      l0SelftestEnd | tripReleaseEval | releaseLineCheckEnd | activationStart | segmentResume | deadlineMiss | add | sub | and | or |
      xor | sll | srl | sra | slt | sltu | min | max | minu | maxu | csel | mul | mulh | mulhu | div | divu | rem | remu | clz | sadd |
      ssub | sneg | sabs | qmul16 | qmul31 | qmulm | qmac16 | qdiv16 | qshl | qshr | q16to31 | q31to16 | addi | andi | ori | xori | lui
      | slti | sltiu | slli | srli | srai | lw | lh | lhu | lb | lbu | lwx | j | jal | mfs | out | outx | trip | waitt | commit | rstat
      | estat | split | join | currentSample | quietTimerExpiry | ownResultsReady | acqCtlWrite | acqFiltWrite | acqStretchWrite |
      acqValcfgWrite | cnpyBalenWrite | cnpyImpctlWrite | ucodeWrite | qcntlRead | timelRead | utclRead | rcCounterRead | canLockRead |
      canData15Read | absentSpaceAccess | registerWrite | balancePlan | scanJobEnd | scanJobOverrun | repeatJobEnd | twinSelftestEnd |
      estJobStart | healthJob | snapshotRefresh | reserveExpiry | pcsRequestExpiry | ggraceExpiry | holdEconomy | feedbackChange |
      feedbackTimeout | gateFault | linkMatch | tlinkExpiry | rampTimeout | tholdExpiry | currentWaitEnd | tspreExpiry | tvsdExpiry |
      lhMapLoad | lhWatchdogExpiry | lhInSample | lhEnLow | lhEnReturn | handshakeTimeout | imageTransferTimeout | firmwareFloorRaise |
      trngHealthFail | hwdTestEnd | streamSend | notifySend | ptpSyncRx | utcTimeout | aringsApply | scrubPassEnd | preservingRedirect |
      preservingReturn | marchTestEnd | eventWindowEnd | vauxRecovery | vauxReset | vaonLost | coreDroop | watchPllStart | watchPllStop
      | wakeBusWake | serviceKeyWake | thermalSample | thermalEnforce | thermalRestart | sensorDiff | instantLocalDeadline |
      l0SelftestDaily | holdCurrentLimit | timeRecord | vaonReturn | ptpSyncLoss =>
    exact Keeps.dev s _
  | mooringSilent | aliveLoss | graftInHigh | graftComplete | timeExchange | pairingTimeout | resyncDeadline | watchEntry | aliveReturn
      =>
    exact Kept.ite (Kept.onDev _ s) (Kept.refl s)
  | mooringLaneTrained | mooringLaneLoss | keyupdate | vauxWarning | pllFail | oscFail => exact Kept.ite (Kept.refl s) (Kept.onDev _ s)
  | scanFrameReturn | zoneLineLow | readbackFault | lockstepMismatch | injectionTestEnd | injectionTestDaily | autoJoin | splitEffect |
      joinEffect | transactionLaunch | portLockGain | portLockLoss | keepLaunch | rerange | impedanceArm | armTimeout | fitJob |
      fitJobEnd | controlLoopEval | canFrameRx | canFrameSent | canBusOff | canErrorPassive | busOffRecovery | busOffRecovered |
      restrictedEnter | restrictedLeave | ethLinkChange | ethFrameRx | addressConflict | rowRepairSwitch | bankRetire =>
    exact Keeps.present _ (Kept.dev s _)
  | rangeMod | rdrange | setver | setdly | setturnRelease | setturnForceTa | setturnForceTb | authch | keyset | cfgtag | rdreg | wrreg |
      clrst | balMod | baltestStart | baltestRead | burstArm | burstFreeze | burstDisarm | burstrd | diagrd | hdstat | hdcfg | echoMod |
      headNop | headNegClose | headPreClose | headPosClose | headPreOpen | headOpen | headOpenAll | balanceTestRun | cfgRetry |
      authChallengeRun | authRecordTimeout =>
    exact Keeps.ringCmd _ _ s
  | currentLimitExpiry | retryPauseEnd | conductionClear | powerStageOvertemp | powerStageRestart | openLoadChange | clampPulse |
      freewheelCheck | selectOpen | selectClose | currentLimitSumReached =>
    exact Keeps.lswCmd _ _ s
  | profileHello | heartbeat | profileRequest | profileWithdraw | profileReportSend | ptoExpiry => exact Keeps.profileCmd _ s
  | ownOwnerkey | ownRolekey | ownTenant | ownAccept | ownFloor | ownTwinpair | ownKtrotate | ownRelease => exact Keeps.ownCmd _ _ s
  | fspRead | fspLogread | fspQuote | fspSubscribe | notifyctlOn | notifyctlOff | fspDispatch | dlimitSet | dlimitWithdraw |
      reserveRelease | reserveWithdraw | ctlclrWeld | ctlclrLoop | fspTriprel | fspUnlock | fspRearm | fspBaltest | fspStorage |
      twinsvcResync | twinsvcReset | twinsvcHandover | imageBegin | imageData | memtestPreserving | memtestDestructive =>
    exact State.fsp_kept _ _ _ _ _ _ s
  | seqNone | seqClose | seqPrelink | seqOpen | seqOpenNow | seqShutdown | strConnect | strDisconnect | strDisconnow =>
    exact State.seqCmd_kept _ _ _ _ _ s
  | beq | bne | blt | bge | bltu | bgeu => exact Keeps.ite (Keeps.dev s _) (Keeps.dev s _)
  | sw | sh | sb => exact nearStoreInstr_keeps _ _ _ _ _ s
  | tickBoundary => exact execTickBoundary_keeps s
  | swx => exact execSwx_keeps _ _ _ _ s
  | ret => exact execRet_keeps _ s
  | loop => exact execLoop_keeps _ _ _ _ s
  | chk => exact execChk_keeps _ _ _ _ _ s
  | ring => exact execRing_keeps _ _ _ s
  | est => exact execEst_keeps _ _ _ s
  | reservedEncoding => exact execReservedEncoding_keeps _ _ s
  | isoCycleEnd => exact execIsoCycleEnd_keeps _ s
  | calStart => exact execCalStart_keeps _ _ _ _ s
  | calSample => exact execCalSample_keeps _ _ _ s
  | calCompute => exact execCalCompute_keeps s
  | frameReturn => exact Keeps.present _ (State.frameBack_kept _ _ _ _ s)
  | frameLost => exact Keeps.present _ (State.frameGone_kept _ s)
  | discoveryLockTimeout => exact Keeps.present _ (Kept.ite (Kept.refl s) (State.portDown_kept _ 0 s))
  | enumMod => exact execEnumMod_keeps _ _ s
  | digestCompare => exact execDigestCompare_keeps _ s
  | estJobEnd => exact execEstJobEnd_keeps s
  | socmRestExpiry => exact execSocmRestExpiry_keeps s
  | mooringMessageRx => exact execMooringMessageRx_keeps _ _ _ s
  | claim => exact execClaim_keeps _ _ _ _ s
  | sessionHandshake => exact Kept.ite (Kept.refl s) (State.handshake_kept _ s)
  | sessionExpiry => exact execSessionExpiry_keeps _ s
  | fspHello => exact execFspHello_keeps _ _ _ s
  | fspBye => exact State.closeSession_kept _ s
  | imageEnd => exact execImageEnd_keeps _ _ s
  | programSwitchover => exact execProgramSwitchover_keeps s
  | envelopeSwitchover => exact execEnvelopeSwitchover_keeps s
  | chemistrySwitchover => exact execChemistrySwitchover_keeps s
  | topologySwitchover => exact execTopologySwitchover_keeps s
  | heartwoodBoot => exact execHeartwoodBoot_keeps _ _ _ _ s
  | logRecordWrite => exact execLogRecordWrite_keeps _ s
  | resetRelease => exact execResetRelease_keeps _ _ s
  | bootComplete => exact Kept.ite (Kept.refl s) (Kept.dev s _)
  | railFault => exact Keeps.present _ (Kept.ite (Kept.refl s) (Kept.onDev _ s))

/-- Settles O3: a step on an empty queue changes nothing, and otherwise runs a command, which keeps the form. -/
theorem stepKeepsMemoryForm : Obligations.StepKeepsMemoryForm := by
  intro s t hs ht
  cases hp : s.pending with
  | nil =>
    rw [step_nil hp] at ht
    cases ht
    exact hs
  | cons c rest =>
    rw [step_cons hp] at ht
    exact (exec_keeps c { s with pending := rest }).next_wf ht hs

end Sys2Proof.Machine
end

section
/-! What raising an event leaves and changes in the registers (15 R522-R530), and accesses to absent control space (00 R10). -/

namespace Sys2Proof.Machine
open Sys2Proof

/-- Registers are read from the table alone. -/
theorem Dev.reg_congr {d e : Dev} (h : e.regs = d.regs) (a : Nat) : e.reg a = d.reg a := by
  unfold Dev.reg
  rw [h]

/-! Pending bits are set by raisings and cleared only by writes (15 R523). -/

/-- Every event pending in `d` is pending in `e`. -/
def PendKept (d e : Dev) : Prop := ∀ k i, k < 12 → i < 32 → d.rbit (A.evtPend k) i = true → e.rbit (A.evtPend k) i = true

theorem PendKept.trans {d e f : Dev} (h : PendKept d e) (k : PendKept e f) : PendKept d f :=
  fun j i hj hi hd => k j i hj hi (h j i hj hi hd)

theorem PendKept.of_regs {d e : Dev} (h : e.regs = d.regs) : PendKept d e := by
  intro k i _ _ hd
  unfold Dev.rbit
  rw [Dev.reg_congr h]
  exact hd

/-- A write of a register outside EVT.PEND. -/
theorem PendKept.setReg (d : Dev) {a : Nat} (v : Word) (h : a < 0x40010000 ∨ 0x40010030 ≤ a) : PendKept d (d.setReg a v) := by
  intro k i hk _ hd
  have : A.evtPend k ≠ a := by unfold A.evtPend; omega
  unfold Dev.rbit
  rw [Dev.reg_setReg_other d v this]
  exact hd

/-- A raising sets a bit of EVT.PEND. -/
theorem PendKept.setPend (d : Dev) (j b : Nat) (hb : b < 32) : PendKept d (d.setRbit (A.evtPend j) b true) := by
  intro k i _ hi hd
  by_cases hk : A.evtPend k = A.evtPend j
  · rw [hk] at hd ⊢
    rw [Dev.rbit_setRbit d _ b i true hb hi, hd, ite_self]
  · unfold Dev.rbit
    rw [Dev.reg_setRbit_other d b true hk]
    exact hd

theorem PendKept.eventPending {d e : Dev} (h : PendKept d e) {n : Nat} (hn : n < 384) (hd : d.eventPending n = true) :
    e.eventPending n = true := h (n / 32) (n % 32) (by omega) (Nat.mod_lt n (by decide)) hd

/-- What the registers show of raisings of the events of `l` and of log records: outside EVT and LOG nothing changed, no pending event
was lost, and the counter of no other event counted. -/
structure RegsRaised (l : List Nat) (d e : Dev) : Prop where
  kept : RegsKept [] d e
  pend : PendKept d e
  cnt : ∀ k, k < 384 → k ∉ l → e.reg (A.evtCnt k) = d.reg (A.evtCnt k)

theorem RegsRaised.of_regs (l : List Nat) {d e : Dev} (h : e.regs = d.regs) : RegsRaised l d e :=
  ⟨fun a _ _ => Dev.reg_congr h a, PendKept.of_regs h, fun _ _ _ => Dev.reg_congr h _⟩

theorem RegsRaised.trans {l : List Nat} {d e f : Dev} (h : RegsRaised l d e) (k : RegsRaised l e f) : RegsRaised l d f :=
  ⟨fun a ha hl => (k.kept a ha hl).trans (h.kept a ha hl), h.pend.trans k.pend, fun j hj hl => (k.cnt j hj hl).trans (h.cnt j hj hl)⟩

/-- Between two devices that differ outside their registers first. -/
theorem RegsRaised.of_same_regs {l : List Nat} {d e f : Dev} (k : RegsRaised l e f) (h : e.regs = d.regs) : RegsRaised l d f :=
  (RegsRaised.of_regs l h).trans k

theorem RegsRaised.mono {l m : List Nat} {d e : Dev} (h : RegsRaised l d e) (hl : l ⊆ m) : RegsRaised m d e :=
  ⟨h.kept, h.pend, fun k hk hm => h.cnt k hk fun hkl => hm (hl hkl)⟩

/-- A write of a register of EVT or LOG behind the pending bits and the counters. -/
theorem RegsRaised.setReg (l : List Nat) (d : Dev) {a : Nat} (v : Word) (ha : evtArea a = true) (hb : 0x40011600 ≤ a) :
    RegsRaised l d (d.setReg a v) := by
  refine ⟨fun b hout _ => Dev.reg_setReg_other d v ?_, PendKept.setReg d v (by omega), fun k hk _ => Dev.reg_setReg_other d v ?_⟩
  · rintro rfl
    rw [ha] at hout
    cases hout
  · unfold A.evtCnt
    omega

theorem evtArea_of_evt {a : Nat} (h : 0x40010000 ≤ a) (k : a < 0x40020000) : evtArea a = true := by
  simp [evtArea, h, k]

theorem evtArea_evtPend {k : Nat} (h : k < 12) : evtArea (A.evtPend k) = true :=
  evtArea_of_evt (by unfold A.evtPend; omega) (by unfold A.evtPend; omega)

theorem evtArea_evtCnt {k : Nat} (h : k < 384) : evtArea (A.evtCnt k) = true :=
  evtArea_of_evt (by unfold A.evtCnt; omega) (by unfold A.evtCnt; omega)

theorem evtArea_evtOvf {k : Nat} (h : k < 12) : evtArea (A.evtOvf k) = true :=
  evtArea_of_evt (by unfold A.evtOvf; omega) (by unfold A.evtOvf; omega)

/-- A record dropped is counted. -/
theorem RegsRaised.bump_logDrop (l : List Nat) (d : Dev) : RegsRaised l d (d.bump A.logDrop A.logOvf 0) := by
  have h := RegsRaised.setReg l d (satInc (d.reg A.logDrop)) (a := A.logDrop) (by decide) (by decide)
  unfold Dev.bump
  dsimp only
  split
  · exact h.trans (RegsRaised.setReg l _ _ (by decide) (by decide))
  · exact h

/-- The counter of event `e` counts. -/
theorem RegsRaised.bump_evtCnt (d : Dev) {e : Nat} (he : e < 384) :
    RegsRaised [e] d (d.bump (A.evtCnt e) (A.evtOvf (e / 32)) (e % 32)) := by
  have h : RegsRaised [e] d (d.setReg (A.evtCnt e) (satInc (d.reg (A.evtCnt e)))) := by
    refine ⟨fun b hb _ => Dev.reg_setReg_other d _ ?_, PendKept.setReg d _ (by unfold A.evtCnt; omega), fun k _ hl => Dev.reg_setReg_other d _ ?_⟩
    · rintro rfl
      rw [evtArea_evtCnt he] at hb
      cases hb
    · have : k ≠ e := fun hke => hl (List.mem_singleton.2 hke)
      unfold A.evtCnt
      omega
  unfold Dev.bump
  dsimp only
  split
  · exact h.trans (RegsRaised.setReg _ _ _ (evtArea_evtOvf (by omega)) (by unfold A.evtOvf; omega))
  · exact h

/-- An event's pending bit is set. -/
theorem RegsRaised.setPend (d : Dev) {e : Nat} (he : e < 384) : RegsRaised [e] d (d.setRbit (A.evtPend (e / 32)) (e % 32) true) := by
  refine ⟨fun b hb _ => Dev.reg_setRbit_other d _ _ ?_, PendKept.setPend d _ _ (by omega), fun k _ _ => Dev.reg_setRbit_other d _ _ ?_⟩
  · rintro rfl
    rw [evtArea_evtPend (by omega)] at hb
    cases hb
  · unfold A.evtCnt A.evtPend
    omega

/-! Raising, part by part. -/

/-- The registers after the base part of a raising: those of its pending bit and its counter. -/
theorem Dev.raiseBase_regs (d : Dev) (e : Nat) :
    (d.raiseBase e).regs = ((d.setRbit (A.evtPend (e / 32)) (e % 32) true).bump (A.evtCnt e) (A.evtOvf (e / 32)) (e % 32)).regs := by
  unfold Dev.raiseBase
  dsimp only
  split <;> rfl

theorem Dev.raiseBase_regsRaised (d : Dev) {e : Nat} (he : e < 384) : RegsRaised [e] d (d.raiseBase e) :=
  ((RegsRaised.setPend d he).trans (RegsRaised.bump_evtCnt _ he)).trans (RegsRaised.of_regs _ (d.raiseBase_regs e))

theorem Dev.raiseBase_pending (d : Dev) {e : Nat} (he : e < 384) : (d.raiseBase e).eventPending e = true := by
  have hp : (d.setRbit (A.evtPend (e / 32)) (e % 32) true).eventPending e = true := by
    unfold Dev.eventPending
    rw [Dev.rbit_setRbit d _ _ _ true (by omega) (by omega), if_pos rfl]
  exact ((RegsRaised.bump_evtCnt _ he).pend.trans (PendKept.of_regs (d.raiseBase_regs e))).eventPending he hp

theorem Dev.raiseBase_cnt (d : Dev) {e : Nat} (he : e < 384) : (d.raiseBase e).reg (A.evtCnt e) = satInc (d.reg (A.evtCnt e)) := by
  have ho : A.evtCnt e ≠ A.evtOvf (e / 32) := by unfold A.evtCnt A.evtOvf; omega
  have hp : A.evtCnt e ≠ A.evtPend (e / 32) := by unfold A.evtCnt A.evtPend; omega
  rw [Dev.reg_congr (d.raiseBase_regs e), Dev.reg_bump _ _ ho, Dev.reg_setRbit_other d _ _ hp]

theorem Dev.logTry_regsRaised (l : List Nat) (d : Dev) (r : LogRec) : RegsRaised l d (d.logTry r).1 := by
  have drop : RegsRaised l d (({ d with log := { d.log with gap := true } } : Dev).bump A.logDrop A.logOvf 0) :=
    (RegsRaised.bump_logDrop l _).of_same_regs rfl
  unfold Dev.logTry
  dsimp only
  split <;> split
  · exact RegsRaised.of_regs l rfl
  · exact drop
  · exact RegsRaised.of_regs l rfl
  · exact drop

theorem Dev.logEvent_regsRaised (l : List Nat) (d : Dev) (e i : Nat) : RegsRaised l d (d.logEvent e i).1 := by
  unfold Dev.logEvent
  split
  · split
    · exact (Dev.logTry_regsRaised l _ _).of_same_regs rfl
    · exact RegsRaised.of_regs l rfl
  · exact RegsRaised.of_regs l rfl

/-- A dropped record raises event 367, or nothing within a minute of the last time (15 R527). -/
theorem Dev.dropEvent_cases (d : Dev) :
    d.dropEvent = d ∨ ∃ l : LogSt, d.dropEvent = ((({ d with log := l } : Dev).raiseBase 367).logEvent 367 0).1 := by
  unfold Dev.dropEvent
  dsimp only
  split <;> split
  · exact Or.inr ⟨_, rfl⟩
  · exact Or.inl rfl
  · exact Or.inr ⟨_, rfl⟩
  · exact Or.inl rfl

theorem Dev.dropEvent_regsRaised (d : Dev) : RegsRaised [367] d d.dropEvent := by
  obtain h | ⟨l, h⟩ := d.dropEvent_cases
  · rw [h]
    exact RegsRaised.of_regs _ rfl
  · rw [h]
    have base := Dev.raiseBase_regsRaised { d with log := l } (e := 367) (by decide)
    exact (base.trans (Dev.logEvent_regsRaised _ _ 367 0)).of_same_regs rfl

/-- What follows the base part of a raising: a record, or event 367 for a record dropped. -/
theorem Dev.raise_regsRaised_base (d : Dev) (e i : Nat) : RegsRaised [367] (d.raiseBase e) (d.raise e i) := by
  unfold Dev.raise
  dsimp only
  split
  · exact Dev.logEvent_regsRaised _ _ _ _
  · exact (Dev.logEvent_regsRaised _ _ _ _).trans (Dev.dropEvent_regsRaised _)

theorem Dev.raise_regsRaised (d : Dev) {e : Nat} (he : e < 384) (i : Nat) : RegsRaised [e, 367] d (d.raise e i) :=
  ((d.raiseBase_regsRaised he).mono (by simp)).trans ((d.raise_regsRaised_base e i).mono (by simp))

theorem Dev.raise_pending (d : Dev) {e : Nat} (he : e < 384) (i : Nat) : (d.raise e i).eventPending e = true :=
  (d.raise_regsRaised_base e i).pend.eventPending he (d.raiseBase_pending he)

/-- A raising counts once; event 367 may be raised again by its own record's drop. -/
theorem Dev.raise_cnt (d : Dev) {e : Nat} (he : e < 384) (h : e ≠ 367) (i : Nat) :
    (d.raise e i).reg (A.evtCnt e) = satInc (d.reg (A.evtCnt e)) :=
  ((d.raise_regsRaised_base e i).cnt e he fun hm => h (List.mem_singleton.1 hm)).trans (d.raiseBase_cnt he)

theorem Dev.logRec_regsRaised (d : Dev) (ty e : Nat) (b : List Nat) (m : List (List Nat)) : RegsRaised [367] d (d.logRec ty e b m) := by
  unfold Dev.logRec
  dsimp only
  split
  · exact Dev.logTry_regsRaised _ _ _
  · exact (Dev.logTry_regsRaised _ _ _).trans (Dev.dropEvent_regsRaised _)

/-! An access to absent control space (00 R10): event 372 is raised, or counted while it is pending. -/

theorem Dev.sameBut_raiseAbsent (d : Dev) : Dev.sameBut d d.raiseAbsent := by
  unfold Dev.raiseAbsent
  split
  · exact Dev.sameBut_bump _ _ _ _
  · exact Dev.sameBut_raise _ _ _

theorem Dev.raiseAbsent_regsRaised (d : Dev) : RegsRaised [372, 367] d d.raiseAbsent := by
  unfold Dev.raiseAbsent
  split
  · exact (RegsRaised.bump_evtCnt (e := 372) d (by decide)).mono (by simp)
  · exact Dev.raise_regsRaised d (by decide) 0

theorem Dev.raiseAbsent_pending (d : Dev) : d.raiseAbsent.eventPending 372 = true := by
  unfold Dev.raiseAbsent
  split
  case isTrue h => exact (RegsRaised.bump_evtCnt (e := 372) d (by decide)).pend.eventPending (by decide) h
  case isFalse h => exact Dev.raise_pending d (by decide) 0

theorem Dev.raiseAbsent_cnt (d : Dev) : d.raiseAbsent.reg (A.evtCnt 372) = satInc (d.reg (A.evtCnt 372)) := by
  unfold Dev.raiseAbsent
  split
  · exact Dev.reg_bump d 20 (by decide)
  · exact Dev.raise_cnt d (by decide) (by decide) 0

/-- The shown data of a read stands apart from what raisings change. -/
theorem EventsOnly.of_raised {l : List Nat} {d e : Dev} (h : Dev.sameBut d e) (k : RegsRaised l d e) (v : Word) :
    EventsOnly { d with readData := v } { e with readData := v } :=
  ⟨congrArg (fun x => { x with readData := v }) h, k.kept⟩

theorem Dev.sameBut_readData {d e : Dev} (h : Dev.sameBut d e) : e.readData = d.readData := by
  rw [h]

/-- The command on absent control space. -/
theorem execAbsentSpaceAccess_absent {s : State} {a : Nat} (w : Bool) (h : s.dev.absentAt a = true) :
    execAbsentSpaceAccess a w s =
      .next { s with dev := { s.dev.raiseAbsent with readData := if w then s.dev.readData else 0 } } := by
  have hr : s.dev.raiseAbsent = { s.dev.raiseAbsent with readData := s.dev.readData } := by
    rw [← Dev.sameBut_readData s.dev.sameBut_raiseAbsent]
  unfold execAbsentSpaceAccess
  cases w with
  | false => simp [h]
  | true =>
    simp only [h, if_true]
    rw [← hr]

theorem Dev.absentAt_port {d : Dev} {n o : Nat} (hd : d.rings ≤ n) (hn : n < 48) (ho : o < 0x400) :
    d.absentAt (0x40030000 + 0x400 * n + o) = true := by
  have hin : 0x40030000 ≤ 0x40030000 + 0x400 * n + o ∧ 0x40030000 + 0x400 * n + o < 0x4003C000 := by omega
  have hq : (0x40030000 + 0x400 * n + o - 0x40030000) / 0x400 = n := by omega
  unfold Dev.absentAt
  rw [if_pos hin, hq]
  exact decide_eq_true hd

theorem Dev.absentAt_twin {d : Dev} {o : Nat} (hd : d.isTwin = false) (ho : o < 0x10000) : d.absentAt (0x40090000 + o) = true := by
  have hout : ¬ (0x40030000 ≤ 0x40090000 + o ∧ 0x40090000 + o < 0x4003C000) := by omega
  have hin : 0x40090000 ≤ 0x40090000 + o ∧ 0x40090000 + o < 0x400A0000 := by omega
  unfold Dev.absentAt
  rw [if_neg hout, if_pos hin, hd]
  rfl

/-- Settles O37: absent space is answered by event 372 alone, raised or counted. -/
theorem absentSpace : Obligations.AbsentSpace := by
  refine ⟨fun a w s h => ?_, fun d n o => Dev.absentAt_port, fun d o => Dev.absentAt_twin⟩
  refine ⟨_, execAbsentSpaceAccess_absent w h, ⟨rfl, rfl⟩, EventsOnly.of_raised s.dev.sameBut_raiseAbsent s.dev.raiseAbsent_regsRaised _, ?_, ?_,
    s.dev.raiseAbsent_pending, s.dev.raiseAbsent_cnt⟩
  · rintro rfl
    rfl
  · rintro rfl
    rfl

end Sys2Proof.Machine
end

section
/-! LWX and SWX of absent control space (02 R50, R83, R85): the trap they take, what it leaves, and the states in which it does not leave
event 372 pending. -/

namespace Sys2Proof.Machine
open Sys2Proof

/-! What follows a trap's events leaves the cores and loses no pending event. -/

/-- The cores are as before, and no pending event was lost. -/
def CoresPendKept (d e : Dev) : Prop := (∀ c, e.core c = d.core c) ∧ PendKept d e

theorem CoresPendKept.trans {d e f : Dev} (h : CoresPendKept d e) (k : CoresPendKept e f) : CoresPendKept d f :=
  ⟨fun c => (k.1 c).trans (h.1 c), h.2.trans k.2⟩

/-- A change outside registers and cores. -/
theorem CoresPendKept.of_regs {d e : Dev} (hr : e.regs = d.regs) (hc : ∀ c, e.core c = d.core c) : CoresPendKept d e :=
  ⟨hc, PendKept.of_regs hr⟩

theorem Dev.core_setReg (d : Dev) (a : Nat) (v : Word) (c : Core) : (d.setReg a v).core c = d.core c := by cases c <;> rfl

theorem Dev.core_of_sameBut {d e : Dev} (h : Dev.sameBut d e) (c : Core) : e.core c = d.core c := by
  rw [h]
  cases c <;> rfl

/-- A write of a register below EVT. -/
theorem CoresPendKept.setReg (d : Dev) {a : Nat} (v : Word) (h : a < 0x40010000) : CoresPendKept d (d.setReg a v) :=
  ⟨d.core_setReg a v, PendKept.setReg d v (Or.inl h)⟩

theorem CoresPendKept.setRbit (d : Dev) {a : Nat} (i : Nat) (b : Bool) (h : a < 0x40010000) : CoresPendKept d (d.setRbit a i b) :=
  CoresPendKept.setReg d _ h

theorem CoresPendKept.setFld (d : Dev) {a : Nat} (hi lo v : Nat) (h : a < 0x40010000) : CoresPendKept d (d.setFld a hi lo v) :=
  CoresPendKept.setReg d _ h

/-- A counter below EVT. -/
theorem CoresPendKept.bump (d : Dev) {c o : Nat} (b : Nat) (hc : c < 0x40010000) (ho : o < 0x40010000) : CoresPendKept d (d.bump c o b) := by
  unfold Dev.bump
  dsimp only
  split
  · exact (CoresPendKept.setReg d _ hc).trans (CoresPendKept.setRbit _ _ _ ho)
  · exact CoresPendKept.setReg d _ hc

theorem CoresPendKept.raise (d : Dev) {e : Nat} (he : e < 384) (i : Nat) : CoresPendKept d (d.raise e i) :=
  ⟨Dev.core_of_sameBut (d.sameBut_raise e i), (d.raise_regsRaised he i).pend⟩

theorem CoresPendKept.raiseBase (d : Dev) {e : Nat} (he : e < 384) : CoresPendKept d (d.raiseBase e) :=
  ⟨Dev.core_of_sameBut (d.sameBut_raiseBase e), (d.raiseBase_regsRaised he).pend⟩

theorem CoresPendKept.logRec (d : Dev) (ty e : Nat) (b : List Nat) (m : List (List Nat)) : CoresPendKept d (d.logRec ty e b m) :=
  ⟨Dev.core_of_sameBut (d.sameBut_logRec ty e b m), (d.logRec_regsRaised ty e b m).pend⟩

theorem CoresPendKept.raiseAbsent (d : Dev) : CoresPendKept d d.raiseAbsent :=
  ⟨Dev.core_of_sameBut d.sameBut_raiseAbsent, d.raiseAbsent_regsRaised.pend⟩

theorem CoresPendKept.factTrip (p zones : Nat) (d : Dev) : CoresPendKept d (d.factTrip p zones) := by
  unfold Dev.factTrip Dev.raiseIf
  split
  · split
    · exact CoresPendKept.of_regs rfl fun c => by cases c <;> rfl
    · exact CoresPendKept.of_regs rfl fun c => by cases c <;> rfl
  · split
    · exact CoresPendKept.raise d (by decide) p
    · exact CoresPendKept.of_regs rfl fun _ => rfl

/-- The registers of a task of the table lie below EVT. -/
theorem A.sysTstat_lt {n : Nat} (h : n < 128) : A.sysTstat n < 0x40010000 := by unfold A.sysTstat; omega

theorem A.sysTmiss_lt {n : Nat} (h : n < 128) : A.sysTmiss n < 0x40010000 := by unfold A.sysTmiss; omega

theorem CoresPendKept.setPorts (l : List Nat) (f : Nat → Port → Port) (d : Dev) :
    CoresPendKept d (foldOver l (fun n d => d.setPort n (f n)) d) :=
  foldOver_keeps (CoresPendKept d) l _ d
    (fun _ _ h => h.trans (CoresPendKept.of_regs rfl fun c => by cases c <;> rfl)) (CoresPendKept.of_regs rfl fun _ => rfl)

theorem CoresPendKept.taskFaulty (d : Dev) {n : Nat} (h : n < 128) : CoresPendKept d (d.taskFaulty n) := by
  have marked : CoresPendKept d (foldOver (List.range ((d.setRbit (A.sysTstat n) 31 true).raise 379 n).rings)
      (fun k d => d.setPort k (Port.dropDone (n + 1))) ((d.setRbit (A.sysTstat n) 31 true).raise 379 n)) :=
    ((CoresPendKept.setRbit d 31 true (A.sysTstat_lt h)).trans (CoresPendKept.raise _ (by decide) n)).trans (CoresPendKept.setPorts _ _ _)
  unfold Dev.taskFaulty
  dsimp only
  generalize foldOver _ _ ((d.setRbit (A.sysTstat n) 31 true).raise 379 n) = e at marked ⊢
  have staged : CoresPendKept d (if (d.task n).fact = 1 ∨ (d.task n).fact = 2 then { e with committed := e.committed ++ safeZeros (d.task n) } else e) := by
    split
    · exact marked.trans (CoresPendKept.of_regs rfl fun c => by cases c <;> rfl)
    · exact marked
  split
  · exact staged.trans (CoresPendKept.factTrip _ _ _)
  · exact staged

theorem CoresPendKept.countMiss (p : Nat) (d : Dev) {n : Nat} (hp : p < 2) (h : n < 128) : CoresPendKept d (d.countMiss p n) := by
  have ht := A.sysTstat_lt h
  have counted := (CoresPendKept.setRbit d 29 true ht).trans (CoresPendKept.bump _ 24 (A.sysTmiss_lt h) ht)
  unfold Dev.countMiss
  dsimp only
  have raised := fun r => (counted.trans (CoresPendKept.setFld _ 26 25 r ht)).trans (CoresPendKept.raise _ (e := 377 + p) (by omega) n)
  split
  · exact (raised _).trans (CoresPendKept.taskFaulty _ h)
  · exact raised _

/-- The end of an activation writes no register. -/
theorem Dev.endAct_pendKept (c : Core) (d : Dev) : PendKept d (d.endAct c) := PendKept.of_regs (Dev.setCore_regs _ _ _)

/-- The end of an activation keeps the general registers of every core. -/
theorem Dev.endAct_r (c : Core) (d : Dev) (g : Reg) : ((d.endAct c).core c).cur.r g = (d.core c).cur.r g := by
  unfold Dev.endAct
  rw [Dev.core_setCore]
  cases c <;> rfl

theorem pairOf_lt (c : Core) : pairOf c < 2 := by cases c <;> decide

theorem trapEvent_lt (c : Core) : trapEvent c < 384 := by cases c <;> decide

/-- The ABSENT trap of a task of the table: event 372 is pending after it, and the core's registers are as before. -/
theorem Dev.farTrap_absent (c : Core) (d : Dev) (h : (d.core c).cur.task < 128) :
    (d.farTrap c 1).eventPending 372 = true ∧ ∀ g, ((d.farTrap c 1).core c).cur.r g = (d.core c).cur.r g := by
  have missed : ∀ e : Dev, CoresPendKept e (if (d.core c).run = true then e.countMiss (pairOf c) (d.core c).cur.task else e) := fun e => by
    split
    · exact CoresPendKept.countMiss _ e (pairOf_lt c) h
    · exact CoresPendKept.of_regs rfl fun _ => rfl
  unfold Dev.farTrap Dev.trapWith
  dsimp only
  rw [if_pos rfl]
  have noted := ((CoresPendKept.raiseBase d (trapEvent_lt c)).trans (CoresPendKept.logRec _ 1 (trapEvent c)
    ([1, (d.core c).cur.task, 0, 0] ++ leBytes 4 (d.core c).cur.pc) [])).trans (CoresPendKept.raiseAbsent _)
  have pending := Dev.raiseAbsent_pending (((d.raiseNoLog (trapEvent c)).logRec 1 (trapEvent c)
    ([1, (d.core c).cur.task, 0, 0] ++ leBytes 4 (d.core c).cur.pc) []))
  change CoresPendKept d (Dev.raiseAbsent ((d.raiseNoLog (trapEvent c)).logRec 1 (trapEvent c) _ [])) at noted
  generalize Dev.raiseAbsent _ = n at *
  have stated := CoresPendKept.setFld n 7 0 1 (A.sysTstat_lt h)
  refine ⟨((stated.2.trans (Dev.endAct_pendKept c _)).trans (missed _).2).eventPending (by decide) pending, fun g => ?_⟩
  rw [(missed _).1 c, Dev.endAct_r, stated.1 c, noted.1 c]

/-- A FAR access to absent control space that is aligned and within its budget meets the cause ABSENT first (02 R83). -/
theorem firstCause_absent {d : Dev} {c : Core} {a : Nat} (w : Bool) {b : Bool} (hf : d.fetchBad c = false) (hb : b = false) (hal : a % 4 = 0)
    (hc : isCtl a = true) (ha : d.absentAt a = true) : firstCause (d.withFetch c (d.farCauses c a w)) b = some 1 := by
  simp [firstCause, Dev.withFetch, Dev.farCauses, hf, hb, hal, hc, ha]

theorem execLwx_absent {c : Core} {gd ga : Reg} {imm : BitVec 16} {s : State} (hfit : Fits c 24 s) (hal : s.dev.addr c ga imm % 4 = 0)
    (hc : isCtl (s.dev.addr c ga imm) = true) (ha : s.dev.absentAt (s.dev.addr c ga imm) = true) :
    ∃ t, exec (.lwx c gd ga imm) s = .next t ∧ FarTrapped c 1 s t := by
  refine ⟨_, ?_, rfl⟩
  change execLwx c gd ga imm s = _
  simp only [execLwx, firstCause_absent false hfit.1 hfit.2 hal hc ha]

theorem execSwx_absent {c : Core} {gs ga : Reg} {imm : BitVec 16} {s : State} (hfit : Fits c 24 s) (hal : s.dev.addr c ga imm % 4 = 0)
    (hc : isCtl (s.dev.addr c ga imm) = true) (ha : s.dev.absentAt (s.dev.addr c ga imm) = true) :
    ∃ t, exec (.swx c gs ga imm) s = .next t ∧ FarTrapped c 1 s t := by
  refine ⟨_, ?_, rfl⟩
  change execSwx c gs ga imm s = _
  simp only [execSwx, firstCause_absent true hfit.1 hfit.2 hal hc ha]

/-- What the ABSENT trap leaves, for a task of the table: the statement's last clause with the premise it lacks. -/
theorem FarTrapped.absent {c : Core} {s t : State} (h : FarTrapped c 1 s t) (hn : (s.dev.core c).cur.task < 128) :
    DevOnly s t ∧ t.dev.rbit (A.evtPend 11) 20 = true ∧ ∀ g, (t.dev.core c).cur.r g = (s.dev.core c).cur.r g := by
  obtain ⟨hp, hr⟩ := Dev.farTrap_absent c s.dev hn
  rw [h]
  exact ⟨⟨rfl, rfl⟩, hp, hr⟩

/-! The statement sets no bound on the number of the task that a core runs. The task table has entries 0 to 127 (03 R95); past it, the
address of SYS.TMISS of a number runs into the EVT block, so that the count of the missed activation falls on the pending bits. -/

/-- A running activation of number 15755, whose TMISS address is that of EVT.PEND11; its program lets it run 1000 cycles. Bits 0 to 20 of
EVT.PEND11 are set, event 372 (bit 20) among them, and g1 addresses the TWIN block, absent on a single device. -/
def strayTask : State :=
  { dev := (({ img := { prog := some { tasks := [(15755, { budgets := [1000] })] } },
               k0 := { run := true, cur := { task := 15755, regs := [(1, 0x40090000)] } } } : Dev).setReg (A.evtPend 11) 0x001FFFFF) }

/-- The load of the stray task traps, and the count that follows carries out of bit 20: event 372 is no longer pending. -/
theorem strayTask_loses_event : (strayTask.dev.farTrap .k0 1).rbit (A.evtPend 11) 20 = false := by decide +kernel

/-- Refutes O13: on a core whose task number lies outside the task table, the ABSENT trap of an LWX within its budget can leave event 372 not
pending. With the number inside the table all that the statement claims holds: `execLwx_absent`, `execSwx_absent`, `FarTrapped.absent`. -/
theorem not_absentTraps : ¬ Obligations.AbsentTraps := by
  intro h
  obtain ⟨hlwx, -, hleaves⟩ := h .k0
  obtain ⟨t, -, ht⟩ := hlwx 2 1 0 strayTask ⟨by decide +kernel, by decide +kernel⟩ (by decide +kernel) (by decide +kernel) (by decide +kernel)
  have hp := (hleaves strayTask t ht).2.1
  rw [ht] at hp
  exact absurd (hp.symm.trans strayTask_loses_event) (by decide)

end Sys2Proof.Machine
end

section
/-! Register accesses (00 R15, 14 R476, 15 R529, 19 R595-R597): plain writes bit by bit, counters that clear on read, CALCTL, and the
CAN lock reads. -/

namespace Sys2Proof.Machine
open Sys2Proof

/-! Plain writes. -/

theorem Dev.plainWrite_none {d : Dev} {a : Nat} (v : Word) (h : regRow a = none) : d.plainWrite a v = d := by
  unfold Dev.plainWrite
  rw [h]

/-- The W1C bits of a register are honoured in the ACQ, CNPY, EVT and LOG blocks (19 R597; log entry 30). -/
def w1cMask (r : RegRow) (a : Nat) : Word :=
  if a / 0x10000 = 0x4001 ∨ a / 0x10000 = 0x4004 ∨ a / 0x10000 = 0x4006 ∨ a / 0x10000 = 0x4012 then BitVec.ofNat 32 r.w1c else 0#32

theorem Dev.plainWrite_some {d : Dev} {a : Nat} (v : Word) {r : RegRow} (h : regRow a = some r) :
    d.plainWrite a v = d.setReg a ((((d.reg a) &&& ~~~(BitVec.ofNat 32 r.rw)) ||| (v &&& BitVec.ofNat 32 r.rw)) &&& ~~~(v &&& w1cMask r a)) := by
  unfold Dev.plainWrite
  rw [h]
  rfl

theorem Dev.plainWrite_regs (d : Dev) (a : Nat) (v : Word) : d.plainWrite a v = { d with regs := (d.plainWrite a v).regs } := by
  cases h : regRow a with
  | none => rw [Dev.plainWrite_none v h]
  | some r => rw [Dev.plainWrite_some v h]; rfl

/-- A plain write leaves every other register. -/
theorem Dev.reg_plainWrite_other (d : Dev) {a k : Nat} (v : Word) (hk : k ≠ a) : (d.plainWrite a v).reg k = d.reg k := by
  cases h : regRow a with
  | none => rw [Dev.plainWrite_none v h]
  | some r => rw [Dev.plainWrite_some v h, Dev.reg_setReg_other d _ hk]

theorem w1cMask_bit (r : RegRow) (a : Nat) {i : Nat} (hi : i < 32) :
    (w1cMask r a).bit i = (r.w1c.testBit i && decide (a / 0x10000 ∈ [0x4001, 0x4004, 0x4006, 0x4012])) := by
  unfold w1cMask Word.bit
  simp only [List.mem_cons, List.not_mem_nil, or_false]
  split
  case isTrue h => simp [h, hi, BitVec.getLsbD_ofNat, -BitVec.getLsbD_eq_getElem]
  case isFalse h => simp [h]

/-- A plain write, bit by bit. -/
theorem Dev.bit_plainWrite {d : Dev} {a : Nat} (v : Word) {r : RegRow} (h : regRow a = some r) {i : Nat} (hi : i < 32) :
    ((d.plainWrite a v).reg a).bit i =
      (if r.w1c.testBit i ∧ v.bit i = true ∧ a / 0x10000 ∈ [0x4001, 0x4004, 0x4006, 0x4012] then false
       else if r.rw.testBit i then v.bit i else (d.reg a).bit i) := by
  have hw := w1cMask_bit r a hi
  rw [Dev.plainWrite_some v h, Dev.reg_setReg]
  unfold Word.bit at *
  simp only [BitVec.getLsbD_and, BitVec.getLsbD_or, BitVec.getLsbD_not, BitVec.getLsbD_ofNat, hi, hw, decide_true, Bool.true_and]
  split
  case isTrue hc =>
    obtain ⟨hone, hv, hblock⟩ := hc
    simp [hone, hv, hblock]
  case isFalse hc =>
    have keep : (v.getLsbD i && (r.w1c.testBit i && decide (a / 0x10000 ∈ [0x4001, 0x4004, 0x4006, 0x4012]))) = false := by
      rw [Bool.eq_false_iff]
      intro h
      simp only [Bool.and_eq_true, decide_eq_true_eq] at h
      exact hc ⟨h.2.1, h.1, h.2.2⟩
    rw [keep]
    cases r.rw.testBit i <;> simp

/-- A write of a present register with no behaviour of its own is a plain write. -/
theorem Dev.ctlWrite_plain {d : Dev} {a : Nat} (v : Word) (hp : d.absentAt a = false)
    (ha : a ∉ [A.acqCtl, A.acqFilt, A.acqStretch, A.acqValcfg, A.acqCalctl, A.cnpyBalen0, A.cnpyBalen1, A.cnpyImpctl])
    (hu : a ∉ [A.logUcode 0, A.logUcode 1]) : d.ctlWrite a v = d.plainWrite a v := by
  simp only [List.mem_cons, List.not_mem_nil, or_false, not_or] at ha hu
  obtain ⟨h1, h2, h3, h4, h5, h6, h7, h8⟩ := ha
  obtain ⟨h9, h10⟩ := hu
  simp [Dev.ctlWrite, hp, h1, h2, h3, h4, h5, h6, h7, h8, h9, h10]

/-! Control space that every device has. -/

/-- What may be absent lies from the ring ports on. -/
theorem Dev.absentAt_below (d : Dev) {a : Nat} (h : a < 0x40030000) : d.absentAt a = false := by
  have himp : ¬ (a = A.cnpyImpctl ∨ a = A.cnpyImpstat) := by unfold A.cnpyImpctl A.cnpyImpstat; omega
  have hlsw : ¬ ((A.lswCh 16 ≤ a ∧ a < A.lswCh 32) ∨ (A.lswCfg 16 ≤ a ∧ a < A.lswCfg 32) ∨ a = A.lswLhmap 2 ∨ a = A.lswLhmap 3) := by
    unfold A.lswCh A.lswCfg A.lswLhmap
    omega
  have heth : ¬ a = A.ethStat 1 := by unfold A.ethStat; omega
  unfold Dev.absentAt
  rw [if_neg (by omega), if_neg (by omega), if_neg (by omega), if_neg himp, if_neg hlsw, if_neg heth]

theorem Dev.absentAt_acqCalctl (d : Dev) : d.absentAt A.acqCalctl = false := by
  simp [Dev.absentAt, A.acqCalctl, A.cnpyImpctl, A.cnpyImpstat, A.lswCh, A.lswCfg, A.lswLhmap, A.ethStat]

/-! Counters that clear on read (15 R529). -/

/-- The row's registers lie below `lo`, or from `hi` on. -/
def RegRow.Clear (r : RegRow) (lo hi : Nat) : Prop :=
  hi ≤ r.base ∨ 0 < r.s2 ∧ (if r.c1 ≤ 1 then r.base + r.c2 * r.s2 ≤ lo else 0 < r.s1 ∧ r.base + r.c1 * r.s1 ≤ lo)

theorem RegRow.Clear.not_hit {r : RegRow} {lo hi a : Nat} (h : r.Clear lo hi) (hlo : lo ≤ a) (hhi : a < hi) : r.hit a = false := by
  rw [Bool.eq_false_iff]
  intro hit
  simp only [RegRow.hit, Bool.and_eq_true, decide_eq_true_eq] at hit
  obtain ⟨⟨⟨hbase, houter⟩, hinner⟩, -⟩ := hit
  obtain hbelow | ⟨hs2, habove⟩ := h
  · omega
  · split at habove
    case isTrue h1 =>
      rw [if_pos h1, Nat.div_lt_iff_lt_mul hs2] at hinner
      omega
    case isFalse h1 =>
      rw [if_neg h1, Nat.div_lt_iff_lt_mul habove.1] at houter
      omega

theorem regRow_evtCnt {e : Nat} (h : e < 384) : regRow (A.evtCnt e) = some ⟨0x40011000, 1, 0, 384, 4, 0x0, 0x0, 0x0, 0x40011900⟩ := by
  have before : ∀ r ∈ regRows.take 119, r.Clear 0x40011000 0x40011600 := by unfold RegRow.Clear; decide +kernel
  rw [regRow, List.find?_eq_some_iff_append]
  refine ⟨?_, regRows.take 119, regRows.drop 120, by decide, fun r hr => ?_⟩
  · simp [RegRow.hit, A.evtCnt]
    omega
  · rw [(before r hr).not_hit (by unfold A.evtCnt; omega) (by unfold A.evtCnt; omega)]
    rfl

theorem Dev.clearRead_evtCnt (d : Dev) (m : Master) {e : Nat} (h : e < 384) :
    d.clearRead m (A.evtCnt e) = if m ≠ .fsp ∧ d.rbit A.evtCntctl 0 = true then d.setReg (A.evtCnt e) 0 else d := by
  unfold Dev.clearRead
  rw [regRow_evtCnt h]
  by_cases hm : m ≠ .fsp ∧ d.rbit A.evtCntctl 0 = true
  · rw [if_pos hm]
    exact if_pos ⟨by decide, hm⟩
  · rw [if_neg hm]
    exact if_neg fun h => hm h.2

/-- A register of the EVT block shows its stored value. -/
theorem Dev.regView_evt (d : Dev) (m : Master) {a : Nat} (hlo : 0x40010000 ≤ a) (hhi : a < 0x40020000) : d.regView m a = d.reg a := by
  have out : ∀ {b}, b < 0x40010000 ∨ 0x40020000 ≤ b → a ≠ b := by omega
  have above : ∀ {b c}, 0x40020000 ≤ b → ¬ (b ≤ a ∧ a < c) := by omega
  have port : ∀ {p : Prop}, ¬ (0x40030000 ≤ a ∧ a < 0x4003C000 ∧ p) := fun h => by omega
  have can : ∀ {p : Prop}, ¬ (0x400A0000 ≤ a ∧ a < 0x400E0000 ∧ p) := fun h => by omega
  unfold Dev.regView
  rw [if_neg (out (by decide)), if_neg (out (by decide)), if_neg (out (by decide)), if_neg (out (by decide)), if_neg (out (by decide)),
    if_neg (out (by decide)), if_neg (out (by decide)), if_neg (out (by decide)), if_neg port, if_neg (out (by decide)),
    if_neg (out (by decide)), if_neg port, if_neg (out (by decide)), if_neg (out (by decide)),
    if_neg (not_or.2 ⟨out (by decide), out (by decide)⟩), if_neg (out (by decide)), if_neg (out (by decide)), if_neg (above (by decide)),
    if_neg (out (by decide)), if_neg (above (by decide)), if_neg (out (by decide)), if_neg (out (by decide)), if_neg can]

/-- A read of an event counter: its value, and a clearing read when CNTCTL.RC is 1. -/
theorem Dev.readReg_evtCnt (d : Dev) (m : Master) {e : Nat} (h : e < 384) :
    d.readReg m none (A.evtCnt e) = { d.clearRead m (A.evtCnt e) with readData := d.reg (A.evtCnt e) } := by
  have hlo : 0x40010000 ≤ A.evtCnt e := by unfold A.evtCnt; omega
  have hhi : A.evtCnt e < 0x40020000 := by unfold A.evtCnt; omega
  have out : ∀ {b}, b < 0x40010000 ∨ 0x40020000 ≤ b → A.evtCnt e ≠ b := by omega
  have capture : d.captureRead m (A.evtCnt e) = d := by
    unfold Dev.captureRead
    rw [if_neg (out (by decide)), if_neg (out (by decide)), if_neg (out (by decide))]
  unfold Dev.readReg Dev.ctlRead
  rw [Dev.absentAt_below d (by omega), if_neg Bool.false_ne_true, if_neg (fun hc => by omega), capture, Dev.regView_evt d m hlo hhi]

/-! ACQ.CALCTL (05 R187, R199). -/

/-- A field is its bits. -/
theorem Word.field_congr {w v : Word} {hi lo : Nat} (h : ∀ i, lo ≤ i → i ≤ hi → w.bit i = v.bit i) : w.field hi lo = v.field hi lo := by
  refine Nat.eq_of_testBit_eq fun i => ?_
  unfold Word.field
  simp only [Nat.testBit_mod_two_pow, Nat.testBit_shiftRight]
  by_cases hi' : i < hi + 1 - lo
  · have hbit : w.toNat.testBit (lo + i) = v.toNat.testBit (lo + i) := h (lo + i) (by omega) (by omega)
    rw [hbit]
  · simp [hi']

theorem regRow_acqCalctl : regRow A.acqCalctl = some ⟨0x40040020, 1, 0, 1, 4, 0xf0, 0xf0, 0x0, 0⟩ := by decide +kernel

/-- The plain write of CALCTL sets MASK. -/
theorem Dev.fld_plainWrite_calctl (d : Dev) (v : Word) : (d.plainWrite A.acqCalctl v).fld A.acqCalctl 7 4 = v.field 7 4 := by
  refine Word.field_congr fun i hlo hhi => ?_
  rw [Dev.bit_plainWrite v regRow_acqCalctl (by omega)]
  have hi : i = 4 ∨ i = 5 ∨ i = 6 ∨ i = 7 := by omega
  obtain rfl | rfl | rfl | rfl := hi <;> rfl

theorem Dev.reg_calAsk (d : Dev) (mask a : Nat) : (d.calAsk mask).reg a = d.reg a := by
  unfold Dev.calAsk
  split <;> rfl

/-- A run is asked for unless one is in progress or asked for. -/
theorem Dev.calAsk_calReq {d : Dev} (mask : Nat) (hc : d.acq.cal = none) (hr : d.acq.calReq = none) :
    (d.calAsk mask).acq.calReq = some mask := by
  unfold Dev.calAsk
  rw [hc, hr]
  rfl

theorem Dev.reg_writeCalctl (d : Dev) (v : Word) (a : Nat) : (d.writeCalctl v).reg a = (d.plainWrite A.acqCalctl v).reg a := by
  unfold Dev.writeCalctl
  dsimp only
  split
  · exact Dev.reg_calAsk _ _ _
  · rfl

theorem Dev.writeCalctl_calReq {d : Dev} (v : Word) (hc : d.acq.cal = none) (hr : d.acq.calReq = none) :
    (d.writeCalctl v).acq.calReq = if v.bit 0 then some (v.field 7 4) else none := by
  have hacq : (d.plainWrite A.acqCalctl v).acq = d.acq := by rw [Dev.plainWrite_regs]
  unfold Dev.writeCalctl
  dsimp only
  split
  · rw [Dev.calAsk_calReq _ (hacq ▸ hc) (hacq ▸ hr), Dev.fld_plainWrite_calctl]
  · exact hacq ▸ hr

theorem Dev.ctlWrite_calctl (d : Dev) (v : Word) : d.ctlWrite A.acqCalctl v = d.writeCalctl v := by
  unfold Dev.ctlWrite
  rw [Dev.absentAt_acqCalctl]
  rfl

/-! The CAN lock reads (14 R476). -/

@[simp] theorem Dev.can_setCan (d : Dev) (c : Nat) (f : CanSt → CanSt) : (d.setCan c f).can c = f (d.can c) := by
  simp [Dev.can, Dev.setCan, FMap.upd]

theorem Dev.hasCan_lt {d : Dev} {c : Nat} (h : d.hasCan c = true) : c < 4 := by
  unfold Dev.hasCan at h
  exact of_decide_eq_true (Bool.and_elim_left h)

/-- Above its registers a fitted controller is read as message memory. -/
theorem Dev.ctlRead_can {d : Dev} {c : Nat} (h : d.hasCan c = true) (m : Master) (k : Option Nat) {o : Nat} (hlo : 0x2000 ≤ o) (hhi : o < 0x10000) :
    d.ctlRead m k (0x400A0000 + 0x10000 * c + o) = d.canRead c o k := by
  have hc := Dev.hasCan_lt h
  have hq : (0x400A0000 + 0x10000 * c + o - 0x400A0000) / 0x10000 = c := by omega
  have hr : (0x400A0000 + 0x10000 * c + o) % 0x10000 = o := by omega
  have present : d.absentAt (0x400A0000 + 0x10000 * c + o) = false := by
    unfold Dev.absentAt
    rw [if_neg (by omega), if_neg (by omega), if_pos (by omega), hq, h]
    rfl
  unfold Dev.ctlRead
  rw [present, if_neg Bool.false_ne_true, if_pos ⟨by omega, by omega, by omega⟩, hq, hr]

/-- A Keeper's read of word `w` of message object `m`. -/
theorem Dev.canRead_obj (d : Dev) (c : Nat) {m w : Nat} (k : Nat) (hm : m < 128) (hw : w < 32) :
    d.canRead c (0x2000 + 0x80 * m + 4 * w) (some k) =
      (d.setCan c (fun x => x.setObj m (fun ob => ob.afterRead k w)), BitVec.ofNat 32 (((d.can c).obj m).words.getD w 0)) := by
  have hq : (0x2000 + 0x80 * m + 4 * w - 0x2000) / 0x80 = m := by omega
  have hr : (0x2000 + 0x80 * m + 4 * w) % 0x80 / 4 = w := by omega
  unfold Dev.canRead
  rw [if_pos (by omega), hq, hr]
  rfl

/-- A Keeper's read of word `w` of the head of FIFO `i`, which holds an entry. -/
theorem Dev.canRead_fifo {d : Dev} {c i w : Nat} {ws : List Nat} (k : Nat) (hi : i < 2) (hw : w < 32) (h : (d.can c).fifoHead i = some ws) :
    d.canRead c (0x6000 + 0x80 * i + 4 * w) (some k) = (d.setCan c (fun x => x.fifoRead i k w), BitVec.ofNat 32 (ws.getD w 0)) := by
  have hq : (0x6000 + 0x80 * i + 4 * w - 0x6000) / 0x80 = i := by omega
  have hr : (0x6000 + 0x80 * i + 4 * w) % 0x80 / 4 = w := by omega
  unfold Dev.canRead
  rw [if_neg (by omega), if_pos (by omega), hq, hr]
  dsimp only
  rw [h]
  rfl

/-- A Keeper's read of word `w` of an object touches that object only. -/
theorem Dev.readReg_obj {d : Dev} {c m w : Nat} (M : Master) (k : Nat) (h : d.hasCan c = true) (hm : m < 128) (hw : w < 32) :
    d.readReg M (some k) (0x400A0000 + 0x10000 * c + (0x2000 + 0x80 * m + 4 * w)) =
      { d.setCan c (fun x => x.setObj m (fun ob => ob.afterRead k w)) with
        readData := BitVec.ofNat 32 (((d.can c).obj m).words.getD w 0) } := by
  unfold Dev.readReg
  rw [Dev.ctlRead_can h M _ (by omega) (by omega), Dev.canRead_obj d c k hm hw]

/-- A Keeper's read of word `w` of a FIFO's head touches that FIFO only. -/
theorem Dev.readReg_fifo {d : Dev} {c i w : Nat} {ws : List Nat} (M : Master) (k : Nat) (h : d.hasCan c = true) (hi : i < 2) (hw : w < 32)
    (hws : (d.can c).fifoHead i = some ws) :
    d.readReg M (some k) (0x400A0000 + 0x10000 * c + (0x6000 + 0x80 * i + 4 * w)) =
      { d.setCan c (fun x => x.fifoRead i k w) with readData := BitVec.ofNat 32 (ws.getD w 0) } := by
  unfold Dev.readReg
  rw [Dev.ctlRead_can h M _ (by omega) (by omega), Dev.canRead_fifo k hi hw hws]

/-- A Keeper's read of word 0 of the entry at `a`. -/
theorem exec_canLockRead {p a b : Nat} {s : State} (hb : a - a % 0x80 = b) :
    exec (.canLockRead p a) s = .next { s with dev := s.dev.readReg (pairMaster p) (some (s.dev.pairLocker p)) b } := by
  subst hb
  rfl

/-- A Keeper's read of word 19 of the entry at `a`. -/
theorem exec_canData15Read {p a b : Nat} {s : State} (hb : a - a % 0x80 + 0x4C = b) :
    exec (.canData15Read p a) s = .next { s with dev := s.dev.readReg (pairMaster p) (some (s.dev.pairLocker p)) b } := by
  subst hb
  rfl

/-! The accesses as commands. -/

/-- A write of a present register with no behaviour of its own. Its write rights and W1C bits are those of log entry 30. -/
theorem exec_registerWrite_plain {a : Nat} (v : Word) {s : State} (hp : s.dev.absentAt a = false)
    (ha : a ∉ [A.acqCtl, A.acqFilt, A.acqStretch, A.acqValcfg, A.acqCalctl, A.cnpyBalen0, A.cnpyBalen1, A.cnpyImpctl])
    (hu : a ∉ [A.logUcode 0, A.logUcode 1]) : exec (.registerWrite a v) s = .next { s with dev := s.dev.plainWrite a v } := by
  rw [← Dev.ctlWrite_plain v hp ha hu]
  rfl

/-- The device after a clearing read of event counter `e`. -/
theorem exec_rcCounterRead (m : Master) {e : Nat} (s : State) (he : e < 384) :
    ∃ t, exec (.rcCounterRead m (A.evtCnt e)) s = .next t ∧ t.dev.readData = s.dev.reg (A.evtCnt e) ∧
      t.dev.reg (A.evtCnt e) = (if m ≠ .fsp ∧ s.dev.rbit A.evtCntctl 0 = true then 0 else s.dev.reg (A.evtCnt e)) ∧
      (∀ k, k ≠ A.evtCnt e → t.dev.reg k = s.dev.reg k) ∧ DevOnly s t := by
  have read := Dev.readReg_evtCnt s.dev m he
  rw [Dev.clearRead_evtCnt s.dev m he] at read
  refine ⟨{ s with dev := s.dev.readReg m none (A.evtCnt e) }, rfl, ?_, ?_, fun k hk => ?_, rfl, rfl⟩
  · rw [read]
  · rw [read]
    split
    · exact Dev.reg_setReg _ _ _
    · rfl
  · rw [read]
    split
    · exact Dev.reg_setReg_other _ _ hk
    · rfl

/-- A write of CALCTL sets MASK, and START only asks for a run (log entry 23). -/
theorem exec_registerWrite_calctl (v : Word) (s : State) :
    ∃ t, exec (.registerWrite A.acqCalctl v) s = .next t ∧ DevOnly s t ∧ (∀ k, k ≠ A.acqCalctl → t.dev.reg k = s.dev.reg k) ∧
      t.dev.fld A.acqCalctl 7 4 = v.field 7 4 ∧
      (s.dev.acq.cal = none → s.dev.acq.calReq = none → t.dev.acq.calReq = (if v.bit 0 then some (v.field 7 4) else none)) := by
  refine ⟨{ s with dev := s.dev.writeCalctl v }, ?_, ⟨rfl, rfl⟩, fun k hk => ?_, ?_, Dev.writeCalctl_calReq v⟩
  · rw [← Dev.ctlWrite_calctl]
    rfl
  · exact (Dev.reg_writeCalctl s.dev v k).trans (Dev.reg_plainWrite_other s.dev v hk)
  · rw [← Dev.fld_plainWrite_calctl s.dev v]
    unfold Dev.fld
    rw [Dev.reg_writeCalctl]

/-- What a command that only changed controller `c` by `f` and read `v` leaves. -/
theorem exec_readCan {i : Instr} {s : State} {c : Nat} {f : CanSt → CanSt} {v : Word}
    (h : exec i s = .next { s with dev := { s.dev.setCan c f with readData := v } }) :
    ∃ t, exec i s = .next t ∧ DevOnly s t ∧ t.dev.readData = v ∧ t.dev = { s.dev with cans := t.dev.cans, readData := t.dev.readData } ∧
      t.dev.can c = f (s.dev.can c) :=
  ⟨_, h, ⟨rfl, rfl⟩, rfl, rfl, Dev.can_setCan _ _ _⟩

/-- The lock reads of message object `m` by the pair `p`. -/
theorem exec_objRead (p : Nat) {c m o : Nat} {s : State} (hc : s.dev.hasCan c = true) (hm : m < 128) (ho : o < 0x80) {a : Nat}
    (ha : a = 0x400A2000 + 0x10000 * c + 0x80 * m + o) :
    (∃ t, exec (.canLockRead p a) s = .next t ∧ DevOnly s t ∧ t.dev.readData = BitVec.ofNat 32 (((s.dev.can c).obj m).words.getD 0 0) ∧
      t.dev = { s.dev with cans := t.dev.cans, readData := t.dev.readData } ∧
      t.dev.can c = (s.dev.can c).setObj m (fun x => x.afterRead (s.dev.pairLocker p) 0)) ∧
    ∃ t, exec (.canData15Read p a) s = .next t ∧ DevOnly s t ∧ t.dev.readData = BitVec.ofNat 32 (((s.dev.can c).obj m).words.getD 19 0) ∧
      t.dev = { s.dev with cans := t.dev.cans, readData := t.dev.readData } ∧
      t.dev.can c = (s.dev.can c).setObj m (fun x => x.afterRead (s.dev.pairLocker p) 19) := by
  have lock := exec_canLockRead (p := p) (b := 0x400A0000 + 0x10000 * c + (0x2000 + 0x80 * m + 4 * 0)) (s := s) (a := a) (by omega)
  have last := exec_canData15Read (p := p) (b := 0x400A0000 + 0x10000 * c + (0x2000 + 0x80 * m + 4 * 19)) (s := s) (a := a) (by omega)
  rw [Dev.readReg_obj _ _ hc hm (by omega)] at lock last
  exact ⟨exec_readCan lock, exec_readCan last⟩

/-- The lock reads of FIFO `i`, which holds an entry, by the pair `p`. -/
theorem exec_fifoRead (p : Nat) {c i o : Nat} {s : State} (hc : s.dev.hasCan c = true) (hi : i < 2) (ho : o < 0x80)
    (hsome : ((s.dev.can c).fifoHead i).isSome = true) {a : Nat} (ha : a = 0x400A6000 + 0x10000 * c + 0x80 * i + o) :
    (∃ t, exec (.canLockRead p a) s = .next t ∧ DevOnly s t ∧ t.dev = { s.dev with cans := t.dev.cans, readData := t.dev.readData } ∧
      t.dev.can c = (s.dev.can c).fifoRead i (s.dev.pairLocker p) 0) ∧
    ∃ t, exec (.canData15Read p a) s = .next t ∧ DevOnly s t ∧ t.dev = { s.dev with cans := t.dev.cans, readData := t.dev.readData } ∧
      t.dev.can c = (s.dev.can c).fifoRead i (s.dev.pairLocker p) 19 := by
  obtain ⟨ws, hws⟩ := Option.isSome_iff_exists.1 hsome
  have lock := exec_canLockRead (p := p) (b := 0x400A0000 + 0x10000 * c + (0x6000 + 0x80 * i + 4 * 0)) (s := s) (a := a) (by omega)
  have last := exec_canData15Read (p := p) (b := 0x400A0000 + 0x10000 * c + (0x6000 + 0x80 * i + 4 * 19)) (s := s) (a := a) (by omega)
  rw [Dev.readReg_fifo _ _ hc hi (by omega) hws] at lock last
  obtain ⟨t, hlock, hdev, -, hframe, hcan⟩ := exec_readCan lock
  obtain ⟨t', hlast, hdev', -, hframe', hcan'⟩ := exec_readCan last
  exact ⟨⟨t, hlock, hdev, hframe, hcan⟩, t', hlast, hdev', hframe', hcan'⟩

/-- Settles O39: each access by the lemma on it. -/
theorem plainRegisterAccess : Obligations.PlainRegisterAccess := by
  unfold Obligations.PlainRegisterAccess
  refine ⟨fun a v r s hp hr ha => ?_, fun a v s hp hr hu ha => ?_, fun m e s he => exec_rcCounterRead m s he,
    exec_registerWrite_calctl, fun p c m o s hc hm ho => exec_objRead p hc hm ho rfl,
    fun p c i o s hc hi ho hsome => exec_fifoRead p hc hi ho hsome rfl⟩
  case refine_1 =>
    have run := exec_registerWrite_plain v hp (fun h => ha (List.mem_append_left [A.logUcode 0, A.logUcode 1] h))
      (fun h => ha (List.mem_append_right [A.acqCtl, A.acqFilt, A.acqStretch, A.acqValcfg, A.acqCalctl, A.cnpyBalen0, A.cnpyBalen1, A.cnpyImpctl] h))
    exact ⟨_, run, ⟨rfl, rfl⟩, Dev.plainWrite_regs _ _ _, fun k hk => Dev.reg_plainWrite_other _ v hk, fun i hi => Dev.bit_plainWrite v hr hi⟩
  case refine_2 => rw [exec_registerWrite_plain v hp ha hu, Dev.plainWrite_none v hr]

end Sys2Proof.Machine
end

section
/-! The queue of waiting commands (01 R22): a step runs the front command, and no command refuses or changes the queue. -/

namespace Sys2Proof.Machine
open Sys2Proof

theorem Keeps.not_refused {s : State} {o : Out} (h : Keeps s o) (r : Refusal) : o ≠ .refused r := by
  rintro rfl
  exact h

/-- The queue that a kept answer hands on. -/
theorem Keeps.next_pending {s t : State} {o : Out} (h : Keeps s o) (ho : o = .next t) : t.pending = s.pending := by
  subst ho
  exact h.1

/-- Settles O4: every command is built of changes of the device and of memory (`exec_keeps`). -/
theorem execKeepsQueue : Obligations.ExecKeepsQueue :=
  fun c s => ⟨(exec_keeps c s).not_refused, fun _ ht => (exec_keeps c s).next_pending ht⟩

/-- Settles O1: the step on a queue with a front command. -/
theorem stepRunsFrontCommand : Obligations.StepRunsFrontCommand := fun _ _ _ => step_cons rfl

/-- Settles O2: the step on an empty queue, and the fields of the reset state. -/
theorem resetAndIdle : Obligations.ResetAndIdle := ⟨fun _ h => step_nil h, rfl, rfl, rfl⟩

end Sys2Proof.Machine
end

section
/-! What a publication writes (01 R24, 02 R61-R62): the published values change at the output's own key only. -/

namespace Sys2Proof.Machine
open Sys2Proof

theorem Dev.sameBut_pubs {d e : Dev} (h : Dev.sameBut d e) : e.pubs = d.pubs := by
  rw [h]

theorem Dev.raiseIf_pubs (d : Dev) (c : Bool) (e i : Nat) : (d.raiseIf c e i).pubs = d.pubs := by
  cases c
  · rfl
  · exact Dev.sameBut_pubs (d.sameBut_raise e i)

theorem Dev.drive_pubs (d : Dev) (n : Nat) (u : Int) : (d.drive n u).pubs = d.pubs := by
  unfold Dev.drive
  dsimp only
  split
  · rfl
  · split
    · rfl
    · split <;> rfl

theorem Dev.loopMode_pubs (d : Dev) (n m : Nat) : (d.loopMode n m).pubs = d.pubs := by
  unfold Dev.loopMode
  dsimp only
  split
  · exact Dev.drive_pubs _ _ _
  · rfl

/-- The value an output takes: the reserved mode 3 of class 4 is published as 0 (10 R367). -/
def OutVal.published (o : OutVal) : Word := if o.cls = 4 ∧ o.val.field 1 0 = 3 then 0 else o.val

/-- A publication sets the output's own key, and what follows from it leaves the published values. -/
theorem Dev.publish_pubs (d : Dev) (o : OutVal) :
    (d.publish o).pubs = FMap.set (fun _ => 0) d.pubs (65536 * o.cls + o.idx) o.published := by
  unfold Dev.publish
  extract_lets bad v key fresh written _ noted _ _ asked raised
  have hv : v = o.published := by simp [v, bad, OutVal.published]
  have hraised : raised.pubs = FMap.set (fun _ => 0) d.pubs (65536 * o.cls + o.idx) o.published := by
    have hasked : asked.pubs = written.pubs := by
      have hnoted : noted.pubs = written.pubs := by unfold noted; split <;> rfl
      rw [← hnoted]
      unfold asked
      split <;> rfl
    rw [show raised.pubs = asked.pubs from Dev.raiseIf_pubs _ _ _ _, hasked, ← hv]
  rw [← hraised]
  split
  · rfl
  · split
    · rfl
    · split
      · split
        · rfl
        · exact Dev.loopMode_pubs _ _ _
      · rfl

/-- Keys of outputs are told apart by class and index. -/
theorem outKey_inj {c i c' i' : Nat} (hi : i < 65536) (hi' : i' < 65536) : 65536 * c + i = 65536 * c' + i' ↔ (c, i) = (c', i') := by
  rw [Prod.mk.injEq]
  omega

/-- Settles O33: one key is written, and keys are told apart by class and index. -/
theorem publicationReachesOutput : Obligations.PublicationReachesOutput := by
  intro o d ho
  unfold Dev.pub
  rw [Dev.publish_pubs]
  refine ⟨FMap.get_set_same _ _ _ _, fun cls idx hidx hne => ?_⟩
  exact FMap.get_set_other _ _ _ fun hkey => hne ((outKey_inj hidx ho).1 hkey)

end Sys2Proof.Machine
end

section
/-! Fields of one register beside each other, and changes of the device that leave the plant: cores, published outputs, images and ring
ports. -/

namespace Sys2Proof.Machine
open Sys2Proof

/-! Fields of a word. -/

theorem Word.field_setField_same (w : Word) {hi lo : Nat} (v : Nat) (hw : hi < 32) (hl : lo ≤ hi) :
    (w.setField hi lo v).field hi lo = v % 2 ^ (hi + 1 - lo) := by
  refine Nat.eq_of_testBit_eq fun i => ?_
  rw [Word.field, Nat.testBit_mod_two_pow, Nat.testBit_mod_two_pow, Nat.testBit_shiftRight]
  by_cases h : i < hi + 1 - lo
  · have hbit : (w.setField hi lo v).toNat.testBit (lo + i) = v.testBit (lo + i - lo) := by
      have := Word.bit_setField w hi lo v (lo + i) hw hl (by omega)
      rwa [if_pos (by omega)] at this
    rw [hbit, Nat.add_sub_cancel_left]
  · simp [h]

theorem Word.field_setField_apart (w : Word) {hi lo hi' lo' : Nat} (v : Nat) (hw : hi < 32) (hl : lo ≤ hi) (hw' : hi' < 32)
    (h : hi < lo' ∨ hi' < lo) : (w.setField hi lo v).field hi' lo' = w.field hi' lo' :=
  Word.field_congr fun i _ _ => by rw [Word.bit_setField w hi lo v i hw hl (by omega), if_neg (by omega)]

/-! Fields of a register. -/

theorem Dev.fld_congr {d e : Dev} {a : Nat} (h : e.reg a = d.reg a) (hi lo : Nat) : e.fld a hi lo = d.fld a hi lo := by
  unfold Dev.fld
  rw [h]

theorem Dev.rbit_congr {d e : Dev} {a : Nat} (h : e.reg a = d.reg a) (i : Nat) : e.rbit a i = d.rbit a i := by
  unfold Dev.rbit
  rw [h]

theorem Dev.fld_setFld_same (d : Dev) (a : Nat) {hi lo : Nat} (v : Nat) (hw : hi < 32) (hl : lo ≤ hi) :
    (d.setFld a hi lo v).fld a hi lo = v % 2 ^ (hi + 1 - lo) := by
  unfold Dev.fld
  rw [Dev.reg_setFld]
  exact Word.field_setField_same _ v hw hl

theorem Dev.fld_setFld_apart (d : Dev) (a : Nat) {hi lo hi' lo' : Nat} (v : Nat) (hw : hi < 32) (hl : lo ≤ hi) (hw' : hi' < 32)
    (h : hi < lo' ∨ hi' < lo) : (d.setFld a hi lo v).fld a hi' lo' = d.fld a hi' lo' := by
  unfold Dev.fld
  rw [Dev.reg_setFld]
  exact Word.field_setField_apart _ v hw hl hw' h

theorem Dev.fld_setRbit_apart (d : Dev) (a : Nat) {i hi lo : Nat} (b : Bool) (hi' : i < 32) (hw : hi < 32) (h : i < lo ∨ hi < i) :
    (d.setRbit a i b).fld a hi lo = d.fld a hi lo :=
  Dev.fld_setFld_apart d a _ hi' (le_refl i) hw h

/-! Registers that a change leaves. -/

theorem RegsKept.trans {l : List Nat} {d e f : Dev} (h : RegsKept l d e) (k : RegsKept l e f) : RegsKept l d f :=
  fun a ha hl => (k a ha hl).trans (h a ha hl)

theorem RegsKept.of_regs (l : List Nat) {d e : Dev} (h : e.regs = d.regs) : RegsKept l d e := fun a _ _ => Dev.reg_congr h a

theorem RegsKept.setReg {l : List Nat} (d : Dev) {a : Nat} (v : Word) (h : a ∈ l) : RegsKept l d (d.setReg a v) :=
  fun _ _ hb => Dev.reg_setReg_other d v fun hab => hb (hab ▸ h)

/-- An event leaves every register outside EVT and LOG. -/
theorem Dev.reg_raise (d : Dev) {a e : Nat} (ha : evtArea a = false) (h : e < 384) (i : Nat) : (d.raise e i).reg a = d.reg a :=
  (d.raise_regsRaised h i).kept a ha List.not_mem_nil

theorem RegsKept.raise (l : List Nat) (d : Dev) {e : Nat} (h : e < 384) (i : Nat) : RegsKept l d (d.raise e i) :=
  fun _ ha _ => d.reg_raise ha h i

/-! The plant. -/

/-- Cores, published outputs, images and ring ports of the device are as before. -/
def PlantKept (d e : Dev) : Prop := e.k0 = d.k0 ∧ e.k1 = d.k1 ∧ e.pubs = d.pubs ∧ e.img = d.img ∧ e.ports = d.ports

theorem PlantKept.refl (d : Dev) : PlantKept d d := ⟨rfl, rfl, rfl, rfl, rfl⟩

theorem PlantKept.trans {d e f : Dev} (h : PlantKept d e) (k : PlantKept e f) : PlantKept d f := by
  obtain ⟨h0, h1, hp, hi, hr⟩ := h
  obtain ⟨k0, k1, kp, ki, kr⟩ := k
  exact ⟨k0.trans h0, k1.trans h1, kp.trans hp, ki.trans hi, kr.trans hr⟩

theorem PlantKept.setTime (d : Dev) (x : TimeSt) : PlantKept d { d with time := x } := PlantKept.refl d

theorem PlantKept.of_sameBut {d e : Dev} (h : Dev.sameBut d e) : PlantKept d e := by
  rw [h]
  exact PlantKept.refl _

theorem PlantKept.moorSend (d : Dev) (m : Mooring) : PlantKept d (d.moorSend m) := by
  unfold Dev.moorSend
  split
  · exact PlantKept.refl _
  · exact PlantKept.refl _

/-- A command that changes the device alone, and of it no part of the plant. -/
theorem PlantKept.plantOnly {s : State} {d : Dev} (h : PlantKept s.dev d) : PlantOnly s { s with dev := d } := ⟨⟨rfl, rfl⟩, h⟩

/-- Answers that change the device alone are told by the device. -/
theorem next_dev_congr {s : State} {d e : Dev} (h : d = e) : (.next { s with dev := d } : Out) = .next { s with dev := e } := by
  rw [h]

end Sys2Proof.Machine
end

section
/-! The next sampling instant is placed once, and with authority the coming scan is judged by it (01 R19-R20, 05 R165-R167). -/

namespace Sys2Proof.Machine
open Sys2Proof

/-! The judgement of the coming scan (05 R167). -/

/-- The coming scan is judged: FREECNT and FREERUN of ACQ.STAT as given, of the device otherwise only ACQ.STAT and events changed. -/
structure Judged (cnt : Nat) (run : Bool) (d e : Dev) : Prop where
  cnt : e.fld A.acqStat 7 0 = cnt
  run : e.rbit A.acqStat 31 = run
  same : Dev.sameBut d e
  kept : RegsKept [A.acqStat] d e

theorem evtArea_acqStat : evtArea A.acqStat = false := by decide

/-- FREECNT and FREERUN as they are set. -/
theorem Judged.set (d : Dev) {n : Nat} (hn : n < 256) (b : Bool) : Judged n b d ((d.setFld A.acqStat 7 0 n).setRbit A.acqStat 31 b) where
  cnt := by
    rw [Dev.fld_setRbit_apart _ _ _ (by decide) (by decide) (by decide), Dev.fld_setFld_same _ _ _ (by decide) (by decide)]
    exact Nat.mod_eq_of_lt hn
  run := by rw [Dev.rbit_setRbit _ _ _ _ _ (by decide) (by decide), if_pos rfl]
  same := rfl
  kept := (RegsKept.setReg d _ List.mem_cons_self).trans (RegsKept.setReg _ _ List.mem_cons_self)

/-- An event after the judgement. -/
theorem Judged.raise {n : Nat} {b : Bool} {d e : Dev} (h : Judged n b d e) {k : Nat} (hk : k < 384) (i : Nat) : Judged n b d (e.raise k i) where
  cnt := (Dev.fld_congr (e.reg_raise evtArea_acqStat hk i) 7 0).trans h.cnt
  run := (Dev.rbit_congr (e.reg_raise evtArea_acqStat hk i) 31).trans h.run
  same := Dev.sameBut_trans h.same (e.sameBut_raise k i)
  kept := h.kept.trans (RegsKept.raise _ e hk i)

/-- SYNCLOST set or cleared after the judgement. -/
theorem Judged.setLost {n : Nat} {b : Bool} {d e : Dev} (h : Judged n b d e) (c : Bool) : Judged n b d (e.setRbit A.acqStat 30 c) where
  cnt := (Dev.fld_setRbit_apart e _ _ (by decide) (by decide) (by decide)).trans h.cnt
  run := by rw [Dev.rbit_setRbit e _ _ _ _ (by decide) (by decide), if_neg (by decide), h.run]
  same := Dev.sameBut_trans h.same rfl
  kept := h.kept.trans (RegsKept.setReg e _ List.mem_cons_self)

theorem Dev.lockedScan_judged (d : Dev) : Judged 0 false d d.lockedScan := by
  have h := Judged.set d (n := 0) (by decide) false
  unfold Dev.lockedScan
  dsimp only
  split
  · exact (h.setLost false).raise (by decide) 0
  · exact h

theorem Dev.freeScan_judged (d : Dev) : Judged (min (d.fld A.acqStat 7 0 + 1) 255) true d d.freeScan := by
  have h := (Judged.set d (n := min (d.fld A.acqStat 7 0 + 1) 255) (by omega) true).raise (k := 128) (by decide) 0
  unfold Dev.freeScan
  dsimp only
  split
  · exact (h.setLost true).raise (by decide) 0
  · exact h

theorem Dev.sameBut_judgeScan (d : Dev) (free : Bool) : Dev.sameBut d (d.judgeScan free) := by
  cases free
  · exact d.lockedScan_judged.same
  · exact d.freeScan_judged.same

/-! The placing (01 R19, 05 R166; the order of the judgement and the message is log entry 13). -/

theorem Dev.sameBut_time {d e : Dev} (h : Dev.sameBut d e) : e.time = d.time := by
  rw [h]

/-- FREECNT after the judgement. -/
def Dev.judgedCount (d : Dev) (free : Bool) : Nat := if free then min (d.fld A.acqStat 7 0 + 1) 255 else 0

theorem Dev.judgeScan_judged (d : Dev) (free : Bool) : Judged (d.judgedCount free) free d (d.judgeScan free) := by
  cases free
  · exact d.lockedScan_judged
  · exact d.freeScan_judged

/-- The instant `t` is placed, `free` or not. A follower only holds it; any other device judges the scan. -/
structure Placed (t : Nat) (free : Bool) (d e : Dev) : Prop where
  instant : e.time.placed = some t
  freeRun : e.time.free = free
  plant : PlantKept d e
  follower : d.follows = true → e = { d with time := e.time }
  leader : d.follows = false → e.fld A.acqStat 7 0 = d.judgedCount free ∧ e.rbit A.acqStat 31 = free ∧ RegsKept [A.acqStat] d e

/-- The instant is placed on the device `d` whose clock is `x`. -/
theorem Dev.placeAt_placed (t : Nat) (free : Bool) (d : Dev) (x : TimeSt) : Placed t free d (Dev.placeAt t free { d with time := x }) := by
  have hf : ({ d with time := { x with placed := some t, free := free } } : Dev).follows = d.follows := rfl
  unfold Dev.placeAt
  dsimp only
  rw [hf]
  cases hd : d.follows with
  | true => exact ⟨rfl, rfl, PlantKept.refl d, fun _ => rfl, fun h => absurd (hd.symm.trans h) (by decide)⟩
  | false =>
    have judged := Dev.judgeScan_judged { d with time := { x with placed := some t, free := free } } free
    have htime := (Dev.moorSend_time _ (.instantAt t free)).trans (Dev.sameBut_time judged.same)
    have hregs := Dev.moorSend_regs (Dev.judgeScan free { d with time := { x with placed := some t, free := free } }) (.instantAt t free)
    refine ⟨congrArg TimeSt.placed htime, congrArg TimeSt.free htime,
      (PlantKept.of_sameBut judged.same).trans (PlantKept.moorSend _ _), fun h => absurd (hd.symm.trans h) (by decide), fun _ => ⟨?_, ?_, ?_⟩⟩
    · exact (Dev.fld_congr (Dev.reg_congr hregs _) 7 0).trans judged.cnt
    · exact (Dev.rbit_congr (Dev.reg_congr hregs _) 31).trans judged.run
    · exact judged.kept.trans (RegsKept.of_regs _ hregs)

/-! The commands that place an instant. -/

theorem exec_pcsSyncEdge_inside {s : State} {u : Nat} (hs : s.dev.time.scanning = true) (hp : s.dev.time.placed = none)
    (hlo : s.dev.time.nextN ≤ u + s.dev.time.off) (hhi : u + s.dev.time.off ≤ s.dev.time.nextN + 100000) :
    exec (.pcsSyncEdge u) s = .next { s with dev := (s.dev.at u).placeAt (u + s.dev.time.off) false } := by
  change execPcsSyncEdge u s = _
  simp [execPcsSyncEdge, Dev.at, hs, hp, hlo, hhi]

theorem exec_pcsSyncEdge_outside {s : State} {u : Nat}
    (h : u + s.dev.time.off < s.dev.time.nextN ∨ s.dev.time.nextN + 100000 < u + s.dev.time.off) :
    exec (.pcsSyncEdge u) s = .next { s with dev := s.dev.at u } := by
  refine next_dev_congr (if_neg fun hin => ?_)
  simp only [Bool.and_eq_true, decide_eq_true_eq] at hin
  obtain ⟨-, hlo, hhi⟩ := hin
  change s.dev.time.nextN ≤ u + s.dev.time.off at hlo
  change u + s.dev.time.off ≤ s.dev.time.nextN + 100000 at hhi
  omega

theorem exec_captureWindowClose {s : State} (hs : s.dev.time.scanning = true) (hp : s.dev.time.placed = none) :
    exec .captureWindowClose s =
      .next { s with dev := (s.dev.at (s.dev.time.nextN - s.dev.time.off + 100000)).placeAt s.dev.time.nextN true } := by
  change execCaptureWindowClose s = _
  simp [execCaptureWindowClose, hs, hp]

/-- A follower without a message goes over to its own instant (05 R166). -/
theorem exec_instantLocalDeadline {s : State} (hf : s.dev.follows = true) (hs : s.dev.time.scanning = true) (hm : s.dev.time.msg = false)
    (hl : s.dev.time.instLocal = false) :
    exec .instantLocalDeadline s = .next { s with dev := (s.dev.at (s.dev.time.next - 34000)).goLocal } := by
  change execInstantLocalDeadline s = _
  simp [execInstantLocalDeadline, hf, hs, hm, hl]

/-- The clock with its own instant chosen: the one it holds, or N. -/
def TimeSt.local_ (x : TimeSt) : TimeSt :=
  { (if x.placed.isNone then { x with placed := some x.nextN, free := true } else x) with instLocal := true }

theorem Dev.goLocal_eq (d : Dev) : d.goLocal = (Dev.judgeScan d.time.local_.free { d with time := d.time.local_ }).raise 134 0 := rfl

/-- Event 134 and a judged scan are all that the choice leaves beside the clock. -/
theorem Dev.sameBut_goLocal (d : Dev) : Dev.sameBut { d with time := d.time.local_ } d.goLocal := by
  rw [Dev.goLocal_eq]
  exact Dev.sameBut_trans (Dev.sameBut_judgeScan _ _) (Dev.sameBut_raise _ _ _)

theorem Dev.goLocal_pending (d : Dev) : d.goLocal.eventPending 134 = true := by
  rw [Dev.goLocal_eq]
  exact Dev.raise_pending _ (by decide) 0

end Sys2Proof.Machine
end

section
/-! H and S before the instant (01 R20, 05 R120): time moves on, and only modules that run a balance-switch test change (06 R209). -/

namespace Sys2Proof.Machine
open Sys2Proof

theorem Port.mod_setMod (p : Port) (h k : Nat) (f : Module → Module) : (p.setMod h f).mod k = if k = h then f (p.mod h) else p.mod k :=
  FMap.get_set _ _ _ _ _

theorem Dev.port_setPort_ite (d : Dev) (n m : Nat) (f : Port → Port) : (d.setPort n f).port m = if m = n then f (d.port n) else d.port m :=
  FMap.get_set _ _ _ _ _

/-- Only ring ports changed, and of their modules only those that ran a balance-switch test. -/
def TestsOnly (d e : Dev) : Prop :=
  e = { d with ports := e.ports } ∧ ∀ n h, ((d.port n).mod h).test = none → (e.port n).mod h = (d.port n).mod h

theorem TestsOnly.refl (d : Dev) : TestsOnly d d := ⟨rfl, fun _ _ _ => rfl⟩

theorem TestsOnly.trans {d e f : Dev} (h : TestsOnly d e) (k : TestsOnly e f) : TestsOnly d f := by
  obtain ⟨he, hm⟩ := h
  obtain ⟨hf, km⟩ := k
  refine ⟨by rw [hf, he], fun n i ht => ?_⟩
  have hi := hm n i ht
  exact (km n i (by rw [hi, ht])).trans hi

/-- A module that runs a test changes. -/
theorem TestsOnly.setMod (d : Dev) {n h : Nat} (f : Module → Module) (ht : ((d.port n).mod h).test.isSome = true) :
    TestsOnly d (d.setPort n (Port.setMod h f)) := by
  refine ⟨rfl, fun m k hk => ?_⟩
  rw [Dev.port_setPort_ite]
  split
  case isFalse => rfl
  case isTrue hm =>
    subst hm
    rw [Port.mod_setMod, if_neg]
    rintro rfl
    rw [hk] at ht
    cases ht

theorem TestsOnly.fold {α : Type} (l : List α) (f : α → Dev → Dev) (d : Dev) (h : ∀ a e, TestsOnly e (f a e)) : TestsOnly d (foldOver l f d) :=
  foldOver_keeps (TestsOnly d) l f d (fun a e he => he.trans (h a e)) (TestsOnly.refl d)

theorem Dev.mapTests_testsOnly (f : Module → Module) (d : Dev) : TestsOnly d (d.mapTests f) := by
  refine TestsOnly.fold _ _ _ fun n e => TestsOnly.fold _ _ _ fun h e => ?_
  split
  case isTrue ht => exact TestsOnly.setMod e f ht
  case isFalse => exact TestsOnly.refl e

theorem Dev.groupPasses_testsOnly (d : Dev) : TestsOnly d d.groupPasses := by
  unfold Dev.groupPasses
  split
  · exact Dev.mapTests_testsOnly _ d
  · exact TestsOnly.refl d

/-- A launch of code groups moved time to `t` at least and set its mark where this device launches. -/
structure Launched (t : Nat) (mark : TimeSt → TimeSt) (d e : Dev) : Prop where
  time : e.time = if d.launchesGroups then mark (d.at t).time else (d.at t).time
  frame : e = { d with time := e.time, ports := e.ports }
  mods : ∀ n h, ((d.port n).mod h).test = none → (e.port n).mod h = (d.port n).mod h

/-- The launch, before the groups pass the modules. -/
def Dev.marked (t : Nat) (mark : TimeSt → TimeSt) (d : Dev) : Dev :=
  if (d.at t).launchesGroups then { d.at t with time := mark (d.at t).time } else d.at t

theorem Dev.marked_groupPasses (t : Nat) (mark : TimeSt → TimeSt) (d : Dev) : Launched t mark d (d.marked t mark).groupPasses := by
  have hmark : d.marked t mark = { d with time := if d.launchesGroups then mark (d.at t).time else (d.at t).time } := by
    have hl : (d.at t).launchesGroups = d.launchesGroups := rfl
    unfold Dev.marked
    rw [hl]
    split <;> rfl
  obtain ⟨hframe, hmods⟩ := Dev.groupPasses_testsOnly (d.marked t mark)
  rw [hmark] at hframe hmods ⊢
  exact ⟨congrArg Dev.time hframe, by rw [hframe], hmods⟩

theorem exec_quietLaunch (s : State) :
    exec .quietLaunch s =
      .next { s with dev := (s.dev.marked (s.dev.time.next - 52000) fun x => { x with quietDone := true }).groupPasses } := rfl

theorem exec_syncLaunch (s : State) :
    exec .syncLaunch s =
      .next { s with dev := (s.dev.marked (s.dev.time.next - 32000) fun x => { x with syncDone := true }).groupPasses } := rfl

/-- A mark leaves the time as it is. -/
theorem Launched.now {t : Nat} {mark : TimeSt → TimeSt} {d e : Dev} (h : Launched t mark d e) (hm : ∀ x, (mark x).now = x.now) :
    e.time.now = max d.time.now t := by
  rw [h.time]
  split
  · exact hm _
  · rfl

/-- Settles O30: the placings by `Dev.placeAt_placed`, the launches by `Dev.marked_groupPasses`. -/
theorem instantPlacement : Obligations.InstantPlacement := by
  refine ⟨fun u s hs hp => ⟨fun hlo hhi => ?_, fun hout => exec_pcsSyncEdge_outside hout, ?_⟩, fun s htwin hauth hs hm hl => ?_, fun s => ?_,
    fun s => ?_⟩
  · have h := Dev.placeAt_placed (u + s.dev.time.off) false s.dev (s.dev.at u).time
    exact ⟨_, exec_pcsSyncEdge_inside hs hp hlo hhi, h.instant, h.freeRun, h.plant.plantOnly, h.follower, h.leader⟩
  · have h := Dev.placeAt_placed s.dev.time.nextN true s.dev (s.dev.at (s.dev.time.nextN - s.dev.time.off + 100000)).time
    exact ⟨_, exec_captureWindowClose hs hp, h.instant, h.freeRun, h.plant.plantOnly, h.follower, h.leader⟩
  · have hf : s.dev.follows = true := by simp [Dev.follows, htwin, hauth]
    have same := Dev.sameBut_goLocal (s.dev.at (s.dev.time.next - 34000))
    have plant : PlantKept s.dev (s.dev.at (s.dev.time.next - 34000)).goLocal :=
      (PlantKept.setTime s.dev _).trans (PlantKept.of_sameBut same)
    exact ⟨_, exec_instantLocalDeadline hf hs hm hl, congrArg TimeSt.instLocal (Dev.sameBut_time same), Dev.goLocal_pending _,
      plant.plantOnly⟩
  · have h := Dev.marked_groupPasses (s.dev.time.next - 52000) (fun x => { x with quietDone := true }) s.dev
    refine ⟨_, exec_quietLaunch s, h.now fun _ => rfl, h.frame, fun hl => ?_, h.mods, rfl, rfl⟩
    rw [h.time, if_pos hl]
  · have h := Dev.marked_groupPasses (s.dev.time.next - 32000) (fun x => { x with syncDone := true }) s.dev
    refine ⟨_, exec_syncLaunch s, h.now fun _ => rfl, h.frame, fun hl => ?_, h.mods, rfl, rfl⟩
    rw [h.time, if_pos hl]

end Sys2Proof.Machine
end

section
/-! The sampling instant counts the scan and computes the next nominal instant, and leaves cores and outputs (01 R18-R22, 05 R194). -/

namespace Sys2Proof.Machine
open Sys2Proof

/-- Cores, published outputs and the scan number are as before. -/
structure RunKept (d e : Dev) : Prop where
  k0 : e.k0 = d.k0
  k1 : e.k1 = d.k1
  pubs : e.pubs = d.pubs
  scan : e.reg A.acqScan = d.reg A.acqScan

theorem RunKept.refl (d : Dev) : RunKept d d := ⟨rfl, rfl, rfl, rfl⟩

theorem RunKept.trans {d e f : Dev} (h : RunKept d e) (k : RunKept e f) : RunKept d f :=
  ⟨k.k0.trans h.k0, k.k1.trans h.k1, k.pubs.trans h.pubs, k.scan.trans h.scan⟩

theorem RunKept.setReg (d : Dev) {a : Nat} (v : Word) (h : A.acqScan ≠ a) : RunKept d (d.setReg a v) :=
  ⟨rfl, rfl, rfl, Dev.reg_setReg_other d v h⟩

/-- Events and log records. -/
theorem RunKept.of_raised {l : List Nat} {d e : Dev} (h : Dev.sameBut d e) (k : RegsRaised l d e) : RunKept d e := by
  have hscan := k.kept A.acqScan (by decide) List.not_mem_nil
  obtain ⟨h0, h1, hp, -⟩ := PlantKept.of_sameBut h
  exact ⟨h0, h1, hp, hscan⟩

theorem RunKept.raise (d : Dev) {e : Nat} (h : e < 384) (i : Nat) : RunKept d (d.raise e i) :=
  RunKept.of_raised (d.sameBut_raise e i) (d.raise_regsRaised h i)

theorem RunKept.moorSend (d : Dev) (m : Mooring) : RunKept d (d.moorSend m) :=
  ⟨Dev.moorSend_k0 d m, Dev.moorSend_k1 d m, Dev.moorSend_pubs d m, Dev.reg_congr (Dev.moorSend_regs d m) _⟩

/-- A change of the acquisition unit. -/
theorem RunKept.setAcq (d : Dev) (q : AcqSt) : RunKept d { d with acq := q } := ⟨rfl, rfl, rfl, rfl⟩

theorem RunKept.setFld (d : Dev) {a : Nat} (hi lo v : Nat) (h : A.acqScan ≠ a) : RunKept d (d.setFld a hi lo v) := RunKept.setReg d _ h

theorem RunKept.raiseNoLog (d : Dev) {e : Nat} (h : e < 384) : RunKept d (d.raiseNoLog e) :=
  RunKept.of_raised (d.sameBut_raiseBase e) (d.raiseBase_regsRaised h)

theorem RunKept.logRec (d : Dev) (ty e : Nat) (b : List Nat) (m : List (List Nat)) : RunKept d (d.logRec ty e b m) :=
  RunKept.of_raised (d.sameBut_logRec ty e b m) (d.logRec_regsRaised ty e b m)

theorem RunKept.calEnd (st mask : Nat) (d : Dev) : RunKept d (d.calEnd st mask) := by
  have noted : RunKept d ((d.setFld A.acqCalstat 2 0 st).raiseNoLog 131) :=
    (RunKept.setFld d 2 0 st (by decide)).trans (RunKept.raiseNoLog _ (by decide))
  exact (noted.trans (RunKept.setAcq _ _)).trans (RunKept.logRec _ 4 131 _ [])

theorem RunKept.applyCal (d : Dev) : RunKept d d.applyCal := by
  unfold Dev.applyCal
  split
  · exact RunKept.refl d
  · exact ((RunKept.setAcq d _).trans (RunKept.setFld _ 7 4 _ (by decide))).trans (RunKept.calEnd 2 _ _)

theorem RunKept.stretchStep (d : Dev) : RunKept d d.stretchStep := by
  have turned : ∀ (x : TimeSt) (b : Bool), RunKept d ((({ d with time := x } : Dev).setRbit A.acqStat 29 b).raise 130 0) := fun x b =>
    RunKept.trans (e := ({ d with time := x } : Dev).setRbit A.acqStat 29 b) ⟨rfl, rfl, rfl, Dev.reg_setRbit_other _ _ _ (by decide)⟩
      (RunKept.raise _ (by decide) 0)
  unfold Dev.stretchStep
  dsimp only
  split
  · exact turned _ false
  · split
    · exact turned _ true
    · exact ⟨rfl, rfl, rfl, rfl⟩

/-! After the clock is set for the new scan, what follows leaves it. -/

/-- Cores, outputs, scan number and clock are as before. -/
def ClockKept (d e : Dev) : Prop := RunKept d e ∧ e.time = d.time

theorem ClockKept.refl (d : Dev) : ClockKept d d := ⟨RunKept.refl d, rfl⟩

theorem ClockKept.trans {d e f : Dev} (h : ClockKept d e) (k : ClockKept e f) : ClockKept d f := ⟨h.1.trans k.1, k.2.trans h.2⟩

theorem ClockKept.moorSend (d : Dev) (m : Mooring) : ClockKept d (d.moorSend m) := ⟨RunKept.moorSend d m, Dev.moorSend_time d m⟩

theorem ClockKept.tellStretch (d : Dev) : ClockKept d d.tellStretch := by
  unfold Dev.tellStretch
  split
  · exact ClockKept.moorSend d _
  · exact ClockKept.refl d

theorem ClockKept.mapTests (f : Module → Module) (d : Dev) : ClockKept d (d.mapTests f) := by
  have h := (Dev.mapTests_testsOnly f d).1
  rw [h]
  exact ⟨⟨rfl, rfl, rfl, rfl⟩, rfl⟩

theorem ClockKept.copyFlags (d : Dev) : ClockKept d d.copyFlags := by
  refine ClockKept.trans ?_ (ClockKept.moorSend _ _)
  exact foldOver_keeps (ClockKept d) _ _ d (fun _ _ h => h.trans ⟨⟨rfl, rfl, rfl, rfl⟩, rfl⟩) (ClockKept.refl d)

theorem ClockKept.tellEvents (d : Dev) : ClockKept d d.tellEvents := by
  unfold Dev.tellEvents
  split
  · exact ClockKept.refl d
  · exact ClockKept.moorSend d _

/-- A new scan has begun at the instant that was placed, or nominal. -/
structure ScanBegun (d e : Dev) : Prop where
  scan : e.scan = (d.scan + 1) % 2 ^ 32
  inst : e.time.inst = d.time.next
  nextN : e.time.nextN = d.time.next + e.time.per
  placed : e.time.placed = none
  k0 : e.k0 = d.k0
  k1 : e.k1 = d.k1
  pubs : e.pubs = d.pubs

/-- What follows leaves the scan that has begun. -/
theorem ScanBegun.then {d e f : Dev} (h : ScanBegun d e) (k : ClockKept e f) : ScanBegun d f := by
  obtain ⟨kept, htime⟩ := k
  refine ⟨?_, ?_, ?_, ?_, kept.k0.trans h.k0, kept.k1.trans h.k1, kept.pubs.trans h.pubs⟩
  · unfold Dev.scan
    rw [kept.scan]
    exact h.scan
  · rw [htime, h.inst]
  · rw [htime, h.nextN]
  · rw [htime, h.placed]

theorem Dev.instant_begun (d : Dev) : ScanBegun d d.instant := by
  have before : RunKept d ((d.at d.time.next).newAgreement.stretchStep.applyCal) :=
    RunKept.trans (e := (d.at d.time.next).newAgreement) ⟨rfl, rfl, rfl, rfl⟩ ((RunKept.stretchStep _).trans (RunKept.applyCal _))
  unfold Dev.instant
  extract_lets inst prepared scan counted hdr per off x _ _ _ _ _ begun told
  have hbegun : ScanBegun d begun := by
    have hscan : counted.scan = (d.scan + 1) % 2 ^ 32 := by
      have hprepared : prepared.scan = d.scan := congrArg BitVec.toNat before.scan
      have hword : counted.reg A.acqScan = BitVec.ofNat 32 scan := Dev.reg_setReg _ _ _
      unfold Dev.scan at *
      rw [hword, BitVec.toNat_ofNat, ← hprepared]
      exact Nat.mod_mod _ _
    exact ⟨hscan, rfl, rfl, rfl, before.k0, before.k1, before.pubs⟩
  have htold : ClockKept begun told := by
    unfold told
    split
    · exact ClockKept.refl begun
    · exact ClockKept.tellStretch begun
  exact hbegun.then (((htold.trans (ClockKept.mapTests _ _)).trans (ClockKept.copyFlags _)).trans (ClockKept.tellEvents _))

theorem exec_samplingInstant_scanning {s : State} (h : s.dev.time.scanning = true) :
    exec .samplingInstant s = .next { s with dev := s.dev.instant } :=
  next_dev_congr (if_pos h)

theorem exec_samplingInstant_idle {s : State} (h : s.dev.time.scanning = false) : exec .samplingInstant s = .next s :=
  next_dev_congr (if_neg (by rw [h]; decide))

end Sys2Proof.Machine
end

section
/-! The scan frame leaves on the rings that this device scans (01 R22, 04 R126-R127, R150). -/

namespace Sys2Proof.Machine
open Sys2Proof

/-! What a keep-alive frame does to the head (04 R150). -/

theorem Head.drop_kato (now : Nat) (h : Head) : (h.drop now).kato = h.kato := by
  unfold Head.drop
  extract_lets g
  have hg : g.kato = h.kato := by
    unfold g
    split <;> rfl
  split
  · exact hg
  · split
    · exact hg
    · exact hg

theorem Head.expire_kato (now : Nat) (h : Head) : (h.expire now).kato = h.kato := by
  unfold Head.expire
  dsimp only
  split
  · exact Head.drop_kato now h
  · exact Head.drop_kato now h

theorem Head.keepAlive_kato (now : Nat) (h : Head) : (h.keepAlive now).kato = h.kato := Head.expire_kato now h

/-- The timer restarts from KATO. -/
theorem Head.keepAlive_karem (now : Nat) (h : Head) : (h.keepAlive now).karem = h.kato := Head.expire_kato now h

/-! What a frame does to a port whose modules it passes. -/

/-- Only modules changed. -/
def ModsOnly (p q : Port) : Prop := q = { p with mods := q.mods }

theorem ModsOnly.trans {p q r : Port} (h : ModsOnly p q) (k : ModsOnly q r) : ModsOnly p r := by
  unfold ModsOnly at *
  rw [k, h]

theorem ModsOnly.setMods (l : List Nat) (f : Module → Module) (p : Port) : ModsOnly p (foldOver l (fun h q => q.setMod h f) p) :=
  foldOver_keeps (ModsOnly p) l _ p (fun _ _ h => h.trans rfl) rfl

/-- A port after a frame has passed its modules, and its head has heard it or not. -/
structure FramePassed (now : Nat) (heard : Prop) (p q : Port) : Prop where
  lastKeep : q.lastKeep = p.lastKeep
  scanOut : q.scanOut = p.scanOut
  hears : heard → q.head = p.head.keepAlive now
  deaf : ¬ heard → q.head = p.head

theorem Port.heard_passed (now : Nat) (hops bad : List Nat) (p : Port) : FramePassed now (1 ∈ hops ∧ 1 ∉ bad) p (p.heard now hops bad) := by
  unfold Port.heard
  extract_lets q good r
  have hr : ModsOnly p r := (ModsOnly.setMods bad _ p).trans (ModsOnly.setMods _ _ q)
  have hgood : good 1 = true ↔ 1 ∈ hops ∧ 1 ∉ bad := by simp [good]
  rw [hr]
  split
  case isTrue h => exact ⟨rfl, rfl, fun _ => rfl, fun hdeaf => absurd (hgood.1 h) hdeaf⟩
  case isFalse h => exact ⟨rfl, rfl, fun hheard => absurd (hgood.2 hheard) h, fun _ => rfl⟩

/-- The header of a frame that `cut` modules at most pass reaches hop 1 of ring `n`, and arrives right there. -/
def Dev.headHears (d : Dev) (n : Nat) (dirB : Bool) (cut : Option Nat) (bad : List Nat) : Prop :=
  1 ∈ (span 1 (min (d.passes dirB n) (cut.getD 64))).map (wireHop dirB (d.ringL n)) ∧
    1 ∉ hdrBadHops dirB (d.ringL n) (min (d.passes dirB n) (cut.getD 64)) bad

theorem Dev.frameHeard_passed (n : Nat) (dirB : Bool) (cut : Option Nat) (bad : List Nat) (d : Dev) :
    FramePassed d.time.now (d.headHears n dirB cut bad) (d.port n) ((d.frameHeard n dirB cut bad).port n) := by
  unfold Dev.frameHeard
  dsimp only
  rw [Dev.port_setPort]
  exact Port.heard_passed _ _ _ _

theorem FramePassed.kato {now : Nat} {heard : Prop} {p q : Port} (h : FramePassed now heard p q) : q.head.kato = p.head.kato := by
  by_cases hh : heard
  · rw [h.hears hh, Head.keepAlive_kato]
  · rw [h.deaf hh]

/-! One ring after the other. -/

/-- Only port `n` changed. -/
def OnlyPort (n : Nat) (d e : Dev) : Prop := e = { d with ports := e.ports } ∧ ∀ k, k ≠ n → e.port k = d.port k

theorem OnlyPort.refl (n : Nat) (d : Dev) : OnlyPort n d d := ⟨rfl, fun _ _ => rfl⟩

theorem OnlyPort.trans {n : Nat} {d e f : Dev} (h : OnlyPort n d e) (k : OnlyPort n e f) : OnlyPort n d f := by
  obtain ⟨he, hk⟩ := h
  obtain ⟨hf, kk⟩ := k
  exact ⟨by rw [hf, he], fun m hm => (kk m hm).trans (hk m hm)⟩

theorem OnlyPort.setPort (n : Nat) (d : Dev) (f : Port → Port) : OnlyPort n d (d.setPort n f) :=
  ⟨rfl, fun _ hk => Dev.port_setPort_other d f hk⟩

/-- Only ports changed, and of them not port `n`. -/
def OtherPorts (n : Nat) (d e : Dev) : Prop := e = { d with ports := e.ports } ∧ e.port n = d.port n

/-- Steps that each change their own port leave port `n` to its own step. -/
theorem OtherPorts.fold {f : Nat → Dev → Dev} (hf : ∀ m e, OnlyPort m e (f m e)) {n : Nat} {l : List Nat} (hn : n ∉ l) (d : Dev) :
    OtherPorts n d (foldOver l f d) := by
  induction l generalizing d with
  | nil => exact ⟨rfl, rfl⟩
  | cons m rest ih =>
    obtain ⟨hm, hport⟩ := hf m d
    obtain ⟨hrest, hkept⟩ := ih (fun h => hn (List.mem_cons_of_mem m h)) (f m d)
    rw [foldOver_cons]
    refine ⟨by rw [hrest, hm], hkept.trans (hport n ?_)⟩
    rintro rfl
    exact hn List.mem_cons_self

/-- The port `n` of a fold over all rings is that of its own step, on a device that has the port and all but the ports as before. -/
theorem foldOver_ownStep {f : Nat → Dev → Dev} (hf : ∀ m e, OnlyPort m e (f m e)) {n k : Nat} (hn : n < k) (d : Dev) :
    ∃ e, OtherPorts n d e ∧ (foldOver (List.range k) f d).port n = (f n e).port n := by
  obtain ⟨before, after, hsplit⟩ := List.append_of_mem (List.mem_range.2 hn)
  have hnodup : (before ++ n :: after).Nodup := hsplit ▸ List.nodup_range
  have hb : n ∉ before := fun h => (List.nodup_append.1 hnodup).2.2 n h n List.mem_cons_self rfl
  have ha : n ∉ after := (List.nodup_cons.1 (List.nodup_append.1 hnodup).2.1).1
  refine ⟨foldOver before f d, OtherPorts.fold hf hb d, ?_⟩
  have hfold : foldOver (List.range k) f d = foldOver after f (f n (foldOver before f d)) := by
    rw [hsplit]
    exact List.foldl_append
  rw [hfold]
  exact (OtherPorts.fold hf ha _).2

theorem foldOver_ports {α : Type} (l : List α) (f : α → Dev → Dev) (d : Dev) (hf : ∀ a e, f a e = { e with ports := (f a e).ports }) :
    foldOver l f d = { d with ports := (foldOver l f d).ports } :=
  foldOver_keeps (fun e => e = { d with ports := e.ports }) l f d (fun a e he => by rw [hf a e, he]) rfl

/-! The launch of the scan frames (04 R126). -/

/-- The scan frames of ring `n` leave: that of the partner passes, and this device's own. -/
def Dev.launchRing (bad cut : List (Nat × Nat)) (n : Nat) (d : Dev) : Dev :=
  let e := if d.farScans n then d.frameHeard n (!d.atEndB) (forRing n cut).head? (forRing n bad) else d
  if d.scans n then e.launchScan n (forRing n cut).head? (forRing n bad) else e

theorem exec_scanFrameLaunch (bad cut : List (Nat × Nat)) (s : State) :
    exec (.scanFrameLaunch bad cut) s =
      .next { s with dev := foldOver (List.range s.dev.rings) (Dev.launchRing bad cut) (s.dev.at (s.dev.time.inst + 60000)) } := rfl

theorem Dev.launchRing_onlyPort (bad cut : List (Nat × Nat)) (n : Nat) (d : Dev) : OnlyPort n d (d.launchRing bad cut n) := by
  have far : OnlyPort n d (if d.farScans n then d.frameHeard n (!d.atEndB) (forRing n cut).head? (forRing n bad) else d) := by
    split
    · exact OnlyPort.setPort n d _
    · exact OnlyPort.refl n d
  unfold Dev.launchRing
  dsimp only
  split
  · exact far.trans ((OnlyPort.setPort n _ _).trans (OnlyPort.setPort n _ _))
  · exact far

/-- The port of a ring whose scan frame has left at `now`, and whose head has heard it or not. -/
structure ScanLeft (now : Nat) (heard : Prop) (p q : Port) : Prop where
  lastKeep : q.lastKeep = now
  scanOut : q.scanOut = true
  karem : heard → q.head.karem = p.head.kato
  kaT : heard → q.head.kaT = now
  deaf : ¬ heard → q.head = p.head

theorem Dev.launchScan_left (n : Nat) (cut : Option Nat) (bad : List Nat) (d : Dev) :
    ScanLeft d.time.now (d.headHears n d.atEndB cut bad) (d.port n) ((d.launchScan n cut bad).port n) := by
  unfold Dev.launchScan
  extract_lets e
  have passed := Dev.frameHeard_passed n e.atEndB cut bad e
  have hport : e.port n = { d.port n with
      lastKeep := d.time.now, frame := scanFrame d.atEndB (d.slotCount d.atEndB n) d.scan, scanOut := true, scanBack := false } :=
    Dev.port_setPort _ _ _
  have hears : e.headHears n e.atEndB cut bad = d.headHears n d.atEndB cut bad := rfl
  rw [hears, hport] at passed
  refine ⟨passed.lastKeep, passed.scanOut, fun h => ?_, fun h => ?_, passed.deaf⟩
  · rw [passed.hears h]
    exact Head.keepAlive_karem _ _
  · rw [passed.hears h]
    rfl

/-- What the rings' states tell of a frame does not depend on the ports, nor on time. -/
theorem Dev.headHears_ports (d : Dev) (x : TimeSt) (ps : FMap Port) (n : Nat) (dirB : Bool) (cut : Option Nat) (bad : List Nat) :
    ({ d with time := x, ports := ps } : Dev).headHears n dirB cut bad = d.headHears n dirB cut bad := rfl

/-- The frame of the partner, if any, passes before this device's own leaves, and keeps KATO. -/
theorem Dev.launchRing_left (bad cut : List (Nat × Nat)) {n : Nat} {d : Dev} (h : d.scans n = true) :
    ∃ p : Port, p.head.kato = (d.port n).head.kato ∧ (d.farScans n = false → p = d.port n) ∧
      ScanLeft d.time.now (d.headHears n d.atEndB (forRing n cut).head? (forRing n bad)) p ((d.launchRing bad cut n).port n) := by
  unfold Dev.launchRing
  dsimp only
  rw [if_pos h]
  cases hfar : d.farScans n with
  | false => exact ⟨d.port n, rfl, fun _ => rfl, Dev.launchScan_left n _ _ d⟩
  | true =>
    have passed := Dev.frameHeard_passed n (!d.atEndB) (forRing n cut).head? (forRing n bad) d
    obtain ⟨he, -⟩ : OnlyPort n d (d.frameHeard n (!d.atEndB) (forRing n cut).head? (forRing n bad)) := OnlyPort.setPort n d _
    rw [if_pos rfl]
    generalize d.frameHeard n (!d.atEndB) (forRing n cut).head? (forRing n bad) = e at he passed ⊢
    have left := Dev.launchScan_left n (forRing n cut).head? (forRing n bad) e
    have hnow : e.time = d.time := by rw [he]
    have hears : e.headHears n e.atEndB (forRing n cut).head? (forRing n bad) = d.headHears n d.atEndB (forRing n cut).head? (forRing n bad) := by
      rw [he]
      exact Dev.headHears_ports d _ _ n _ _ _
    rw [hears, hnow] at left
    exact ⟨_, passed.kato, nofun, left⟩

/-- The port `n` after a launch at `t` on every ring. -/
theorem Dev.launchRings_left (bad cut : List (Nat × Nat)) (t : Nat) {n : Nat} {d : Dev} (hn : n < d.rings) (h : d.scans n = true) :
    ∃ p : Port, p.head.kato = (d.port n).head.kato ∧ (d.farScans n = false → p = d.port n) ∧
      ScanLeft (max d.time.now t) (d.headHears n d.atEndB (forRing n cut).head? (forRing n bad)) p
        ((foldOver (List.range d.rings) (Dev.launchRing bad cut) (d.at t)).port n) := by
  obtain ⟨e, ⟨he, hport⟩, hown⟩ := foldOver_ownStep (Dev.launchRing_onlyPort bad cut) hn (d.at t)
  have hscans : e.scans n = true := by rw [he]; exact h
  have hfar : e.farScans n = d.farScans n := by rw [he]; rfl
  have hears : e.headHears n e.atEndB (forRing n cut).head? (forRing n bad) = d.headHears n d.atEndB (forRing n cut).head? (forRing n bad) := by
    rw [he]
    exact Dev.headHears_ports d _ _ n _ _ _
  have hnow : e.time.now = max d.time.now t := by rw [he]; rfl
  have left := Dev.launchRing_left bad cut hscans
  rw [hport, hfar, hears, hnow] at left
  rw [hown]
  exact left

/-- A single device has no partner whose frames pass. -/
theorem Dev.farScans_single {d : Dev} (n : Nat) (h : d.isTwin = false) : d.farScans n = false := by
  unfold Dev.farScans
  rw [h]
  rfl

end Sys2Proof.Machine
end

section
/-! The scan frame that has reached every module of a ring puts it in RUN (04 R140, R144). -/

namespace Sys2Proof.Machine
open Sys2Proof

/-- RING.STAT of ring `n` and the other ring ports are as before. -/
def RingKept (n : Nat) (d e : Dev) : Prop := e.reg (A.ringStat n) = d.reg (A.ringStat n) ∧ ∀ k, k ≠ n → e.port k = d.port k

theorem RingKept.refl (n : Nat) (d : Dev) : RingKept n d d := ⟨rfl, fun _ _ => rfl⟩

theorem RingKept.trans {n : Nat} {d e f : Dev} (h : RingKept n d e) (k : RingKept n e f) : RingKept n d f :=
  ⟨k.1.trans h.1, fun m hm => (k.2 m hm).trans (h.2 m hm)⟩

theorem RingKept.ite {n : Nat} {d e f : Dev} {p : Prop} [Decidable p] (h : RingKept n d e) (k : RingKept n d f) :
    RingKept n d (if p then e else f) := by
  split
  · exact h
  · exact k

/-- A change outside registers and ports. -/
theorem RingKept.of_same {n : Nat} {d e : Dev} (hr : e.regs = d.regs) (hp : e.ports = d.ports) : RingKept n d e := by
  refine ⟨Dev.reg_congr hr _, fun k _ => ?_⟩
  unfold Dev.port
  rw [hp]

theorem RingKept.setPort (n : Nat) (d : Dev) (f : Port → Port) : RingKept n d (d.setPort n f) :=
  ⟨rfl, fun _ hk => Dev.port_setPort_other d f hk⟩

/-- A change of the port before a write of a register. -/
theorem RingKept.setPort_setFld (n : Nat) (d : Dev) (f : Port → Port) (a hi lo v : Nat) :
    RingKept n (d.setFld a hi lo v) ((d.setPort n f).setFld a hi lo v) := ⟨rfl, fun _ hk => Dev.port_setPort_other d f hk⟩

theorem RingKept.setReg {n : Nat} (d : Dev) {a : Nat} (v : Word) (h : A.ringStat n ≠ a) : RingKept n d (d.setReg a v) :=
  ⟨Dev.reg_setReg_other d v h, fun _ _ => rfl⟩

theorem RingKept.moorSend (n : Nat) (d : Dev) (m : Mooring) : RingKept n d (d.moorSend m) :=
  RingKept.of_same (Dev.moorSend_regs d m) (Dev.moorSend_ports d m)

/-- RING.STAT lies below the ACQ block, and outside EVT and LOG. -/
theorem A.ringStat_lt {n : Nat} (h : n < 64) : 0x40030000 ≤ A.ringStat n ∧ A.ringStat n < 0x40040000 := by
  unfold A.ringStat
  omega

theorem evtArea_ringStat {n : Nat} (h : n < 64) : evtArea (A.ringStat n) = false := by
  have := A.ringStat_lt h
  simp only [evtArea, Bool.or_eq_false_iff, Bool.and_eq_false_iff, decide_eq_false_iff_not]
  omega

/-- Events and log records. -/
theorem RingKept.of_raised {n : Nat} (hn : n < 64) {l : List Nat} {d e : Dev} (h : Dev.sameBut d e) (k : RegsRaised l d e) : RingKept n d e := by
  refine ⟨k.kept _ (evtArea_ringStat hn) List.not_mem_nil, fun m _ => ?_⟩
  obtain ⟨-, -, -, -, hports⟩ := PlantKept.of_sameBut h
  unfold Dev.port
  rw [hports]

theorem Dev.rings_lt (d : Dev) : d.rings < 64 := Nat.mod_lt _ (by decide)

section
variable {n : Nat} (hn : n < 64) (d : Dev)
include hn

theorem RingKept.raise {e : Nat} (he : e < 384) (i : Nat) : RingKept n d (d.raise e i) :=
  RingKept.of_raised hn (d.sameBut_raise e i) (d.raise_regsRaised he i)

theorem RingKept.ringEvent (b : Bool) : RingKept n d (d.ringEvent n b) := by
  unfold Dev.ringEvent Dev.raiseIf
  exact RingKept.ite (RingKept.raise hn d (by omega) n) (RingKept.refl n d)

/-- A change of the operating state. -/
theorem RingKept.settleNow (base : Nat) : RingKept n d (d.settleNow base) := by
  have hne : A.ringStat n ≠ A.pwrStat := by
    have := A.ringStat_lt hn
    unfold A.pwrStat
    omega
  unfold Dev.settleNow
  extract_lets old st b e
  have he : RingKept n d e := (RingKept.setReg d _ hne).trans (RingKept.setReg _ _ hne)
  refine RingKept.ite he (he.trans ?_)
  exact (RingKept.of_raised hn (e.sameBut_raiseBase 0) (e.raiseBase_regsRaised (by decide))).trans
    (RingKept.of_raised hn (Dev.sameBut_logRec _ 7 0 _ []) (Dev.logRec_regsRaised _ 7 0 _ []))

theorem RingKept.settleState (base : Nat) : RingKept n d (d.settleState base) := by
  unfold Dev.settleState
  refine RingKept.ite (RingKept.ite ?_ (RingKept.refl n d)) (RingKept.settleNow hn d base)
  exact RingKept.trans (e := { d with pwr := _ }) (RingKept.of_same rfl rfl) (RingKept.moorSend n _ _)

theorem RingKept.wake : RingKept n d d.wake := by
  have settled : RingKept n d (foldOver (List.range 30) (fun j e => e.settleOwn j 2) (d.settleState 3)) :=
    foldOver_keeps (RingKept n d) _ _ _ (fun _ _ h => h.trans (RingKept.of_same rfl rfl)) (RingKept.settleState hn d 3)
  unfold Dev.wake
  exact RingKept.ite (RingKept.ite (RingKept.settleState hn d 3) settled) (RingKept.refl n d)

end

theorem RingKept.tellRing (n : Nat) (d : Dev) : RingKept n d (d.tellRing n) := by
  unfold Dev.tellRing
  exact RingKept.ite (RingKept.moorSend n d _) (RingKept.refl n d)

theorem RingKept.queueDev (n code first last : Nat) (req : List Nat) (recLen : Nat) (d : Dev) :
    RingKept n d (d.queueDev n code first last req recLen) := by
  unfold Dev.queueDev
  dsimp only
  refine RingKept.ite (RingKept.setPort n d _) ?_
  exact foldOver_keeps (RingKept n d) _ _ d (fun _ e h => h.trans (RingKept.setPort n e _)) (RingKept.refl n d)

theorem RingKept.discover (n a b : Nat) (d : Dev) : RingKept n d (d.discover n a b) := by
  have queued : RingKept n d ((d.setPort n (fun p => { p.markDisc a b with farRanged := false })).queueDev n 0x01 1 64 [] 20) :=
    (RingKept.setPort n d _).trans (RingKept.queueDev n _ _ _ _ _ _)
  unfold Dev.discover
  exact RingKept.ite (queued.trans (RingKept.moorSend n _ _)) queued

/-- The change to RUN of ring `n`: RING.STAT.STATE alone of its register. -/
theorem Dev.setRing_run {n : Nat} (hn : n < 64) (d : Dev) : RingKept n (d.setFld (A.ringStat n) 31 28 2) (d.setRing n 2) := by
  unfold Dev.setRing
  extract_lets old e e' e''
  have hport : RingKept n e e' := RingKept.setPort n e _
  have hwoken : RingKept n e e'' := RingKept.ite hport ((hport.trans (RingKept.tellRing n e')).trans (RingKept.wake hn _))
  rw [if_neg (fun h => h.2.1 rfl)]
  exact hwoken

/-- Every module of the ring answered the frame from this end (04 R140). -/
theorem Dev.judge_run {d : Dev} {n rb : Nat} (hend : d.atEndB = false ∨ d.ringState n = 3) : d.judge n (d.ringL n) rb = 2 := by
  have hcount : (if d.atEndB && !(d.ringState n == 3) then rb else d.ringL n) = d.ringL n := by
    obtain h | h := hend
    · simp [h]
    · simp [h]
  unfold Dev.judge
  rw [if_pos hcount]

theorem Dev.ringL_le (d : Dev) (n : Nat) : d.ringL n ≤ 64 := Nat.succ_le_of_lt (Nat.mod_lt _ (by decide))

/-- A change of the port that leaves its modules leaves what is still owed for RUN. -/
theorem Dev.linkWanted_setPort (d : Dev) (n : Nat) {f : Port → Port} (hf : ∀ p, (f p).mods = p.mods) :
    (d.setPort n f).linkWanted n = d.linkWanted n := by
  have hmod : ∀ h, ((d.setPort n f).port n).mod h = (d.port n).mod h := fun h => by
    rw [Dev.port_setPort]
    unfold Port.mod
    rw [hf]
  unfold Dev.linkWanted
  simp only [hmod]
  rfl

/-- RING.STAT once the frame is judged: RUN, and REACHA tells L. -/
theorem Dev.judged_ringStat (d : Dev) {a l rb : Nat} (hl : l ≤ 64) :
    (((d.setFld a 27 21 l).setFld a 20 14 rb).setFld a 31 28 2).fld a 31 28 = 2 ∧
      (((d.setFld a 27 21 l).setFld a 20 14 rb).setFld a 31 28 2).fld a 27 21 = l := by
  constructor
  · exact Dev.fld_setFld_same _ a 2 (by decide) (by decide)
  · rw [Dev.fld_setFld_apart _ a _ (by decide) (by decide) (by decide) (by decide),
      Dev.fld_setFld_apart _ a _ (by decide) (by decide) (by decide) (by decide), Dev.fld_setFld_same _ a _ (by decide) (by decide)]
    exact Nat.mod_eq_of_lt (by omega)

/-- The port judges a frame that reached every module: the ring is in RUN and REACHA tells L. -/
theorem Dev.scanReturn_run {d : Dev} {n rb : Nat} (hn : n < 64) (hl : d.launches n = true) (hend : d.atEndB = false ∨ d.ringState n = 3)
    (hlo : 2 ≤ d.ringState n) (hhi : d.ringState n ≤ 4) (hlink : d.ringState n = 2 ∨ d.linkWanted n = false) :
    (d.scanReturn n (d.ringL n) rb).ringState n = 2 ∧ (d.scanReturn n (d.ringL n) rb).fld (A.ringStat n) 27 21 = d.ringL n ∧
      ∀ k, k ≠ n → (d.scanReturn n (d.ringL n) rb).port k = d.port k := by
  unfold Dev.scanReturn
  extract_lets out st oldA oldB new counted moved run told turned l near far done
  have hst : st = d.ringState n := rfl
  have hcarries : ¬ (out.launches n = false ∨ st < 2 ∨ 4 < st) := by
    rintro (h | h)
    · exact absurd (hl.symm.trans h) (by decide)
    · omega
  have hnew : new = 2 := by
    have hjudge : out.judge n (d.ringL n) rb = 2 := Dev.judge_run (d := out) hend
    have howed : out.linkWanted n = d.linkWanted n := Dev.linkWanted_setPort d n fun _ => rfl
    unfold new
    rw [if_neg, hjudge]
    rintro ⟨-, hne, hwant⟩
    exact hlink.elim hne fun h => absurd ((howed.symm.trans hwant).symm.trans h) (by decide)
  have hrun : RingKept n (counted.setFld (A.ringStat n) 31 28 2) run := by
    unfold run
    rw [hnew]
    exact (RingKept.setPort_setFld n counted _ _ _ _ _).trans ((Dev.setRing_run hn _).trans (RingKept.ringEvent hn _ _))
  have hturned : turned = told := if_neg (by simp [hnew])
  have hdone : RingKept n run done := by
    have htold : RingKept n run told := RingKept.ite (RingKept.tellRing n run) (RingKept.refl n run)
    have hnear : RingKept n told near := hturned ▸ RingKept.ite (RingKept.refl n turned) (RingKept.discover n _ _ turned)
    exact (htold.trans hnear).trans (RingKept.ite (RingKept.refl n near) (RingKept.discover n _ _ near))
  rw [if_neg hcarries, if_neg (by rw [hnew]; exact fun h => absurd h.1 (by decide))]
  obtain ⟨hreg, hports⟩ := hrun.trans hdone
  obtain ⟨hstate, hreach⟩ := Dev.judged_ringStat out (a := A.ringStat n) (rb := rb) (d.ringL_le n)
  refine ⟨(Dev.fld_congr hreg 31 28).trans hstate, (Dev.fld_congr hreg 27 21).trans hreach, fun k hk => ?_⟩
  have hout : out.port k = d.port k := Dev.port_setPort_other d _ hk
  exact (hports k hk).trans hout

theorem exec_scanFrameReturn {n : Nat} (ra rb : Nat) {s : State} (hn : n < s.dev.rings) :
    exec (.scanFrameReturn n ra rb) s = .next { s with dev := s.dev.scanReturn n ra rb } := present_next _ (decide_eq_true hn)

/-- Settles O31: the instant by `Dev.instant_begun`, the launch by `Dev.launchRings_left`, the return by `Dev.scanReturn_run`. -/
theorem scanBegins : Obligations.ScanBegins := by
  refine ⟨by decide +kernel, fun s hs => ?_, fun s hs => exec_samplingInstant_idle hs, fun bad cut s => ?_,
    fun n rb s hn hl hend hlo hhi hlink => ?_⟩
  · have begun := s.dev.instant_begun
    exact ⟨_, exec_samplingInstant_scanning hs, begun.scan, begun.inst, begun.nextN, begun.placed, begun.k0, begun.k1, begun.pubs, rfl, rfl⟩
  · have hports := foldOver_ports (List.range s.dev.rings) (Dev.launchRing bad cut) (s.dev.at (s.dev.time.inst + 60000))
      fun n e => (Dev.launchRing_onlyPort bad cut n e).1
    have htime : (foldOver (List.range s.dev.rings) (Dev.launchRing bad cut) (s.dev.at (s.dev.time.inst + 60000))).time =
        (s.dev.at (s.dev.time.inst + 60000)).time := by rw [hports]
    refine ⟨_, exec_scanFrameLaunch bad cut s, ?_, ⟨rfl, rfl⟩, fun n hn hscans => ?_⟩
    · dsimp only
      rw [htime]
      exact hports
    · obtain ⟨p, hkato, hown, left⟩ := Dev.launchRings_left bad cut (s.dev.time.inst + 60000) hn hscans
      have hnow := congrArg TimeSt.now htime.symm
      refine ⟨left.lastKeep.trans hnow, left.scanOut, fun heard => ⟨(left.karem heard).trans hkato, (left.kaT heard).trans hnow⟩,
        fun hdeaf hsingle => ?_⟩
      exact (left.deaf hdeaf).trans (congrArg Port.head (hown (Dev.farScans_single n hsingle)))
  · obtain ⟨hstate, hreach, hports⟩ := Dev.scanReturn_run (rb := rb) (Nat.lt_trans hn s.dev.rings_lt) hl hend hlo hhi hlink
    exact ⟨_, exec_scanFrameReturn _ rb hn, hstate, hreach, ⟨rfl, rfl⟩, hports⟩

end Sys2Proof.Machine
end

section
/-! Where the statement on tick boundaries fails: an activation of a task outside the task table (01 R27, 02 R78, 03 R95). -/

namespace Sys2Proof.Machine
open Sys2Proof

/-! Tick 0 sets TSTAT.ABND of every activation that the scan before left suspended (02 R78, 01 R27). The statement sets no bound on the
number of such an activation's task, but the task table has entries 0 to 127 (03 R95): past it, the address of SYS.TSTAT of a number runs
through control space, and the write falls on a register of another block. -/

/-- A device in scan 1 whose tick 0 is still to come, with an activation of number 65026 suspended on core K0: its TSTAT address is that of
ACQ.SCAN. -/
def strayWait : State :=
  { dev := (({ time := { scanning := true }, k0 := { susp := [{ task := 65026 }] } } : Dev).setReg A.acqScan 1) }

/-- The tick boundary sets bit 27 of ACQ.SCAN, and tick 0 counts as one of the scan that the register then names. -/
theorem strayWait_tickScan : (match exec .tickBoundary strayWait with | .next t => t.dev.time.tickScan | _ => 1) = 1 + 2 ^ 27 := by decide +kernel

/-- Refutes O32: tick 0 of a new scan counts as one of another scan when a suspended activation's number lies so far outside the task table
that its TSTAT.ABND is bit 27 of ACQ.SCAN. -/
theorem not_ticksAndCutoff : ¬ Obligations.TicksAndCutoff := by
  intro h
  obtain ⟨-, -, tickZero, -⟩ := h
  obtain ⟨t, ht, -, -, hscan, -⟩ :=
    tickZero strayWait (by decide +kernel) (by decide +kernel) (by decide +kernel) (by decide +kernel) (by decide +kernel)
  have hbit := strayWait_tickScan
  rw [ht] at hbit
  exact absurd (hscan.symm.trans hbit) (by decide +kernel)

end Sys2Proof.Machine
end

section
/-! Where the statement on ring links fails: a discovery that ends WATCH (04 R145, 05 R177, 16 R550). -/

namespace Sys2Proof.Machine
open Sys2Proof

/-! A change of ring state wakes the device from WATCH, and every own value then settles from the next instant on: the SETTLING counts wait
in `settleNew` (05 R177). The statement's `PortOnly` lets `settle` change, which holds the counts that run, but not `settleNew`. -/

/-- A single device in WATCH with port 0 configured. -/
def watchPort : State := { dev := (({} : Dev).setFld A.pwrStat 31 28 2).setRbit (A.ringCfg 0) 31 true }

/-- When the port locks, SETTLING counts wait for the next instant. -/
theorem watchPort_settles : (match exec (.portLockGain 0) watchPort with | .next t => t.dev.acq.settleNew | _ => []) ≠ [] := by decide +kernel

/-- Refutes O44: a lock gained in WATCH starts discovery, which wakes the device, and the acquisition unit does not stay as it was but for
`settle`. -/
theorem not_ringLinkCommands : ¬ Obligations.RingLinkCommands := by
  intro h
  obtain ⟨⟨t, ht, hport, -⟩, -⟩ := h 0 watchPort (by decide +kernel)
  obtain ⟨-, -, hacq, -⟩ := hport
  have hnew := watchPort_settles
  rw [ht] at hnew
  exact hnew (congrArg AcqSt.settleNew hacq)

end Sys2Proof.Machine
end

section
/-! One Tabbin instruction in each of its shapes (02 R54-R60, R82-R85): what it does when it was fetched well, fits its budget and meets no
cause, and the trap it takes otherwise. -/

namespace Sys2Proof.Machine
open Sys2Proof

/-! Causes. -/

theorem firstCause_of_fits {c : Core} {n : Nat} {s : State} (h : Fits c n s) :
    firstCause (s.dev.withFetch c {}) (s.dev.overBudget c (n + (s.dev.core c).cur.seq.extra)) = none := by
  obtain ⟨hfetch, hbudget⟩ := h
  rw [hbudget]
  simp [firstCause, Dev.withFetch, hfetch]

theorem firstCause_of_fitsJump {c : Core} {n : Nat} {s : State} (h : FitsJump c n s) :
    firstCause (s.dev.withFetch c {}) (s.dev.overBudget c n) = none := by
  obtain ⟨hfetch, hbudget⟩ := h
  rw [hbudget]
  simp [firstCause, Dev.withFetch, hfetch]

/-- ILLEGAL comes before every cause but an uncorrectable word (02 R83). -/
theorem firstCause_illegal {d : Dev} {c : Core} {q : Causes} (b : Bool) (hf : d.fetchBad c = false) (he : q.ecc = false) (hi : q.ill = true) :
    firstCause (d.withFetch c q) b = some 6 := by
  simp [firstCause, Dev.withFetch, hf, he, hi]

/-! The shapes, without a cause and with one. -/

theorem Dev.instr_fits {c : Core} {n : Nat} {s : State} (h : Fits c n s) (k : Ctx → Ctx) :
    s.dev.instr c n {} k = s.dev.retire c (s.dev.core c).cur.seq (n + (s.dev.core c).cur.seq.extra) k := by
  unfold Dev.instr
  dsimp only
  rw [firstCause_of_fits h]

theorem Dev.instrAnd_fits {c : Core} {n : Nat} {s : State} (h : Fits c n s) (k : Ctx → Ctx) (g : Dev → Dev) :
    s.dev.instrAnd c n {} k g = g (s.dev.instr c n {} k) := by
  rw [Dev.instr_fits h]
  unfold Dev.instrAnd
  dsimp only
  rw [firstCause_of_fits h]

theorem State.instrMem_fits {c : Core} {n : Nat} {s : State} (h : Fits c n s) (k : Ctx → Ctx) (g : Dev → Dev) (m : FMap Byte → FMap Byte) :
    s.instrMem c n {} k g m = { s with dev := g (s.dev.instr c n {} k), mem := m s.mem } := by
  rw [Dev.instr_fits h]
  unfold State.instrMem
  dsimp only
  rw [firstCause_of_fits h]

theorem Dev.jump_fits {c : Core} {n : Nat} {s : State} (h : FitsJump c n s) (x : Nxt) (k : Ctx → Ctx) :
    s.dev.jump c n {} x k = s.dev.retire c x n k := by
  unfold Dev.jump
  rw [firstCause_of_fitsJump h]

theorem Dev.instr_trap {d : Dev} {c : Core} {n code : Nat} {q : Causes} (k : Ctx → Ctx)
    (h : firstCause (d.withFetch c q) (d.overBudget c (n + (d.core c).cur.seq.extra)) = some code) : d.instr c n q k = d.trap c code := by
  unfold Dev.instr
  dsimp only
  rw [h]

theorem Dev.instrAnd_trap {d : Dev} {c : Core} {n code : Nat} {q : Causes} (k : Ctx → Ctx) (g : Dev → Dev)
    (h : firstCause (d.withFetch c q) (d.overBudget c (n + (d.core c).cur.seq.extra)) = some code) : d.instrAnd c n q k g = d.trap c code := by
  unfold Dev.instrAnd
  dsimp only
  rw [h]

theorem State.instrMem_trap {s : State} {c : Core} {n code : Nat} {q : Causes} (k : Ctx → Ctx) (g : Dev → Dev) (m : FMap Byte → FMap Byte)
    (h : firstCause (s.dev.withFetch c q) (s.dev.overBudget c (n + (s.dev.core c).cur.seq.extra)) = some code) :
    s.instrMem c n q k g m = { s with dev := s.dev.trap c code } := by
  unfold State.instrMem
  dsimp only
  rw [h]

theorem Dev.jump_trap {d : Dev} {c : Core} {n code : Nat} {q : Causes} (x : Nxt) (k : Ctx → Ctx)
    (h : firstCause (d.withFetch c q) (d.overBudget c n) = some code) : d.jump c n q x k = d.trap c code := by
  unfold Dev.jump
  rw [h]

/-! What a finished instruction leaves. -/

/-- A change of a core is told by what it makes of that core. -/
theorem Dev.setCore_congr (d : Dev) {c : Core} {f g : CoreSt → CoreSt} (h : f (d.core c) = g (d.core c)) : d.setCore c f = d.setCore c g := by
  cases c <;> (simp only [Dev.core] at h; simp only [Dev.setCore, h])

theorem Dev.retire_core (d : Dev) (c : Core) (x : Nxt) (n : Nat) (k : Ctx → Ctx) :
    (d.retire c x n k).core c = { d.core c with cur := (k (d.core c).cur).moved x n, cyc := (d.core c).cyc + n } :=
  Dev.core_setCore _ _ _

theorem Dev.retire_cur (d : Dev) (c : Core) (x : Nxt) (n : Nat) (k : Ctx → Ctx) :
    ((d.retire c x n k).core c).cur = (k (d.core c).cur).moved x n := by
  rw [Dev.retire_core]

@[simp] theorem Ctx.moved_r (x : Ctx) (n : Nxt) (cyc : Nat) (g : Reg) : (x.moved n cyc).r g = x.r g := rfl

@[simp] theorem Ctx.moved_regs (x : Ctx) (n : Nxt) (cyc : Nat) : (x.moved n cyc).regs = x.regs := rfl

/-- A register write changes the registers alone. -/
theorem Ctx.w_eq (g : Reg) (v : Word) (x : Ctx) : x.w g v = { x with regs := (x.w g v).regs } := by
  unfold Ctx.w
  split <;> rfl

/-- A core that only went on: its context moved. -/
theorem CoreMoved.retire (c : Core) (x : Nxt) (n : Nat) {k : Ctx → Ctx} {s : State} {y : Ctx} (h : (k (s.dev.core c).cur).moved x n = y) :
    CoreMoved c n y s { s with dev := s.dev.retire c x n k } := by
  subst h
  exact ⟨⟨rfl, rfl⟩, by cases c <;> rfl⟩

/-- An instruction of the sequence that writes `v` to gd. -/
theorem Wrote.of_fits {c : Core} {n : Nat} {s : State} (h : Fits c n s) {gd : Reg} {v : Word} {k : Ctx → Ctx}
    (hk : k (s.dev.core c).cur = (s.dev.core c).cur.w gd v) : Wrote c gd v n s { s with dev := s.dev.instr c n {} k } := by
  unfold Wrote
  dsimp only
  rw [Dev.instr_fits h, Dev.retire_cur, hk]
  refine ⟨CoreMoved.retire c _ _ ?_, fun g => ?_⟩
  · rw [hk, Ctx.w_eq]
    rfl
  · rw [Ctx.moved_r, Ctx.r_w]

/-- A fixed-point instruction with the exact result `v`. -/
theorem WroteSat.of_fits {c : Core} {n : Nat} {s : State} (h : Fits c n s) {gd : Reg} {v : Int} {k : Ctx → Ctx}
    (hk : k (s.dev.core c).cur = ((s.dev.core c).cur.w gd (Word.ofInt (satVal v))).satIf (satClamps v)) :
    WroteSat c gd v n s { s with dev := s.dev.instr c n {} k } := by
  have hsat : ((s.dev.core c).cur.w gd (Word.ofInt (satVal v))).satIf (satClamps v) =
      { (s.dev.core c).cur with regs := ((s.dev.core c).cur.w gd (Word.ofInt (satVal v))).regs, sat := (s.dev.core c).cur.sat || satClamps v } := by
    rw [Ctx.w_eq]
    cases satClamps v
    · simp [Ctx.satIf]
    · simp [Ctx.satIf]
  unfold WroteSat
  dsimp only
  rw [Dev.instr_fits h, Dev.retire_cur, hk, hsat]
  refine ⟨CoreMoved.retire c _ _ ?_, fun g => ?_⟩
  · rw [hk, hsat]
    rfl
  · exact Ctx.r_w _ _ _ _

/-- An instruction of the sequence that changes nothing of the context. -/
theorem Passed.of_fits {c : Core} {n : Nat} {s : State} (h : Fits c n s) : Passed c n s { s with dev := s.dev.instr c n {} id } := by
  rw [Dev.instr_fits h]
  exact CoreMoved.retire c _ _ rfl

/-- A transfer to `a`. -/
theorem WentTo.of_fitsJump {c : Core} {n : Nat} {s : State} (h : FitsJump c n s) (a : Nat) :
    WentTo c a n s { s with dev := s.dev.jump c n {} ((s.dev.core c).cur.goto a) id } := by
  rw [Dev.jump_fits h]
  exact CoreMoved.retire c _ _ rfl

end Sys2Proof.Machine
end

section
/-! The ALU group, the immediate instructions and CLZ (02 R54-R55): each writes its result to gd. -/

namespace Sys2Proof.Machine
open Sys2Proof

theorem alu3_wrote {c : Core} {n : Nat} {gd ga gb : Reg} {f : Word → Word → Word} {s : State} (h : Fits c n s) {v : Word}
    (hv : f (s.dev.val c ga) (s.dev.val c gb) = v) : ∃ t, alu3 c n gd ga gb f s = .next t ∧ Wrote c gd v n s t :=
  ⟨_, rfl, Wrote.of_fits h (by rw [← hv]; rfl)⟩

theorem alu2_wrote {c : Core} {n : Nat} {gd ga : Reg} {f : Word → Word} {s : State} (h : Fits c n s) {v : Word}
    (hv : f (s.dev.val c ga) = v) : ∃ t, alu2 c n gd ga f s = .next t ∧ Wrote c gd v n s t :=
  ⟨_, rfl, Wrote.of_fits h (by rw [← hv]; rfl)⟩

/-! The results in the words of the statements. -/

/-- A choice by `<` is one by `≤` where the two sides agree on equality. -/
theorem ite_lt_eq_ite_le {α β : Type} [LinearOrder α] {x y : α} {p q : β} (h : x = y → p = q) :
    (if x < y then p else q) = if x ≤ y then p else q := by
  by_cases hlt : x < y
  · rw [if_pos hlt, if_pos hlt.le]
  · by_cases hle : x ≤ y
    · rw [if_neg hlt, if_pos hle, h (le_antisymm hle (not_lt.1 hlt))]
    · rw [if_neg hlt, if_neg hle]

theorem boolWord_slt (a b : Word) : boolWord (a.slt b) = if a.toInt < b.toInt then 1 else 0 := by
  simp [boolWord, BitVec.slt]

theorem boolWord_ult (a b : Word) : boolWord (a.ult b) = if a.toNat < b.toNat then 1 else 0 := by
  simp [boolWord, BitVec.ult]

theorem ite_slt (a b p q : Word) (h : a = b → p = q) : (if a.slt b then p else q) = if a.toInt ≤ b.toInt then p else q := by
  rw [← ite_lt_eq_ite_le fun hab => h (BitVec.eq_of_toInt_eq hab)]
  simp [BitVec.slt]

theorem ite_ult (a b p q : Word) (h : a = b → p = q) : (if a.ult b then p else q) = if a.toNat ≤ b.toNat then p else q := by
  rw [← ite_lt_eq_ite_le fun hab => h (BitVec.eq_of_toNat_eq hab)]
  simp [BitVec.ult]

/-- The product of two words as integers is that of their sign extensions: it fits 64 bits. -/
theorem mulh_eq (a b : Word) :
    Word.ofInt (a.toInt * b.toInt / 2 ^ 32) = ((a.signExtend 64 * b.signExtend 64) >>> 32).setWidth 32 := by
  have ha : (a.signExtend 64).toInt = a.toInt := BitVec.toInt_signExtend_of_le (by decide)
  have hb : (b.signExtend 64).toInt = b.toInt := BitVec.toInt_signExtend_of_le (by decide)
  have hp : a.signExtend 64 * b.signExtend 64 = BitVec.ofInt 64 (a.toInt * b.toInt) := by
    rw [BitVec.ofInt_mul, ← ha, ← hb, BitVec.ofInt_toInt, BitVec.ofInt_toInt]
  refine BitVec.eq_of_toNat_eq ?_
  rw [hp]
  generalize a.toInt * b.toInt = x
  simp only [Word.ofInt, BitVec.toNat_ofInt, BitVec.toNat_setWidth, BitVec.toNat_ushiftRight, Nat.shiftRight_eq_div_pow]
  omega

theorem mulhu_eq (a b : Word) :
    BitVec.ofNat 32 (a.toNat * b.toNat / 2 ^ 32) = ((a.setWidth 64 * b.setWidth 64) >>> 32).setWidth 32 := by
  refine BitVec.eq_of_toNat_eq ?_
  have hlt : a.toNat * b.toNat < 2 ^ 32 * 2 ^ 32 := Nat.mul_lt_mul'' a.isLt b.isLt
  have ha : a.toNat % 2 ^ 64 = a.toNat := Nat.mod_eq_of_lt (a.isLt.trans (by decide))
  have hb : b.toNat % 2 ^ 64 = b.toNat := Nat.mod_eq_of_lt (b.isLt.trans (by decide))
  simp only [BitVec.toNat_ofNat, BitVec.toNat_setWidth, BitVec.toNat_ushiftRight, BitVec.toNat_mul, ha, hb, Nat.shiftRight_eq_div_pow]
  rw [Nat.mod_eq_of_lt (a := a.toNat * b.toNat) (by omega)]

/-- Settles O5: each instruction by what its group writes, with the result in the statement's words. -/
theorem aluResults : Obligations.AluResults := by
  unfold Obligations.AluResults
  refine fun c => ⟨?add, ?sub, ?and, ?or, ?xor, ?sll, ?srl, ?sra, ?slt, ?sltu, ?min, ?max, ?minu, ?maxu, ?csel, ?mul, ?mulh, ?mulhu⟩ <;> intro gd ga gb s h
  case add => exact show ∃ t, execAdd c gd ga gb s = .next t ∧ _ from alu3_wrote h rfl
  case sub => exact show ∃ t, execSub c gd ga gb s = .next t ∧ _ from alu3_wrote h rfl
  case and => exact show ∃ t, execAnd c gd ga gb s = .next t ∧ _ from alu3_wrote h rfl
  case or => exact show ∃ t, execOr c gd ga gb s = .next t ∧ _ from alu3_wrote h rfl
  case xor => exact show ∃ t, execXor c gd ga gb s = .next t ∧ _ from alu3_wrote h rfl
  case sll => exact show ∃ t, execSll c gd ga gb s = .next t ∧ _ from alu3_wrote h rfl
  case srl => exact show ∃ t, execSrl c gd ga gb s = .next t ∧ _ from alu3_wrote h rfl
  case sra => exact show ∃ t, execSra c gd ga gb s = .next t ∧ _ from alu3_wrote h rfl
  case slt => exact show ∃ t, execSlt c gd ga gb s = .next t ∧ _ from alu3_wrote h (boolWord_slt _ _)
  case sltu => exact show ∃ t, execSltu c gd ga gb s = .next t ∧ _ from alu3_wrote h (boolWord_ult _ _)
  case min => exact show ∃ t, execMin c gd ga gb s = .next t ∧ _ from alu3_wrote h (ite_slt _ _ _ _ id)
  case max => exact show ∃ t, execMax c gd ga gb s = .next t ∧ _ from alu3_wrote h (ite_slt _ _ _ _ Eq.symm)
  case minu => exact show ∃ t, execMinu c gd ga gb s = .next t ∧ _ from alu3_wrote h (ite_ult _ _ _ _ id)
  case maxu => exact show ∃ t, execMaxu c gd ga gb s = .next t ∧ _ from alu3_wrote h (ite_ult _ _ _ _ Eq.symm)
  case csel =>
    refine ⟨_, rfl, Wrote.of_fits h ?_⟩
    rw [ite_not]
    rfl
  case mul => exact show ∃ t, execMul c gd ga gb s = .next t ∧ _ from alu3_wrote h rfl
  case mulh => exact show ∃ t, execMulh c gd ga gb s = .next t ∧ _ from alu3_wrote h (mulh_eq _ _)
  case mulhu => exact show ∃ t, execMulhu c gd ga gb s = .next t ∧ _ from alu3_wrote h (mulhu_eq _ _)

/-! CLZ. -/

/-- Leading zeros of a word: those of its binary logarithm. -/
def leadingZeros (a : Word) : Nat := if a = 0 then 32 else 31 - Nat.log2 a.toNat

theorem clzW_eq (a : Word) : clzW a = BitVec.ofNat 32 (leadingZeros a) := by
  unfold clzW leadingZeros
  split <;> rfl

theorem leadingZeros_le (a : Word) : leadingZeros a ≤ 32 := by
  unfold leadingZeros
  split <;> omega

theorem log2_word {a : Word} (h : a ≠ 0) : 2 ^ Nat.log2 a.toNat ≤ a.toNat ∧ a.toNat < 2 ^ (Nat.log2 a.toNat + 1) ∧ Nat.log2 a.toNat < 32 := by
  have hpos : a.toNat ≠ 0 := fun h0 => h (BitVec.eq_of_toNat_eq h0)
  exact ⟨Nat.log2_self_le hpos, Nat.lt_log2_self, (Nat.log2_lt hpos).2 a.isLt⟩

theorem lt_two_pow_leadingZeros (a : Word) : a.toNat < 2 ^ (32 - leadingZeros a) := by
  unfold leadingZeros
  split
  case isTrue h => simp [h]
  case isFalse h =>
    obtain ⟨-, hlt, hlog⟩ := log2_word h
    rwa [show 32 - (31 - Nat.log2 a.toNat) = Nat.log2 a.toNat + 1 by omega]

theorem leadingZeros_ge (a : Word) : if a = 0 then leadingZeros a = 32 else 2 ^ (31 - leadingZeros a) ≤ a.toNat := by
  unfold leadingZeros
  split
  case isTrue => rfl
  case isFalse h =>
    obtain ⟨hle, -, hlog⟩ := log2_word h
    rwa [show 31 - (31 - Nat.log2 a.toNat) = Nat.log2 a.toNat by omega]

/-- LUI's shift of the immediate. -/
theorem lui_eq (imm : BitVec 16) : imm.setWidth 32 <<< 16 = BitVec.ofNat 32 (imm.toNat * 65536) := by
  refine BitVec.eq_of_toNat_eq ?_
  have := imm.isLt
  simp only [BitVec.toNat_shiftLeft, BitVec.toNat_setWidth, BitVec.toNat_ofNat, Nat.shiftLeft_eq]
  omega

/-- Settles O6: each instruction by what its group writes; CLZ by the binary logarithm. -/
theorem immediateResults : Obligations.ImmediateResults := by
  unfold Obligations.ImmediateResults
  refine fun c => ⟨?addi, ?andi, ?ori, ?xori, ?lui, ?slti, ?sltiu, ?slli, ?srli, ?srai, ?clz⟩
  case addi => exact fun gd ga imm s h => show ∃ t, execAddi c gd ga imm s = .next t ∧ _ from alu2_wrote h rfl
  case andi => exact fun gd ga imm s h => show ∃ t, execAndi c gd ga imm s = .next t ∧ _ from alu2_wrote h rfl
  case ori => exact fun gd ga imm s h => show ∃ t, execOri c gd ga imm s = .next t ∧ _ from alu2_wrote h rfl
  case xori => exact fun gd ga imm s h => show ∃ t, execXori c gd ga imm s = .next t ∧ _ from alu2_wrote h rfl
  case lui => exact fun gd imm s h => ⟨_, rfl, Wrote.of_fits h (by rw [lui_eq])⟩
  case slti => exact fun gd ga imm s h => show ∃ t, execSlti c gd ga imm s = .next t ∧ _ from alu2_wrote h (boolWord_slt _ _)
  case sltiu => exact fun gd ga imm s h => show ∃ t, execSltiu c gd ga imm s = .next t ∧ _ from alu2_wrote h (boolWord_ult _ _)
  case slli => exact fun gd ga sh s h => show ∃ t, execSlli c gd ga sh s = .next t ∧ _ from alu2_wrote h rfl
  case srli => exact fun gd ga sh s h => show ∃ t, execSrli c gd ga sh s = .next t ∧ _ from alu2_wrote h rfl
  case srai => exact fun gd ga sh s h => show ∃ t, execSrai c gd ga sh s = .next t ∧ _ from alu2_wrote h rfl
  case clz =>
    refine fun gd ga s h => ⟨_, leadingZeros (s.dev.val c ga), rfl, Wrote.of_fits h ?_, leadingZeros_le _, lt_two_pow_leadingZeros _, leadingZeros_ge _⟩
    rw [← clzW_eq]
    rfl

end Sys2Proof.Machine
end

section
/-! The QOP group and the divisions (02 R42-R45, R56): the exact value narrowed by sat(), and results for zero and overflow. -/

namespace Sys2Proof.Machine
open Sys2Proof

theorem qop_wrote {c : Core} {n : Nat} {gd : Reg} {f : Ctx → Int} {s : State} (h : Fits c n s) {v : Int} (hv : f (s.dev.core c).cur = v) :
    ∃ t, qop c n gd f s = .next t ∧ WroteSat c gd v n s t :=
  ⟨_, rfl, WroteSat.of_fits h (by rw [hv])⟩

theorem natAbs_eq_ite (x : Int) : (x.natAbs : Int) = if x < 0 then -x else x := by
  split <;> omega

/-- A shift by 0 bits rounds nothing. -/
theorem rnd_word (a : Word) (k : Nat) : Word.ofInt (rnd a.toInt k) = if k = 0 then a else Word.ofInt (rnd a.toInt k) := by
  split
  case isTrue h => rw [h, rnd, if_pos rfl, Word.ofInt, BitVec.ofInt_toInt]
  case isFalse => rfl

/-- Settles O8: each instruction by what its group writes; QSHR and Q31TO16 write as the ALU group does. -/
theorem fixedPointResults : Obligations.FixedPointResults := by
  unfold Obligations.FixedPointResults
  refine fun c => ⟨?sadd, ?ssub, ?sneg, ?sabs, ?qmul16, ?qmul31, ?qmulm, ?qmac16, ?qshl, ?qshr, ?q16to31, ?q31to16⟩
  case sadd => exact fun gd ga gb s h => show ∃ t, execSadd c gd ga gb s = .next t ∧ _ from qop_wrote h rfl
  case ssub => exact fun gd ga gb s h => show ∃ t, execSsub c gd ga gb s = .next t ∧ _ from qop_wrote h rfl
  case sneg => exact fun gd ga s h => show ∃ t, execSneg c gd ga s = .next t ∧ _ from qop_wrote h rfl
  case sabs => exact fun gd ga s h => show ∃ t, execSabs c gd ga s = .next t ∧ _ from qop_wrote h (natAbs_eq_ite _)
  case qmul16 => exact fun gd ga gb s h => show ∃ t, execQmul16 c gd ga gb s = .next t ∧ _ from qop_wrote h rfl
  case qmul31 => exact fun gd ga gb s h => show ∃ t, execQmul31 c gd ga gb s = .next t ∧ _ from qop_wrote h rfl
  case qmulm => exact fun gd ga gb s h => show ∃ t, execQmulm c gd ga gb s = .next t ∧ _ from qop_wrote h rfl
  case qmac16 => exact fun gd ga gb s h => show ∃ t, execQmac16 c gd ga gb s = .next t ∧ _ from qop_wrote h rfl
  case qshl => exact fun gd ga gb s h => show ∃ t, execQshl c gd ga gb s = .next t ∧ _ from qop_wrote h rfl
  case qshr => exact fun gd ga gb s h => show ∃ t, execQshr c gd ga gb s = .next t ∧ _ from alu3_wrote h (rnd_word _ _)
  case q16to31 => exact fun gd ga s h => show ∃ t, execQ16to31 c gd ga s = .next t ∧ _ from qop_wrote h rfl
  case q31to16 => exact fun gd ga s h => show ∃ t, execQ31to16 c gd ga s = .next t ∧ _ from alu2_wrote h rfl

/-! Division (02 R45). -/

/-- The quotient that overflows. -/
theorem divS_eq (a b : Word) :
    divS a b = if b = 0 then 0xFFFFFFFF#32 else if a = 0x80000000#32 ∧ b = 0xFFFFFFFF#32 then 0x80000000#32 else BitVec.ofInt 32 (Int.tdiv a.toInt b.toInt) := by
  unfold divS
  split
  · rfl
  · split
    case isTrue h => rw [h.1, h.2]; decide
    case isFalse => rfl

theorem remS_eq (a b : Word) :
    remS a b = if b = 0 then a else if a = 0x80000000#32 ∧ b = 0xFFFFFFFF#32 then 0#32 else BitVec.ofInt 32 (Int.tmod a.toInt b.toInt) := by
  unfold remS
  split
  · rfl
  · split
    case isTrue h => rw [h.1, h.2]; decide
    case isFalse => rfl

theorem Word.toInt_eq_zero {a : Word} : a.toInt = 0 ↔ a = 0 :=
  ⟨fun h => BitVec.eq_of_toInt_eq h, fun h => by rw [h]; rfl⟩

/-- QDIV16 by zero: the narrowed result by the dividend's sign. -/
theorem satVal_qdiv16_zero (a : Int) :
    Word.ofInt (satVal (qdiv16 a 0)) = if 0 < a then 0x7FFFFFFF#32 else if a < 0 then 0x80000000#32 else 0#32 := by
  obtain h | h | h := lt_trichotomy a 0
  · rw [if_neg (by omega), if_pos h, qdiv16, if_pos rfl, if_neg (by omega), if_neg (by omega)]; decide
  · subst h; decide
  · rw [if_pos h, qdiv16, if_pos rfl, if_neg (by omega), if_pos h]; decide

theorem satClamps_qdiv16_zero (a : Int) : satClamps (qdiv16 a 0) = decide (a ≠ 0) := by
  obtain h | h | h := lt_trichotomy a 0
  · rw [decide_eq_true (by omega), qdiv16, if_pos rfl, if_neg (by omega), if_neg (by omega)]; decide
  · subst h; decide
  · rw [decide_eq_true (by omega), qdiv16, if_pos rfl, if_neg (by omega), if_pos h]; decide

/-- QDIV16 with any divisor. -/
theorem execQdiv16_wrote {c : Core} {s : State} (h : Fits c 36 s) (gd ga gb : Reg) :
    ∃ t, execQdiv16 c gd ga gb s = .next t ∧ WroteSat c gd (qdiv16 (s.dev.val c ga).toInt (s.dev.val c gb).toInt) 36 s t := qop_wrote h rfl

/-- The register and the indicator after a fixed-point instruction. -/
theorem WroteSat.result {c : Core} {gd : Reg} {v : Int} {n : Nat} {s t : State} (h : WroteSat c gd v n s t) :
    (t.dev.core c).cur.r gd = (if gd = 0 then 0 else Word.ofInt (satVal v)) ∧ (t.dev.core c).cur.sat = ((s.dev.core c).cur.sat || satClamps v) := by
  obtain ⟨⟨-, hdev⟩, hreg⟩ := h
  refine ⟨?_, ?_⟩
  · rw [hreg gd]
    by_cases hg : gd = 0
    · simp [hg]
    · simp [hg]
  · rw [hdev, Dev.core_setCore]

/-- Settles O7: no cause meets a division that fits its budget; the results by cases on the divisor. -/
theorem divisionResults : Obligations.DivisionResults := by
  unfold Obligations.DivisionResults
  refine fun c => ⟨?div, ?divu, ?rem, ?remu, ?byZero, ?quotient⟩
  case div => exact fun gd ga gb s h => show ∃ t, execDiv c gd ga gb s = .next t ∧ _ from alu3_wrote h (divS_eq _ _)
  case divu => exact fun gd ga gb s h => show ∃ t, execDivu c gd ga gb s = .next t ∧ _ from alu3_wrote h rfl
  case rem => exact fun gd ga gb s h => show ∃ t, execRem c gd ga gb s = .next t ∧ _ from alu3_wrote h (remS_eq _ _)
  case remu => exact fun gd ga gb s h => show ∃ t, execRemu c gd ga gb s = .next t ∧ _ from alu3_wrote h rfl
  case byZero =>
    intro gd ga gb s h hz
    obtain ⟨t, ht, hw⟩ := execQdiv16_wrote h gd ga gb
    obtain ⟨hr, hsat⟩ := hw.result
    rw [hz, show (0 : Word).toInt = 0 from rfl] at hr hsat
    rw [satVal_qdiv16_zero] at hr
    rw [satClamps_qdiv16_zero, decide_eq_decide.2 (not_congr Word.toInt_eq_zero)] at hsat
    exact ⟨t, ht, hr, hsat, _, hw⟩
  case quotient =>
    intro gd ga gb s h hz
    obtain ⟨t, ht, hw⟩ := execQdiv16_wrote h gd ga gb
    rw [qdiv16, if_neg (mt Word.toInt_eq_zero.1 hz)] at hw
    exact ⟨t, ht, hw⟩

end Sys2Proof.Machine
end

section
/-! General registers and control flow of Tabbin (02 R37, R41, R52, R57-R59): branches, JAL and RET, and loops. -/

namespace Sys2Proof.Machine
open Sys2Proof

@[simp] theorem Dev.core_takeFree (d : Dev) (c : Core) : d.takeFree.core c = d.core c := by cases c <;> rfl

/-! Branches and J (02 R54, R58). -/

/-- A conditional branch whose condition says `P`. -/
theorem branch_fits {c : Core} {ga gb : Reg} {p : Word → Word → Bool} {s : State} (h : Fits c 2 s) (hj : FitsJump c 2 s)
    (off : BitVec 16) {P : Prop} [Decidable P] (hp : p (s.dev.val c ga) (s.dev.val c gb) = true ↔ P) :
    ∃ t, branch c ga gb off p s = .next t ∧
      if P then WentTo c ((s.dev.core c).cur.target off.toInt) 2 s t else Passed c 2 s t := by
  unfold branch
  dsimp only
  change p ((s.dev.core c).cur.r ga) ((s.dev.core c).cur.r gb) = true ↔ P at hp
  by_cases hP : P
  · rw [if_pos (hp.2 hP)]
    refine ⟨_, rfl, ?_⟩
    rw [if_pos hP]
    exact WentTo.of_fitsJump hj _
  · rw [if_neg (mt hp.1 hP)]
    refine ⟨_, rfl, ?_⟩
    rw [if_neg hP]
    exact Passed.of_fits h

theorem slt_iff (a b : Word) : a.slt b = true ↔ a.toInt < b.toInt := by simp [BitVec.slt]

theorem not_slt_iff (a b : Word) : (!a.slt b) = true ↔ b.toInt ≤ a.toInt := by simp [BitVec.slt]

theorem ult_iff (a b : Word) : a.ult b = true ↔ a.toNat < b.toNat := by simp [BitVec.ult]

theorem not_ult_iff (a b : Word) : (!a.ult b) = true ↔ b.toNat ≤ a.toNat := by simp [BitVec.ult]

/-- Settles O17: a branch by its condition; J always goes. -/
theorem transfers : Obligations.Transfers := by
  unfold Obligations.Transfers
  refine fun c => ⟨?beq, ?bne, ?blt, ?bge, ?bltu, ?bgeu, ?j⟩
  case beq => exact fun ga gb off s h hj => show ∃ t, execBeq c ga gb off s = .next t ∧ _ from branch_fits h hj off beq_iff_eq
  case bne => exact fun ga gb off s h hj => show ∃ t, execBne c ga gb off s = .next t ∧ _ from branch_fits h hj off bne_iff_ne
  case blt => exact fun ga gb off s h hj => show ∃ t, execBlt c ga gb off s = .next t ∧ _ from branch_fits h hj off (slt_iff _ _)
  case bge => exact fun ga gb off s h hj => show ∃ t, execBge c ga gb off s = .next t ∧ _ from branch_fits h hj off (not_slt_iff _ _)
  case bltu => exact fun ga gb off s h hj => show ∃ t, execBltu c ga gb off s = .next t ∧ _ from branch_fits h hj off (ult_iff _ _)
  case bgeu => exact fun ga gb off s h hj => show ∃ t, execBgeu c ga gb off s = .next t ∧ _ from branch_fits h hj off (not_ult_iff _ _)
  case j => exact fun off s hj => ⟨_, rfl, WentTo.of_fitsJump hj _⟩

/-! JAL and RET (02 R41, R59). -/

@[simp] theorem Ctx.pushRet_regs (n : Nat) (x : Ctx) : (x.pushRet n).regs = x.regs := by
  unfold Ctx.pushRet
  split <;> rfl

theorem Ctx.r_congr {x y : Ctx} (h : y.regs = x.regs) (g : Reg) : y.r g = x.r g := by
  unfold Ctx.r
  rw [h]

theorem Ctx.pushRet_room {n : Nat} {x : Ctx} (h : x.rstk.length < 8) :
    x.pushRet n = { x with rstk := (x.pc + 4, x.lstk.length) :: x.rstk } := if_pos h

/-- The place that JAL goes to; no loop is left. -/
def Ctx.callee (x : Ctx) (off : BitVec 26) : Nxt := { pc := x.target off.toInt, lstk := x.lstk, extra := 0 }

/-- The context of JAL: g31 takes the return address `a`, and the return stack an entry. -/
def Ctx.called (n a : Nat) (x : Ctx) : Ctx := (x.pushRet n).w 31 (BitVec.ofNat 32 a)

theorem Ctx.called_r (n a : Nat) (x : Ctx) (g : Reg) : (x.called n a).r g = if g = 31 then BitVec.ofNat 32 a else x.r g := by
  unfold Ctx.called
  rw [Ctx.r_w, Ctx.r_congr (Ctx.pushRet_regs n x)]
  simp

/-- The place that RET goes to with `(a, n)` on top of the return stack. -/
def Ctx.returned (a n : Nat) (x : Ctx) : Nxt := { pc := a, lstk := x.lstk.drop (x.lstk.length - n), extra := 0 }

theorem execJal_fits {c : Core} {s : State} (h : FitsJump c 2 s) (off : BitVec 26) :
    ∃ t, execJal c off s = .next t ∧ (t.dev.core c).cur = ((s.dev.core c).cur.called s.dev.freeCnt ((s.dev.core c).cur.pc + 4)).moved ((s.dev.core c).cur.callee off) 2 := by
  refine ⟨_, rfl, ?_⟩
  dsimp only
  rw [Dev.jump_fits h]
  split
  · rw [Dev.core_takeFree, Dev.retire_cur]
    rfl
  · rw [Dev.retire_cur]
    rfl

/-- Settles O16: reads and writes of registers by the laws of the context, and g31 after JAL. -/
theorem zeroRegister : Obligations.ZeroRegister := by
  refine ⟨fun x => ⟨Ctx.r_zero x, Ctx.w_zero x⟩, fun x g v hg => ⟨?same, fun k hk => ?other⟩, fun c off s h => ?jal⟩
  case same => rw [Ctx.r_w, if_pos ⟨rfl, hg⟩]
  case other => rw [Ctx.r_w, if_neg fun hkg => hk hkg.1]
  case jal =>
    obtain ⟨t, ht, hcur⟩ := execJal_fits h off
    refine ⟨t, ht, ?_⟩
    rw [hcur, Ctx.moved_r, Ctx.called_r, if_pos rfl]

/-- JAL with room on the return stack moves its core alone. -/
theorem execJal_room {c : Core} {s : State} (h : FitsJump c 2 s) (off : BitVec 26) (hroom : (s.dev.core c).cur.rstk.length < 8) :
    execJal c off s = .next { s with dev := s.dev.retire c ((s.dev.core c).cur.callee off) 2 (Ctx.called s.dev.freeCnt ((s.dev.core c).cur.pc + 4)) } := by
  unfold execJal
  dsimp only
  rw [Dev.jump_fits h, decide_eq_true hroom, Bool.not_true, if_neg Bool.false_ne_true]
  rfl

/-- Settles O18: JAL and RET by the return stack. -/
theorem callAndReturn : Obligations.CallAndReturn := by
  unfold Obligations.CallAndReturn
  refine fun c => ⟨fun off s h hroom => ?jal, fun s a n rest h hstk hn => ?ret, fun s hstk hf => ?empty⟩
  case jal =>
    refine ⟨_, execJal_room h off hroom, ?_, fun g hg => ?_⟩
    · refine CoreMoved.retire c _ 2 ?_
      rw [Dev.retire_cur, Ctx.called, Ctx.w_eq, Ctx.pushRet_room hroom]
      rfl
    · rw [Dev.retire_cur, Ctx.moved_r, Ctx.called_r, if_neg hg]
  case ret =>
    have run : execRet c s = .next { s with dev := s.dev.retire c ((s.dev.core c).cur.returned a n) 2 (fun y => { y with rstk := rest }) } := by
      unfold execRet
      dsimp only
      rw [hstk]
      dsimp only
      rw [Dev.jump_fits h]
      rfl
    refine ⟨_, run, ?_, CoreMoved.retire c _ 2 ?_, ?_⟩
    · rw [Dev.retire_cur]
      simp only [Ctx.moved, Ctx.returned, List.length_drop]
      omega
    · rw [Dev.retire_cur]
      rfl
    · rw [Dev.retire_cur]
      exact List.drop_suffix _ _
  case empty =>
    refine ⟨{ s with dev := s.dev.trap c 6 }, ?_, rfl⟩
    change execRet c s = _
    unfold execRet
    dsimp only
    rw [hstk]
    dsimp only
    rw [Dev.jump_trap _ _ (firstCause_illegal _ hf rfl rfl)]

/-! Loops (02 R57). -/

theorem loopCount_eq (g : Word) (bound : Nat) : loopCount g bound = (min (max g.toInt 0) (bound : Int)).toNat := by
  unfold loopCount
  omega

/-- The place that LOOP goes to with `left` iterations of a body that ends at `stop`. -/
def Ctx.loopBody (stop left : Nat) (x : Ctx) : Nxt :=
  { pc := x.pc + 4, lstk := { start := x.pc + 4, stop := stop, left := left } :: x.lstk, extra := 0 }

/-- Settles O19: LOOP by its number of iterations. -/
theorem loopEntry : Obligations.LoopEntry := by
  intro c gc bound len s x n stop
  have hn : loopCount (x.r gc) bound = n.toNat := loopCount_eq _ _
  refine ⟨fun hpos hroom h => ?enter, fun hzero h => ?skip⟩
  case enter =>
    have run : execLoop c gc bound len s = .next { s with dev := s.dev.retire c (x.loopBody stop n.toNat) 2 id } := by
      unfold execLoop
      dsimp only
      rw [Dev.jump_fits h, hn, if_neg (by omega), if_pos hroom, pushLoop, if_pos hroom]
      rfl
    exact ⟨_, run, CoreMoved.retire c _ 2 rfl⟩
  case skip =>
    have run : execLoop c gc bound len s = .next { s with dev := s.dev.retire c (arrive x.base x.lstk stop) (2 + (arrive x.base x.lstk stop).extra) id } := by
      unfold execLoop
      dsimp only
      rw [hn, if_pos (by omega), Dev.jump_fits h]
    exact ⟨_, run, CoreMoved.retire c _ _ rfl⟩

/-- Settles O20: the top entry of the running function, by its end and its iterations. -/
theorem loopIteration : Obligations.LoopIteration := by
  intro base e rest pc hbase
  have inside : ¬ rest.length < base := by omega
  refine ⟨fun hpc hleft => ?again, fun hpc hleft => ?last, fun hpc => ?apart⟩
  case again => rw [arrive, if_neg (by tauto), if_pos hleft]
  case last =>
    rw [arrive, if_neg (by tauto), if_neg (by omega)]
    exact ⟨rfl, rfl, rfl⟩
  case apart => rw [arrive, if_pos (Or.inr hpc)]

end Sys2Proof.Machine
end

section
/-! Special values and staged outputs (02 R60-R65). -/

namespace Sys2Proof.Machine
open Sys2Proof

/-- MFS of an index of one cycle. -/
theorem execMfs_wrote {c : Core} {s : State} (h : Fits c 1 s) (gd : Reg) {idx : Nat} (hpos : 0 < idx) (hle : idx ≤ 9) {v : Word}
    (hv : s.dev.mfs c idx = v) : ∃ t, exec (.mfs c gd idx) s = .next t ∧ Wrote c gd v 1 s t := by
  refine ⟨{ s with dev := s.dev.instr c 1 {} (fun x => x.w gd (s.dev.mfs c idx)) }, ?_, Wrote.of_fits h (by rw [hv])⟩
  change execMfs c gd idx s = _
  have h0 : ¬ idx = 0 := by omega
  have h9 : decide (9 < idx) = false := decide_eq_false (by omega)
  simp only [execMfs, h0, h9, if_false]

theorem Dev.role_word (d : Dev) : BitVec.ofNat 32 d.role =
    if d.isTwin = false then 0#32 else if d.twinState = 0 ∨ d.twinState = 4 then 1#32 else 2#32 := by
  unfold Dev.role
  cases d.isTwin
  · rfl
  · change BitVec.ofNat 32 (if d.twinState = 0 ∨ d.twinState = 4 then 1 else 2) = if d.twinState = 0 ∨ d.twinState = 4 then 1#32 else 2#32
    split <;> rfl

theorem b2n_word (b : Bool) : BitVec.ofNat 32 (b2n b) = if b then 1#32 else 0#32 := by cases b <;> rfl

theorem two_b2n (b : Bool) : 2 * b2n b = if b then 2 else 0 := by cases b <;> rfl

/-- MFS of an unassigned index. -/
theorem execMfs_illegal {c : Core} {s : State} (gd : Reg) {idx : Nat} (h9 : 9 < idx) (hf : s.dev.fetchBad c = false) :
    ∃ t, exec (.mfs c gd idx) s = .next t ∧ Trapped c 6 s t := by
  refine ⟨_, ?_, rfl⟩
  change execMfs c gd idx s = _
  unfold execMfs
  dsimp only
  rw [Dev.instr_trap _ (firstCause_illegal _ hf rfl (decide_eq_true h9))]

/-- Settles O21: each index by its value; TIMEL takes the snapshot too. -/
theorem specialValues : Obligations.SpecialValues := by
  intro c gd s
  refine ⟨fun idx v hv h => ?value, fun u hu h => ?time, fun idx h9 hf => execMfs_illegal gd h9 hf⟩
  case value =>
    simp only [List.mem_cons, Prod.mk.injEq, List.not_mem_nil, or_false] at hv
    obtain ⟨rfl, rfl⟩ | ⟨rfl, rfl⟩ | ⟨rfl, rfl⟩ | ⟨rfl, rfl⟩ | ⟨rfl, rfl⟩ | ⟨rfl, rfl⟩ | ⟨rfl, rfl⟩ | ⟨rfl, rfl⟩ | ⟨rfl, rfl⟩ := hv
    case inr.inr.inr.inr.inl => exact execMfs_wrote h gd (by decide) (by decide) (by rw [← two_b2n]; rfl)
    case inr.inr.inr.inr.inr.inl => exact execMfs_wrote h gd (by decide) (by decide) (b2n_word _)
    case inr.inr.inr.inr.inr.inr.inr.inl => exact execMfs_wrote h gd (by decide) (by decide) (Dev.role_word _)
    case inr.inr.inr.inr.inr.inr.inr.inr => exact execMfs_wrote h gd (by decide) (by decide) (by rw [← two_b2n]; rfl)
    all_goals exact execMfs_wrote h gd (by decide) (by decide) rfl
  case time =>
    have hu' : s.dev.mfsTime c = u := hu.symm
    refine ⟨{ s with dev := s.dev.instr c 2 {} (fun x => ({ x with snap := u }).w gd (BitVec.ofNat 32 u)) }, ?_, ?_, fun g => ?_⟩
    · rw [← hu']
      rfl
    · rw [Dev.instr_fits h]
      refine CoreMoved.retire c _ _ ?_
      rw [Dev.retire_cur, Ctx.w_eq]
      rfl
    · rw [Dev.instr_fits h, Dev.retire_cur, Ctx.moved_r, Ctx.r_w]
      rfl

/-! Staged outputs (02 R61-R65). -/

/-- The instruction of core `c` staged `o` and went on for `n` cycles: `o` is the last staged value and the only one of its output, and
every value of another output stays. -/
def StagedOut (c : Core) (n : Nat) (o : OutVal) (s t : State) : Prop :=
  CoreMoved c (n + (s.dev.core c).cur.seq.extra) { (s.dev.core c).cur with
    staged := (t.dev.core c).cur.staged, pc := (s.dev.core c).cur.seq.pc, lstk := (s.dev.core c).cur.seq.lstk,
    cyc := (s.dev.core c).cur.cyc + (n + (s.dev.core c).cur.seq.extra) } s t ∧
  (t.dev.core c).cur.staged.getLast? = some o ∧
  (∀ p, p.cls ≠ o.cls ∨ p.idx ≠ o.idx → (p ∈ (t.dev.core c).cur.staged ↔ p ∈ (s.dev.core c).cur.staged)) ∧
  (∀ p, p ∈ (t.dev.core c).cur.staged → p.cls = o.cls → p.idx = o.idx → p.val = o.val)

theorem Ctx.mem_stage (o p : OutVal) (x : Ctx) :
    p ∈ (x.stage o).staged ↔ (p ∈ x.staged ∧ (p.cls ≠ o.cls ∨ p.idx ≠ o.idx)) ∨ p = o := by
  simp [Ctx.stage]

theorem StagedOut.of_fits {c : Core} {n : Nat} {s : State} (h : Fits c n s) (cls idx : Nat) (gs : Reg) :
    StagedOut c n { cls := cls, idx := idx, val := s.dev.val c gs } s
      { s with dev := s.dev.instr c n {} (fun x => x.stage { cls := cls, idx := idx, val := x.r gs }) } := by
  unfold StagedOut
  dsimp only
  rw [Dev.instr_fits h, Dev.retire_cur]
  have mem := Ctx.mem_stage { cls := cls, idx := idx, val := s.dev.val c gs }
  refine ⟨CoreMoved.retire c _ _ rfl, List.getLast?_concat, fun p hp => (mem p _).trans ?_, fun p hp hcls hidx => ?_⟩
  · refine ⟨fun hm => hm.elim And.left fun hpo => ?_, fun hm => Or.inl ⟨hm, hp⟩⟩
    subst hpo
    exact absurd rfl (hp.elim id fun hi => absurd rfl hi)
  · obtain ⟨-, hne⟩ | hpo := (mem p _).1 hp
    · exact absurd hcls (hne.elim id fun hi => absurd hidx hi)
    · rw [hpo]

theorem outCauses_illegal {d : Dev} {c : Core} {cls : Nat} (idx : Nat) (h : 12 ≤ cls) : (d.outCauses c cls idx).ill = true := by
  simp [Dev.outCauses, h]

/-- Settles O22: OUT and OUTX stage by one rule, and classes from 12 on are ILLEGAL. -/
theorem stagedOutputs : Obligations.StagedOutputs := by
  intro c gs cls s
  refine ⟨fun idx h hq => ?out, fun gi h hq => ?outx, fun hcls hf => ⟨fun idx => ?illOut, fun gi => ?illOutx⟩⟩
  case out =>
    have staged := StagedOut.of_fits h cls idx gs
    rw [← hq] at staged
    exact ⟨_, rfl, staged⟩
  case outx =>
    have staged := StagedOut.of_fits h cls (s.dev.val c gi).toNat gs
    rw [← hq] at staged
    exact ⟨_, rfl, staged⟩
  case illOut =>
    refine ⟨_, ?_, rfl⟩
    change execOut c gs cls idx s = _
    unfold execOut
    rw [Dev.instr_trap _ (firstCause_illegal _ hf rfl (outCauses_illegal idx hcls))]
  case illOutx =>
    refine ⟨_, ?_, rfl⟩
    change execOutx c gs gi cls s = _
    unfold execOutx
    dsimp only
    rw [Dev.instr_trap _ (firstCause_illegal _ hf rfl (outCauses_illegal _ hcls))]

end Sys2Proof.Machine
end

section
/-! What a trap and a missed activation leave (02 R85-R86, 03 R106-R112): the core, the published outputs, and TSTAT and TMISS of the task. -/

namespace Sys2Proof.Machine
open Sys2Proof

/-! Cores and published outputs under the parts of a trap, whatever the number of the task. -/

/-- Cores and published outputs are as before. -/
def ActsKept (d e : Dev) : Prop := (∀ c, e.core c = d.core c) ∧ e.pubs = d.pubs

theorem ActsKept.refl (d : Dev) : ActsKept d d := ⟨fun _ => rfl, rfl⟩

theorem ActsKept.trans {d e f : Dev} (h : ActsKept d e) (k : ActsKept e f) : ActsKept d f :=
  ⟨fun c => (k.1 c).trans (h.1 c), k.2.trans h.2⟩

theorem ActsKept.of_sameBut {d e : Dev} (h : Dev.sameBut d e) : ActsKept d e := ⟨Dev.core_of_sameBut h, Dev.sameBut_pubs h⟩

theorem ActsKept.setReg (d : Dev) (a : Nat) (v : Word) : ActsKept d (d.setReg a v) := ⟨d.core_setReg a v, rfl⟩

theorem ActsKept.raise (d : Dev) (e i : Nat) : ActsKept d (d.raise e i) := .of_sameBut (d.sameBut_raise e i)

theorem ActsKept.factTrip (p zones : Nat) (d : Dev) : ActsKept d (d.factTrip p zones) := by
  unfold Dev.factTrip Dev.raiseIf
  split
  · split
    · exact ⟨fun c => by cases c <;> rfl, rfl⟩
    · exact ⟨fun c => by cases c <;> rfl, rfl⟩
  · split
    · exact .raise d 167 p
    · exact .refl d

theorem ActsKept.setPorts (l : List Nat) (f : Nat → Port → Port) (d : Dev) : ActsKept d (foldOver l (fun n d => d.setPort n (f n)) d) :=
  foldOver_keeps (ActsKept d) l _ d (fun _ _ h => h.trans ⟨fun c => by cases c <;> rfl, rfl⟩) (.refl d)

/-- What marking a task faulty does beside its mark, the event and the fault action's trip: tags and staged zeros. -/
def Dev.faultyNoted (n : Nat) (d : Dev) : Dev :=
  let e := foldOver (List.range ((d.setRbit (A.sysTstat n) 31 true).raise 379 n).rings) (fun k d => d.setPort k (Port.dropDone (n + 1)))
    ((d.setRbit (A.sysTstat n) 31 true).raise 379 n)
  if (d.task n).fact = 1 ∨ (d.task n).fact = 2 then { e with committed := e.committed ++ safeZeros (d.task n) } else e

theorem Dev.taskFaulty_eq (d : Dev) (n : Nat) : d.taskFaulty n =
    if (d.task n).fact = 2 then (d.faultyNoted n).factTrip ((d.faultyNoted n).hostPair n) (d.task n).fzones else d.faultyNoted n := rfl

theorem ActsKept.faultyNoted (d : Dev) (n : Nat) : ActsKept d (d.faultyNoted n) := by
  have marked := ((ActsKept.setReg d _ _).trans (ActsKept.raise (d.setRbit (A.sysTstat n) 31 true) 379 n)).trans
    (ActsKept.setPorts (List.range ((d.setRbit (A.sysTstat n) 31 true).raise 379 n).rings) (fun _ => Port.dropDone (n + 1)) _)
  unfold Dev.faultyNoted
  dsimp only
  split
  · exact marked.trans ⟨fun c => by cases c <;> rfl, rfl⟩
  · exact marked

theorem ActsKept.taskFaulty (d : Dev) (n : Nat) : ActsKept d (d.taskFaulty n) := by
  rw [Dev.taskFaulty_eq]
  split
  · exact (ActsKept.faultyNoted d n).trans (.factTrip _ _ _)
  · exact .faultyNoted d n

/-- The marks of a missed activation: TSTAT.MISS, TMISS with its overflow bit, and the count of consecutive misses. -/
def Dev.missMarked (n : Nat) (d : Dev) : Dev :=
  let e := (d.setRbit (A.sysTstat n) 29 true).bump (A.sysTmiss n) (A.sysTstat n) 24
  e.setFld (A.sysTstat n) 26 25 (min (e.fld (A.sysTstat n) 26 25 + 1) 3)

/-- A miss is marked and raised, and the third in a row makes the task faulty. -/
theorem Dev.countMiss_cases (p : Nat) (d : Dev) (n : Nat) :
    d.countMiss p n = (d.missMarked n).raise (377 + p) n ∨ d.countMiss p n = ((d.missMarked n).raise (377 + p) n).taskFaulty n := by
  unfold Dev.countMiss
  dsimp only
  split
  · exact Or.inr rfl
  · exact Or.inl rfl

theorem ActsKept.missMarked (d : Dev) (n : Nat) : ActsKept d (d.missMarked n) :=
  ((ActsKept.setReg d _ _).trans (.of_sameBut (Dev.sameBut_bump _ _ _ _))).trans (.setReg _ _ _)

theorem ActsKept.countMiss (p : Nat) (d : Dev) (n : Nat) : ActsKept d (d.countMiss p n) := by
  have raised := (ActsKept.missMarked d n).trans (.raise _ (377 + p) n)
  obtain h | h := d.countMiss_cases p n
  · rw [h]
    exact raised
  · rw [h]
    exact raised.trans (.taskFaulty _ n)

/-! TSTAT and TMISS of a task of the table. -/

theorem evtArea_below {a : Nat} (h : a < 0x40010000) : evtArea a = false := by
  have hlog : ¬ 0x40120000 ≤ a := by omega
  have hevt : ¬ 0x40010000 ≤ a := by omega
  simp [evtArea, hevt, hlog]

theorem evtArea_sysTstat {n : Nat} (h : n < 128) : evtArea (A.sysTstat n) = false := evtArea_below (A.sysTstat_lt h)

theorem evtArea_sysTmiss {n : Nat} (h : n < 128) : evtArea (A.sysTmiss n) = false := evtArea_below (A.sysTmiss_lt h)

theorem A.sysTmiss_ne_sysTstat (n : Nat) : A.sysTmiss n ≠ A.sysTstat n := by
  unfold A.sysTmiss A.sysTstat
  omega

theorem Dev.rbit_setFld (d : Dev) (a : Nat) {hi lo i : Nat} (v : Nat) (hw : hi < 32) (hl : lo ≤ hi) (h32 : i < 32) :
    (d.setFld a hi lo v).rbit a i = if lo ≤ i ∧ i ≤ hi then v.testBit (i - lo) else d.rbit a i := by
  unfold Dev.rbit
  rw [Dev.reg_setFld]
  exact Word.bit_setField _ _ _ _ _ hw hl h32

/-- A count leaves every bit of its overflow register but its own. -/
theorem Dev.rbit_bump_ovf (d : Dev) {c o b i : Nat} (hc : o ≠ c) (hb : b < 32) (hi : i < 32) (h : i ≠ b) :
    (d.bump c o b).rbit o i = d.rbit o i := by
  have counted := Dev.rbit_congr (Dev.reg_setReg_other d (satInc (d.reg c)) hc) i
  unfold Dev.bump
  dsimp only
  split
  · rw [Dev.rbit_setRbit _ _ _ _ _ hb hi, if_neg h, counted]
  · exact counted

theorem Dev.missMarked_tmiss (d : Dev) (n : Nat) : (d.missMarked n).reg (A.sysTmiss n) = satInc (d.reg (A.sysTmiss n)) := by
  have hne := A.sysTmiss_ne_sysTstat n
  unfold Dev.missMarked
  dsimp only
  rw [Dev.reg_setFld_other _ _ _ _ hne, Dev.reg_bump _ _ hne, Dev.reg_setRbit_other _ _ _ hne]

/-- Of TSTAT, MISS, the overflow bit and the count of consecutive misses may change. -/
theorem Dev.missMarked_tstat (d : Dev) (n : Nat) {i : Nat} (hi : i < 32) (hout : i < 24 ∨ 26 < i) :
    (d.missMarked n).rbit (A.sysTstat n) i = if i = 29 then true else d.rbit (A.sysTstat n) i := by
  unfold Dev.missMarked
  dsimp only
  rw [Dev.rbit_setFld _ _ _ (by decide) (by decide) hi, if_neg (by omega),
    Dev.rbit_bump_ovf _ (A.sysTmiss_ne_sysTstat _).symm (by decide) hi (by omega), Dev.rbit_setRbit _ _ _ _ _ (by decide) hi]

theorem Dev.reg_factTrip (p zones : Nat) (d : Dev) {a : Nat} (ha : evtArea a = false) : (d.factTrip p zones).reg a = d.reg a := by
  unfold Dev.factTrip Dev.raiseIf
  split
  · split <;> rfl
  · split
    · exact d.reg_raise ha (by decide) p
    · rfl

theorem Dev.setPorts_regs (l : List Nat) (f : Nat → Port → Port) (d : Dev) : (foldOver l (fun n d => d.setPort n (f n)) d).regs = d.regs :=
  foldOver_keeps (fun e => e.regs = d.regs) l (fun n d => d.setPort n (f n)) d (fun _ _ h => h) rfl

theorem Dev.faultyNoted_regs (d : Dev) (n : Nat) : (d.faultyNoted n).regs = ((d.setRbit (A.sysTstat n) 31 true).raise 379 n).regs := by
  unfold Dev.faultyNoted
  dsimp only
  split
  · exact Dev.setPorts_regs _ _ _
  · exact Dev.setPorts_regs _ _ _

/-- Outside EVT and LOG a faulty task shows in its TSTAT alone. -/
theorem Dev.reg_taskFaulty (d : Dev) (n : Nat) {a : Nat} (ha : evtArea a = false) :
    (d.taskFaulty n).reg a = (d.setRbit (A.sysTstat n) 31 true).reg a := by
  have noted := (Dev.reg_congr (d.faultyNoted_regs n) a).trans (Dev.reg_raise _ ha (by decide) n)
  rw [Dev.taskFaulty_eq]
  split
  · rw [Dev.reg_factTrip _ _ _ ha, noted]
  · exact noted

/-- Outside EVT and LOG a missed activation shows in its marks, and in TSTAT's bit 31. -/
theorem Dev.reg_countMiss {p : Nat} (d : Dev) (n : Nat) {a : Nat} (hp : p < 2) (ha : evtArea a = false) :
    (d.countMiss p n).reg a = (d.missMarked n).reg a ∨ (d.countMiss p n).reg a = ((d.missMarked n).reg a).setBit 31 true ∧ a = A.sysTstat n := by
  have raised : ((d.missMarked n).raise (377 + p) n).reg a = (d.missMarked n).reg a := Dev.reg_raise _ ha (by omega) n
  obtain h | h := d.countMiss_cases p n
  · exact Or.inl (by rw [h, raised])
  · rw [h, Dev.reg_taskFaulty _ n ha]
    by_cases hat : a = A.sysTstat n
    · subst hat
      exact Or.inr ⟨by rw [Dev.reg_setRbit, raised], rfl⟩
    · exact Or.inl (by rw [Dev.reg_setRbit_other _ _ _ hat, raised])

theorem Dev.countMiss_tmiss {p : Nat} (d : Dev) {n : Nat} (hp : p < 2) (h : n < 128) :
    (d.countMiss p n).reg (A.sysTmiss n) = satInc (d.reg (A.sysTmiss n)) := by
  obtain hr | ⟨-, hr⟩ := Dev.reg_countMiss d n hp (evtArea_sysTmiss h)
  · rw [hr, d.missMarked_tmiss n]
  · exact absurd hr (A.sysTmiss_ne_sysTstat _)

theorem Dev.countMiss_tstat {p : Nat} (d : Dev) {n i : Nat} (hp : p < 2) (h : n < 128) (hi : i < 31) (hout : i < 24 ∨ 26 < i) :
    (d.countMiss p n).rbit (A.sysTstat n) i = if i = 29 then true else d.rbit (A.sysTstat n) i := by
  rw [← d.missMarked_tstat n (by omega) hout]
  obtain hr | ⟨hr, -⟩ := Dev.reg_countMiss d n hp (evtArea_sysTstat h)
  · exact Dev.rbit_congr hr i
  · unfold Dev.rbit
    rw [hr, Word.bit_setBit _ _ _ _ (by decide) (by omega), if_neg (by omega)]

/-! The end of an activation. -/

@[simp] theorem Dev.endAct_regs (c : Core) (d : Dev) : (d.endAct c).regs = d.regs := Dev.setCore_regs _ _ _

@[simp] theorem Dev.endAct_pubs (c : Core) (d : Dev) : (d.endAct c).pubs = d.pubs := Dev.setCore_pubs _ _ _

@[simp] theorem Dev.endAct_core (c : Core) (d : Dev) : (d.endAct c).core c = (d.core c).endAct := by
  unfold Dev.endAct
  rw [Dev.core_setCore]
  cases c <;> rfl

/-! The trap. -/

/-- The events and the record of a trap. -/
def Dev.trapNoted (c : Core) (code : Nat) (d : Dev) : Dev :=
  let e := (d.raiseNoLog (trapEvent c)).logRec 1 (trapEvent c) ([code, (d.core c).cur.task, 0, 0] ++ leBytes 4 (d.core c).cur.pc) []
  if code = 1 then e.raise 372 0 else e

/-- The activation of a trapped core over, with its cause in TSTAT. -/
def Dev.trapEnded (c : Core) (code : Nat) (d : Dev) : Dev := ((d.trapNoted c code).setFld (A.sysTstat (d.core c).cur.task) 7 0 code).endAct c

theorem Dev.trap_eq (c : Core) (code : Nat) (d : Dev) : d.trap c code =
    if (d.core c).run then (d.trapEnded c code).countMiss (pairOf c) (d.core c).cur.task else d.trapEnded c code := rfl

theorem Dev.sameBut_trapNoted (c : Core) (code : Nat) (d : Dev) : Dev.sameBut d (d.trapNoted c code) := by
  have noted : ∀ b, Dev.sameBut d ((d.raiseNoLog (trapEvent c)).logRec 1 (trapEvent c) b []) := fun b =>
    Dev.sameBut_trans (Dev.sameBut_raiseBase d _) (Dev.sameBut_logRec _ _ _ _ _)
  unfold Dev.trapNoted
  dsimp only
  split
  · exact Dev.sameBut_trans (noted _) (Dev.sameBut_raise _ _ _)
  · exact noted _

theorem Dev.trapNoted_regsRaised (c : Core) (code : Nat) (d : Dev) :
    RegsRaised [trapEvent c, 367, 372] d (d.trapNoted c code) := by
  have noted : ∀ b, RegsRaised [trapEvent c, 367, 372] d ((d.raiseNoLog (trapEvent c)).logRec 1 (trapEvent c) b []) := fun b =>
    ((d.raiseBase_regsRaised (trapEvent_lt c)).mono (by simp)).trans ((Dev.logRec_regsRaised _ _ _ _ _).mono (by simp))
  unfold Dev.trapNoted
  dsimp only
  split
  · exact (noted _).trans ((Dev.raise_regsRaised _ (by decide) 0).mono (by simp))
  · exact noted _

theorem Dev.trapNoted_pending (c : Core) (code : Nat) (d : Dev) : (d.trapNoted c code).eventPending (trapEvent c) = true := by
  have noted : ∀ b, ((d.raiseNoLog (trapEvent c)).logRec 1 (trapEvent c) b []).eventPending (trapEvent c) = true := fun b =>
    (Dev.logRec_regsRaised _ _ _ _ _).pend.eventPending (trapEvent_lt c) (d.raiseBase_pending (trapEvent_lt c))
  unfold Dev.trapNoted
  dsimp only
  split
  · exact (Dev.raise_regsRaised _ (by decide) 0).pend.eventPending (trapEvent_lt c) (noted _)
  · exact noted _

theorem Dev.trapEnded_core (c : Core) (code : Nat) (d : Dev) : (d.trapEnded c code).core c = (d.core c).endAct := by
  unfold Dev.trapEnded
  rw [Dev.endAct_core, Dev.setFld, Dev.core_setReg, Dev.core_of_sameBut (d.sameBut_trapNoted c code)]

theorem Dev.trapEnded_pubs (c : Core) (code : Nat) (d : Dev) : (d.trapEnded c code).pubs = d.pubs := by
  unfold Dev.trapEnded
  rw [Dev.endAct_pubs, Dev.setFld_pubs, Dev.sameBut_pubs (d.sameBut_trapNoted c code)]

/-- What follows the end of the activation leaves cores and published outputs. -/
theorem Dev.trap_actsKept (c : Core) (code : Nat) (d : Dev) : ActsKept (d.trapEnded c code) (d.trap c code) := by
  rw [Dev.trap_eq]
  split
  · exact .countMiss _ _ _
  · exact .refl _

/-- A trapped core ends its activation, whatever task it held. -/
theorem Dev.trap_core (c : Core) (code : Nat) (d : Dev) : (d.trap c code).core c = (d.core c).endAct :=
  ((d.trap_actsKept c code).1 c).trans (d.trapEnded_core c code)

theorem CoreSt.endAct_r (k : CoreSt) (g : Reg) : k.endAct.cur.r g = k.cur.r g := rfl

theorem Dev.trapEnded_reg (c : Core) (code : Nat) (d : Dev) (a : Nat) :
    (d.trapEnded c code).reg a = ((d.trapNoted c code).setFld (A.sysTstat (d.core c).cur.task) 7 0 code).reg a :=
  Dev.reg_congr (Dev.endAct_regs _ _) a

/-- The trap event stays pending. -/
theorem Dev.trap_pending {c : Core} {code : Nat} {d : Dev} (h : (d.core c).cur.task < 128) : (d.trap c code).eventPending (trapEvent c) = true := by
  have ended : (d.trapEnded c code).eventPending (trapEvent c) = true :=
    ((CoresPendKept.setFld _ 7 0 code (A.sysTstat_lt h)).2.trans (Dev.endAct_pendKept c _)).eventPending (trapEvent_lt c) (d.trapNoted_pending c code)
  rw [Dev.trap_eq]
  split
  · exact (CoresPendKept.countMiss _ _ (pairOf_lt c) h).2.eventPending (trapEvent_lt c) ended
  · exact ended

/-- TSTAT.CAUSE holds the code (03 R111). -/
theorem Dev.trap_cause {c : Core} {code : Nat} {d : Dev} (hcode : code < 256) (h : (d.core c).cur.task < 128) :
    (d.trap c code).fld (A.sysTstat (d.core c).cur.task) 7 0 = code := by
  have ended : (d.trapEnded c code).fld (A.sysTstat (d.core c).cur.task) 7 0 = code := by
    rw [Dev.fld_congr (d.trapEnded_reg c code _), Dev.fld_setFld_same _ _ _ (by decide) (by decide)]
    exact Nat.mod_eq_of_lt hcode
  rw [Dev.trap_eq]
  split
  · refine (Word.field_congr fun i _ hi => ?_).trans ended
    exact (Dev.countMiss_tstat _ (pairOf_lt c) h (by omega) (by omega)).trans (if_neg (by omega))
  · exact ended

/-- Until the miss is counted, TMISS is as before. -/
theorem Dev.trapEnded_tmiss {c : Core} (code : Nat) {d : Dev} (h : (d.core c).cur.task < 128) :
    (d.trapEnded c code).reg (A.sysTmiss (d.core c).cur.task) = d.reg (A.sysTmiss (d.core c).cur.task) := by
  rw [Dev.trapEnded_reg, Dev.reg_setFld_other _ _ _ _ (A.sysTmiss_ne_sysTstat _)]
  exact (d.trapNoted_regsRaised c code).kept _ (evtArea_sysTmiss h) List.not_mem_nil

/-- Settles O15: the trap's events, the end of the activation, and the count of the miss, each by what it leaves. -/
theorem trapEndsActivation : Obligations.TrapEndsActivation := by
  intro c code d hcode h e n
  have hcore : e.core c = (d.core c).endAct := d.trap_core c code
  have htmiss := Dev.trapEnded_tmiss code h
  refine ⟨?run, ?staged, ?rstk, ?lstk, fun g => ?regs, ?pubs, Dev.trap_cause hcode h, ?event, fun hrun => ?missed, fun hidle => ?idle⟩
  case run | staged | rstk | lstk => rw [hcore]; rfl
  case regs => rw [hcore, CoreSt.endAct_r]
  case pubs => exact (d.trap_actsKept c code).2.trans (d.trapEnded_pubs c code)
  case event =>
    have hbank : trapEvent c / 32 = 11 := by cases c <;> rfl
    have := Dev.trap_pending (code := code) h
    unfold Dev.eventPending at this
    rwa [hbank] at this
  case missed =>
    have he : e = (d.trapEnded c code).countMiss (pairOf c) n := by unfold e; rw [Dev.trap_eq, if_pos hrun]
    rw [he]
    exact ⟨Dev.countMiss_tstat _ (pairOf_lt c) h (by decide) (by decide), by rw [Dev.countMiss_tmiss _ (pairOf_lt c) h, htmiss]⟩
  case idle =>
    have he : e = d.trapEnded c code := by unfold e; rw [Dev.trap_eq, hidle, if_neg Bool.false_ne_true]
    rw [he, htmiss]

/-- What a trapped instruction leaves, whatever task its core held. -/
theorem Trapped.leaves {c : Core} {code : Nat} {s t : State} (h : Trapped c code s t) :
    DevOnly s t ∧ (∀ g, (t.dev.core c).cur.r g = (s.dev.core c).cur.r g) ∧ (t.dev.core c).run = false := by
  have hcore := s.dev.trap_core c code
  rw [h]
  exact ⟨⟨rfl, rfl⟩, fun g => by rw [hcore, CoreSt.endAct_r], by rw [hcore]; rfl⟩

end Sys2Proof.Machine
end

section
/-! Loads and stores of Tabbin (02 R46-R51, R82-R83): NEAR windows, MRAM and control space, and the traps of accesses that do not take
place. -/

namespace Sys2Proof.Machine
open Sys2Proof

/-! Which cause an access meets. -/

/-- An access that takes place and within its budget, but misaligned. -/
theorem firstCause_align {d : Dev} {c : Core} {q : Causes} {b : Bool} (hf : d.fetchBad c = false) (hb : b = false) (he : q.ecc = false)
    (hi : q.ill = false) (ha : q.align = true) : firstCause (d.withFetch c q) b = some 4 := by
  simp [firstCause, Dev.withFetch, hf, hb, he, hi, ha]

theorem firstCause_window {d : Dev} {c : Core} {q : Causes} {b : Bool} (hf : d.fetchBad c = false) (hb : b = false) (he : q.ecc = false)
    (hi : q.ill = false) (ha : q.align = false) (hp : q.absent = false) (hw : q.window = true) : firstCause (d.withFetch c q) b = some 2 := by
  simp [firstCause, Dev.withFetch, hf, hb, he, hi, ha, hp, hw]

theorem nearCauses_read {c : Core} {a n : Nat} {s : State} (h : NearReadOk c a n s) : s.dev.nearCauses c a n false = {} := by
  obtain ⟨hal, hwin, hnear, hpoison, hdata⟩ := h
  simp [Dev.nearCauses, hal, hwin, hnear, hpoison, hdata]

theorem nearCauses_write {c : Core} {a n : Nat} {s : State} (h : NearWriteOk c a n s) : s.dev.nearCauses c a n true = {} := by
  obtain ⟨hal, hwin, hnear, hro⟩ := h
  simp [Dev.nearCauses, hal, hwin, hnear, hro]

theorem farCauses_ok {c : Core} {a : Nat} {w : Bool} {s : State} (h : FarOk c a w s) : s.dev.farCauses c a w = {} := by
  obtain ⟨hal, hwin, hfar, habsent⟩ := h
  simp [Dev.farCauses, hal, hwin, hfar, habsent]

/-- A misaligned access meets ALIGN and no uncorrectable word. -/
theorem nearCauses_misaligned (d : Dev) (c : Core) {a n : Nat} (w : Bool) (h : a % n ≠ 0) :
    (d.nearCauses c a n w).ecc = false ∧ (d.nearCauses c a n w).align = true := by
  simp [Dev.nearCauses, h]

/-- No window grants the aligned access of `n` bytes at `a`, or it is not NEAR, or a write would fall on a read-only place. -/
def NearDenied (c : Core) (a n : Nat) (w : Bool) (d : Dev) : Prop :=
  d.winOk c a n w = false ∨ isNear a = false ∨ (w = true ∧ d.readOnly a = true)

theorem nearCauses_denied {d : Dev} {c : Core} {a n : Nat} {w : Bool} (hal : a % n = 0) (h : NearDenied c a n w d) :
    (d.nearCauses c a n w).ecc = false ∧ (d.nearCauses c a n w).align = false ∧ (d.nearCauses c a n w).window = true := by
  obtain h | h | ⟨hw, h⟩ := h
  · simp [Dev.nearCauses, hal, h]
  · simp [Dev.nearCauses, hal, h]
  · subst hw
    simp [Dev.nearCauses, hal, h]

/-! NEAR loads. -/

theorem nearLoadInstr_fits {c : Core} {ga : Reg} {imm : BitVec 16} {n : Nat} {s : State} (h : Fits c 4 s)
    (hok : NearReadOk c (s.dev.addr c ga imm) n s) (gd : Reg) (f : Nat → Word) {v : Word} (hv : f (s.nearLoad (s.dev.addr c ga imm) n) = v) :
    ∃ t, nearLoadInstr c gd ga imm n f s = .next t ∧ Wrote c gd v 4 s t := by
  refine ⟨{ s with dev := s.dev.instr c 4 {} (fun x => x.w gd v) }, ?_, Wrote.of_fits h rfl⟩
  subst hv
  unfold nearLoadInstr
  dsimp only
  rw [nearCauses_read hok]
  rfl

theorem nearLoadInstr_trap {c : Core} {ga : Reg} {imm : BitVec 16} {n code : Nat} {s : State} (gd : Reg) (f : Nat → Word)
    (he : (s.dev.nearCauses c (s.dev.addr c ga imm) n false).ecc = false)
    (hq : firstCause (s.dev.withFetch c (s.dev.nearCauses c (s.dev.addr c ga imm) n false))
      (s.dev.overBudget c (4 + (s.dev.core c).cur.seq.extra)) = some code) :
    ∃ t, nearLoadInstr c gd ga imm n f s = .next t ∧ Trapped c code s t := by
  refine ⟨_, ?_, rfl⟩
  unfold nearLoadInstr
  dsimp only
  rw [he]
  exact congrArg Host.Outcome.next (congrArg (fun d => { s with dev := d }) (Dev.instr_trap _ hq))

theorem nearLoadInstr_misaligned {c : Core} {ga : Reg} {imm : BitVec 16} {n : Nat} {s : State} (h : Fits c 4 s)
    (hal : s.dev.addr c ga imm % n ≠ 0) (gd : Reg) (f : Nat → Word) :
    ∃ t, nearLoadInstr c gd ga imm n f s = .next t ∧ Trapped c 4 s t := by
  obtain ⟨he, ha⟩ := nearCauses_misaligned s.dev c false hal
  exact nearLoadInstr_trap gd f he (firstCause_align h.1 h.2 he rfl ha)

theorem nearLoadInstr_denied {c : Core} {ga : Reg} {imm : BitVec 16} {n : Nat} {s : State} (h : Fits c 4 s)
    (hal : s.dev.addr c ga imm % n = 0) (hno : s.dev.winOk c (s.dev.addr c ga imm) n false = false ∨ isNear (s.dev.addr c ga imm) = false)
    (gd : Reg) (f : Nat → Word) : ∃ t, nearLoadInstr c gd ga imm n f s = .next t ∧ Trapped c 2 s t := by
  obtain ⟨he, ha, hw⟩ := nearCauses_denied (w := false) hal (hno.imp_right Or.inl)
  exact nearLoadInstr_trap gd f he (firstCause_window h.1 h.2 he rfl ha rfl hw)

/-! The bytes of a load. -/

theorem State.nearByte_lt (s : State) (a : Nat) : s.nearByte a < 256 := by
  unfold State.nearByte
  split
  · exact Nat.mod_lt _ (by decide)
  · split
    · exact Nat.mod_lt _ (by decide)
    · exact (s.byte a).isLt

theorem State.nearLoad_one (s : State) (a : Nat) : s.nearLoad a 1 = s.nearByte a := by
  have h0 := s.nearByte_lt a
  change s.nearByte a % 256 + 256 * 0 = _
  omega

theorem State.nearLoad_two (s : State) (a : Nat) : s.nearLoad a 2 = s.nearByte a + 256 ^ 1 * s.nearByte (a + 1) := by
  have h0 := s.nearByte_lt a
  have h1 := s.nearByte_lt (a + 1)
  change s.nearByte a % 256 + 256 * (s.nearByte (a + 1) % 256 + 256 * 0) = _
  omega

theorem State.nearLoad_four (s : State) (a : Nat) :
    s.nearLoad a 4 = s.nearByte a + 256 ^ 1 * s.nearByte (a + 1) + 256 ^ 2 * s.nearByte (a + 2) + 256 ^ 3 * s.nearByte (a + 3) := by
  have h0 := s.nearByte_lt a
  have h1 := s.nearByte_lt (a + 1)
  have h2 := s.nearByte_lt (a + 2)
  have h3 := s.nearByte_lt (a + 3)
  change s.nearByte a % 256 + 256 * (s.nearByte (a + 1) % 256 + 256 * (s.nearByte (a + 2) % 256 + 256 * (s.nearByte (a + 3) % 256 + 256 * 0))) = _
  omega

/-- A narrow value extended with zeros. -/
theorem zeroExtend_ofNat {w n : Nat} (h : n < 2 ^ w) : BitVec.ofNat 32 n = (BitVec.ofNat w n).setWidth 32 := by
  refine BitVec.eq_of_toNat_eq ?_
  rw [BitVec.toNat_setWidth, BitVec.toNat_ofNat, BitVec.toNat_ofNat, Nat.mod_eq_of_lt h]

/-- Settles O9: each load by its bytes and its extension. -/
theorem nearLoads : Obligations.NearLoads := by
  unfold Obligations.NearLoads
  refine fun c => ⟨?lw, ?lh, ?lhu, ?lb, ?lbu⟩ <;> intro gd ga imm s h hok
  case lw =>
    exact show ∃ t, execLw c gd ga imm s = .next t ∧ _ from nearLoadInstr_fits h hok gd _ (by rw [State.nearLoad_four])
  case lh =>
    exact show ∃ t, execLh c gd ga imm s = .next t ∧ _ from nearLoadInstr_fits h hok gd _ (by rw [State.nearLoad_two])
  case lhu =>
    have h0 := s.nearByte_lt (s.dev.addr c ga imm)
    have h1 := s.nearByte_lt (s.dev.addr c ga imm + 1)
    exact show ∃ t, execLhu c gd ga imm s = .next t ∧ _ from
      nearLoadInstr_fits h hok gd _ (by rw [State.nearLoad_two]; exact zeroExtend_ofNat (w := 16) (by omega))
  case lb =>
    exact show ∃ t, execLb c gd ga imm s = .next t ∧ _ from nearLoadInstr_fits h hok gd _ (by rw [State.nearLoad_one])
  case lbu =>
    exact show ∃ t, execLbu c gd ga imm s = .next t ∧ _ from
      nearLoadInstr_fits h hok gd _ (by rw [State.nearLoad_one]; exact zeroExtend_ofNat (w := 8) (s.nearByte_lt _))

/-! NEAR stores. -/

@[simp] theorem Dev.core_cleanPoison (a n : Nat) (d : Dev) (c : Core) : (d.cleanPoison a n).core c = d.core c := by
  unfold Dev.cleanPoison
  dsimp only
  split
  · cases c <;> rfl
  · rfl

/-- Marks of uncorrectable words and cores do not touch. -/
theorem Dev.cleanPoison_setCore (a n : Nat) (d : Dev) (c : Core) (f : CoreSt → CoreSt) :
    (d.setCore c f).cleanPoison a n = (d.cleanPoison a n).setCore c f := by
  unfold Dev.cleanPoison
  dsimp only
  rw [Dev.setCore_ram]
  split
  · cases c <;> rfl
  · rfl

theorem length_wordBytes (v : Word) : (wordBytes v).length = 4 := rfl

theorem getD_wordBytes (v : Word) {k : Nat} (hk : k < 4) : (wordBytes v).getD k 0 = (v >>> (8 * k)).setWidth 8 := by
  have byte : ∀ j, BitVec.ofNat 8 ((v.toNat >>> j) % 256) = (v >>> j).setWidth 8 := fun j =>
    BitVec.eq_of_toNat_eq (by simp [BitVec.toNat_setWidth, BitVec.toNat_ushiftRight])
  have hcases : k = 0 ∨ k = 1 ∨ k = 2 ∨ k = 3 := by omega
  obtain rfl | rfl | rfl | rfl := hcases <;> exact byte _

/-- A store of the low `n` bytes of gs: the bytes, the frame of memory, and what the core and the marks show. -/
theorem nearStoreInstr_fits {c : Core} {ga : Reg} {imm : BitVec 16} {n : Nat} {s : State} (h : Fits c 4 s)
    (hok : NearWriteOk c (s.dev.addr c ga imm) n s) (hn : n ≤ 4) (gs : Reg) :
    ∃ t, nearStoreInstr c gs ga imm n s = .next t ∧
      (∀ k, k < n → t.byte (s.dev.addr c ga imm + k) = (s.dev.val c gs >>> (8 * k)).setWidth 8) ∧ BytesKept (s.dev.addr c ga imm) n s t ∧
      Passed c 4 { s with mem := t.mem, dev := s.dev.cleanPoison (s.dev.addr c ga imm) n } t ∧ t.pending = s.pending := by
  have hlen : ((wordBytes (s.dev.val c gs)).take n).length = n := by rw [List.length_take, length_wordBytes, min_eq_left hn]
  refine ⟨{ s with dev := (s.dev.instr c 4 {} id).cleanPoison (s.dev.addr c ga imm) n,
                   mem := writeBytes (s.dev.addr c ga imm) ((wordBytes (s.dev.val c gs)).take n) s.mem }, ?_, fun k hk => ?_, fun k hk => ?_, ?_, rfl⟩
  · unfold nearStoreInstr
    dsimp only
    rw [nearCauses_write hok, State.instrMem_fits h]
  · unfold State.byte
    rw [get_writeBytes, hlen, if_pos (by omega), Nat.add_sub_cancel_left, ← getD_wordBytes _ (by omega : k < 4)]
    simp [List.getD_eq_getElem?_getD, hk]
  · exact get_writeBytes_other _ _ (by rwa [hlen])
  · rw [Dev.instr_fits h]
    refine ⟨⟨rfl, rfl⟩, ?_⟩
    dsimp only
    rw [Dev.retire, Dev.cleanPoison_setCore]
    refine Dev.setCore_congr _ ?_
    rw [Dev.core_cleanPoison]
    rfl

theorem nearStoreInstr_trap {c : Core} {ga : Reg} {imm : BitVec 16} {n code : Nat} {s : State} (gs : Reg)
    (hq : firstCause (s.dev.withFetch c (s.dev.nearCauses c (s.dev.addr c ga imm) n true))
      (s.dev.overBudget c (4 + (s.dev.core c).cur.seq.extra)) = some code) :
    ∃ t, nearStoreInstr c gs ga imm n s = .next t ∧ Trapped c code s t := by
  refine ⟨_, ?_, rfl⟩
  unfold nearStoreInstr
  dsimp only
  rw [State.instrMem_trap _ _ _ hq]

theorem nearStoreInstr_misaligned {c : Core} {ga : Reg} {imm : BitVec 16} {n : Nat} {s : State} (h : Fits c 4 s)
    (hal : s.dev.addr c ga imm % n ≠ 0) (gs : Reg) : ∃ t, nearStoreInstr c gs ga imm n s = .next t ∧ Trapped c 4 s t := by
  obtain ⟨he, ha⟩ := nearCauses_misaligned s.dev c true hal
  exact nearStoreInstr_trap gs (firstCause_align h.1 h.2 he rfl ha)

theorem nearStoreInstr_denied {c : Core} {ga : Reg} {imm : BitVec 16} {n : Nat} {s : State} (h : Fits c 4 s)
    (hal : s.dev.addr c ga imm % n = 0) (hno : s.dev.winOk c (s.dev.addr c ga imm) n true = false ∨ isNear (s.dev.addr c ga imm) = false ∨
      s.dev.readOnly (s.dev.addr c ga imm) = true) (gs : Reg) :
    ∃ t, nearStoreInstr c gs ga imm n s = .next t ∧ Trapped c 2 s t := by
  obtain ⟨he, ha, hw⟩ := nearCauses_denied (w := true) hal (hno.imp_right (Or.imp_right fun hro => ⟨rfl, hro⟩))
  exact nearStoreInstr_trap gs (firstCause_window h.1 h.2 he rfl ha rfl hw)

/-- Settles O10: each store by its bytes. -/
theorem nearStores : Obligations.NearStores := by
  unfold Obligations.NearStores
  refine fun c => ⟨fun gs ga imm s h hok => ?sw, fun gs ga imm s h hok => ?sh, fun gs ga imm s h hok => ?sb⟩
  case sw =>
    obtain ⟨t, ht, hbyte, hkept, hdev⟩ := nearStoreInstr_fits h hok (by decide) gs
    exact ⟨t, ht, hbyte 0 (by decide), hbyte 1 (by decide), hbyte 2 (by decide), hbyte 3 (by decide), hkept, hdev⟩
  case sh =>
    obtain ⟨t, ht, hbyte, hkept, hdev⟩ := nearStoreInstr_fits h hok (by decide) gs
    exact ⟨t, ht, hbyte 0 (by decide), hbyte 1 (by decide), hkept, hdev⟩
  case sb =>
    obtain ⟨t, ht, hbyte, hkept, hdev⟩ := nearStoreInstr_fits h hok (by decide) gs
    exact ⟨t, ht, hbyte 0 (by decide), hkept, hdev⟩

/-- Settles O14: each access of the NEAR class by its width. -/
theorem windowTraps : Obligations.WindowTraps := by
  unfold Obligations.WindowTraps
  refine fun c => ⟨?lw, ?lh, ?lhu, ?lb, ?lbu, ?sw, ?sh, ?sb⟩ <;> intro g ga imm s h hal hno
  case lw => exact show ∃ t, execLw c g ga imm s = .next t ∧ _ from nearLoadInstr_denied h hal hno g _
  case lh => exact show ∃ t, execLh c g ga imm s = .next t ∧ _ from nearLoadInstr_denied h hal hno g _
  case lhu => exact show ∃ t, execLhu c g ga imm s = .next t ∧ _ from nearLoadInstr_denied h hal hno g _
  case lb => exact show ∃ t, execLb c g ga imm s = .next t ∧ _ from nearLoadInstr_denied h hal hno g _
  case lbu => exact show ∃ t, execLbu c g ga imm s = .next t ∧ _ from nearLoadInstr_denied h hal hno g _
  case sw | sh | sb => exact nearStoreInstr_denied h hal hno g

/-! FAR accesses. -/

/-- Only the ABSENT trap tells an access to control space from another one. -/
theorem Dev.farTrap_eq_trap (c : Core) {code : Nat} (d : Dev) (h : code ≠ 1) : d.farTrap c code = d.trap c code := by
  simp [Dev.farTrap, Dev.trap, Dev.trapWith, h]

theorem firstCause_farMisaligned {c : Core} {a : Nat} {s : State} (w : Bool) (h : Fits c 24 s) (hal : a % 4 ≠ 0) :
    firstCause (s.dev.withFetch c (s.dev.farCauses c a w)) (s.dev.overBudget c (24 + (s.dev.core c).cur.seq.extra)) = some 4 :=
  firstCause_align h.1 h.2 rfl rfl (by simp [Dev.farCauses, hal])

theorem execLwx_misaligned {c : Core} {ga : Reg} {imm : BitVec 16} {s : State} (h : Fits c 24 s) (hal : s.dev.addr c ga imm % 4 ≠ 0) (gd : Reg) :
    ∃ t, exec (.lwx c gd ga imm) s = .next t ∧ Trapped c 4 s t := by
  refine ⟨_, ?_, rfl⟩
  change execLwx c gd ga imm s = _
  unfold execLwx
  dsimp only
  rw [firstCause_farMisaligned false h hal]
  dsimp only
  rw [Dev.farTrap_eq_trap c _ (by decide)]

theorem execSwx_misaligned {c : Core} {ga : Reg} {imm : BitVec 16} {s : State} (h : Fits c 24 s) (hal : s.dev.addr c ga imm % 4 ≠ 0) (gs : Reg) :
    ∃ t, exec (.swx c gs ga imm) s = .next t ∧ Trapped c 4 s t := by
  refine ⟨_, ?_, rfl⟩
  change execSwx c gs ga imm s = _
  unfold execSwx
  dsimp only
  rw [firstCause_farMisaligned true h hal]
  dsimp only
  rw [Dev.farTrap_eq_trap c _ (by decide)]

/-- Settles O12: ALIGN of each width, and what the trap leaves. -/
theorem misalignedTraps : Obligations.MisalignedTraps := by
  unfold Obligations.MisalignedTraps
  refine fun c => ⟨?lw, ?sw, ?lwx, ?swx, ?lh, ?lhu, ?sh, fun s t => Trapped.leaves⟩ <;> intro g ga imm s h hal
  case lw => exact show ∃ t, execLw c g ga imm s = .next t ∧ _ from nearLoadInstr_misaligned h hal g _
  case lh => exact show ∃ t, execLh c g ga imm s = .next t ∧ _ from nearLoadInstr_misaligned h hal g _
  case lhu => exact show ∃ t, execLhu c g ga imm s = .next t ∧ _ from nearLoadInstr_misaligned h hal g _
  case sw | sh => exact nearStoreInstr_misaligned h hal g
  case lwx => exact execLwx_misaligned h hal g
  case swx => exact execSwx_misaligned h hal g

/-! A read of control space leaves what the budget and the fetch of the reading core rest on. -/

/-- What `Fits` rests on is as before: cores, images and marks of uncorrectable words. -/
def FitsKept (d e : Dev) : Prop := (∀ c, e.core c = d.core c) ∧ e.img = d.img ∧ e.ram = d.ram

theorem FitsKept.refl (d : Dev) : FitsKept d d := ⟨fun _ => rfl, rfl, rfl⟩

theorem FitsKept.trans {d e f : Dev} (h : FitsKept d e) (k : FitsKept e f) : FitsKept d f := by
  obtain ⟨hc, hi, hr⟩ := h
  obtain ⟨kc, ki, kr⟩ := k
  exact ⟨fun c => (kc c).trans (hc c), ki.trans hi, kr.trans hr⟩

theorem FitsKept.raiseAbsent (d : Dev) : FitsKept d d.raiseAbsent :=
  ⟨Dev.core_of_sameBut d.sameBut_raiseAbsent, by rw [d.sameBut_raiseAbsent], by rw [d.sameBut_raiseAbsent]⟩

theorem FitsKept.setCan (d : Dev) (c : Nat) (f : CanSt → CanSt) : FitsKept d (d.setCan c f) := ⟨fun c => by cases c <;> rfl, rfl, rfl⟩

theorem FitsKept.setCaps (d : Dev) (m : Master) (f : Caps → Caps) : FitsKept d (d.setCaps m f) := ⟨fun c => by cases c <;> rfl, rfl, rfl⟩

/-- A read of CAN message memory changes nothing, or the model's count of free values, or one controller. -/
theorem Dev.canRead_cases (d : Dev) (c o : Nat) (k : Option Nat) :
    (d.canRead c o k).1 = d ∨ (d.canRead c o k).1 = d.takeFree ∨ ∃ f, (d.canRead c o k).1 = d.setCan c f := by
  -- The kernel must not compute the offsets' differences: the places in message memory get names.
  obtain ⟨m, hm⟩ : ∃ m, (o - 0x2000) / 0x80 = m := ⟨_, rfl⟩
  obtain ⟨i, hi⟩ : ∃ i, (o - 0x6000) / 0x80 = i := ⟨_, rfl⟩
  unfold Dev.canRead
  rw [hm, hi]
  dsimp only
  split
  · cases k with
    | none => exact Or.inl rfl
    | some k => exact Or.inr (Or.inr ⟨_, rfl⟩)
  · split
    · cases (d.can c).fifoHead i with
      | none =>
        dsimp only
        split
        · exact Or.inr (Or.inl rfl)
        · exact Or.inl rfl
      | some ws =>
        cases k with
        | none => exact Or.inl rfl
        | some k => exact Or.inr (Or.inr ⟨_, rfl⟩)
    · exact Or.inl rfl

theorem FitsKept.canRead (d : Dev) (c o : Nat) (k : Option Nat) : FitsKept d (d.canRead c o k).1 := by
  obtain h | h | ⟨f, h⟩ := d.canRead_cases c o k
  · rw [h]
    exact .refl d
  · rw [h]
    exact ⟨d.core_takeFree, rfl, rfl⟩
  · rw [h]
    exact .setCan d c f

theorem FitsKept.captureRead (d : Dev) (m : Master) (a : Nat) : FitsKept d (d.captureRead m a) := by
  unfold Dev.captureRead
  split
  · exact .setCaps d _ _
  · split
    · exact .setCaps d _ _
    · split
      · exact .setCaps d _ _
      · exact .refl d

theorem FitsKept.clearRead (d : Dev) (m : Master) (a : Nat) : FitsKept d (d.clearRead m a) := by
  unfold Dev.clearRead
  split
  · exact .refl d
  · split
    · exact ⟨d.core_setReg _ _, rfl, rfl⟩
    · exact .refl d

theorem FitsKept.ctlRead (d : Dev) (m : Master) (k : Option Nat) (a : Nat) : FitsKept d (d.ctlRead m k a).1 := by
  unfold Dev.ctlRead
  split
  · exact .raiseAbsent d
  · split
    · exact .canRead d _ _ _
    · exact (FitsKept.captureRead d m a).trans (.clearRead _ m a)

theorem FitsKept.fits {c : Core} {n : Nat} {s : State} {e : Dev} (hk : FitsKept s.dev e) (h : Fits c n s) : Fits c n { s with dev := e } := by
  obtain ⟨hc, hi, hr⟩ := hk
  obtain ⟨hfetch, hbudget⟩ := h
  unfold Fits Dev.fetchBad Dev.overBudget Dev.task at *
  dsimp only at *
  rw [hc, hi, hr]
  exact ⟨hfetch, hbudget⟩

/-! LWX and SWX. -/

theorem execLwx_mram {c : Core} {ga : Reg} {imm : BitVec 16} {s : State} (h : Fits c 24 s) (hok : FarOk c (s.dev.addr c ga imm) false s)
    (hm : isCtl (s.dev.addr c ga imm) = false) (gd : Reg) : execLwx c gd ga imm s =
      .next { s with dev := s.dev.instr c 24 {} (fun x => x.w gd (BitVec.ofNat 32 (ofLe ((span (s.dev.addr c ga imm) 4).map s.mramByte)))) } := by
  unfold execLwx
  dsimp only
  rw [farCauses_ok hok, firstCause_of_fits h, hm]
  rfl

/-- A load from control space whose read answers `r`. -/
theorem execLwx_ctl {c : Core} {ga : Reg} {imm : BitVec 16} {s : State} (h : Fits c 24 s) (hok : FarOk c (s.dev.addr c ga imm) false s)
    (hc : isCtl (s.dev.addr c ga imm) = true) (gd : Reg) {r : Dev × Word}
    (hr : s.dev.ctlRead (masterOf c) (some (s.dev.locker c)) (s.dev.addr c ga imm) = r) :
    execLwx c gd ga imm s = .next { s with dev := r.1.instr c 24 {} (fun x => x.w gd r.2) } := by
  unfold execLwx
  dsimp only
  rw [farCauses_ok hok, firstCause_of_fits h, hc, if_pos rfl, hr]

theorem execSwx_mram {c : Core} {ga : Reg} {imm : BitVec 16} {s : State} (h : Fits c 24 s) (hok : FarOk c (s.dev.addr c ga imm) true s)
    (hm : isCtl (s.dev.addr c ga imm) = false) (gs : Reg) : execSwx c gs ga imm s =
      .next { s with dev := s.dev.instr c 24 {} id, mem := writeWord (s.dev.addr c ga imm) (s.dev.val c gs) s.mem } := by
  rw [Dev.instr_fits h]
  unfold execSwx
  dsimp only
  rw [farCauses_ok hok, firstCause_of_fits h, hm]
  rfl

theorem execSwx_ctl {c : Core} {ga : Reg} {imm : BitVec 16} {s : State} (h : Fits c 24 s) (hok : FarOk c (s.dev.addr c ga imm) true s)
    (hc : isCtl (s.dev.addr c ga imm) = true) (gs : Reg) : execSwx c gs ga imm s =
      .next { s with dev := (s.dev.instr c 24 {} id).ctlWrite (s.dev.addr c ga imm) (s.dev.val c gs) } := by
  rw [Dev.instr_fits h]
  unfold execSwx
  dsimp only
  rw [farCauses_ok hok, firstCause_of_fits h, hc]
  rfl

/-- A word written is read back. -/
theorem readWord_writeWord (a : Nat) (v : Word) (m : FMap Byte) : readWord (writeWord a v m) a = v := by
  have byte : ∀ k, k < 4 → (FMap.get memReset (writeWord a v m) (a + k)).toNat = v.toNat / 2 ^ (8 * k) % 256 := fun k hk => by
    rw [writeWord, get_writeBytes, length_wordBytes, if_pos (by omega), Nat.add_sub_cancel_left, getD_wordBytes v hk]
    simp [BitVec.toNat_setWidth, BitVec.toNat_ushiftRight, Nat.shiftRight_eq_div_pow]
  have h0 := byte 0 (by decide)
  have h1 := byte 1 (by decide)
  have h2 := byte 2 (by decide)
  have h3 := byte 3 (by decide)
  have hv := v.isLt
  refine BitVec.eq_of_toNat_eq ?_
  simp only [readWord, readBytes, span, ofLe, List.range_succ, List.range_zero, List.map_cons, List.map_nil, List.nil_append,
    List.cons_append, List.foldr_cons, List.foldr_nil, BitVec.toNat_ofNat, h0, h1, h2, h3]
  omega

/-- Settles O11: LWX and SWX by the kind of place. -/
theorem farAccess : Obligations.FarAccess := by
  unfold Obligations.FarAccess
  refine fun c => ⟨fun gd ga imm s h hok hm => ?mramLoad, fun gd ga imm s h hok hc => ?ctlLoad, fun gs ga imm s h hok hm => ?mramStore,
    fun gs ga imm s h hok hc => ?ctlStore⟩
  case mramLoad => exact ⟨_, execLwx_mram h hok hm gd, Wrote.of_fits h rfl⟩
  case ctlLoad =>
    have hk := FitsKept.ctlRead s.dev (masterOf c) (some (s.dev.locker c)) (s.dev.addr c ga imm)
    refine ⟨_, execLwx_ctl h hok hc gd rfl, ?_⟩
    generalize s.dev.ctlRead (masterOf c) (some (s.dev.locker c)) (s.dev.addr c ga imm) = r at hk
    obtain ⟨⟨-, hdev⟩, hreg⟩ := Wrote.of_fits (hk.fits h) (gd := gd) (v := r.2) rfl
    refine ⟨?_, ?_, rfl, rfl⟩
    · rw [hreg gd]
      by_cases hg : gd = 0
      · simp [hg]
      · simp [hg]
    · rw [hdev, Dev.core_setCore]
      dsimp only
      rw [hk.1 c]
  case mramStore =>
    refine ⟨_, execSwx_mram h hok hm gs, readWord_writeWord _ _ _, fun k hk => get_writeBytes_other _ _ hk, ?_, rfl⟩
    exact Passed.of_fits (s := { s with mem := _ }) h
  case ctlStore => exact ⟨_, { s with dev := s.dev.instr c 24 {} id }, execSwx_ctl h hok hc gs, Passed.of_fits h, rfl⟩

end Sys2Proof.Machine
end

section
/-! COMMIT, WAITT, and the dispatcher's starts, resumes and misses (02 R38, R78-R79, 03 R88-R93, R106-R108). -/

namespace Sys2Proof.Machine
open Sys2Proof

@[simp] theorem Dev.retire_regs (d : Dev) (c : Core) (x : Nxt) (n : Nat) (k : Ctx → Ctx) : (d.retire c x n k).regs = d.regs := Dev.setCore_regs _ _ _
@[simp] theorem Dev.retire_pubs (d : Dev) (c : Core) (x : Nxt) (n : Nat) (k : Ctx → Ctx) : (d.retire c x n k).pubs = d.pubs := Dev.setCore_pubs _ _ _
@[simp] theorem Dev.retire_time (d : Dev) (c : Core) (x : Nxt) (n : Nat) (k : Ctx → Ctx) : (d.retire c x n k).time = d.time := Dev.setCore_time _ _ _
@[simp] theorem Dev.retire_committed (d : Dev) (c : Core) (x : Nxt) (n : Nat) (k : Ctx → Ctx) :
    (d.retire c x n k).committed = d.committed := Dev.setCore_committed _ _ _
@[simp] theorem Dev.retire_ports (d : Dev) (c : Core) (x : Nxt) (n : Nat) (k : Ctx → Ctx) : (d.retire c x n k).ports = d.ports := Dev.setCore_ports _ _ _

@[simp] theorem Dev.endAct_committed (c : Core) (d : Dev) : (d.endAct c).committed = d.committed := Dev.setCore_committed _ _ _

/-- A change outside the cores. -/
theorem Dev.core_withCommitted (d : Dev) (l : List OutVal) (c : Core) : ({ d with committed := l } : Dev).core c = d.core c := by cases c <;> rfl

/-! COMMIT and WAITT. -/

/-- COMMIT of a running activation (02 R79, 03 R108). -/
theorem Dev.commitAct_running {d : Dev} {c : Core} (h : (d.core c).run = true) :
    d.commitAct c = (({ d with committed := d.committed ++ (d.core c).cur.staged } : Dev).setFld (A.sysTstat (d.core c).cur.task) 26 25 0).endAct c := by
  unfold Dev.commitAct
  dsimp only
  rw [Dev.core_withCommitted, h, if_pos rfl]

theorem execCommit_fits {c : Core} {s : State} (h : Fits c 4 s) (hrun : (s.dev.core c).run = true) :
    ∃ t, exec (.commit c) s = .next t ∧ (t.dev.core c).run = false ∧
      t.dev.committed = s.dev.committed ++ (s.dev.core c).cur.staged ∧ t.dev.pubs = s.dev.pubs ∧
      t.dev.fld (A.sysTstat (s.dev.core c).cur.task) 26 25 = 0 ∧
      (∀ a, a ≠ A.sysTstat (s.dev.core c).cur.task → t.dev.reg a = s.dev.reg a) ∧ DevOnly s t := by
  refine ⟨{ s with dev := (s.dev.instr c 4 {} id).commitAct c }, ?_, ?_⟩
  · rw [← Dev.instrAnd_fits h id (Dev.commitAct c)]
    rfl
  · rw [Dev.instr_fits h]
    generalize hd : s.dev.retire c _ _ id = d
    have hcore : (d.core c).run = true ∧ (d.core c).cur.task = (s.dev.core c).cur.task ∧ (d.core c).cur.staged = (s.dev.core c).cur.staged := by
      rw [← hd, Dev.retire_core]
      exact ⟨hrun, rfl, rfl⟩
    obtain ⟨hr, htask, hstaged⟩ := hcore
    have hregs : d.regs = s.dev.regs := by rw [← hd, Dev.retire_regs]
    rw [Dev.commitAct_running hr, htask, hstaged]
    refine ⟨?_, ?_, ?_, ?_, fun a ha => ?_, rfl, rfl⟩
    · rw [Dev.endAct_core]
      rfl
    · rw [Dev.endAct_committed, Dev.setFld_committed, ← hd, Dev.retire_committed]
    · rw [Dev.endAct_pubs, Dev.setFld_pubs, ← hd, Dev.retire_pubs]
    · rw [Dev.fld_congr (Dev.reg_congr (Dev.endAct_regs _ _) _)]
      exact Dev.fld_setFld_same _ _ _ (by decide) (by decide)
    · rw [Dev.reg_congr (Dev.endAct_regs _ _), Dev.reg_setFld_other _ _ _ _ ha]
      exact Dev.reg_congr hregs a

/-- A running activation leaves its core until a later tick of the scan (02 R78). -/
theorem Dev.suspend_running {d : Dev} {c : Core} {w : Nat} (h : (d.core c).run = true) (hw : w < d.time.ticks) :
    d.suspend c w = d.setCore c (fun q => { q with run := false, susp := q.susp ++ [{ q.cur with seg := q.cur.seg + 1, cyc := 0, wake := w }] }) := by
  unfold Dev.suspend Dev.ticksPer
  dsimp only
  rw [h, Bool.not_true, if_neg Bool.false_ne_true, if_pos hw]

theorem execWaitt_fits {c : Core} {k : Nat} {s : State} (h : Fits c 8 s) (hrun : (s.dev.core c).run = true) (hk : s.dev.time.tick + k < s.dev.time.ticks) :
    ∃ t y, exec (.waitt c k) s = .next t ∧ (t.dev.core c).run = false ∧ (t.dev.core c).susp = (s.dev.core c).susp ++ [y] ∧
      y.wake = s.dev.time.tick + k ∧ y.task = (s.dev.core c).cur.task ∧ y.regs = (s.dev.core c).cur.regs ∧
      y.sat = (s.dev.core c).cur.sat ∧ y.staged = (s.dev.core c).cur.staged ∧ y.pc = (s.dev.core c).cur.seq.pc ∧
      t.dev.committed = s.dev.committed ∧ t.dev.regs = s.dev.regs ∧ DevOnly s t := by
  have run : exec (.waitt c k) s = .next { s with dev := (s.dev.instr c 8 {} id).suspend c ((s.dev.instr c 8 {} id).time.tick + k) } := by
    rw [← Dev.instrAnd_fits h id (fun d => d.suspend c (d.time.tick + k))]
    rfl
  rw [Dev.instr_fits h, Dev.retire_time, Dev.suspend_running (by rw [Dev.retire_core]; exact hrun) (by rw [Dev.retire_time]; exact hk)] at run
  refine ⟨_, { ((s.dev.core c).cur.moved (s.dev.core c).cur.seq (8 + (s.dev.core c).cur.seq.extra)) with
    seg := (s.dev.core c).cur.seg + 1, cyc := 0, wake := s.dev.time.tick + k }, run, ?_, ?_, rfl, rfl, rfl, rfl, rfl, rfl, ?_, ?_, rfl, rfl⟩
  · rw [Dev.core_setCore]
  · rw [Dev.core_setCore, Dev.retire_core]
    rfl
  · rw [Dev.setCore_committed, Dev.retire_committed]
  · rw [Dev.setCore_regs, Dev.retire_regs]

/-- Settles O23: COMMIT ends the activation, WAITT suspends it. -/
theorem commitAndWait : Obligations.CommitAndWait :=
  fun _ _ hrun => ⟨fun h _ => execCommit_fits h hrun, fun _ h hk => execWaitt_fits h hrun hk⟩

/-! The dispatcher. -/

/-- The context in which an activation starts: nothing of an earlier one is left (02 R38). -/
def Dev.freshCtx (c : Core) (task : Nat) (d : Dev) : Ctx :=
  { task := task, pc := 4 * (d.task (d.codeEntry task)).entry,
    snap := (d.setCore c (fun k => { k with cyc := k.cyc + Config.dispatchCycles d.freeCnt })).takeFree.mfsTime c }

/-- The device once core `c` runs the activation: the pair's cycle count went on by what the dispatcher takes (12 R415). -/
def Dev.startedOn (c : Core) (task : Nat) (d : Dev) : Dev :=
  (d.setCore c (fun k => { k with cyc := k.cyc + Config.dispatchCycles d.freeCnt })).takeFree.setCore c
    (fun k => { k with run := true, cur := d.freshCtx c task, started := k.started ++ [task] })

theorem execActivationStart_starts {c : Core} {task : Nat} {s : State} (hcore : s.dev.coreOf task = some c) (hmay : s.dev.mayRun c = true)
    (hdue : s.dev.activates task = true) (hok : s.dev.rbit (A.sysTstat task) 31 = false) (hidle : (s.dev.core c).run = false)
    (hnew : task ∉ (s.dev.core c).started) (hnext : s.dev.segmentNext c task = true) :
    exec (.activationStart c task) s = .next { s with dev := s.dev.startedOn c task } := by
  change execActivationStart c task s = _
  have hok : (s.dev.coreOf task == some c && s.dev.mayRun c && s.dev.activates task && !s.dev.rbit (A.sysTstat task) 31 && !(s.dev.core c).run
      && !(s.dev.core c).started.contains task && s.dev.segmentNext c task) = true := by
    simp [hcore, hmay, hdue, hok, hidle, hnew, hnext]
  unfold execActivationStart
  dsimp only
  rw [hok, if_pos rfl]
  rfl

/-- Of the device only core `c` and the count of free values changed, told by what the core now holds. -/
theorem Dev.startedOn_frame (d : Dev) (c : Core) (task : Nat) :
    d.startedOn c task = { d.setCore c (fun _ => (d.startedOn c task).core c) with freeCnt := d.freeCnt + 1 } := by
  cases c <;> rfl

theorem Dev.startedOn_core (d : Dev) (c : Core) (task : Nat) :
    ((d.startedOn c task).core c).run = true ∧ ((d.startedOn c task).core c).cur = d.freshCtx c task := by
  unfold Dev.startedOn
  rw [Dev.core_setCore]
  exact ⟨rfl, rfl⟩

/-- Settles O28: the context that ACTIVATION_START gives the core. -/
theorem activationStarts : Obligations.ActivationStarts := by
  intro c task s hcore hmay hdue hok hidle hnew hnext
  obtain ⟨hrun, hcur⟩ := s.dev.startedOn_core c task
  refine ⟨_, execActivationStart_starts hcore hmay hdue hok hidle hnew hnext, hrun, ?_⟩
  dsimp only
  rw [hcur]
  exact ⟨rfl, fun _ => ite_self _, rfl, rfl, rfl, rfl, s.dev.startedOn_frame c task, rfl, rfl⟩

theorem execSegmentResume_resumes {c : Core} {task : Nat} {s : State} {x : Ctx} (hwait : (s.dev.core c).waiting task s.dev.time.tick = some x)
    (hwake : x.wake = s.dev.time.tick) (hok : s.dev.rbit (A.sysTstat task) 31 = false) (hmay : s.dev.mayRun c = true)
    (hidle : (s.dev.core c).run = false) (hnext : s.dev.segmentNext c task = true) :
    exec (.segmentResume c task) s = .next { s with dev := (s.dev.setCore c (fun k =>
      { k.dropSusp task with run := true, cur := { x with cyc := 4 }, cyc := k.cyc + 4 + Config.dispatchCycles s.dev.freeCnt })).takeFree } := by
  change execSegmentResume c task s = _
  unfold execSegmentResume
  dsimp only
  rw [hwait]
  dsimp only
  rw [hok, if_neg Bool.false_ne_true, hmay, hidle, hwake, hnext, decide_eq_true rfl]
  rfl

theorem Dev.setCore_takeFree (d : Dev) (c : Core) (f : CoreSt → CoreSt) :
    (d.setCore c f).takeFree = { d.setCore c (fun _ => (d.setCore c f).takeFree.core c) with freeCnt := d.freeCnt + 1 } := by
  cases c <;> rfl

/-! DEADLINE_MISS (03 R106-R107). -/

/-- A shed segment: TSTAT.SHED is set, TMISS stays. -/
theorem Dev.cutSegment_shed {d : Dev} {n : Nat} (p : Nat) (h : n < 128) (hthr : d.rbit A.pwrStat 22 = true) (hcls : (d.task n).cls ≠ 0) :
    ActsKept d (d.cutSegment p n) ∧ (d.cutSegment p n).rbit (A.sysTstat n) 28 = true ∧
      (d.cutSegment p n).reg (A.sysTmiss n) = d.reg (A.sysTmiss n) := by
  have hcut : d.cutSegment p n = (d.setRbit (A.sysTstat n) 28 true).raise 382 n := by
    unfold Dev.cutSegment
    rw [hthr, beq_false_of_ne hcls]
    rfl
  rw [hcut]
  refine ⟨(ActsKept.setReg d _ _).trans (.raise _ 382 n), ?_, ?_⟩
  · rw [Dev.rbit_congr (Dev.reg_raise _ (evtArea_sysTstat h) (by decide) n), Dev.rbit_setRbit _ _ _ _ _ (by decide) (by decide), if_pos rfl]
  · rw [Dev.reg_raise _ (evtArea_sysTmiss h) (by decide), Dev.reg_setRbit_other _ _ _ (A.sysTmiss_ne_sysTstat n)]

/-- A missed segment: TSTAT.MISS is set, TMISS counts. -/
theorem Dev.cutSegment_missed {d : Dev} {n p : Nat} (hp : p < 2) (h : n < 128) (hno : ¬ (d.rbit A.pwrStat 22 = true ∧ (d.task n).cls ≠ 0)) :
    ActsKept d (d.cutSegment p n) ∧ (d.cutSegment p n).rbit (A.sysTstat n) 29 = true ∧
      (d.cutSegment p n).reg (A.sysTmiss n) = satInc (d.reg (A.sysTmiss n)) := by
  have hcut : d.cutSegment p n = d.countMiss p n := by
    unfold Dev.cutSegment
    rw [if_neg]
    simpa using hno
  rw [hcut]
  exact ⟨.countMiss p d n, d.countMiss_tstat hp h (by decide) (by decide), d.countMiss_tmiss hp h⟩

theorem execDeadlineMiss_running {c : Core} {task : Nat} {s : State} (hrun : (s.dev.core c).run = true) (htask : (s.dev.core c).cur.task = task) :
    exec (.deadlineMiss c task) s = .next { s with dev := (s.dev.endAct c).cutSegment (pairOf c) task } := by
  change execDeadlineMiss c task s = _
  unfold execDeadlineMiss
  dsimp only
  rw [hrun, htask, beq_self_eq_true]
  rfl

/-- The end of an activation leaves the task table. -/
theorem Dev.endAct_task (c : Core) (d : Dev) (e : Nat) : (d.endAct c).task e = d.task e := by cases c <;> rfl

/-- Settles O29: a resumed activation, and a running one that its tick cut off. -/
theorem segmentsResumeOrMiss : Obligations.SegmentsResumeOrMiss := by
  refine ⟨fun c task s x hwait hwake hok hmay hidle hnext => ?resume, fun c task s hrun htask h => ?miss⟩
  case resume =>
    refine ⟨_, execSegmentResume_resumes hwait hwake hok hmay hidle hnext, ?_, ?_, fun y hy => ?_, Dev.setCore_takeFree _ _ _, rfl, rfl⟩
    · rw [Dev.core_takeFree, Dev.core_setCore]
    · rw [Dev.core_takeFree, Dev.core_setCore]
    · rw [Dev.core_takeFree, Dev.core_setCore] at hy
      simpa using (List.mem_filter.1 hy).2
  case miss =>
    have hreg := Dev.reg_congr (Dev.endAct_regs c s.dev)
    have leaves : ∀ {e}, ActsKept (s.dev.endAct c) e → (e.core c).run = false ∧ (e.core c).cur.staged = [] ∧ e.pubs = s.dev.pubs := fun ⟨hc, hp⟩ => by
      rw [hc c, Dev.endAct_core, hp, Dev.endAct_pubs]
      exact ⟨rfl, rfl, rfl⟩
    refine ⟨_, execDeadlineMiss_running hrun htask, ?_⟩
    by_cases hshed : s.dev.rbit A.pwrStat 22 = true ∧ (s.dev.task task).cls ≠ 0
    · obtain ⟨hthr, hcls⟩ := hshed
      obtain ⟨hkept, hbit, hmiss⟩ := Dev.cutSegment_shed (pairOf c) h (d := s.dev.endAct c)
        (by rw [Dev.rbit_congr (hreg _)]; exact hthr) (by rw [Dev.endAct_task]; exact hcls)
      obtain ⟨hr, hs, hp⟩ := leaves hkept
      refine ⟨hr, hs, hp, ⟨rfl, rfl⟩, ?_⟩
      rw [if_pos ⟨hthr, hcls⟩]
      exact ⟨hbit, hmiss.trans (hreg _)⟩
    · obtain ⟨hkept, hbit, hmiss⟩ := Dev.cutSegment_missed (pairOf_lt c) h (d := s.dev.endAct c)
        (by rw [Dev.rbit_congr (hreg _), Dev.endAct_task]; exact hshed)
      obtain ⟨hr, hs, hp⟩ := leaves hkept
      refine ⟨hr, hs, hp, ⟨rfl, rfl⟩, ?_⟩
      rw [if_neg hshed]
      exact ⟨hbit, by rw [hmiss, hreg]⟩

end Sys2Proof.Machine
end

section
/-! CHK (02 R70-R71, 07 R233-R236): the count of active elements, and the memory it writes. -/

namespace Sys2Proof.Machine
open Sys2Proof

@[simp] theorem Dev.cleanPoison_regs (a n : Nat) (d : Dev) : (d.cleanPoison a n).regs = d.regs := by
  unfold Dev.cleanPoison
  dsimp only
  split <;> rfl

/-- An evaluation of `n` elements finds at most `n` of them active. -/
theorem chkRun_count_le (va ea n i act : Nat) (s : State) : (chkRun va ea n i s act).2 ≤ act + n := by
  induction n generalizing i s act with
  | zero => exact le_refl _
  | succ n ih =>
    unfold chkRun
    refine (ih _ _ _).trans ?_
    split <;> omega

/-- The elements `i, …, i + n - 1` of a check block lie in 12 bytes each, and the evaluation writes no other byte. -/
theorem chkRun_bytesKept (va ea n i act : Nat) (s : State) : BytesKept (ea + 12 * i) (12 * n) s (chkRun va ea n i s act).1 := by
  induction n generalizing i s act with
  | zero => exact fun _ _ => rfl
  | succ n ih =>
    intro k hk
    unfold chkRun
    dsimp only
    rw [ih (i + 1) _ _ k (by omega)]
    unfold State.byte
    rw [get_writeByte, if_neg (by omega)]

/-- CHK on a joined core. -/
theorem execChk_fits {c : Core} {gd ga gb : Reg} {n : Nat} {s : State} (h : Fits c (12 + 2 * n) s)
    (hq : s.dev.chkCauses c (s.dev.val c ga).toNat (s.dev.val c gb).toNat n = {}) {r : State × Nat}
    (hr : chkRun (s.dev.val c ga).toNat (s.dev.val c gb).toNat n 0 s 0 = r) :
    exec (.chk c gd ga gb n) s = .next { s with mem := r.1.mem, dev :=
      (s.dev.instr c (12 + 2 * n) {} (fun x => x.w gd (BitVec.ofNat 32 r.2))).cleanPoison (s.dev.val c gb).toNat (12 * n) } := by
  change execChk c gd ga gb n s = _
  unfold execChk
  dsimp only
  rw [hq, hr]
  exact congrArg _ (State.instrMem_fits h _ _ _)

/-- CHK on a split core: ILLEGAL. -/
theorem execChk_split {c : Core} {gd ga gb : Reg} {n : Nat} {s : State} (hsplit : s.dev.isSplit c = true) (hf : s.dev.fetchBad c = false)
    (he : (s.dev.chkCauses c (s.dev.val c ga).toNat (s.dev.val c gb).toNat n).ecc = false) :
    ∃ t, exec (.chk c gd ga gb n) s = .next t ∧ Trapped c 6 s t := by
  refine ⟨_, ?_, rfl⟩
  change execChk c gd ga gb n s = _
  unfold execChk
  dsimp only
  rw [he]
  exact congrArg _ (State.instrMem_trap _ _ _ (firstCause_illegal _ hf he hsplit))

/-- Settles O25: the evaluation counts at most every element and writes within the check block. -/
theorem blockCheck : Obligations.BlockCheck := by
  refine fun c gd ga gb n s => ⟨fun hq h => ?joined, execChk_split⟩
  have hcount := chkRun_count_le (s.dev.val c ga).toNat (s.dev.val c gb).toNat n 0 0 s
  have hkept := chkRun_bytesKept (s.dev.val c ga).toNat (s.dev.val c gb).toNat n 0 0 s
  generalize hr : chkRun (s.dev.val c ga).toNat (s.dev.val c gb).toNat n 0 s 0 = r at hcount hkept
  obtain ⟨⟨-, hdev⟩, hreg⟩ := Wrote.of_fits h (gd := gd) (v := BitVec.ofNat 32 r.2) rfl
  dsimp only at hdev hreg
  refine ⟨_, r.2, execChk_fits h hq hr, by omega, rfl, ?_, ?_, fun g hg => ?_, hkept, ?_, rfl⟩
  · rw [Dev.core_cleanPoison, hreg gd]
    by_cases hg : gd = 0
    · simp [hg]
    · simp [hg]
  · rw [Dev.core_cleanPoison, hdev, Dev.core_setCore]
  · rw [Dev.core_cleanPoison, hreg g, if_neg fun hgd => hg hgd.1]
  · rw [Dev.cleanPoison_regs, hdev, Dev.setCore_regs]

end Sys2Proof.Machine
end

section
/-! SPLIT, JOIN and reserved encodings (02 R53, R80-R81, 12 R407). -/

namespace Sys2Proof.Machine
open Sys2Proof

@[simp] theorem Dev.core_setRbit (d : Dev) (a i : Nat) (b : Bool) (c : Core) : (d.setRbit a i b).core c = d.core c := d.core_setReg a _ c

@[simp] theorem Dev.core_setPair (d : Dev) (p : Nat) (f : PairSt → PairSt) (c : Core) : (d.setPair p f).core c = d.core c := by
  unfold Dev.setPair
  split <;> cases c <;> rfl

@[simp] theorem Dev.core_moorSend (d : Dev) (m : Mooring) (c : Core) : (d.moorSend m).core c = d.core c := by
  unfold Dev.moorSend
  split
  · cases c <;> rfl
  · rfl

@[simp] theorem Dev.pair_moorSend (d : Dev) (m : Mooring) (p : Nat) : (d.moorSend m).pair p = d.pair p := by
  unfold Dev.pair
  rw [Dev.moorSend_pair0, Dev.moorSend_pair1]

@[simp] theorem Dev.pair_setPair (d : Dev) (p : Nat) (f : PairSt → PairSt) : (d.setPair p f).pair p = f (d.pair p) := by
  unfold Dev.pair Dev.setPair
  split <;> rfl

@[simp] theorem Dev.retire_pair (d : Dev) (c : Core) (x : Nxt) (n : Nat) (k : Ctx → Ctx) (p : Nat) : (d.retire c x n k).pair p = d.pair p := by
  cases c <;> rfl

/-- Whether the device is an agreed twin that follows: told by its straps, its twin state, and whether the partner is joining. -/
theorem Dev.agreedFollows_congr {d e : Dev} (hunit : e.reg A.sysUnitmap = d.reg A.sysUnitmap) (hstrap : e.reg A.sysStrap = d.reg A.sysStrap)
    (htwin : e.reg A.twinStat = d.reg A.twinStat) (hjoin : e.twin = d.twin) : (e.agreed && e.follows) = (d.agreed && d.follows) := by
  unfold Dev.agreed Dev.follows Dev.authority Dev.twinState Dev.isTwin Dev.fld Dev.rbit
  rw [hunit, hstrap, htwin, hjoin]

theorem Dev.agreedFollows_setKstat (d : Dev) {p : Nat} (hp : p < 2) (i : Nat) (b : Bool) :
    ((d.setRbit (A.sysKstat p) i b).agreed && (d.setRbit (A.sysKstat p) i b).follows) = (d.agreed && d.follows) :=
  Dev.agreedFollows_congr (Dev.reg_setRbit_other _ _ _ (by unfold A.sysUnitmap A.sysKstat; omega))
    (Dev.reg_setRbit_other _ _ _ (by unfold A.sysStrap A.sysKstat; omega))
    (Dev.reg_setRbit_other _ _ _ (by unfold A.twinStat A.sysKstat; omega)) rfl

/-- What an accepted SPLIT or JOIN notes (02 R80, 12 R407). -/
theorem Dev.pendPair_notes (d : Dev) {p : Nat} (hp : p < 2) (j : Bool) :
    (∀ c, (d.pendPair p j).core c = d.core c) ∧ (d.pendPair p j).rbit (A.sysKstat p) 28 = true ∧
      ((d.pendPair p j).pair p).pend = if d.agreed && d.follows then (d.pair p).pend else some (j, d.time.tickScan + 2) := by
  have marked : (d.setRbit (A.sysKstat p) 28 true).rbit (A.sysKstat p) 28 = true := by
    rw [Dev.rbit_setRbit _ _ _ _ _ (by decide) (by decide), if_pos rfl]
  unfold Dev.pendPair
  dsimp only
  rw [d.agreedFollows_setKstat hp]
  split
  · exact ⟨d.core_setRbit _ _ _, marked, rfl⟩
  · refine ⟨fun c => ?_, ?_, ?_⟩
    · rw [Dev.core_moorSend, Dev.pairAt, Dev.core_setPair, Dev.core_setRbit]
    · refine (Dev.rbit_congr (Dev.reg_congr ?_ _) 28).trans marked
      rw [Dev.moorSend_regs, Dev.pairAt, Dev.setPair_regs]
    · rw [Dev.pair_moorSend, Dev.pairAt, Dev.pair_setPair]
      rfl

/-- An accepted request: gd holds 0, and the pair notes it. -/
theorem pendPair_fits {c : Core} {n : Nat} {s : State} (h : Fits c n s) (gd : Reg) (j : Bool) :
    let t := { s with dev := (s.dev.instr c n {} (fun x => x.w gd 0)).pendPair (pairOf c) j }
    (t.dev.core c).cur.r gd = 0 ∧ DevOnly s t ∧ t.dev.rbit (A.sysKstat (pairOf c)) 28 = true ∧
      (t.dev.pair (pairOf c)).pend = if s.dev.agreed && s.dev.follows then (s.dev.pair (pairOf c)).pend else some (j, s.dev.time.tickScan + 2) := by
  intro t
  obtain ⟨hcore, hbit, hpend⟩ := (s.dev.instr c n {} (fun x => x.w gd 0)).pendPair_notes (pairOf_lt c) j
  have hreg := Dev.reg_congr (Dev.retire_regs s.dev c (s.dev.core c).cur.seq (n + (s.dev.core c).cur.seq.extra) (fun x => x.w gd 0))
  refine ⟨?_, ⟨rfl, rfl⟩, hbit, hpend.trans ?_⟩
  · unfold t
    dsimp only
    rw [hcore c, Dev.instr_fits h, Dev.retire_cur, Ctx.moved_r, Ctx.r_w]
    by_cases hg : gd = 0
    · simp [hg]
    · simp [hg]
  · rw [Dev.instr_fits h, Dev.agreedFollows_congr (hreg _) (hreg _) (hreg _) (Dev.setCore_twin _ _ _), Dev.retire_pair, Dev.retire_time]

/-- The refusals of SPLIT (02 R80). -/
theorem Dev.splitOk_eq_true {d : Dev} {p : Nat} : d.splitOk p = true ↔
    ¬ (d.kstate p = 1 ∨ d.kstate (1 - p) = 1 ∨ d.kstate (1 - p) = 3 ∨ d.canMigrate p = false) := by
  unfold Dev.splitOk
  simp [and_assoc]

theorem execSplit_fits {c : Core} {s : State} (h : Fits c 6 s) (gd : Reg) : execSplit c gd s =
    .next { s with dev := if s.dev.splitOk (pairOf c) then (s.dev.instr c 6 {} (fun x => x.w gd 0)).pendPair (pairOf c) false
      else s.dev.instr c 6 {} (fun x => x.w gd (statusWord 4)) } := by
  unfold execSplit
  dsimp only
  rw [Dev.instrAnd_fits h]
  split <;> rfl

theorem execJoin_fits {c : Core} {s : State} (h : Fits c 6 s) (gd : Reg) : execJoin c gd s =
    .next { s with dev := if s.dev.isSplit c then (s.dev.instr c 6 {} (fun x => x.w gd 0)).pendPair (pairOf c) true
      else s.dev.instr c 6 {} (fun x => x.w gd (statusWord 4)) } := by
  unfold execJoin
  dsimp only
  rw [Dev.instrAnd_fits h]
  split <;> rfl

theorem execReservedEncoding_illegal {c : Core} {w : Word} {s : State} (hw : (wordInfo w.toNat).isNone = true) (hf : s.dev.fetchBad c = false) :
    ∃ t, exec (.reservedEncoding c w) s = .next t ∧ Trapped c 6 s t := by
  refine ⟨_, ?_, rfl⟩
  change execReservedEncoding c w s = _
  unfold execReservedEncoding
  rw [if_pos hw, Dev.instr_trap _ (firstCause_illegal _ hf rfl rfl)]

/-- Settles O27: SPLIT and JOIN by their verdicts; a word that is no encoding is ILLEGAL. -/
theorem splitAndJoin : Obligations.SplitAndJoin := by
  intro c gd s p refused
  refine ⟨fun h hno => ?refusedSplit, fun h hyes => ?split, fun h hno => ?refusedJoin, fun h hyes => ?join, fun w => execReservedEncoding_illegal⟩
  case refusedSplit =>
    have run := execSplit_fits h gd
    rw [if_neg fun hok => Dev.splitOk_eq_true.1 hok hno] at run
    exact ⟨_, run, Wrote.of_fits h rfl⟩
  case split =>
    have run := execSplit_fits h gd
    rw [if_pos (Dev.splitOk_eq_true.2 hyes)] at run
    exact ⟨_, run, pendPair_fits h gd false⟩
  case refusedJoin =>
    have run := execJoin_fits h gd
    rw [Dev.isSplit, beq_false_of_ne hno, if_neg Bool.false_ne_true] at run
    exact ⟨_, run, Wrote.of_fits h rfl⟩
  case join =>
    have run := execJoin_fits h gd
    rw [Dev.isSplit, beq_of_eq hyes, if_pos rfl] at run
    exact ⟨_, run, pendPair_fits h gd true⟩

end Sys2Proof.Machine
end

section
/-! RING and RSTAT (02 R72-R75): the handle or status they write, and the tag they take or free. -/

namespace Sys2Proof.Machine
open Sys2Proof

/-- What gd reads after an instruction wrote `v` to it. -/
theorem Dev.instr_w_gd {c : Core} {n : Nat} {s : State} (h : Fits c n s) (gd : Reg) (v : Word) :
    ((s.dev.instr c n {} (fun x => x.w gd v)).core c).cur.r gd = if gd = 0 then 0 else v := by
  rw [Dev.instr_fits h, Dev.retire_cur, Ctx.moved_r, Ctx.r_w]
  by_cases hg : gd = 0
  · simp [hg]
  · simp [hg]

theorem Dev.instr_ports {c : Core} {n : Nat} {s : State} (h : Fits c n s) (k : Ctx → Ctx) : (s.dev.instr c n {} k).ports = s.dev.ports := by
  rw [Dev.instr_fits h, Dev.retire_ports]

theorem Dev.port_cleanPoison (a n : Nat) (d : Dev) (p : Nat) : (d.cleanPoison a n).port p = d.port p := by
  unfold Dev.cleanPoison
  dsimp only
  split <;> rfl

theorem Dev.core_setPort (d : Dev) (n : Nat) (f : Port → Port) (c : Core) : (d.setPort n f).core c = d.core c := by cases c <;> rfl

/-! Tags. -/

/-- The tag found lies in the range searched, and no transaction holds it. -/
theorem freeTag_spec {lo n t : Nat} {l : List Txn} (h : freeTag lo n l = some t) : lo ≤ t ∧ t < lo + n ∧ ∀ x ∈ l, x.tag ≠ t := by
  have hfree := List.find?_some h
  obtain ⟨i, hi, rfl⟩ := List.mem_map.1 (List.mem_of_find?_eq_some h)
  rw [List.mem_range] at hi
  refine ⟨by omega, by omega, ?_⟩
  simpa using hfree

/-- A request that takes a tag has room for its records, and its tag was free. -/
theorem Dev.ringVerdict_tag {d : Dev} {e tag : Nat} {r : RingDesc} {req : List Nat} (h : d.ringVerdict e r req = .inr tag) :
    r.recLen req * r.hops ≤ r.rspLen ∧ freeTag 64 960 (d.port r.port).txns = some tag := by
  unfold Dev.ringVerdict at h
  dsimp only at h
  split at h
  · simp at h
  split at h
  · simp at h
  split at h
  · simp at h
  rename_i hlen
  split at h
  · simp at h
  split at h
  · simp at h
  · rename_i g hg
    obtain rfl := Sum.inr.inj h
    exact ⟨Nat.le_of_not_lt fun hlt => hlen (.inr hlt), hg⟩

/-- Every response record holds at least its delivery code. -/
theorem two_le_recLenOf (code count : Nat) : 2 ≤ recLenOf code count := by
  have step : ∀ (p : Prop) [Decidable p] {a b : Nat}, 2 ≤ a → 2 ≤ b → 2 ≤ if p then a else b := fun p _ _ _ ha hb => by
    split
    · exact ha
    · exact hb
  unfold recLenOf
  repeat' refine step _ ?_ ?_
  all_goals omega

theorem length_undefBytes (seed n : Nat) : (undefBytes seed n).length = n := by
  unfold undefBytes
  rw [List.length_map, List.length_range]

/-- The records of a dead port fill one record length per hop. -/
theorem length_unreached (seed hops : Nat) {n : Nat} (hn : 2 ≤ n) : (unreached seed n hops).length = n * hops := by
  have hrecord : ∀ i, (undefBytes (1000 * seed + i) (n - 2) ++ toBytes (leBytes 2 2)).length = n := fun i => by
    rw [List.length_append, length_undefBytes, show (toBytes (leBytes 2 2)).length = 2 from rfl]
    omega
  unfold unreached
  rw [List.length_flatMap, List.map_congr_left fun i _ => hrecord i, List.map_const', List.sum_replicate, List.length_range, smul_eq_mul,
    Nat.mul_comm]

/-- The bytes that RING leaves in the response buffer when it takes a tag (02 R74). -/
def Dev.ringBuffer (d : Dev) (r : RingDesc) (req : List Nat) : List Byte :=
  let dead : List Byte := if d.portDead r.port then Machine.unreached d.freeCnt (r.recLen req) r.hops else []
  dead ++ undefBytes d.freeCnt (r.rspLen - dead.length)

theorem Dev.length_ringBuffer (d : Dev) {r : RingDesc} {req : List Nat} (h : r.recLen req * r.hops ≤ r.rspLen) :
    (d.ringBuffer r req).length = r.rspLen := by
  have hdead := length_unreached d.freeCnt r.hops (two_le_recLenOf r.code (ofLe (req.drop 2)))
  unfold Dev.ringBuffer
  dsimp only
  rw [List.length_append, length_undefBytes]
  split
  · unfold RingDesc.recLen at *
    omega
  · rw [List.length_nil]
    omega

@[simp] theorem Dev.noteEcc_false (a : Nat) (d : Dev) : d.noteEcc false a = d := rfl

/-- The premises under which RING meets no cause (02 R72-R73). -/
structure RingInOrder (c : Core) (a : Nat) (r : RingDesc) (d : Dev) : Prop where
  aligned : a % 4 = 0
  readable : d.winOk c a 16 false = true
  clean : d.poisoned a 16 = false
  cleanReq : d.poisoned r.reqAddr r.reqLen = false
  present : r.port < d.rings
  reqArea : r.reqLen = 0 ∨ d.winOk c r.reqAddr r.reqLen false = true
  rspArea : r.rspLen = 0 ∨ d.winOk c r.rspAddr r.rspLen true = true

/-- RING without a cause: the status or the handle of its verdict. -/
theorem execRing_fits {c : Core} {ga : Reg} {s : State} {r : RingDesc} (h : Fits c 12 s)
    (hr : ringDesc (s.anyBytes c (s.dev.val c ga).toNat 16) = r) (hok : RingInOrder c (s.dev.val c ga).toNat r s.dev) (gd : Reg) :
    exec (.ring c gd ga) s = match s.dev.ringVerdict (s.dev.core c).cur.task r (s.anyBytes c r.reqAddr r.reqLen) with
      | .inl st => .next { s with dev :=
          (s.dev.instr c 12 {} (fun x => x.w gd (statusWord st))).raiseIf (st == 2) (33 + 2 * r.port) r.port }
      | .inr tag => .next { s with
          dev := ((s.dev.instr c 12 {} (fun x => x.w gd (BitVec.ofNat 32 (r.port * 65536 + tag)))).takeTag (s.dev.core c).cur.task tag r
            (s.anyBytes c r.reqAddr r.reqLen)).cleanPoison r.rspAddr (s.dev.ringBuffer r (s.anyBytes c r.reqAddr r.reqLen)).length,
          mem := writeBytes r.rspAddr (s.dev.ringBuffer r (s.anyBytes c r.reqAddr r.reqLen)) s.mem } := by
  have hreq : (r.reqLen == 0 || s.dev.winOk c r.reqAddr r.reqLen false) = true := by simpa using hok.reqArea
  have hrsp : (r.rspLen == 0 || s.dev.winOk c r.rspAddr r.rspLen true) = true := by simpa using hok.rspArea
  have hrings : decide (s.dev.rings ≤ r.port) = false := by simpa using hok.present
  change execRing c gd ga s = _
  unfold execRing
  dsimp only
  rw [hr, hreq, hrsp, hrings, hok.readable, hok.clean, hok.cleanReq, hok.aligned]
  rw [show (!!(0 == 0) && true && (false || (true && true) && false)) = false from rfl, Dev.noteEcc_false]
  cases s.dev.ringVerdict (s.dev.core c).cur.task r (s.anyBytes c r.reqAddr r.reqLen) with
  | inl st => exact congrArg Host.Outcome.next (State.instrMem_fits h _ _ _)
  | inr tag => exact congrArg Host.Outcome.next (State.instrMem_fits h _ _ _)


/-- What RING answers on a status. -/
theorem ring_status {c : Core} {s : State} (h : Fits c 12 s) (gd : Reg) (st : Nat) (b : Bool) (i p : Nat) :
    (((s.dev.instr c 12 {} (fun x => x.w gd (statusWord st))).raiseIf b i p).core c).cur.r gd = (if gd = 0 then 0 else statusWord st) ∧
      ((s.dev.instr c 12 {} (fun x => x.w gd (statusWord st))).raiseIf b i p).ports = s.dev.ports := by
  have hsame : Dev.sameBut (s.dev.instr c 12 {} (fun x => x.w gd (statusWord st)))
      ((s.dev.instr c 12 {} (fun x => x.w gd (statusWord st))).raiseIf b i p) := by
    cases b
    · exact Dev.sameBut_refl _
    · exact Dev.sameBut_raise _ _ _
  obtain ⟨-, -, -, -, hports⟩ := PlantKept.of_sameBut hsame
  rw [Dev.core_of_sameBut hsame]
  exact ⟨Dev.instr_w_gd h _ _, hports.trans (Dev.instr_ports h _)⟩

/-- The transaction that RING puts on the port (02 R73-R74). -/
def Dev.ringTxn (d : Dev) (e tag : Nat) (r : RingDesc) (req : List Nat) : Txn :=
  { tag := tag, holder := e + 1, code := r.code, first := r.first, last := r.last, req := req, bufAddr := r.rspAddr, bufLen := r.rspLen,
    recLen := r.recLen req, st := if d.portDead r.port then 3 else 0, lo := r.first, hi := r.last,
    recs := if d.portDead r.port then (span r.first r.hops).map (fun h => (h, 2)) else [] }

/-- After RING took a tag, its transaction is on the port, held by the task. -/
theorem Dev.takeTag_holds (e tag : Nat) (r : RingDesc) (req : List Nat) (d : Dev) :
    ∃ x ∈ ((d.takeTag e tag r req).port r.port).txns, x.tag = tag ∧ x.holder = e + 1 := by
  refine ⟨d.ringTxn e tag r req, ?_, rfl, rfl⟩
  change _ ∈ ((d.setPort r.port (fun p => { p with txns := p.txns ++ [d.ringTxn e tag r req] })).port r.port).txns
  rw [Dev.port_setPort]
  exact List.mem_append_right _ (List.mem_singleton_self _)

theorem Dev.takeTag_core (e tag : Nat) (r : RingDesc) (req : List Nat) (d : Dev) (c : Core) : (d.takeTag e tag r req).core c = d.core c := by
  cases c <;> rfl

theorem Port.dropTag_tag (p : Port) (tag : Nat) : ∀ y ∈ (p.dropTag tag).txns, y.tag ≠ tag := by
  intro y hy
  simpa using (List.mem_filter.1 hy).2

/-- The RSTAT clause of O26. -/
theorem execRstat_result {c : Core} {ga : Reg} {s : State} (h : Fits c 4 s) (gd : Reg) :
    ∃ t, exec (.rstat c gd ga) s = .next t ∧ DevOnly s t ∧
      match s.dev.handleTxn (s.dev.core c).cur.task (s.dev.val c ga).toNat with
      | none => Wrote c gd (statusWord 6) 4 s t
      | some x => if x.st < 2 then Wrote c gd 0 4 s t
          else (t.dev.core c).cur.r gd = (if gd = 0 then 0 else if x.st = 2 then 1 else statusWord 5) ∧
            ∀ y ∈ (t.dev.port ((s.dev.val c ga).toNat / 65536)).txns, y.tag ≠ (s.dev.val c ga).toNat % 1024 := by
  refine ⟨_, rfl, ⟨rfl, rfl⟩, ?_⟩
  dsimp only
  cases s.dev.handleTxn (s.dev.core c).cur.task (s.dev.val c ga).toNat with
  | none =>
    dsimp only
    rw [Dev.instrAnd_fits h]
    exact Wrote.of_fits h rfl
  | some x =>
    dsimp only
    rw [Dev.instrAnd_fits h]
    by_cases hpending : x.st < 2
    · simp only [hpending, if_true, Bool.false_eq_true, if_false]
      exact Wrote.of_fits h rfl
    have hfinal : (if x.st = 2 then ((1 : Word), true) else (statusWord 5, true)) = (if x.st = 2 then 1 else statusWord 5, true) := by
      split <;> rfl
    simp only [if_neg hpending, hfinal, if_true]
    rw [Dev.core_setPort, Dev.port_setPort]
    exact ⟨Dev.instr_w_gd h _ _, Port.dropTag_tag _ _⟩

/-- The RING clause of O26. -/
theorem execRing_result {c : Core} {ga : Reg} {s : State} {r : RingDesc} (h : Fits c 12 s)
    (hr : ringDesc (s.anyBytes c (s.dev.val c ga).toNat 16) = r) (hok : RingInOrder c (s.dev.val c ga).toNat r s.dev) (gd : Reg) :
    ∃ t, exec (.ring c gd ga) s = .next t ∧ t.pending = s.pending ∧
      match s.dev.ringVerdict (s.dev.core c).cur.task r (s.anyBytes c r.reqAddr r.reqLen) with
      | .inl st => (t.dev.core c).cur.r gd = (if gd = 0 then 0 else statusWord st) ∧ t.mem = s.mem ∧ t.dev.ports = s.dev.ports
      | .inr tag => (t.dev.core c).cur.r gd = (if gd = 0 then 0 else BitVec.ofNat 32 (r.port * 65536 + tag)) ∧
          64 ≤ tag ∧ tag < 1024 ∧ (∀ x ∈ (s.dev.port r.port).txns, x.tag ≠ tag) ∧
          (∃ x ∈ (t.dev.port r.port).txns, x.tag = tag ∧ x.holder = (s.dev.core c).cur.task + 1) ∧ BytesKept r.rspAddr r.rspLen s t := by
  rw [execRing_fits h hr hok]
  cases hv : s.dev.ringVerdict (s.dev.core c).cur.task r (s.anyBytes c r.reqAddr r.reqLen) with
  | inl st =>
    obtain ⟨hgd, hports⟩ := ring_status h gd st (st == 2) (33 + 2 * r.port) r.port
    exact ⟨_, rfl, rfl, hgd, rfl, hports⟩
  | inr tag =>
    obtain ⟨hroom, hfree⟩ := Dev.ringVerdict_tag hv
    obtain ⟨hlo, hhi, hunused⟩ := freeTag_spec hfree
    refine ⟨_, rfl, rfl, ?_, hlo, hhi, hunused, ?_, fun k hk => ?_⟩
    · rw [Dev.core_cleanPoison, Dev.takeTag_core]
      exact Dev.instr_w_gd h _ _
    · rw [Dev.port_cleanPoison]
      exact Dev.takeTag_holds _ _ _ _ _
    · exact get_writeBytes_other _ _ (by rwa [Dev.length_ringBuffer _ hroom])

end Sys2Proof.Machine
end

section
/-! EST and ESTAT (02 R76): the handle or status they write, and the slot they take or free. -/

namespace Sys2Proof.Machine
open Sys2Proof

theorem Dev.core_setEstQ (p : Nat) (f : EstQ → EstQ) (d : Dev) (c : Core) : (d.setEstQ p f).core c = d.core c := by cases c <;> rfl

theorem Dev.estQ_setEstQ (p : Nat) (f : EstQ → EstQ) (d : Dev) : (d.setEstQ p f).estQ p = f (d.estQ p) := by
  unfold Dev.estQ Dev.setEstQ
  split <;> rfl

theorem Dev.instr_estQ {c : Core} {n : Nat} {s : State} (h : Fits c n s) (k : Ctx → Ctx) (p : Nat) :
    (s.dev.instr c n {} k).estQ p = s.dev.estQ p := by
  rw [Dev.instr_fits h]
  unfold Dev.estQ Dev.retire
  rw [Dev.setCore_cnpy]

theorem EstQ.freeSlot_lt {q : EstQ} {k : Nat} (h : q.freeSlot = some k) : k < 8 := List.mem_range.1 (List.mem_of_find?_eq_some h)

/-- The ESTAT clause of O26. -/
theorem execEstat_result {c : Core} {ga : Reg} {s : State} (h : Fits c 4 s) (gd : Reg) :
    ∃ t, exec (.estat c gd ga) s = .next t ∧ DevOnly s t ∧
      match (s.dev.estQ (pairOf c)).jobs.find? (fun j => j.handle == (s.dev.val c ga).toNat && j.owner == (s.dev.core c).cur.task) with
      | none => Wrote c gd (statusWord 6) 4 s t
      | some j => if j.st < 2 then Wrote c gd 0 4 s t
          else (t.dev.core c).cur.r gd = (if gd = 0 then 0 else if j.st = 2 then 1 else statusWord 5) ∧
            ∀ y ∈ (t.dev.estQ (pairOf c)).jobs, y.handle ≠ (s.dev.val c ga).toNat := by
  refine ⟨_, rfl, ⟨rfl, rfl⟩, ?_⟩
  dsimp only
  cases (s.dev.estQ (pairOf c)).jobs.find? (fun j => j.handle == (s.dev.val c ga).toNat && j.owner == (s.dev.core c).cur.task) with
  | none =>
    dsimp only
    rw [Dev.instrAnd_fits h]
    exact Wrote.of_fits h rfl
  | some j =>
    dsimp only
    rw [Dev.instrAnd_fits h]
    by_cases hpending : j.st < 2
    · simp only [hpending, if_true, Bool.false_eq_true, if_false]
      exact Wrote.of_fits h rfl
    have hfinal : (if j.st = 2 then ((1 : Word), true) else (statusWord 5, true)) = (if j.st = 2 then 1 else statusWord 5, true) := by
      split <;> rfl
    simp only [if_neg hpending, hfinal, if_true]
    rw [Dev.core_setEstQ, Dev.estQ_setEstQ]
    refine ⟨Dev.instr_w_gd h _ _, fun y hy => ?_⟩
    simpa using (List.mem_filter.1 hy).2

/-- The premises under which EST meets no cause (02 R76); `bs` is the descriptor. -/
structure EstInOrder (c : Core) (a : Nat) (bs : List Nat) (d : Dev) : Prop where
  aligned : a % 4 = 0
  readable : d.winOk c a 32 false = true
  clean : d.poisoned a 32 = false
  present : wordAt bs 0 / 4096 % 64 < d.lanes
  inArea : wordAt bs 0 / 2 ^ 24 ≠ 3 ∨ wordAt bs 1 / 65536 = 0 ∨ d.winOk c (wordAt bs 5) (8 * (wordAt bs 1 / 65536)) false = true
  outArea : wordAt bs 7 = 0 ∨ d.winOk c (wordAt bs 6) (wordAt bs 7) true = true

theorem EstInOrder.areas {c : Core} {a : Nat} {bs : List Nat} {d : Dev} (hok : EstInOrder c a bs d) {n : Nat}
    (hn : n = if wordAt bs 0 / 2 ^ 24 = 3 then 8 * (wordAt bs 1 / 65536) else 0) :
    ((n == 0 || d.winOk c (wordAt bs 5) n false) && (wordAt bs 7 == 0 || d.winOk c (wordAt bs 6) (wordAt bs 7) true)) = true := by
  subst hn
  have hin := hok.inArea
  have hout : (wordAt bs 7 == 0 || d.winOk c (wordAt bs 6) (wordAt bs 7) true) = true := by simpa using hok.outArea
  rw [hout, Bool.and_true, Bool.or_eq_true, beq_iff_eq]
  split
  · rename_i hinnov
    exact (hin.resolve_left fun hne => hne hinnov).imp (fun h0 => by rw [h0]) id
  · exact .inl rfl

/-- The EST clause of O26. -/
theorem execEst_result {c : Core} {ga : Reg} {s : State} {bs : List Nat} (h : Fits c 12 s) (hbs : s.anyBytes c (s.dev.val c ga).toNat 32 = bs)
    (hok : EstInOrder c (s.dev.val c ga).toNat bs s.dev) (gd : Reg) :
    ∃ t, exec (.est c gd ga) s = .next t ∧ DevOnly s t ∧
      if s.dev.estTooLarge bs then Wrote c gd (statusWord 1) 12 s t
      else if (s.dev.estQ (pairOf c)).freeSlot = none then Wrote c gd (statusWord 2) 12 s t
      else ∃ k, (s.dev.estQ (pairOf c)).freeSlot = some k ∧ k < 8 ∧
        (t.dev.core c).cur.r gd = (if gd = 0 then 0 else BitVec.ofNat 32 (((s.dev.estQ (pairOf c)).gen + 1) % 256 * 256 + k)) ∧
        (t.dev.estQ (pairOf c)).jobs.length = (s.dev.estQ (pairOf c)).jobs.length + 1 := by
  have hlanes : decide (s.dev.lanes ≤ wordAt bs 0 / 4096 % 64) = false := by simpa using hok.present
  suffices hexec : ∃ t, execEst c gd ga s = .next t ∧ _ from hexec
  unfold execEst
  dsimp only
  rw [hbs, hok.areas rfl, hlanes, hok.readable, hok.clean, hok.aligned, show (!!(0 == 0) && true && false) = false from rfl, Dev.noteEcc_false,
    show ({ align := !(0 == 0), absent := true && false, window := !true || !true } : Causes) = {} from rfl]
  by_cases hlarge : s.dev.estTooLarge bs = true
  · simp only [hlarge, if_true]
    refine ⟨_, rfl, ⟨rfl, rfl⟩, ?_⟩
    rw [Dev.instrAnd_fits h]
    exact Wrote.of_fits h rfl
  simp only [hlarge, Bool.false_eq_true, if_false]
  cases hslot : (s.dev.estQ (pairOf c)).freeSlot with
  | none =>
    refine ⟨_, rfl, ⟨rfl, rfl⟩, ?_⟩
    rw [if_pos rfl, Dev.instrAnd_fits h]
    exact Wrote.of_fits h rfl
  | some k =>
    refine ⟨_, rfl, ⟨rfl, rfl⟩, ?_⟩
    rw [if_neg (Option.some_ne_none k)]
    refine ⟨k, rfl, EstQ.freeSlot_lt hslot, ?_⟩
    dsimp only
    rw [Dev.instrAnd_fits h, Dev.core_setEstQ, Dev.estQ_setEstQ, Dev.instr_estQ h]
    exact ⟨Dev.instr_w_gd h _ _, List.length_append⟩

/-- Settles O26: each instruction by its own clause. -/
theorem ringAndJobStatus : Obligations.RingAndJobStatus :=
  fun _ gd _ _ => ⟨fun h hal hwin hclean hreq hport hreqArea hrspArea =>
      execRing_result h rfl ⟨hal, hwin, hclean, hreq, hport, hreqArea, hrspArea⟩ gd,
    fun h => execRstat_result h gd, fun h => execEstat_result h gd,
    fun h hal hwin hclean hport hin hout => execEst_result h rfl ⟨hal, hwin, hclean, hport, hin, hout⟩ gd⟩

end Sys2Proof.Machine
end

section
/-! Cores and zone latches under the operations of the trip path (07 R246-R251, 10 R342-R371). -/

namespace Sys2Proof.Machine
open Sys2Proof

/-- Every core and the zones latched are as before. -/
def LatchKept (d e : Dev) : Prop := (∀ c, e.core c = d.core c) ∧ e.latched = d.latched

theorem LatchKept.refl (d : Dev) : LatchKept d d := ⟨fun _ => rfl, rfl⟩

theorem LatchKept.trans {d e f : Dev} (h : LatchKept d e) (k : LatchKept e f) : LatchKept d f :=
  ⟨fun c => (k.1 c).trans (h.1 c), k.2.trans h.2⟩

theorem LatchKept.ite {d e f : Dev} {p : Prop} [Decidable p] (h : LatchKept d e) (k : LatchKept d f) : LatchKept d (if p then e else f) := by
  split
  · exact h
  · exact k

theorem LatchKept.fold {α : Type} (l : List α) (f : α → Dev → Dev) (d : Dev) (h : ∀ a e, LatchKept e (f a e)) : LatchKept d (foldOver l f d) :=
  foldOver_keeps (LatchKept d) l f d (fun a e he => he.trans (h a e)) (.refl d)

theorem LatchKept.of_reg {d e : Dev} (hc : ∀ c, e.core c = d.core c) (hr : e.reg A.protStat = d.reg A.protStat) : LatchKept d e := by
  refine ⟨hc, ?_⟩
  unfold Dev.latched Dev.fld
  rw [hr]

/-- A change outside the registers and the cores. -/
theorem LatchKept.of_regs {d e : Dev} (hc : ∀ c, e.core c = d.core c) (hr : e.regs = d.regs) : LatchKept d e := .of_reg hc (Dev.reg_congr hr _)

theorem LatchKept.setReg (d : Dev) {a : Nat} (v : Word) (h : A.protStat < a) : LatchKept d (d.setReg a v) :=
  .of_reg (d.core_setReg a v) (Dev.reg_setReg_other d v (Nat.ne_of_lt h))

/-- A bit of PROT.STAT above the latches. -/
theorem LatchKept.setStat (d : Dev) {i : Nat} (b : Bool) (h8 : 8 ≤ i) (h32 : i < 32) : LatchKept d (d.setRbit A.protStat i b) :=
  ⟨d.core_setReg _ _, Dev.fld_setRbit_apart d _ b h32 (by decide) (.inr (by omega))⟩

theorem LatchKept.of_raised {l : List Nat} {d e : Dev} (h : Dev.sameBut d e) (k : RegsRaised l d e) : LatchKept d e :=
  .of_reg (Dev.core_of_sameBut h) (k.kept _ (by decide) List.not_mem_nil)

theorem LatchKept.bump (d : Dev) {a o : Nat} (b : Nat) (ha : A.protStat < a) (ho : A.protStat < o) : LatchKept d (d.bump a o b) := by
  have counted : LatchKept d (d.setReg a (satInc (d.reg a))) := .setReg d _ ha
  unfold Dev.bump
  exact .ite (counted.trans (.setReg _ _ ho)) counted

section
variable (d : Dev)

theorem LatchKept.raise {e : Nat} (he : e < 384) (i : Nat) : LatchKept d (d.raise e i) := .of_raised (d.sameBut_raise e i) (d.raise_regsRaised he i)

theorem LatchKept.raiseIf {e : Nat} (b : Bool) (he : e < 384) (i : Nat) : LatchKept d (d.raiseIf b e i) := by
  unfold Dev.raiseIf
  exact .ite (.raise d he i) (.refl d)

theorem LatchKept.raiseNoLog {e : Nat} (he : e < 384) : LatchKept d (d.raiseNoLog e) := .of_raised (d.sameBut_raiseBase e) (d.raiseBase_regsRaised he)

theorem LatchKept.logRec (ty e : Nat) (b : List Nat) (m : List (List Nat)) : LatchKept d (d.logRec ty e b m) :=
  .of_raised (d.sameBut_logRec ty e b m) (d.logRec_regsRaised ty e b m)

theorem LatchKept.moorSend (m : Mooring) : LatchKept d (d.moorSend m) := .of_regs (d.core_moorSend m) (d.moorSend_regs m)

theorem LatchKept.setPort (n : Nat) (f : Port → Port) : LatchKept d (d.setPort n f) := .of_regs (d.core_setPort n f) rfl

/-! Device states (16 R548). -/

theorem LatchKept.settleNow (base : Nat) : LatchKept d (d.settleNow base) := by
  unfold Dev.settleNow
  extract_lets old st b e
  have shown : LatchKept d e := (LatchKept.setReg d _ (by decide)).trans (.setReg _ _ (by decide))
  exact .ite shown (shown.trans ((LatchKept.raiseNoLog e (by decide)).trans (.logRec _ _ _ _ _)))

theorem LatchKept.settleState (base : Nat) : LatchKept d (d.settleState base) := by
  unfold Dev.settleState
  refine .ite (.ite ?_ (.refl d)) (.settleNow d base)
  exact LatchKept.trans (e := { d with pwr := _ }) (.of_regs (fun c => by cases c <;> rfl) rfl) (.moorSend _ _)

/-! Results of sequences (10 R348, R371). -/

theorem LatchKept.lateReply (sess seq st : Nat) (body : List Nat) : LatchKept d (d.lateReply sess seq st body) := by
  unfold Dev.lateReply
  split
  · exact .refl d
  · exact .of_regs (fun c => by cases c <;> rfl) rfl

theorem LatchKept.answerSeq (tgt code tag res : Nat) (refused : Bool) : LatchKept d (d.answerSeq tgt code tag res refused) := by
  unfold Dev.answerSeq
  split
  · exact .refl d
  · exact LatchKept.trans (e := { d with hwd := _ }) (.of_regs (fun c => by cases c <;> rfl) rfl) (.lateReply _ _ _ _ _)

theorem LatchKept.putResult (code tag src res : Nat) (refused : Bool) : LatchKept d (d.putResult code tag src res refused) := by
  have written : LatchKept d (d.setReg A.ctlSeqres (resWord code tag src res)) := .setReg d _ (by decide)
  unfold Dev.putResult
  exact .ite (written.trans (.answerSeq _ _ _ _ _ _)) written

theorem LatchKept.blkResult (code tag src res : Nat) (refused : Bool) : LatchKept d (d.blkResult code tag src res refused) := by
  unfold Dev.blkResult
  exact (LatchKept.putResult d _ _ _ _ _).trans (.raise _ (by split <;> decide) _)

theorem LatchKept.putStrResult (n code tag src res : Nat) (refused : Bool) : LatchKept d (d.putStrResult n code tag src res refused) := by
  have written : LatchKept d (if d.portEn n then d.setReg (A.ctlSres n) (resWord code tag src res) else d) :=
    .ite (.setReg d _ (by unfold A.protStat A.ctlSres; omega)) (.refl d)
  unfold Dev.putStrResult
  exact .ite (written.trans (.answerSeq _ _ _ _ _ _)) written

theorem LatchKept.endStr (n res : Nat) : LatchKept d (d.endStr n res) := by
  unfold Dev.endStr Dev.strResult
  refine .ite (.refl d) ?_
  exact LatchKept.trans (e := (d.setStr n _).setStrSeq n {}) (.of_regs (fun c => by cases c <;> rfl) rfl)
    ((LatchKept.putStrResult _ _ _ _ _ _ _).trans (.raise _ (by decide) _))

/-! Head commands (10 R361, R368). -/

theorem LatchKept.queueDev (n code first last : Nat) (req : List Nat) (recLen : Nat) : LatchKept d (d.queueDev n code first last req recLen) := by
  unfold Dev.queueDev
  exact .ite (.setPort d n _) (.fold _ _ d fun _ e => .setPort e n _)

theorem LatchKept.sendOpen (n cmd : Nat) : LatchKept d (d.sendOpen n cmd) := by
  have counted : LatchKept d (d.strArc n) := by
    unfold Dev.strArc
    refine .ite (.refl d) ?_
    exact (LatchKept.setReg d _ (by unfold A.protStat A.ctlLarc; omega)).trans (.raiseIf _ _ (by decide) _)
  unfold Dev.sendOpen Dev.headCmd
  exact counted.trans ((LatchKept.setPort _ n _).trans (.queueDev _ _ _ _ _ _ _))

/-! The block open (10 R342-R355). -/

theorem LatchKept.setBlk (f : BlkSeq → BlkSeq) : LatchKept d (d.setBlk f) := by
  unfold Dev.setBlk Dev.showBlk
  exact LatchKept.trans (e := { d with ctl := _ }) (.of_regs (fun c => by cases c <;> rfl) rfl)
    (((LatchKept.setReg _ _ (by decide)).trans (.setReg _ _ (by decide))).trans (.setReg _ _ (by decide)))

theorem LatchKept.endBlk (res : Nat) : LatchKept d (d.endBlk res) := by
  unfold Dev.endBlk
  refine .ite (.refl d) ?_
  exact ((LatchKept.setBlk d _).trans (.fold _ _ _ fun _ e => .putResult e _ _ _ _ _)).trans (.blkResult _ _ _ _ _ _)

theorem LatchKept.fbAgree : LatchKept d d.fbAgree := by
  unfold Dev.fbAgree
  exact .ite (.refl d) (.setReg d _ (by decide))

theorem LatchKept.driveHold (k : Contactor) (on : Bool) : LatchKept d (d.driveHold k on) := by
  have driven : ∀ i, LatchKept d (d.setRbit A.ctlStat i on).fbAgree := fun i => (LatchKept.setReg d _ (by decide)).trans (.fbAgree _)
  unfold Dev.driveHold
  cases k with
  | pos => exact .ite (.refl d) ((driven 26).trans (.of_regs (fun c => by cases c <;> rfl) rfl))
  | neg => exact .ite (.refl d) ((driven 25).trans (.of_regs (fun c => by cases c <;> rfl) rfl))

theorem LatchKept.setHold (k : Contactor) (on : Bool) : LatchKept d (d.setHold k on) := by
  unfold Dev.setHold
  extract_lets _ e
  have agreed : LatchKept d e := .of_regs (fun c => by cases c <;> rfl) rfl
  exact .ite agreed (agreed.trans (.driveHold _ _ _))

theorem LatchKept.gatesOff : LatchKept d d.gatesOff := by
  unfold Dev.gatesOff
  extract_lets _ e e' off lp _ e'' f
  have low : LatchKept d e' := LatchKept.trans (e := e) (.of_regs (fun c => by cases c <;> rfl) rfl) (.setReg _ _ (by decide))
  have loops : LatchKept e' e'' := .of_regs (fun c => by cases c <;> rfl) rfl
  have sinks : LatchKept e'' f := (LatchKept.setReg _ _ (by decide)).trans (.setReg _ _ (by decide))
  exact .ite low ((low.trans loops).trans (sinks.trans ((LatchKept.setReg _ _ (by decide)).trans (.setReg _ _ (by decide)))))

theorem LatchKept.openDone : LatchKept d d.openDone := by
  unfold Dev.openDone
  extract_lets e _ f
  have done : LatchKept d f := LatchKept.trans (e := e) (.endBlk d 0) (.of_regs (fun c => by cases c <;> rfl) rfl)
  exact .ite (done.trans (.settleState _ _)) done

theorem LatchKept.bothOff : LatchKept d ((d.setHold .pos false).setHold .neg false) := (LatchKept.setHold d _ _).trans (.setHold _ _ _)

theorem LatchKept.openBoth : LatchKept d d.openBoth := by
  have off : LatchKept d (((d.setHold .pos false).setHold .neg false).blkStep 3) := (LatchKept.bothOff d).trans (.setBlk _ _)
  unfold Dev.openBoth
  exact .ite (off.trans (.openDone _)) off

theorem LatchKept.startOpen (code tag src : Nat) : LatchKept d (d.startOpen code tag src) := by
  unfold Dev.startOpen
  extract_lets e _ f g
  have ended : LatchKept d e := .ite ((LatchKept.gatesOff d).trans (.endBlk _ _)) (.refl d)
  clear_value e
  have asked : LatchKept e f := .of_regs (fun c => by cases c <;> rfl) rfl
  have started : LatchKept d g := (ended.trans asked).trans (.setBlk f _)
  exact .ite (started.trans (.openBoth _)) started

theorem LatchKept.tripOpen : LatchKept d d.tripOpen := by
  unfold Dev.tripOpen
  refine .ite (.trans ?_ (.openBoth _)) (.ite (.bothOff d) (.startOpen d _ _ _))
  exact .of_regs (fun c => by cases c <;> rfl) rfl

/-! The trip path (07 R246-R251). -/

theorem LatchKept.backupOpen (z : Nat) : LatchKept d (d.backupOpen z) := by
  have opened : LatchKept d (foldOver (List.range 48) (fun n d => if (d.strz n).testBit z then (d.endStr n 18).sendOpen n 0x09 else d) d) :=
    .fold _ _ d fun n e => .ite ((LatchKept.endStr e n 18).trans (.sendOpen _ n 0x09)) (.refl e)
  unfold Dev.backupOpen
  exact .ite (opened.trans (.tripOpen _)) opened

theorem LatchKept.endRelease : LatchKept d d.endRelease := by
  unfold Dev.endRelease
  split
  · exact .refl d
  · extract_lets _ e
    have ended : LatchKept d e := .of_regs (fun c => by cases c <;> rfl) rfl
    have cleared : LatchKept e (e.setRbit A.cnpyRsv 31 false) := .setReg _ _ (by decide)
    exact (ended.trans (cleared.trans (.setReg _ _ (by decide)))).trans (.raise _ (by decide) _)

theorem LatchKept.addSource (z src reason : Nat) : LatchKept d (d.addSource z src reason) :=
  .setReg d _ (by unfold A.protStat A.protSrc; omega)

end

end Sys2Proof.Machine
end

section
/-! TRIP (02 R66-R68): a request that reaches the latches sets every zone of its mask and clears none. -/

namespace Sys2Proof.Machine
open Sys2Proof

/-- A zone's latch is a bit of PROT.STAT (07 R259). -/
theorem Dev.latched_testBit (d : Dev) {j : Nat} (h : j < 8) : d.latched.testBit j = d.rbit A.protStat j := by
  unfold Dev.latched Dev.fld Word.field
  rw [Nat.shiftRight_zero, Nat.testBit_mod_two_pow, decide_eq_true (by omega : j < 7 + 1 - 0), Bool.true_and]
  rfl

/-- Every core is as before, and of the zones latched `z` was added. -/
def LatchAdded (z : Nat) (d e : Dev) : Prop :=
  (∀ c, e.core c = d.core c) ∧ ∀ j, j < 8 → e.latched.testBit j = if j = z then true else d.latched.testBit j

theorem LatchAdded.then {z : Nat} {d e f : Dev} (h : LatchAdded z d e) (k : LatchKept e f) : LatchAdded z d f :=
  ⟨fun c => (k.1 c).trans (h.1 c), fun j hj => by rw [k.2, h.2 j hj]⟩

theorem LatchAdded.after {z : Nat} {d e f : Dev} (h : LatchKept d e) (k : LatchAdded z e f) : LatchAdded z d f :=
  ⟨fun c => (k.1 c).trans (h.1 c), fun j hj => by rw [k.2 j hj, h.2]⟩

theorem LatchAdded.setBit (d : Dev) {z : Nat} (hz : z < 8) : LatchAdded z d (d.setRbit A.protStat z true) :=
  ⟨d.core_setReg _ _, fun j hj => by
    rw [Dev.latched_testBit _ hj, Dev.latched_testBit _ hj, Dev.rbit_setRbit _ _ _ _ _ (by omega) (by omega)]⟩

/-- The latch, the drive and the read-back of a zone (07 R248). -/
theorem LatchAdded.setLatch (d : Dev) {z : Nat} (hz : z < 8) (src reason : Nat) : LatchAdded z d (d.setLatch z src reason) := by
  unfold Dev.setLatch
  extract_lets w a b b' _ b'' f g h i
  have source : LatchKept d a := .setReg d w (by unfold A.protStat A.protSrc; omega)
  have driven : LatchAdded z a b := ((LatchAdded.setBit a hz).then (.setStat _ _ (by omega) (by omega))).then (.setStat _ _ (by omega) (by omega))
  have counted : LatchKept b b' := .bump b _ (by decide) (by decide)
  clear_value b'
  have noted : LatchKept b' b'' := .of_regs (fun c => by cases c <;> rfl) rfl
  clear_value b''
  have recorded : LatchKept b'' f := .logRec b'' _ _ _ _
  have raised : LatchKept f h := (LatchKept.raiseNoLog f (by decide)).trans (.raiseIf _ _ (by decide) _)
  have safe : LatchKept h i := by
    have marked : LatchKept h (h.setRbit A.protStat 31 true) := .setStat h true (by decide) (by decide)
    exact .ite (.ite marked ((marked.trans (.endRelease _)).trans (.settleState _ _))) (.refl h)
  exact .after source (driven.then ((counted.trans noted).trans (recorded.trans (raised.trans (safe.trans (.backupOpen i z))))))

/-- Every core is as before, every zone of `l` is latched, and no latch is cleared. -/
def LatchesSet (l : List Nat) (d e : Dev) : Prop :=
  (∀ c, e.core c = d.core c) ∧ (∀ z ∈ l, e.latched.testBit z = true) ∧
    ∀ z, z < 8 → d.latched.testBit z = true → e.latched.testBit z = true

theorem LatchesSet.after {l : List Nat} {d e f : Dev} (h : LatchKept d e) (k : LatchesSet l e f) : LatchesSet l d f := by
  obtain ⟨hcore, hset, hkept⟩ := k
  exact ⟨fun c => (hcore c).trans (h.1 c), hset, fun z hz hd => hkept z hz (by rwa [h.2])⟩

/-- A request for one zone, whether its latch is set or clear (07 R248). -/
theorem LatchesSet.zone (d : Dev) {z : Nat} (hz : z < 8) (src reason : Nat) :
    LatchesSet [z] d (if d.latched.testBit z then d.addSource z src reason else d.setLatch z src reason) := by
  by_cases hset : d.latched.testBit z = true
  · rw [if_pos hset]
    obtain ⟨hcore, hlatched⟩ := LatchKept.addSource d z src reason
    exact ⟨hcore, by simp [hlatched, hset], fun j _ hj => by rwa [hlatched]⟩
  · rw [if_neg hset]
    obtain ⟨hcore, hlatched⟩ := LatchAdded.setLatch d hz src reason
    refine ⟨hcore, by simp [hlatched z hz], fun j hj hd => ?_⟩
    rw [hlatched j hj, hd, ite_self]

theorem LatchesSet.fold {l : List Nat} (hl : ∀ z ∈ l, z < 8) (d : Dev) (src reason : Nat) : LatchesSet l d
    (foldOver l (fun z d => if d.latched.testBit z then d.addSource z src reason else d.setLatch z src reason) d) := by
  induction l generalizing d with
  | nil => exact ⟨fun _ => rfl, by simp, fun _ _ h => h⟩
  | cons z l ih =>
    have hz := hl z List.mem_cons_self
    obtain ⟨hcore, hset, hkept⟩ := LatchesSet.zone d hz src reason
    obtain ⟨hcore', hset', hkept'⟩ := ih (fun y hy => hl y (List.mem_cons_of_mem z hy))
      (if d.latched.testBit z then d.addSource z src reason else d.setLatch z src reason)
    rw [foldOver_cons]
    refine ⟨fun c => (hcore' c).trans (hcore c), fun y hy => ?_, fun y hy hd => hkept' y hy (hkept y hy hd)⟩
    obtain rfl | hy := List.mem_cons.1 hy
    · exact hkept' y hz (hset y (List.mem_singleton_self y))
    · exact hset' y hy

theorem LatchesSet.latchZones (d : Dev) (mask src reason : Nat) : LatchesSet (bitsOf 8 mask) d (d.latchZones mask src reason) := by
  unfold Dev.latchZones
  extract_lets _ e
  have noted : LatchKept d e := .of_regs (fun c => by cases c <;> rfl) rfl
  exact .after noted (.fold (fun z hz => List.mem_range.1 (List.mem_filter.1 hz).1) e src reason)

/-! TRIP. -/

/-- The effect of TRIP beside the step to the next instruction (02 R66-R68). -/
def Dev.tripEffect (c : Core) (mask reason : Nat) (shadowOk : Bool) (d : Dev) : Dev :=
  if mask = 0 ∨ 2 ≤ d.kstate (pairOf c) then d else if shadowOk then (d.raise 164 (pairOf c)).requestZones mask 1 reason
  else d.raise 167 (pairOf c)

theorem Dev.instr_regs {c : Core} {n : Nat} {s : State} (h : Fits c n s) (k : Ctx → Ctx) : (s.dev.instr c n {} k).regs = s.dev.regs := by
  rw [Dev.instr_fits h, Dev.retire_regs]

theorem Dev.instr_prot {c : Core} {n : Nat} {s : State} (h : Fits c n s) (k : Ctx → Ctx) : (s.dev.instr c n {} k).prot = s.dev.prot := by
  rw [Dev.instr_fits h]
  exact Dev.setCore_prot _ _ _

theorem Dev.kstate_congr {d e : Dev} (h : e.regs = d.regs) (p : Nat) : e.kstate p = d.kstate p := by
  unfold Dev.kstate Dev.fld
  rw [Dev.reg_congr h]

/-- TRIP on a joined core. -/
theorem execTrip_fits {c : Core} {s : State} (h : Fits c 2 s) (hsplit : s.dev.isSplit c = false) (f : TripForm) (reason : Nat) (b : Bool) :
    exec (.trip c f reason b) s = .next { s with dev := (s.dev.instr c 2 {} id).tripEffect c (s.dev.tripMask c f) reason b } := by
  change execTrip c f reason b s = _
  unfold execTrip
  dsimp only
  rw [hsplit]
  exact congrArg (fun d => Host.Outcome.next { s with dev := d }) (Dev.instrAnd_fits h id (Dev.tripEffect c (s.dev.tripMask c f) reason b))

theorem execTrip_split {c : Core} {s : State} (hsplit : s.dev.isSplit c = true) (hf : s.dev.fetchBad c = false) (f : TripForm)
    (reason : Nat) (b : Bool) : ∃ t, exec (.trip c f reason b) s = .next t ∧ Trapped c 6 s t := by
  refine ⟨_, ?_, rfl⟩
  change execTrip c f reason b s = _
  unfold execTrip
  dsimp only
  exact congrArg (fun d => Host.Outcome.next { s with dev := d })
    (Dev.instrAnd_trap _ _ (firstCause_illegal (q := { ill := s.dev.isSplit c }) _ hf rfl hsplit))

/-- A request that stands, with the latches restored: its zones are latched (07 R246). -/
theorem LatchesSet.tripEffect {d : Dev} {c : Core} {mask : Nat} (hm : mask ≠ 0) (hk : d.kstate (pairOf c) = 0) (hr : d.prot.restored = true)
    (reason : Nat) : LatchesSet (bitsOf 8 mask) d (d.tripEffect c mask reason true) := by
  have hprot : (d.raise 164 (pairOf c)).prot = d.prot := by rw [d.sameBut_raise 164 (pairOf c)]
  unfold Dev.tripEffect Dev.requestZones
  rw [if_neg (by omega), if_pos rfl, hprot, if_pos hr]
  exact .after (.raise d (by decide) _) (.latchZones _ _ _ _)

/-- Settles O24: the request passes the trip path zone by zone, which sets latches and clears none. -/
theorem tripRequest : Obligations.TripRequest := by
  refine fun c f reason s => ⟨fun hk h hr hm => ?_, fun b hsplit h hnone => ?_, fun b hsplit hf => execTrip_split hsplit hf f reason b⟩
  · have hsplit : s.dev.isSplit c = false := by
      unfold Dev.isSplit
      rw [hk]
      rfl
    obtain ⟨hcore, hset, hkept⟩ := LatchesSet.tripEffect (d := s.dev.instr c 2 {} id) (c := c) hm
      (by rw [Dev.kstate_congr (Dev.instr_regs h id), hk]) (by rw [Dev.instr_prot h, hr]) reason
    have hlatched : (s.dev.instr c 2 {} id).latched = s.dev.latched := by
      unfold Dev.latched Dev.fld
      rw [Dev.reg_congr (Dev.instr_regs h id)]
    refine ⟨_, execTrip_fits h hsplit f reason true, ⟨rfl, rfl⟩, ?_, fun z hz hmask => hset z ?_, fun z hz hl => hkept z hz ?_⟩
    · dsimp only
      rw [hcore, Dev.instr_fits h, Dev.retire_cur]
      rfl
    · exact List.mem_filter.2 ⟨List.mem_range.2 hz, hmask⟩
    · rwa [hlatched]
  · refine ⟨_, execTrip_fits h hsplit f reason b, ?_⟩
    unfold Dev.tripEffect
    rw [if_pos (by rwa [Dev.kstate_congr (Dev.instr_regs h id)])]
    exact Passed.of_fits h

end Sys2Proof.Machine
end

section
/-! What the commands of protection, rings and roles leave of the images in force and of Heartwood's start (03 R104, 13 R447-R448): a
switch-over and a start end with such operations. -/

namespace Sys2Proof.Machine
open Sys2Proof

/-- Heartwood without its sessions, its replies and the pair's key. -/
def HwdSt.lasting (h : HwdSt) : HwdSt := { h with sessions := [], seqWait := [], reply := (0, []), kp := none }

/-- The images that a device holds, in force or waiting, and Heartwood's lasting state. -/
def Dev.imaged (d : Dev) : ImgSt × HwdSt × List (List EnvRec) × Nat × List Chem :=
  (d.img, d.hwd.lasting, d.prot.env, d.prot.envVer, d.cnpy.chem)

/-- A register that shows no image, no state of Heartwood and no pending event: not EVT.PEND, PROT.STAT, CNPY.CHEM or HWD.STAT. -/
abbrev ShowsNoImage (a : Nat) : Prop :=
  (a < 0x40010000 ∨ 0x40010030 ≤ a) ∧ a ≠ A.protStat ∧ a ≠ A.cnpyChem ∧ a ≠ A.hwdStat

/-- No task has a transaction on the port. -/
def Port.Unheld (p : Port) : Prop := ∀ w ∈ p.txns, w.holder = 0

/-- The images and what shows them are as before, no pending event was lost, and a port without a task's transaction got none. -/
structure ImagesKept (d e : Dev) : Prop where
  imaged : e.imaged = d.imaged
  chemReg : e.reg A.cnpyChem = d.reg A.cnpyChem
  hwdStat : e.reg A.hwdStat = d.reg A.hwdStat
  envOk : e.rbit A.protStat 30 = d.rbit A.protStat 30
  pend : PendKept d e
  unheld : ∀ n, (d.port n).Unheld → (e.port n).Unheld

namespace ImagesKept

theorem img {d e : Dev} (h : ImagesKept d e) : e.img = d.img := congrArg Prod.fst h.imaged

theorem lasting {d e : Dev} (h : ImagesKept d e) : e.hwd.lasting = d.hwd.lasting := congrArg (fun x => x.2.1) h.imaged

theorem progh {d e : Dev} (h : ImagesKept d e) : e.hwd.progh = d.hwd.progh :=
  (congrArg HwdSt.progh h.lasting :)

theorem envh {d e : Dev} (h : ImagesKept d e) : e.hwd.envh = d.hwd.envh :=
  (congrArg HwdSt.envh h.lasting :)

theorem chemh {d e : Dev} (h : ImagesKept d e) : e.hwd.chemh = d.hwd.chemh :=
  (congrArg HwdSt.chemh h.lasting :)

theorem toph {d e : Dev} (h : ImagesKept d e) : e.hwd.toph = d.hwd.toph :=
  (congrArg HwdSt.toph h.lasting :)

theorem kr {d e : Dev} (h : ImagesKept d e) : e.hwd.kr = d.hwd.kr :=
  (congrArg HwdSt.kr h.lasting :)

theorem ks {d e : Dev} (h : ImagesKept d e) : e.hwd.ks = d.hwd.ks :=
  (congrArg HwdSt.ks h.lasting :)

theorem fw {d e : Dev} (h : ImagesKept d e) : e.hwd.fw = d.hwd.fw :=
  (congrArg HwdSt.fw h.lasting :)

theorem boots {d e : Dev} (h : ImagesKept d e) : e.hwd.boots = d.hwd.boots :=
  (congrArg HwdSt.boots h.lasting :)

theorem recovery {d e : Dev} (h : ImagesKept d e) : e.hwd.recovery = d.hwd.recovery :=
  (congrArg HwdSt.recovery h.lasting :)

theorem env {d e : Dev} (h : ImagesKept d e) : e.prot.env = d.prot.env := congrArg (fun x => x.2.2.1) h.imaged

theorem envVer {d e : Dev} (h : ImagesKept d e) : e.prot.envVer = d.prot.envVer := congrArg (fun x => x.2.2.2.1) h.imaged

theorem chem {d e : Dev} (h : ImagesKept d e) : e.cnpy.chem = d.cnpy.chem := congrArg (fun x => x.2.2.2.2) h.imaged

theorem refl (d : Dev) : ImagesKept d d := ⟨rfl, rfl, rfl, rfl, .of_regs rfl, fun _ h => h⟩

theorem trans {d e f : Dev} (h : ImagesKept d e) (k : ImagesKept e f) : ImagesKept d f :=
  ⟨k.imaged.trans h.imaged, k.chemReg.trans h.chemReg, k.hwdStat.trans h.hwdStat, k.envOk.trans h.envOk, h.pend.trans k.pend,
    fun n hn => k.unheld n (h.unheld n hn)⟩

theorem ite {d e f : Dev} {p : Prop} [Decidable p] (h : ImagesKept d e) (k : ImagesKept d f) : ImagesKept d (if p then e else f) := by
  split
  · exact h
  · exact k

theorem foldMem {α : Type} (l : List α) (f : α → Dev → Dev) (d : Dev) (h : ∀ a ∈ l, ∀ e, ImagesKept e (f a e)) :
    ImagesKept d (foldOver l f d) := List.foldlRecOn l _ (refl d) fun e he a ha => he.trans (h a ha e)

theorem fold {α : Type} (l : List α) (f : α → Dev → Dev) (d : Dev) (h : ∀ a e, ImagesKept e (f a e)) : ImagesKept d (foldOver l f d) :=
  foldMem l f d fun a _ => h a

/-- A change outside registers and ports. -/
theorem of_same {d e : Dev} (hi : e.imaged = d.imaged) (hr : e.regs = d.regs) (hp : e.ports = d.ports) : ImagesKept d e :=
  ⟨hi, Dev.reg_congr hr _, Dev.reg_congr hr _, Dev.rbit_congr (Dev.reg_congr hr _) _, .of_regs hr, fun n hn => by
    unfold Dev.port at hn ⊢
    rwa [hp]⟩

theorem setReg (d : Dev) {a : Nat} (v : Word) (h : ShowsNoImage a) : ImagesKept d (d.setReg a v) := by
  obtain ⟨hpend, hprot, hchem, hhwd⟩ := h
  exact ⟨rfl, Dev.reg_setReg_other d v hchem.symm, Dev.reg_setReg_other d v hhwd.symm,
    Dev.rbit_congr (Dev.reg_setReg_other d v hprot.symm) _, .setReg d v hpend, fun _ hn => hn⟩

/-- A write of PROT.STAT that leaves ENVOK. -/
theorem setStat (d : Dev) (v : Word) (h : v.bit 30 = d.rbit A.protStat 30) : ImagesKept d (d.setReg A.protStat v) :=
  ⟨rfl, Dev.reg_setReg_other d v (by decide), Dev.reg_setReg_other d v (by decide), by unfold Dev.rbit; rw [Dev.reg_setReg]; exact h,
    .setReg d v (by decide), fun _ hn => hn⟩

theorem setStatBit (d : Dev) {i : Nat} (b : Bool) (hi : i < 32) (h : i ≠ 30) : ImagesKept d (d.setRbit A.protStat i b) :=
  setStat d _ (by rw [Word.bit_setBit _ _ _ _ hi (by decide), if_neg h.symm]; rfl)

theorem setStatFld (d : Dev) {hi lo : Nat} (v : Nat) (hl : lo ≤ hi) (h : hi < 30) : ImagesKept d (d.setFld A.protStat hi lo v) :=
  setStat d _ (by rw [Word.bit_setField _ _ _ _ _ (by omega) hl (by decide), if_neg (by omega)]; rfl)

/-- Events and log records. -/
theorem of_raised {l : List Nat} {d e : Dev} (h : Dev.sameBut d e) (k : RegsRaised l d e) : ImagesKept d e := by
  have reg : ∀ a, evtArea a = false → e.reg a = d.reg a := fun a ha => k.kept a ha List.not_mem_nil
  have hi : e.imaged = d.imaged := by rw [h]; rfl
  have hp : e.ports = d.ports := by rw [h]
  exact ⟨hi, reg _ (by decide), reg _ (by decide), Dev.rbit_congr (reg _ (by decide)) _, k.pend,
    (of_same (d := d) (e := { d with ports := e.ports }) rfl rfl hp).unheld⟩

theorem bump (d : Dev) {a o : Nat} (b : Nat) (ha : ShowsNoImage a) (ho : ShowsNoImage o) : ImagesKept d (d.bump a o b) := by
  unfold Dev.bump
  exact ite ((setReg d _ ha).trans (setReg _ _ ho)) (setReg d _ ha)

theorem setPort (d : Dev) (n : Nat) {f : Port → Port} (h : ∀ p : Port, p.Unheld → (f p).Unheld) : ImagesKept d (d.setPort n f) := by
  refine ⟨rfl, rfl, rfl, rfl, .of_regs rfl, fun m hd => ?_⟩
  by_cases hm : m = n
  · subst hm
    rw [Dev.port_setPort]
    exact h _ hd
  · rwa [Dev.port_setPort_other d f hm]

section
variable (d : Dev)

theorem raise {e : Nat} (he : e < 384) (i : Nat) : ImagesKept d (d.raise e i) := .of_raised (d.sameBut_raise e i) (d.raise_regsRaised he i)

theorem raiseIf {e : Nat} (b : Bool) (he : e < 384) (i : Nat) : ImagesKept d (d.raiseIf b e i) := by
  unfold Dev.raiseIf
  exact ite (raise d he i) (refl d)

theorem raiseNoLog {e : Nat} (he : e < 384) : ImagesKept d (d.raiseNoLog e) := .of_raised (d.sameBut_raiseBase e) (d.raiseBase_regsRaised he)

theorem logRec (ty e : Nat) (b : List Nat) (m : List (List Nat)) : ImagesKept d (d.logRec ty e b m) :=
  .of_raised (d.sameBut_logRec ty e b m) (d.logRec_regsRaised ty e b m)

theorem moorSend (m : Mooring) : ImagesKept d (d.moorSend m) := by
  unfold Dev.moorSend
  exact ite (of_same rfl rfl rfl) (refl d)

/-! Device states and results of sequences (16 R548, 10 R348, R371). -/

theorem settleNow (base : Nat) : ImagesKept d (d.settleNow base) := by
  unfold Dev.settleNow
  extract_lets old st b e
  have shown : ImagesKept d e := (setReg d _ (by decide)).trans (setReg _ _ (by decide))
  exact ite shown (shown.trans ((raiseNoLog e (by decide)).trans (logRec _ _ _ _ _)))

theorem settleState (base : Nat) : ImagesKept d (d.settleState base) := by
  unfold Dev.settleState
  refine ite (ite ?_ (refl d)) (settleNow d base)
  refine trans ?_ (moorSend _ _)
  exact of_same rfl rfl rfl

theorem lateReply (sess seq st : Nat) (body : List Nat) : ImagesKept d (d.lateReply sess seq st body) := by
  unfold Dev.lateReply
  split
  · exact refl d
  · exact of_same rfl rfl rfl

theorem answerSeq (tgt code tag res : Nat) (refused : Bool) : ImagesKept d (d.answerSeq tgt code tag res refused) := by
  unfold Dev.answerSeq
  split
  · exact refl d
  · refine trans ?_ (lateReply _ _ _ _ _)
    exact of_same rfl rfl rfl

theorem putResult (code tag src res : Nat) (refused : Bool) : ImagesKept d (d.putResult code tag src res refused) := by
  have written : ImagesKept d (d.setReg A.ctlSeqres (resWord code tag src res)) := setReg d _ (by decide)
  unfold Dev.putResult
  exact ite (written.trans (answerSeq _ _ _ _ _ _)) written

theorem blkResult (code tag src res : Nat) (refused : Bool) : ImagesKept d (d.blkResult code tag src res refused) := by
  unfold Dev.blkResult
  exact (putResult d _ _ _ _ _).trans (raise _ (by split <;> decide) _)

theorem putStrResult {n : Nat} (hn : n < 48) (code tag src res : Nat) (refused : Bool) :
    ImagesKept d (d.putStrResult n code tag src res refused) := by
  have written : ImagesKept d (if d.portEn n then d.setReg (A.ctlSres n) (resWord code tag src res) else d) :=
    ite (setReg d _ (by unfold ShowsNoImage A.ctlSres A.protStat A.cnpyChem A.hwdStat; omega)) (refl d)
  unfold Dev.putStrResult
  exact ite (written.trans (answerSeq _ _ _ _ _ _)) written

theorem endStr {n : Nat} (hn : n < 48) (res : Nat) : ImagesKept d (d.endStr n res) := by
  unfold Dev.endStr Dev.strResult
  refine ite (refl d) ?_
  refine trans ?_ ((putStrResult _ hn _ _ _ _ _).trans (raise _ (by decide) _))
  exact of_same rfl rfl rfl

end

end ImagesKept

/-! The device's own transactions (04 R146). -/

theorem mem_insertDev {t w : Txn} {l : List Txn} (h : w ∈ insertDev t l) : w = t ∨ w ∈ l := by
  induction l with
  | nil => exact .inl (List.mem_singleton.1 h)
  | cons x l ih =>
    unfold insertDev at h
    split at h
    · obtain rfl | h := List.mem_cons.1 h
      · exact .inr List.mem_cons_self
      · exact (ih h).imp_right (List.mem_cons_of_mem x)
    · exact List.mem_cons.1 h

/-- A transaction of the device's own has holder 0. -/
theorem Port.Unheld.queueDev (code first last : Nat) (req : List Nat) (recLen : Nat) {p : Port} (hp : p.Unheld) :
    (p.queueDev code first last req recLen).Unheld := by
  unfold Port.queueDev
  dsimp only
  split
  · exact hp
  · exact fun w hw => (mem_insertDev hw).elim (fun h => by rw [h]) (hp w)

namespace ImagesKept
section
variable (d : Dev)

theorem queueDev (n code first last : Nat) (req : List Nat) (recLen : Nat) : ImagesKept d (d.queueDev n code first last req recLen) := by
  unfold Dev.queueDev
  exact ite (setPort d n (fun _ hp => hp.queueDev _ _ _ _ _)) (fold _ _ d fun _ e => setPort e n (fun _ hp => hp.queueDev _ _ _ _ _))

theorem sendOpen {n : Nat} (hn : n < 48) (cmd : Nat) : ImagesKept d (d.sendOpen n cmd) := by
  have counted : ImagesKept d (d.strArc n) := by
    unfold Dev.strArc
    refine ite (refl d) ?_
    exact (setReg d _ (by unfold ShowsNoImage A.ctlLarc A.protStat A.cnpyChem A.hwdStat; omega)).trans (raiseIf _ _ (by decide) _)
  have told : ∀ q, ImagesKept (d.strArc n) ((d.strArc n).setPort n fun p => { p with headSeq := q }) := fun q => setPort _ n fun _ hp => hp
  unfold Dev.sendOpen Dev.headCmd
  exact counted.trans ((told _).trans (queueDev _ _ _ _ _ _ _))

/-! The block open (10 R342-R355). -/

theorem setBlk (f : BlkSeq → BlkSeq) : ImagesKept d (d.setBlk f) := by
  have shown : ∀ e : Dev, ImagesKept e e.showBlk := fun e =>
    ((setReg e _ (by decide)).trans (setReg _ _ (by decide))).trans (setReg _ _ (by decide))
  refine trans ?_ (shown _)
  exact of_same rfl rfl rfl

theorem endBlk (res : Nat) : ImagesKept d (d.endBlk res) := by
  unfold Dev.endBlk
  refine ite (refl d) ?_
  exact ((setBlk d _).trans (fold _ _ _ fun _ e => putResult e _ _ _ _ _)).trans (blkResult _ _ _ _ _ _)

theorem fbAgree : ImagesKept d d.fbAgree := by
  unfold Dev.fbAgree
  exact ite (refl d) (setReg d _ (by decide))

theorem driveHold (k : Contactor) (on : Bool) : ImagesKept d (d.driveHold k on) := by
  have driven : ∀ i, ImagesKept d (d.setRbit A.ctlStat i on).fbAgree := fun i => (setReg d _ (by decide)).trans (fbAgree _)
  unfold Dev.driveHold
  cases k with
  | pos => exact ite (refl d) ((driven 26).trans (of_same rfl rfl rfl))
  | neg => exact ite (refl d) ((driven 25).trans (of_same rfl rfl rfl))

theorem setHold (k : Contactor) (on : Bool) : ImagesKept d (d.setHold k on) := by
  unfold Dev.setHold
  extract_lets _ e
  have agreed : ImagesKept d e := of_same rfl rfl rfl
  exact ite agreed (agreed.trans (driveHold _ _ _))

theorem gatesOff : ImagesKept d d.gatesOff := by
  unfold Dev.gatesOff
  extract_lets _ e e' off lp _ e'' f
  have low : ImagesKept d e' := trans (e := e) (of_same rfl rfl rfl) (setReg _ _ (by decide))
  have loops : ImagesKept e' e'' := of_same rfl rfl rfl
  have sinks : ImagesKept e'' f := (setReg _ _ (by decide)).trans (setReg _ _ (by decide))
  exact ite low ((low.trans loops).trans (sinks.trans ((setReg _ _ (by decide)).trans (setReg _ _ (by decide)))))

theorem holdsOff : ImagesKept d d.holdsOff := (gatesOff d).trans ((driveHold _ _ _).trans (driveHold _ _ _))

theorem openDone : ImagesKept d d.openDone := by
  unfold Dev.openDone
  extract_lets e _ f
  have done : ImagesKept d f := trans (e := e) (endBlk d 0) (of_same rfl rfl rfl)
  exact ite (done.trans (settleState _ _)) done

theorem bothOff : ImagesKept d ((d.setHold .pos false).setHold .neg false) := (setHold d _ _).trans (setHold _ _ _)

theorem openBoth : ImagesKept d d.openBoth := by
  have off : ImagesKept d (((d.setHold .pos false).setHold .neg false).blkStep 3) := (bothOff d).trans (setBlk _ _)
  unfold Dev.openBoth
  exact ite (off.trans (openDone _)) off

theorem startOpen (code tag src : Nat) : ImagesKept d (d.startOpen code tag src) := by
  unfold Dev.startOpen
  extract_lets e _ f g
  have ended : ImagesKept d e := ite ((gatesOff d).trans (endBlk _ _)) (refl d)
  clear_value e
  have asked : ImagesKept e f := of_same rfl rfl rfl
  have started : ImagesKept d g := (ended.trans asked).trans (setBlk f _)
  exact ite (started.trans (openBoth _)) started

theorem tripOpen : ImagesKept d d.tripOpen := by
  unfold Dev.tripOpen
  refine ite (.trans ?_ (openBoth _)) (ite (bothOff d) (startOpen d _ _ _))
  exact of_same rfl rfl rfl

/-! The trip path (07 R246-R251). -/

theorem backupOpen (z : Nat) : ImagesKept d (d.backupOpen z) := by
  have opened : ImagesKept d (foldOver (List.range 48) (fun n d => if (d.strz n).testBit z then (d.endStr n 18).sendOpen n 0x09 else d) d) :=
    foldMem _ _ d fun n hn e =>
      have hn := List.mem_range.1 hn
      ite ((endStr e hn 18).trans (sendOpen _ hn 0x09)) (refl e)
  unfold Dev.backupOpen
  exact ite (opened.trans (tripOpen _)) opened

theorem endRelease : ImagesKept d d.endRelease := by
  unfold Dev.endRelease
  split
  · exact refl d
  · extract_lets _ e
    have ended : ImagesKept d e := of_same rfl rfl rfl
    have cleared : ImagesKept e (e.setRbit A.cnpyRsv 31 false) := setReg _ _ (by decide)
    exact (ended.trans (cleared.trans (setReg _ _ (by decide)))).trans (raise _ (by decide) _)

theorem setSrc {z : Nat} (hz : z < 8) (v : Word) : ImagesKept d (d.setReg (A.protSrc z) v) :=
  setReg d v (by unfold ShowsNoImage A.protSrc A.protStat A.cnpyChem A.hwdStat; omega)

theorem setLatch {z : Nat} (hz : z < 8) (src reason : Nat) : ImagesKept d (d.setLatch z src reason) := by
  unfold Dev.setLatch
  extract_lets w a b b' _ b'' f g h i
  have source : ImagesKept d a := setSrc d hz w
  have driven : ImagesKept a b := ((setStatBit a _ (by omega) (by omega)).trans (setStatBit _ _ (by omega) (by omega))).trans
    (setStatBit _ _ (by omega) (by omega))
  have counted : ImagesKept b b' := bump b _ (by decide) (by decide)
  clear_value b'
  have noted : ImagesKept b' b'' := of_same rfl rfl rfl
  clear_value b''
  have recorded : ImagesKept b'' f := logRec b'' _ _ _ _
  have raised : ImagesKept f h := (raiseNoLog f (by decide)).trans (raiseIf _ _ (by decide) _)
  have safe : ImagesKept h i := by
    have marked : ImagesKept h (h.setRbit A.protStat 31 true) := setStatBit h true (by decide) (by decide)
    exact ite (ite marked ((marked.trans (endRelease _)).trans (settleState _ _))) (refl h)
  exact source.trans (driven.trans ((counted.trans noted).trans (recorded.trans (raised.trans (safe.trans (backupOpen i z))))))

theorem latchZones (mask src reason : Nat) : ImagesKept d (d.latchZones mask src reason) := by
  unfold Dev.latchZones
  extract_lets _ e
  have noted : ImagesKept d e := of_same rfl rfl rfl
  refine noted.trans (foldMem _ _ e fun z hz f => ?_)
  have hz : z < 8 := List.mem_range.1 (List.mem_filter.1 hz).1
  exact ite (setSrc f hz _) (setLatch f hz src reason)

theorem restoreLatches : ImagesKept d d.restoreLatches := by
  unfold Dev.restoreLatches
  extract_lets m old p e f g l
  have noted : ImagesKept d e := of_same rfl rfl rfl
  have shown : ImagesKept e f := ((setStatFld e _ (by decide) (by decide)).trans (setStatFld _ _ (by decide) (by decide))).trans
    (setStatFld _ _ (by decide) (by decide))
  have safe : ImagesKept f g := ite (refl f) (setStatBit f _ (by decide) (by decide))
  have restored : ImagesKept g { g with prot := { g.prot with restored := true, early := [] } } := of_same rfl rfl rfl
  exact (noted.trans shown).trans ((safe.trans restored).trans (fold _ _ _ fun _ e => latchZones e _ _ _))

end
end ImagesKept
end Sys2Proof.Machine
end

section
/-! Rings, limp-home channels and roles of a twin leave the images as they are (04 R145, 11 R391, 12 R425-R430), and so does the end of a
switch-over (13 R462, 20 R606). -/

namespace Sys2Proof.Machine
open Sys2Proof

namespace ImagesKept
section
variable (d : Dev)

/-! Ring states and discovery (04 R140-R145). -/

theorem wake : ImagesKept d d.wake := by
  have settled : ImagesKept d (foldOver (List.range 30) (fun j e => e.settleOwn j 2) (d.settleState 3)) :=
    (settleState d 3).trans (fold _ _ _ fun _ _ => of_same rfl rfl rfl)
  unfold Dev.wake
  exact ite (ite (settleState d 3) settled) (refl d)

theorem bleedStop (n : Nat) : ImagesKept d (d.bleedStop n) := by
  unfold Dev.bleedStop Dev.sendZero
  refine ite (trans (trans ?_ (queueDev _ _ _ _ _ _ _)) (raise _ (by decide) _)) (refl d)
  exact of_same rfl rfl rfl

theorem disarm (n : Nat) : ImagesKept d (d.disarm n) := by
  have sent : ∀ e : Dev, ImagesKept e (e.sendBurst n 2) := fun e => by
    unfold Dev.sendBurst
    exact ite (queueDev e _ _ _ _ _ _) (fold _ _ e fun _ f => queueDev f _ _ _ _ _ _)
  unfold Dev.disarm
  refine ite (trans ?_ (sent _)) (refl d)
  exact of_same rfl rfl rfl

theorem tellRing (n : Nat) : ImagesKept d (d.tellRing n) := by
  unfold Dev.tellRing
  exact ite (moorSend d _) (refl d)

theorem setRing {n : Nat} (hn : n < 64) (st : Nat) : ImagesKept d (d.setRing n st) := by
  unfold Dev.setRing
  extract_lets old a b c
  have stated : ImagesKept d a := setReg d _ (by unfold ShowsNoImage A.ringStat A.protStat A.cnpyChem A.hwdStat; omega)
  have marked : ImagesKept a b := setPort a n fun _ hp => hp
  have told : ImagesKept b c := ite (refl b) ((tellRing b n).trans (wake _))
  have entered : ImagesKept d c := (stated.trans marked).trans told
  exact ite (entered.trans ((bleedStop c n).trans (disarm _ n))) entered

theorem ringEvent {n : Nat} (hn : n < 48) (b : Bool) : ImagesKept d (d.ringEvent n b) := raiseIf d b (by omega) n

theorem discoverRing {n : Nat} (hn : n < 64) : ImagesKept d (d.discoverRing n) := by
  have begun : ∀ a b (e : Dev), ImagesKept e (e.discover n a b) := fun a b e => by
    have marked : ImagesKept e (e.setPort n fun p => { p.markDisc a b with farRanged := false }) := setPort e n fun _ hp => hp
    unfold Dev.discover
    exact ite ((marked.trans (queueDev _ _ _ _ _ _ _)).trans (moorSend _ _)) (marked.trans (queueDev _ _ _ _ _ _ _))
  exact (setRing d hn 1).trans (begun 1 _ _)

theorem setIdentity {n : Nat} (hn : n < 48) (h st : Nat) : ImagesKept d (d.setIdentity n h st) := by
  have bit : ∀ (e : Dev) (b : Bool), ImagesKept e (e.hopBit (A.ringAuth0 n) (A.ringAuth1 n) h b) := fun e b => by
    unfold Dev.hopBit
    refine ite (setReg e _ ?_) (setReg e _ ?_)
    · unfold ShowsNoImage A.ringAuth0 A.protStat A.cnpyChem A.hwdStat
      omega
    · unfold ShowsNoImage A.ringAuth1 A.protStat A.cnpyChem A.hwdStat
      omega
  unfold Dev.setIdentity
  refine ite (refl d) (trans (trans ?_ (bit _ _)) (raise _ (by decide) _))
  exact setPort d n fun _ hp => hp

/-! Limp-home channels (11 R379-R394). -/

theorem lswStep {n : Nat} (hn : n < 32) (t : Nat) (f : Lsw → Lsw) : ImagesKept d (d.lswStep n t f) := by
  have event : ∀ (e : Dev) (b : Bool), ImagesKept e (e.lswEvent n b) := fun e b => by
    unfold Dev.lswEvent
    refine ite (trans ?_ (raise _ (by omega) _)) (refl e)
    exact of_same rfl rfl rfl
  unfold Dev.lswStep
  refine ite (trans ?_ (event _ _)) (of_same rfl rfl rfl)
  exact of_same rfl rfl rfl

theorem lhSync : ImagesKept d d.lhSync := by
  unfold Dev.lhSync
  refine trans ?_ (foldMem _ _ _ fun n hn e => lswStep e (List.mem_range.1 (List.mem_filter.1 hn).1) _ _)
  exact of_same rfl rfl rfl

/-! Roles of a twin and the pairing check (12 R425-R430). -/

theorem setTwin (st : Nat) : ImagesKept d (d.setTwin st) := by
  unfold Dev.setTwin
  exact ite (refl d) ((setReg d _ (by decide)).trans (raise _ (by decide) _))

theorem setCore (c : Core) (f : CoreSt → CoreSt) : ImagesKept d (d.setCore c f) := by cases c <;> exact of_same rfl rfl rfl

theorem stopCores : ImagesKept d d.stopCores := by
  refine fold _ _ d fun c e => ?_
  unfold Dev.stopCore
  refine trans ?_ (setCore _ c _)
  exact fold _ _ e fun _ _ => of_same rfl rfl rfl

theorem joinStart : ImagesKept d d.joinStart := by
  have left : ∀ e : Dev, ImagesKept e e.discard := fun e => of_same rfl rfl rfl
  unfold Dev.joinStart
  refine trans ?_ (trans (trans (trans ((holdsOff _).trans (stopCores _)) (left _)) (setTwin _ _)) (raise _ (by decide) _))
  exact of_same rfl rfl rfl

theorem setEth {p : Nat} (hp : p < 2) (i : Nat) (b : Bool) : ImagesKept d (d.setRbit (A.ethStat p) i b) :=
  setReg d _ (by unfold ShowsNoImage A.ethStat A.protStat A.cnpyChem A.hwdStat; omega)

theorem setCanStat {c : Nat} (hc : c < 4) (i : Nat) (b : Bool) : ImagesKept d (d.setRbit (A.canStat c) i b) :=
  setReg d _ (by unfold ShowsNoImage A.canStat A.protStat A.cnpyChem A.hwdStat; omega)

theorem startAuth : ImagesKept d d.startAuth := by
  unfold Dev.startAuth
  extract_lets a b c
  have address : ∀ (e : Dev) {p : Nat}, p < 2 → ImagesKept e (if e.hasEth p then e.setRbit (A.ethStat p) 28 true else e) := fun e _ hp =>
    ite (setEth e hp 28 true) (refl e)
  have held : ImagesKept d b := trans (e := a) (setReg d _ (by decide)) (address a (by decide))
  have told : ImagesKept b c := (address b (by decide)).trans (moorSend _ _)
  have modes : ImagesKept c c.canModes := foldMem _ _ c fun k hk e => ite (setCanStat e (List.mem_range.1 hk) 29 _) (refl e)
  refine ((held.trans told).trans modes).trans (foldMem _ _ _ fun n hn e => ite (discoverRing e ?_) (refl e))
  exact (List.mem_range.1 (List.mem_filter.1 hn).1).trans (Dev.rings_lt _)

theorem takeFree : ImagesKept d d.takeFree := of_same rfl rfl rfl

theorem pairCheck (x : PairInfo) : ImagesKept d (d.pairCheck x) := by
  unfold Dev.pairCheck
  extract_lets r a _ _ b join
  have asked : ImagesKept d a := ((moorSend d _).trans (takeFree _)).trans (setReg _ _ (by decide))
  have paired : ImagesKept a b := of_same rfl rfl rfl
  have joining : ImagesKept b join := of_same rfl rfl rfl
  refine ite (asked.trans (raise a (by decide) r)) ((asked.trans paired).trans ?_)
  exact ite joining (ite (joinStart b) ((joining.trans (startAuth join)).trans (setTwin _ _)))

theorem pairRetry : ImagesKept d d.pairRetry := by
  unfold Dev.pairRetry
  refine ite ?_ (refl d)
  split
  · exact refl d
  · exact (setTwin d 1).trans (pairCheck _ _)

theorem formBdig : ImagesKept d d.formBdig :=
  foldMem _ _ d fun k hk e => setReg e _ (by
    have := List.mem_range.1 hk
    unfold ShowsNoImage A.hwdBdig A.protStat A.cnpyChem A.hwdStat
    omega)

/-- The end of a switch-over. -/
theorem afterSwitch : ImagesKept d d.afterSwitch := (formBdig d).trans (pairRetry _)

end
end ImagesKept
end Sys2Proof.Machine
end

section
/-! What a switch-over writes in memory (03 R104, 15 R519): the image's area in force, and for a topology the buffers of the transactions
that tasks had out on rings that leave it (02 R73). -/

namespace Sys2Proof.Machine
open Sys2Proof

/-! An area copied over another. -/

theorem FMap.get_of_lt {α : Type} [DecidableEq α] (d : Nat → α) {lo k : Nat} (h : k < lo) {m : FMap α} (w : FMap.wfFrom d lo m = true) :
    FMap.get d m k = d k := by
  cases m with
  | nil => rfl
  | cons x rest =>
    obtain ⟨j, v⟩ := x
    simp only [FMap.wfFrom, Bool.and_eq_true, decide_eq_true_eq] at w
    have hj : k < j := h.trans_le w.1.1
    simp [FMap.get, hj, hj.ne']

/-- Entries removed from a table in canonical form leave what the other keys read. -/
theorem FMap.get_filter {α : Type} [DecidableEq α] (d : Nat → α) {lo k : Nat} (p : Nat × α → Bool) {m : FMap α}
    (w : FMap.wfFrom d lo m = true) (h : ∀ v, p (k, v) = true) : FMap.get d (m.filter p) k = FMap.get d m k := by
  induction m generalizing lo with
  | nil => rfl
  | cons x rest ih =>
    obtain ⟨j, v⟩ := x
    simp only [FMap.wfFrom, Bool.and_eq_true, decide_eq_true_eq] at w
    by_cases hp : p (j, v) = true
    · rw [List.filter_cons_of_pos hp]
      simp only [FMap.get, ih w.2]
    · have hjk : j ≠ k := fun he => hp (he ▸ h v)
      rw [List.filter_cons_of_neg hp, ih w.2]
      by_cases hlt : k < j
      · rw [FMap.get_of_lt d (hlt.trans (Nat.lt_succ_self j)) w.2]
        simp [FMap.get, hjk, hlt]
      · simp [FMap.get, hjk, hlt]

theorem get_copyRange_other {a t n k : Nat} {m : FMap Byte} (w : Memory.wf m = true) (h : k < t ∨ t + n ≤ k) :
    FMap.get memReset (copyRange a t n m) k = FMap.get memReset m k := by
  have zeroed : FMap.get memReset (zeroRange t n m) k = FMap.get memReset m k := FMap.get_filter _ _ w fun _ => by simpa using h
  refine List.foldlRecOn (motive := fun u => FMap.get memReset u k = FMap.get memReset m k) _ _ zeroed fun u hu x hx => ?_
  have hx := (List.mem_filter.1 hx).2
  simp only [Bool.and_eq_true, decide_eq_true_eq] at hx
  rw [get_writeByte, if_neg (by omega), hu]

/-- An image takes its area in force, and no other byte of memory changes (log entry 62). -/
theorem State.promote_bytesKept {magic a n : Nat} {s : State} (ha : s.dev.imgArea magic = (a + n, n)) (hs : s.wf = true) :
    BytesKept a n s (s.promote magic) := by
  intro k hk
  unfold State.promote State.byte
  rw [ha]
  exact get_copyRange_other hs (by simpa using hk)

/-! Rings that leave a topology or change in it (13 R447). -/

/-- The images are as before, and so is memory where no task has a transaction. -/
structure SwitchKept (s t : State) : Prop where
  images : ImagesKept s.dev t.dev
  mem : (∀ n, (s.dev.port n).Unheld) → t.mem = s.mem

namespace SwitchKept

theorem refl (s : State) : SwitchKept s s := ⟨.refl _, fun _ => rfl⟩

theorem trans {s t u : State} (h : SwitchKept s t) (k : SwitchKept t u) : SwitchKept s u :=
  ⟨h.images.trans k.images, fun hs => (k.mem fun n => h.images.unheld n (hs n)).trans (h.mem hs)⟩

theorem ite {s t u : State} {p : Prop} [Decidable p] (ht : SwitchKept s t) (hu : SwitchKept s u) : SwitchKept s (if p then t else u) := by
  split
  · exact ht
  · exact hu

theorem dev {s : State} {d : Dev} (h : ImagesKept s.dev d) : SwitchKept s { s with dev := d } := ⟨h, fun _ => rfl⟩

theorem foldMem {α : Type} (l : List α) (f : α → State → State) (s : State) (h : ∀ a ∈ l, ∀ t, SwitchKept t (f a t)) :
    SwitchKept s (foldOver l f s) := List.foldlRecOn l _ (refl s) fun t ht a ha => ht.trans (h a ha t)

end SwitchKept

theorem ImagesKept.cleanPoison (a n : Nat) (d : Dev) : ImagesKept d (d.cleanPoison a n) := by
  unfold Dev.cleanPoison
  exact .ite (.of_same rfl rfl rfl) (.refl d)

theorem Port.Unheld.dropTag {p : Port} (h : p.Unheld) (tag : Nat) : (p.dropTag tag).Unheld := fun w hw => h w (List.mem_filter.1 hw).1

theorem Port.Unheld.mapTag {p : Port} (h : p.Unheld) (tag : Nat) {f : Txn → Txn} (hf : ∀ t, (f t).holder = t.holder) :
    (p.mapTag tag f).Unheld := by
  intro w hw
  obtain ⟨t, ht, rfl⟩ := List.mem_map.1 hw
  split
  · rw [hf, h t ht]
  · exact h t ht

/-- What a task's transaction leaves as its ring goes down, apart from its buffer. -/
theorem State.unreach_images (n : Nat) (t : Txn) (s : State) : ImagesKept s.dev (s.unreach n t).dev := by
  unfold State.unreach
  split
  · exact .refl _
  · refine .trans (.trans (.setPort s.dev n fun p hp => ?_) (.takeFree _)) (.cleanPoison _ _ _)
    split
    · exact hp.dropTag _
    · exact hp.mapTag _ fun _ => rfl

theorem State.unreach_unheld {t : Txn} (h : t.holder = 0) (n : Nat) (s : State) : s.unreach n t = s := if_pos (.inl h)

theorem SwitchKept.endTxns {n : Nat} (hn : n < 48) (s : State) : SwitchKept s (s.endTxns n) := by
  unfold State.endTxns
  extract_lets own d e
  have left : ImagesKept s.dev d := .fold _ _ _ fun t f => .setIdentity f hn _ _
  have landed : ImagesKept d e := .setPort d n fun p hp w hw => hp w (List.mem_filter.1 hw).1
  refine (SwitchKept.dev (left.trans landed)).trans ⟨?_, fun hu => ?_⟩
  · exact foldOver_keeps (fun t : State => ImagesKept e t.dev) _ _ _ (fun t u h => h.trans (State.unreach_images n t u)) (.refl e)
  · exact List.foldlRecOn (motive := fun t : State => t.mem = s.mem) _ _ rfl fun u h t ht =>
      (congrArg State.mem (State.unreach_unheld (hu n t ht) n u)).trans h

theorem SwitchKept.portDown {n : Nat} (hn : n < 48) (st : Nat) (s : State) : SwitchKept s (s.portDown n st) :=
  (SwitchKept.dev ((ImagesKept.setRing s.dev (by omega) st).trans (.ringEvent _ hn true))).trans (.endTxns hn _)

theorem SwitchKept.rediscover (old : Dev) {n : Nat} (hn : n < 48) (s : State) : SwitchKept s (s.rediscover old n) := by
  have begun : ImagesKept s.dev (if s.dev.authority then s.dev.discoverRing n else s.dev.setRing n 1) :=
    .ite (.discoverRing _ (by omega)) (.setRing _ (by omega) 1)
  exact .ite (.refl s) (.ite (.portDown hn 0 s) (.dev (begun.trans (.ringEvent _ hn _))))

end Sys2Proof.Machine
end

section
/-! What the loading of a topology and the acknowledgement of a program switch-over leave (03 R104, 04 R151, 19 R598). -/

namespace Sys2Proof.Machine
open Sys2Proof

/-- Images, Heartwood and ports are as before, and event 304 was not lost: its bit 16 of EVT.PEND9. -/
structure LoadKept (d e : Dev) : Prop where
  img : e.img = d.img
  hwd : e.hwd = d.hwd
  ports : e.ports = d.ports
  pend : d.eventPending 304 = true → e.eventPending 304 = true

namespace LoadKept

theorem refl (d : Dev) : LoadKept d d := ⟨rfl, rfl, rfl, id⟩

theorem trans {d e f : Dev} (h : LoadKept d e) (k : LoadKept e f) : LoadKept d f :=
  ⟨k.img.trans h.img, k.hwd.trans h.hwd, k.ports.trans h.ports, k.pend ∘ h.pend⟩

theorem ite {d e f : Dev} {p : Prop} [Decidable p] (h : LoadKept d e) (k : LoadKept d f) : LoadKept d (if p then e else f) := by
  split
  · exact h
  · exact k

theorem foldMem {α : Type} (l : List α) (f : α → Dev → Dev) (d : Dev) (h : ∀ a ∈ l, ∀ e, LoadKept e (f a e)) :
    LoadKept d (foldOver l f d) := List.foldlRecOn l _ (refl d) fun e he a ha => he.trans (h a ha e)

theorem fold {α : Type} (l : List α) (f : α → Dev → Dev) (d : Dev) (h : ∀ a e, LoadKept e (f a e)) : LoadKept d (foldOver l f d) :=
  foldMem l f d fun a _ => h a

theorem of_regs {d e : Dev} (hi : e.img = d.img) (hh : e.hwd = d.hwd) (hp : e.ports = d.ports) (hr : e.regs = d.regs) : LoadKept d e :=
  ⟨hi, hh, hp, fun h => by
    unfold Dev.eventPending at h ⊢
    rwa [Dev.rbit_congr (Dev.reg_congr hr _)]⟩

theorem setReg (d : Dev) {a : Nat} (v : Word) (h : A.evtPend 9 ≠ a) : LoadKept d (d.setReg a v) :=
  ⟨rfl, rfl, rfl, fun hd => (Dev.rbit_congr (Dev.reg_setReg_other d v h) 16).trans hd⟩

/-- Bit 0 of any register: a topology names counters' control registers by their addresses. -/
theorem setBit0 (d : Dev) (a : Nat) (b : Bool) : LoadKept d (d.setRbit a 0 b) := by
  by_cases h : A.evtPend 9 = a
  · refine ⟨rfl, rfl, rfl, fun hd => ?_⟩
    subst h
    change (d.setRbit (A.evtPend 9) 0 b).rbit (A.evtPend 9) 16 = true
    rw [Dev.rbit_setRbit d _ _ _ _ (by decide) (by decide)]
    exact hd
  · exact setReg d _ h

end LoadKept

theorem LoadKept.loadLsw (t : Topo) (d : Dev) : LoadKept d (d.loadLsw t) := by
  unfold Dev.loadLsw
  extract_lets m _ a b c
  have mapped : LoadKept d a := .of_regs rfl rfl rfl rfl
  have timed : LoadKept a b := .setReg a _ (by decide)
  have routed : LoadKept b c := .fold _ _ b fun k e => .setReg e _ (by unfold A.evtPend A.lswLhmap; omega)
  exact ((mapped.trans timed).trans routed).trans (.fold _ _ c fun n e => .setReg e _ (by unfold A.evtPend A.lswCfg; omega))

theorem LoadKept.settleTopo (old t : Topo) (d : Dev) : LoadKept d (d.settleTopo old t) := by
  have own : ∀ (e : Dev) (j n : Nat), LoadKept e (e.settleOwn j n) := fun e j n => .of_regs rfl rfl rfl rfl
  unfold Dev.settleTopo
  extract_lets a b c
  have hv : LoadKept d a := .fold _ _ d fun i e => .ite (own e _ _) (.refl e)
  have ntc : LoadKept a b := .fold _ _ a fun i e => .ite (own e _ _) (.refl e)
  have diode : LoadKept b c := .fold _ _ b fun i e => .ite (own e _ _) (.refl e)
  exact ((hv.trans ntc).trans diode).trans (.ite (.refl c) (.of_regs rfl rfl rfl rfl))

theorem LoadKept.loadCan (t : Topo) (c : Nat) (d : Dev) :
    LoadKept d (let d := (d.setReg (A.canNbt c) (t.canNbt.getD c 0)).setReg (A.canDbt c) (t.canDbt.getD c 0)
      ({ d with cans := FMap.set (fun _ => {}) d.cans c (t.cans.getD c {}) }).setRop c (t.canRop.getD c false)) := by
  have timed : LoadKept d ((d.setReg (A.canNbt c) (t.canNbt.getD c 0)).setReg (A.canDbt c) (t.canDbt.getD c 0)) :=
    (LoadKept.setReg d _ (by unfold A.evtPend A.canNbt; omega)).trans (.setReg _ _ (by unfold A.evtPend A.canDbt; omega))
  refine timed.trans (.trans ?_ (.setReg _ _ (by unfold A.evtPend A.canStat; omega)))
  exact .of_regs rfl rfl rfl rfl

/-- A topology loaded is the one in force (04 R151). -/
theorem LoadKept.loadTopo (t : Topo) (d : Dev) : LoadKept { d with img := { d.img with topo := some t } } (d.loadTopo t) := by
  unfold Dev.loadTopo
  extract_lets _ own a b c e f g h i
  have settled : LoadKept { d with img := { d.img with topo := some t } } a := by
    obtain ⟨himg, hhwd, hports, hpend⟩ := LoadKept.settleTopo d.topo t d
    exact ⟨rfl, hhwd, hports, hpend⟩
  have cleared : LoadKept a b := .fold _ _ a fun k u => .setReg u _ (by unfold A.evtPend A.evtRoute; omega)
  have routed : LoadKept b c := .fold _ _ b fun x u => .setReg u _ (by unfold A.evtPend A.evtRoute; omega)
  have counters : LoadKept c e := .fold _ _ c fun x u => .setBit0 u _ _
  have rings : LoadKept e f := .fold _ _ e fun n u => .setReg u _ (by unfold A.evtPend A.ringCfg; omega)
  have strings : LoadKept f g := .fold _ _ f fun k u => .setReg u _ (by unfold A.evtPend A.protStrz; omega)
  have zones : LoadKept g h := .setReg g _ (by decide)
  have cans : LoadKept h i := .fold _ _ h fun k u => .ite (.loadCan t k u) (.refl u)
  exact (((settled.trans cleared).trans (routed.trans counters)).trans ((rings.trans strings).trans (zones.trans cans))).trans (.loadLsw t i)

theorem LoadKept.imageUsed (k : Nat) (d : Dev) : LoadKept d (d.imageUsed k) := .of_regs rfl rfl rfl rfl

/-- Miss and fault state under a new program set (03 R104). -/
theorem LoadKept.clearTasks (d : Dev) : LoadKept d (foldOver (List.range 128) Dev.clearTask d) :=
  .foldMem _ _ d fun n hn e => by
    have hn := List.mem_range.1 hn
    refine .trans (.trans (.setReg e _ ?_) (.setReg _ _ ?_)) (.setReg _ _ ?_)
    · have := A.sysTstat_lt hn
      unfold A.evtPend
      omega
    · have := A.sysTstat_lt hn
      unfold A.evtPend
      omega
    · have := A.sysTmiss_lt hn
      unfold A.evtPend
      omega

/-- The integrator's acknowledgement reaches no register of EVT (19 R598). -/
theorem LoadKept.clearSticky (d : Dev) : LoadKept d d.clearSticky :=
  .fold _ _ d fun a e => by
    split
    · exact .refl e
    case isFalse h => exact .setReg e _ fun ha => h (ha ▸ by decide)

end Sys2Proof.Machine
end

section
/-! The switch-overs (03 R104, 07 R243, 08 R281, 13 R447). -/

namespace Sys2Proof.Machine
open Sys2Proof

/-! The commands with and without a waiting image. -/

theorem exec_programSwitchover {s : State} {g : Prog} {h : List Nat} {due : Nat} (hp : s.dev.img.pendProg = some (g, h, due)) :
    exec .programSwitchover s = .next (if s.dev.switchNow 2 = false then s else
      { s.promote 0x54424E01 with dev := (s.dev.switchProg g h).cleanPoison g.dest g.data.length,
                                  mem := writeBytes g.dest (toBytes g.data) (s.promote 0x54424E01).mem }) := by
  change execProgramSwitchover s = _
  unfold execProgramSwitchover
  rw [hp]
  rfl

theorem exec_envelopeSwitchover {s : State} {x : List (List EnvRec)} {v : Nat} {h : List Nat} {due : Nat} (hp : s.dev.img.pendEnv = some (x, v, h, due)) :
    exec .envelopeSwitchover s = .next (if s.dev.switchNow 0 then (s.promote 0x4C304501).onDev (Dev.switchEnv x v h) else s) := by
  change execEnvelopeSwitchover s = _
  unfold execEnvelopeSwitchover
  rw [hp]

theorem exec_chemistrySwitchover {s : State} {x : List Chem} {v : Nat} {h : List Nat} {due : Nat} (hp : s.dev.img.pendChem = some (x, v, h, due)) :
    exec .chemistrySwitchover s = .next (if s.dev.switchNow 1 then (s.promote 0x43484501).onDev (Dev.switchChem x v h) else s) := by
  change execChemistrySwitchover s = _
  unfold execChemistrySwitchover
  rw [hp]

theorem exec_topologySwitchover {s : State} {x : Topo} {h : List Nat} {due : Nat} (hp : s.dev.img.pendTopo = some (x, h, due)) :
    exec .topologySwitchover s = .next (if s.dev.switchNow 3 then (s.promote 0x544F5001).switchTopo x h else s) := by
  change execTopologySwitchover s = _
  unfold execTopologySwitchover
  rw [hp]

/-- Without a waiting image nothing happens. -/
theorem switchover_nothing_pending (s : State) :
    (s.dev.img.pendProg = none → exec .programSwitchover s = .next s) ∧ (s.dev.img.pendEnv = none → exec .envelopeSwitchover s = .next s) ∧
    (s.dev.img.pendChem = none → exec .chemistrySwitchover s = .next s) ∧ (s.dev.img.pendTopo = none → exec .topologySwitchover s = .next s) := by
  refine ⟨fun h => ?_, fun h => ?_, fun h => ?_, fun h => ?_⟩
  · change execProgramSwitchover s = _
    unfold execProgramSwitchover
    rw [h]
  · change execEnvelopeSwitchover s = _
    unfold execEnvelopeSwitchover
    rw [h]
  · change execChemistrySwitchover s = _
    unfold execChemistrySwitchover
    rw [h]
  · change execTopologySwitchover s = _
    unfold execTopologySwitchover
    rw [h]

/-- A topology takes effect in STANDBY with open contactors only (13 R447). -/
theorem Dev.switchNow_topo {d : Dev} (h : d.mayTopo = false) : d.switchNow 3 = false := by
  unfold Dev.switchNow Dev.imageDue
  simp [h]

/-! Where each kind is in force (log entry 62). -/

theorem Dev.imgArea_program (d : Dev) : d.imgArea 0x54424E01 = (0x20210000 + 0x20000, 0x20000) := by simp [Dev.imgArea]

theorem Dev.imgArea_envelope (d : Dev) : d.imgArea 0x4C304501 = (0x201C0000 + 0x2000, 0x2000) := by simp [Dev.imgArea]

theorem Dev.imgArea_chemistry (d : Dev) : d.imgArea 0x43484501 = (0x201D4000 + 0x1E000, 0x1E000) := by simp [Dev.imgArea]

theorem Dev.imgArea_topology (d : Dev) : d.imgArea 0x544F5001 = (0x201A0000 + 0x10000, 0x10000) := by simp [Dev.imgArea]

/-! The program set. -/

theorem Dev.switchProg_inForce (g : Prog) (h : List Nat) (d : Dev) :
    (d.switchProg g h).img.prog = some g ∧ (d.switchProg g h).img.pendProg = none ∧ (d.switchProg g h).hwd.progh = h ∧
      (d.switchProg g h).eventPending 381 = true := by
  unfold Dev.switchProg
  extract_lets _ _ _ e
  have cleared : LoadKept e (((foldOver (List.range 128) Dev.clearTask e).clearSticky).imageUsed 2) :=
    ((LoadKept.clearTasks e).trans (.clearSticky _)).trans (.imageUsed 2 _)
  generalize ((foldOver (List.range 128) Dev.clearTask e).clearSticky).imageUsed 2 = f at cleared
  have raised := ImagesKept.raise f (e := 381) (by decide) 0
  have ended := ImagesKept.afterSwitch (f.raise 381 0)
  have himg := ended.img.trans (raised.img.trans cleared.img)
  refine ⟨congrArg ImgSt.prog himg, congrArg ImgSt.pendProg himg, ?_, ended.pend.eventPending (by decide) (Dev.raise_pending f (by decide) 0)⟩
  exact ended.progh.trans (raised.progh.trans (congrArg HwdSt.progh cleared.hwd))

/-- A program set that takes effect. -/
theorem programSwitchover_now {s : State} {g : Prog} {h : List Nat} {due : Nat} (hp : s.dev.img.pendProg = some (g, h, due))
    (hnow : s.dev.switchNow 2 = true) :
    ∃ t, exec .programSwitchover s = .next t ∧ t.dev.img.prog = some g ∧ t.dev.img.pendProg = none ∧ t.dev.hwd.progh = h ∧
      t.dev.eventPending 381 = true ∧ t.pending = s.pending ∧
      (s.wf = true → ∀ k, (k < 0x20210000 ∨ 0x20230000 ≤ k) → (k < g.dest ∨ g.dest + g.data.length ≤ k) → t.byte k = s.byte k) := by
  obtain ⟨hprog, hpend, hhash, hevent⟩ := s.dev.switchProg_inForce g h
  have cleaned := ImagesKept.cleanPoison g.dest g.data.length (s.dev.switchProg g h)
  refine ⟨{ s.promote 0x54424E01 with dev := (s.dev.switchProg g h).cleanPoison g.dest g.data.length,
                                      mem := writeBytes g.dest (toBytes g.data) (s.promote 0x54424E01).mem },
    by rw [exec_programSwitchover hp, if_neg (by simp [hnow])], ?_, ?_, ?_, cleaned.pend.eventPending (by decide) hevent, rfl,
    fun hs k harea hdata => ?_⟩
  · exact (congrArg ImgSt.prog cleaned.img).trans hprog
  · exact (congrArg ImgSt.pendProg cleaned.img).trans hpend
  · exact cleaned.progh.trans hhash
  · have hlen : (toBytes g.data).length = g.data.length := List.length_map _
    exact (get_writeBytes_other _ _ (by rwa [hlen])).trans (State.promote_bytesKept s.dev.imgArea_program hs k harea)

/-! Envelope and chemistry. -/

theorem Dev.switchEnv_inForce (x : List (List EnvRec)) (v : Nat) (h : List Nat) (d : Dev) :
    (d.switchEnv x v h).prot.env = x ∧ (d.switchEnv x v h).prot.envVer = v ∧ (d.switchEnv x v h).img.pendEnv = none ∧
      (d.switchEnv x v h).hwd.envh = h ∧ (d.switchEnv x v h).rbit A.protStat 30 = true := by
  have ended := fun e : Dev => ImagesKept.afterSwitch (e.imageUsed 0)
  unfold Dev.switchEnv
  refine ⟨(ended _).env, (ended _).envVer, congrArg ImgSt.pendEnv (ended _).img, (ended _).envh, (ended _).envOk.trans ?_⟩
  exact (Dev.rbit_setRbit _ _ _ _ _ (by decide) (by decide)).trans (if_pos rfl)

theorem envelopeSwitchover_now {s : State} {x : List (List EnvRec)} {v : Nat} {h : List Nat} {due : Nat}
    (hp : s.dev.img.pendEnv = some (x, v, h, due)) (hnow : s.dev.switchNow 0 = true) :
    ∃ t, exec .envelopeSwitchover s = .next t ∧ t.dev.prot.env = x ∧ t.dev.prot.envVer = v ∧ t.dev.img.pendEnv = none ∧
      t.dev.hwd.envh = h ∧ t.dev.rbit A.protStat 30 = true ∧ t.pending = s.pending ∧ (s.wf = true → BytesKept 0x201C0000 0x2000 s t) := by
  obtain ⟨henv, hver, hpend, hhash, hok⟩ := s.dev.switchEnv_inForce x v h
  refine ⟨(s.promote 0x4C304501).onDev (Dev.switchEnv x v h), by rw [exec_envelopeSwitchover hp, if_pos hnow], henv, hver, hpend, hhash, hok, rfl, fun hs => ?_⟩
  exact State.promote_bytesKept s.dev.imgArea_envelope hs

theorem Dev.switchChem_inForce (x : List Chem) (v : Nat) (h : List Nat) (d : Dev) :
    (d.switchChem x v h).cnpy.chem = x ∧ (d.switchChem x v h).reg A.cnpyChem = BitVec.ofNat 32 v ∧ (d.switchChem x v h).img.pendChem = none ∧
      (d.switchChem x v h).hwd.chemh = h := by
  have ended := fun e : Dev => ImagesKept.afterSwitch (e.imageUsed 1)
  unfold Dev.switchChem
  refine ⟨(ended _).chem, (ended _).chemReg.trans ?_, congrArg ImgSt.pendChem (ended _).img, (ended _).chemh⟩
  exact (Dev.reg_setFld_other _ _ _ _ (by decide)).trans (Dev.reg_setReg _ _ _)

theorem chemistrySwitchover_now {s : State} {x : List Chem} {v : Nat} {h : List Nat} {due : Nat}
    (hp : s.dev.img.pendChem = some (x, v, h, due)) (hnow : s.dev.switchNow 1 = true) :
    ∃ t, exec .chemistrySwitchover s = .next t ∧ t.dev.cnpy.chem = x ∧ t.dev.reg A.cnpyChem = BitVec.ofNat 32 v ∧
      t.dev.img.pendChem = none ∧ t.dev.hwd.chemh = h ∧ t.pending = s.pending ∧ (s.wf = true → BytesKept 0x201D4000 0x1E000 s t) := by
  obtain ⟨hchem, hver, hpend, hhash⟩ := s.dev.switchChem_inForce x v h
  refine ⟨(s.promote 0x43484501).onDev (Dev.switchChem x v h), by rw [exec_chemistrySwitchover hp, if_pos hnow], hchem, hver, hpend, hhash, rfl, fun hs => ?_⟩
  exact State.promote_bytesKept s.dev.imgArea_chemistry hs

/-! The topology. -/

/-- The partner's acceptance is no image of this device. -/
theorem ImagesKept.imageUsed (k : Nat) (d : Dev) : ImagesKept d (d.imageUsed k) := .of_same rfl rfl rfl

/-- A topology that is loaded becomes the one in force. -/
def Dev.takeTopo (x : Topo) (h : List Nat) (d : Dev) : Dev :=
  { d with img := { d.img with pendTopo := none, bootTopo := some x }.settle 3 h, hwd := { d.hwd with toph := h } }

theorem Dev.takeTopo_topo (x : Topo) (h : List Nat) (d : Dev) : (d.takeTopo x h).img.topo = d.img.topo := rfl

theorem Dev.takeTopo_pendTopo (x : Topo) (h : List Nat) (d : Dev) : (d.takeTopo x h).img.pendTopo = none := rfl

theorem Dev.takeTopo_toph (x : Topo) (h : List Nat) (d : Dev) : (d.takeTopo x h).hwd.toph = h := rfl

theorem Dev.takeTopo_port (x : Topo) (h : List Nat) (d : Dev) (n : Nat) : (d.takeTopo x h).port n = d.port n := rfl

theorem State.switchTopo_eq (x : Topo) (h : List Nat) (s : State) :
    s.switchTopo x h = (foldOver (List.range 48) (State.rediscover s.dev) { s with dev := (s.dev.loadTopo x).takeTopo x h }).onDev
      (fun d => (d.lhSync.imageUsed 3).afterSwitch) := rfl

/-- The rings follow the topology, and the switch-over ends. -/
theorem SwitchKept.followTopo (old : Dev) (s : State) :
    SwitchKept s ((foldOver (List.range 48) (State.rediscover old) s).onDev (fun d => (d.lhSync.imageUsed 3).afterSwitch)) := by
  have rings : SwitchKept s (foldOver (List.range 48) (State.rediscover old) s) :=
    .foldMem _ _ _ fun n hn t => .rediscover old (List.mem_range.1 hn) t
  exact rings.trans (.dev (((ImagesKept.lhSync _).trans (.imageUsed 3 _)).trans (.afterSwitch _)))

theorem State.switchTopo_inForce (x : Topo) (h : List Nat) (s : State) :
    (s.switchTopo x h).dev.img.topo = some x ∧ (s.switchTopo x h).dev.img.pendTopo = none ∧ (s.switchTopo x h).dev.hwd.toph = h ∧
      ((∀ n, (s.dev.port n).Unheld) → (s.switchTopo x h).mem = s.mem) := by
  have loaded := LoadKept.loadTopo x s.dev
  have followed := SwitchKept.followTopo s.dev { s with dev := (s.dev.loadTopo x).takeTopo x h }
  rw [← State.switchTopo_eq] at followed
  generalize s.switchTopo x h = t at followed
  generalize s.dev.loadTopo x = e at loaded followed
  have himg := followed.images.img
  refine ⟨?_, ?_, followed.images.toph.trans (Dev.takeTopo_toph x h e), fun hu => followed.mem fun n => ?_⟩
  · rw [himg, Dev.takeTopo_topo, loaded.img]
  · rw [himg, Dev.takeTopo_pendTopo]
  · have hport : e.port n = s.dev.port n := by
      unfold Dev.port
      rw [loaded.ports]
    rw [Dev.takeTopo_port, hport]
    exact hu n

theorem topologySwitchover_now {s : State} {x : Topo} {h : List Nat} {due : Nat} (hp : s.dev.img.pendTopo = some (x, h, due))
    (hnow : s.dev.switchNow 3 = true) :
    ∃ t, exec .topologySwitchover s = .next t ∧ t.dev.img.topo = some x ∧ t.dev.img.pendTopo = none ∧ t.dev.hwd.toph = h ∧
      t.pending = s.pending ∧ (s.wf = true → (∀ n w, w ∈ (s.dev.port n).txns → w.holder = 0) → BytesKept 0x201A0000 0x10000 s t) := by
  obtain ⟨htopo, hpend, hhash, hmem⟩ := (s.promote 0x544F5001).switchTopo_inForce x h
  refine ⟨(s.promote 0x544F5001).switchTopo x h, by rw [exec_topologySwitchover hp, if_pos hnow], htopo, hpend, hhash,
    (State.switchTopo_kept x h _).1, fun hs hu k hk => ?_⟩
  exact (congrArg (fun m => FMap.get memReset m k) (hmem hu)).trans
    (State.promote_bytesKept s.dev.imgArea_topology hs k hk)

end Sys2Proof.Machine
end

section
/-! Heartwood's boot (13 R441, R448-R449). -/

namespace Sys2Proof.Machine
open Sys2Proof

/-- Heartwood without the hashes of the images in force either. -/
def HwdSt.booted (h : HwdSt) : HwdSt := { h.lasting with envh := [], chemh := [], progh := [], toph := [] }

/-- Heartwood is as before but for its sessions and the hashes of images, and event 304 was not lost. -/
structure BootKept (d e : Dev) : Prop where
  booted : e.hwd.booted = d.hwd.booted
  pend : d.eventPending 304 = true → e.eventPending 304 = true

namespace BootKept

theorem kr {d e : Dev} (h : BootKept d e) : e.hwd.kr = d.hwd.kr := (congrArg HwdSt.kr h.booted :)

theorem fw {d e : Dev} (h : BootKept d e) : e.hwd.fw = d.hwd.fw := (congrArg HwdSt.fw h.booted :)

theorem boots {d e : Dev} (h : BootKept d e) : e.hwd.boots = d.hwd.boots := (congrArg HwdSt.boots h.booted :)

theorem refl (d : Dev) : BootKept d d := ⟨rfl, id⟩

theorem trans {d e f : Dev} (h : BootKept d e) (k : BootKept e f) : BootKept d f := ⟨k.booted.trans h.booted, k.pend ∘ h.pend⟩

theorem ite {d e f : Dev} {p : Prop} [Decidable p] (h : BootKept d e) (k : BootKept d f) : BootKept d (if p then e else f) := by
  split
  · exact h
  · exact k

theorem of_regs {d e : Dev} (h : e.hwd.booted = d.hwd.booted) (hr : e.regs = d.regs) : BootKept d e :=
  ⟨h, (PendKept.of_regs hr).eventPending (by decide)⟩

theorem of_images {d e : Dev} (h : ImagesKept d e) : BootKept d e :=
  ⟨congrArg (fun x : HwdSt => { x with envh := [], chemh := [], progh := [], toph := [] }) h.lasting, h.pend.eventPending (by decide)⟩

theorem of_load {d e : Dev} (h : LoadKept d e) : BootKept d e := ⟨congrArg HwdSt.booted h.hwd, h.pend⟩

theorem setReg (d : Dev) {a : Nat} (v : Word) (h : A.evtPend 9 ≠ a) : BootKept d (d.setReg a v) := of_load (.setReg d v h)

/-! Images that fail their recheck (13 R444, 03 R101). -/

theorem rejectImage (k v : Nat) (d : Dev) : BootKept d (d.rejectImage k v).1 := by
  have hk : imgEvent k < 384 := by
    unfold imgEvent
    split_ifs <;> decide
  exact of_images (((ImagesKept.raiseNoLog d hk).trans (.logRec _ _ _ _ _)).trans (.takeFree _))

theorem rejectProg (f : VerFail) (d : Dev) : BootKept d (d.rejectProg f).1 :=
  of_images ((ImagesKept.raiseNoLog d (by decide)).trans (.logRec _ _ _ _ _))

end BootKept

/-- The images of MRAM are rechecked and loaded (13 R444, R448). -/
theorem BootKept.loadImages (d : Dev) : BootKept d d.loadImages := by
  have dropped : BootKept d d.dropPending := .of_regs rfl rfl
  unfold Dev.loadImages
  extract_lets a i bad _ _ b _ _ c _ e
  have env : BootKept a b := by
    unfold b
    split
    · exact .refl a
    · refine .ite (.trans ?_ (.setReg _ _ (by decide))) (.rejectImage _ _ a)
      exact .of_regs rfl rfl
  have chem : BootKept b c := by
    unfold c
    split
    · exact .refl b
    · refine .ite (.trans (.trans (.trans ?_ (.setReg _ _ (by decide))) (.setReg _ _ (by decide))) (.setReg _ _ (by decide))) (.rejectImage _ _ b)
      exact .of_regs rfl rfl
  have topo : BootKept c e := by
    unfold e
    split
    · exact .refl c
    · refine .ite (.trans ?_ (.of_load (.loadTopo _ _))) (.rejectImage _ _ c)
      exact .of_regs rfl rfl
  refine ((dropped.trans env).trans (chem.trans topo)).trans ?_
  split
  · exact .refl e
  · refine .ite (.ite ?_ (.rejectProg _ e)) (.rejectProg _ e)
    split
    · exact .rejectProg _ e
    · refine .trans ?_ (.of_load (.clearTasks _))
      exact .of_regs rfl rfl

/-! Heartwood's start. -/

/-- KR and KS are formed, and SELFOK shows the test of the ROM (13 R441, R464). -/
structure HeartwoodStarted (ok : Bool) (kpuf : Option Nat) (d e : Dev) : Prop where
  kr : e.hwd.kr = kpuf.map (fun k => Config.hkdf384 [Config.dus, k] "FN-ROOT")
  ks : kpuf = none → e.hwd.ks = none
  boots : e.hwd.boots = d.hwd.boots
  fw : e.hwd.fw = d.hwd.fw
  img : e.img = d.img
  selfOk : e.rbit A.hwdStat 29 = ok
  floor : e.fld A.hwdStat 15 8 = d.fld A.hwdStat 15 8
  failed : ok = false → e.eventPending 311 = true

theorem Dev.heartwoodStart_started (ok : Bool) (kpuf : Option Nat) (d : Dev) : HeartwoodStarted ok kpuf d (d.heartwoodStart ok kpuf) := by
  unfold Dev.heartwoodStart
  extract_lets kr _ e
  have kept := ImagesKept.raiseIf ((e.setRbit A.hwdStat 30 true).setRbit A.hwdStat 29 ok) (!ok) (e := 311) (by decide) 0
  refine ⟨kept.kr, fun hk => kept.ks.trans ?_, kept.boots, kept.fw, kept.img, (Dev.rbit_congr kept.hwdStat 29).trans ?_,
    (Dev.fld_congr kept.hwdStat 15 8).trans ?_, fun hok => ?_⟩
  · subst hk
    rfl
  · rw [Dev.rbit_setRbit _ _ _ _ _ (by decide) (by decide), if_pos rfl]
  · rw [Dev.fld_setRbit_apart _ _ _ (by decide) (by decide) (by decide), Dev.fld_setRbit_apart _ _ _ (by decide) (by decide) (by decide)]
    rfl
  · subst hok
    exact Dev.raise_pending _ (by decide) 0

theorem HeartwoodStarted.bootSlot {ok : Bool} {kpuf : Option Nat} {d e : Dev} (h : HeartwoodStarted ok kpuf d e) (a b : Bool) :
    e.bootSlot a b = d.bootSlot a b := by
  unfold Dev.bootSlot HwdSt.fwOf
  rw [h.fw, h.floor]

/-- Recovery is entered, which counts as a boot (13 R448). -/
theorem Dev.recover_kept (d : Dev) :
    ImagesKept { d with hwd := { d.hwd with recovery := true, boots := d.hwd.boots + 1 } } d.recover ∧ d.recover.eventPending 304 = true := by
  unfold Dev.recover
  extract_lets _ e
  exact ⟨((ImagesKept.holdsOff e).trans (.restoreLatches _)).trans (.raise _ (by decide) 0), Dev.raise_pending _ (by decide) 0⟩

/-- The boot of a firmware slot (13 R448). -/
theorem Dev.bootFrom_kept (k : Nat) (d : Dev) :
    (d.bootFrom k).hwd.booted =
      { d.hwd with fwh := (d.hwd.fwOf k).hash, boots := d.hwd.boots + 1, recovery := false }.booted ∧ (d.bootFrom k).eventPending 304 = true := by
  unfold Dev.bootFrom
  extract_lets f _ a b c
  have shown : BootKept a b := ((BootKept.setReg a _ (by decide)).trans (.setReg _ _ (by decide))).trans (.setReg _ _ (by decide))
  have raised : BootKept b c := .of_images (.raise b (by decide) 0)
  have started : BootKept c c.loadImages.lhSync.restoreLatches.formBdig :=
    (BootKept.loadImages c).trans (.of_images (((ImagesKept.lhSync _).trans (.restoreLatches _)).trans (.formBdig _)))
  exact ⟨((shown.trans raised).trans started).booted, started.pend (Dev.raise_pending b (by decide) 0)⟩

/-! Images that waited at the reset (log entry 138). -/

theorem BootKept.bootSettle (k : Nat) (d : Dev) : BootKept d (d.bootSettle k) := by
  unfold Dev.bootSettle
  refine .ite ?_ (.ite ?_ (.ite ?_ ?_))
  all_goals
    split
    · exact .refl d
    · exact .of_regs rfl rfl

theorem State.bootPending_boot (s : State) : BootKept s.dev s.bootPending.dev := by
  refine foldOver_keeps (fun t : State => BootKept s.dev t.dev) _ _ s (fun k t ht => ?_) (.refl _)
  split
  · exact ht.trans (.bootSettle k t.dev)
  · exact ht

theorem State.bootPending_idle {s : State} (h : ∀ j, j < 4 → s.dev.img.waits j = false) : s.bootPending = s := by
  have idle : ∀ k ∈ [0, 1, 3, 2], s.dev.img.waits k = false := fun k hk => h k (by revert k; decide)
  unfold State.bootPending
  exact List.foldlRecOn (motive := fun t : State => t = s) _ _ rfl fun t ht k hk => by
    subst ht
    exact if_neg (by simp [idle k hk])

/-! The three ends of HEARTWOOD_BOOT. -/

theorem exec_heartwoodBoot_noKey (ok a b : Bool) (s : State) :
    exec (.heartwoodBoot ok none a b) s = .next ((s.onDev (Dev.heartwoodStart ok none)).onDev Dev.recover) := rfl

theorem exec_heartwoodBoot_noSlot {ok a b : Bool} (p : Nat) {s : State} (h : s.dev.bootSlot a b = none) :
    exec (.heartwoodBoot ok (some p) a b) s = .next ((s.onDev (Dev.heartwoodStart ok (some p))).onDev Dev.recover) := by
  have hslot := ((s.dev.heartwoodStart_started ok (some p)).bootSlot a b).trans h
  change execHeartwoodBoot ok (some p) a b s = _
  unfold execHeartwoodBoot
  dsimp only [State.onDev_dev]
  rw [hslot]
  rfl

/-- The device started on a slot; the data of a program that loaded is in memory. -/
theorem exec_heartwoodBoot_slot {ok a b : Bool} (p : Nat) {k : Nat} {s u : State} (h : s.dev.bootSlot a b = some k)
    (hu : (s.onDev (Dev.heartwoodStart ok (some p))).bootPending.onDev (Dev.bootFrom k) = u) :
    ∃ m, exec (.heartwoodBoot ok (some p) a b) s = .next { u with mem := m } ∧ (u.dev.img.prog = none → m = u.mem) := by
  have hslot := ((s.dev.heartwoodStart_started ok (some p)).bootSlot a b).trans h
  have hexec : exec (.heartwoodBoot ok (some p) a b) s = .next (match u.dev.img.prog with
      | none => u
      | some g => { u with mem := writeBytes g.dest (toBytes g.data) u.mem }) := by
    subst hu
    change execHeartwoodBoot ok (some p) a b s = _
    unfold execHeartwoodBoot
    dsimp only [State.onDev_dev]
    rw [hslot]
    rfl
  rw [hexec]
  cases hp : u.dev.img.prog with
  | none => exact ⟨u.mem, rfl, fun _ => rfl⟩
  | some g => exact ⟨_, rfl, fun hn => by cases hn⟩

theorem heartwoodBoot_noKey (ok a b : Bool) (s : State) :
    ∃ t, exec (.heartwoodBoot ok none a b) s = .next t ∧ t.dev.hwd.recovery = true ∧ t.dev.hwd.kr = none ∧ t.dev.hwd.ks = none ∧
      t.dev.hwdOk = false ∧ t.dev.hwd.boots = s.dev.hwd.boots + 1 ∧ t.dev.eventPending 304 = true ∧ DevOnly s t := by
  have started := s.dev.heartwoodStart_started ok none
  obtain ⟨kept, hevent⟩ := (s.dev.heartwoodStart ok none).recover_kept
  have hks := kept.ks.trans (started.ks rfl)
  refine ⟨_, exec_heartwoodBoot_noKey ok a b s, kept.recovery, kept.kr.trans started.kr, hks, ?_, ?_, hevent, ⟨rfl, rfl⟩⟩
  · unfold Dev.hwdOk
    simp only [State.onDev_dev]
    rw [hks]
    simp
  · exact kept.boots.trans (congrArg (· + 1) started.boots)

theorem heartwoodBoot_noSlot {ok a b : Bool} {p : Nat} {s : State} (h : s.dev.bootSlot a b = none) :
    ∃ t, exec (.heartwoodBoot ok (some p) a b) s = .next t ∧ t.dev.hwd.recovery = true ∧ t.dev.hwd.boots = s.dev.hwd.boots + 1 ∧
      t.dev.rbit A.hwdStat 29 = ok ∧ t.dev.eventPending 304 = true ∧ (ok = false → t.dev.eventPending 311 = true) ∧ DevOnly s t := by
  have started := s.dev.heartwoodStart_started ok (some p)
  obtain ⟨kept, hevent⟩ := (s.dev.heartwoodStart ok (some p)).recover_kept
  refine ⟨_, exec_heartwoodBoot_noSlot p h, kept.recovery, kept.boots.trans (congrArg (· + 1) started.boots),
    (Dev.rbit_congr kept.hwdStat 29).trans started.selfOk, hevent, fun hok => ?_, ⟨rfl, rfl⟩⟩
  exact kept.pend.eventPending (by decide) (started.failed hok)

theorem heartwoodBoot_slot {ok a b : Bool} {p k : Nat} {s : State} (h : s.dev.bootSlot a b = some k) :
    ∃ t, exec (.heartwoodBoot ok (some p) a b) s = .next t ∧ t.dev.hwd.recovery = false ∧ t.dev.hwd.boots = s.dev.hwd.boots + 1 ∧
      t.dev.hwd.kr = some (Config.hkdf384 [Config.dus, p] "FN-ROOT") ∧ t.dev.hwd.fwh = (s.dev.hwd.fwOf k).hash ∧
      t.dev.eventPending 304 = true ∧ t.pending = s.pending ∧
      ((∀ j, j < 4 → s.dev.img.waits j = false) → t.dev.img.prog = none → t.mem = s.mem) := by
  have started := s.dev.heartwoodStart_started ok (some p)
  generalize hv : s.onDev (Dev.heartwoodStart ok (some p)) = v
  have hvdev : v.dev = s.dev.heartwoodStart ok (some p) := by rw [← hv, State.onDev_dev]
  rw [← hvdev] at started
  have settled := v.bootPending_boot
  obtain ⟨hbooted, hevent⟩ := v.bootPending.dev.bootFrom_kept k
  have hpending : v.bootPending.pending = s.pending := by rw [v.bootPending_kept.1, ← hv, State.onDev_pending]
  have hidle : (∀ j, j < 4 → s.dev.img.waits j = false) → v.bootPending.mem = s.mem := fun hw => by
    rw [State.bootPending_idle (started.img ▸ hw), ← hv, State.onDev_mem]
  have hfw : v.bootPending.dev.hwd.fwOf k = s.dev.hwd.fwOf k := by
    unfold HwdSt.fwOf
    rw [settled.fw, started.fw]
  generalize hw : v.bootPending = w at settled hbooted hevent hpending hidle hfw
  generalize hu : w.onDev (Dev.bootFrom k) = u
  have hudev : u.dev = w.dev.bootFrom k := by rw [← hu, State.onDev_dev]
  have hupending : u.pending = w.pending := by rw [← hu, State.onDev_pending]
  have humem : u.mem = w.mem := by rw [← hu, State.onDev_mem]
  rw [← hudev] at hbooted hevent
  obtain ⟨m, hexec, hmem⟩ := exec_heartwoodBoot_slot (ok := ok) p h (by rw [hv, hw, hu])
  refine ⟨_, hexec, (congrArg HwdSt.recovery hbooted :), ?_, ?_, ?_, hevent, hupending.trans hpending,
    fun hwaits hprog => (hmem hprog).trans (humem.trans (hidle hwaits))⟩
  · exact (congrArg HwdSt.boots hbooted :).trans (congrArg (· + 1) (settled.boots.trans started.boots))
  · exact (congrArg HwdSt.kr hbooted :).trans (settled.kr.trans started.kr)
  · exact (congrArg HwdSt.fwh hbooted :).trans (congrArg Fw.hash hfw)

/-- Settles O57: each switch-over and each end of the boot by its own lemma. -/
theorem imageSwitches : Obligations.ImageSwitches := by
  intro s
  obtain ⟨hprog, henv, hchem, htopo⟩ := switchover_nothing_pending s
  refine ⟨hprog, henv, hchem, htopo, fun g h due hp => ⟨fun hno => ?_, programSwitchover_now hp⟩,
    fun x v h due hp => ⟨fun hno => ?_, envelopeSwitchover_now hp⟩, fun x v h due hp => ⟨fun hno => ?_, chemistrySwitchover_now hp⟩,
    fun x h due hp => ?_, fun ok a b => heartwoodBoot_noKey ok a b s, fun ok p a b => heartwoodBoot_noSlot, fun ok p a b k => heartwoodBoot_slot⟩
  · rw [exec_programSwitchover hp, if_pos hno]
  · rw [exec_envelopeSwitchover hp, if_neg (by simp [hno])]
  · rw [exec_chemistrySwitchover hp, if_neg (by simp [hno])]
  · have idle : s.dev.switchNow 3 = false → exec .topologySwitchover s = .next s := fun hno => by
      rw [exec_topologySwitchover hp, if_neg (by simp [hno])]
    exact ⟨idle, fun hno => idle (Dev.switchNow_topo hno), topologySwitchover_now hp⟩

end Sys2Proof.Machine
end

section
/-! What one hop of a ring does with the frame in flight, and what the hops of a frame do in order (04 R123, R132-R133, R147). -/

namespace Sys2Proof.Machine
open Sys2Proof

/-! Of a port, a hop changes its own module and its own record. -/

/-- Only modules, records and the head, which is now `hd`, changed. -/
def HopPort (hd : Head) (p q : Port) : Prop := q = { p with mods := q.mods, records := q.records, head := hd }

theorem HopPort.refl (p : Port) : HopPort p.head p p := rfl

theorem HopPort.trans {hd hd' : Head} {p q r : Port} (h : HopPort hd p q) (k : HopPort hd' q r) : HopPort hd' p r := by
  unfold HopPort at *
  rw [k, h]

/-- A hop's module and its record. -/
def Port.hop (p : Port) (h : Nat) : Module × Rec := (p.mod h, p.record h)

/-- The frame in flight reaches hop `h` of a ring of `l` with a correct header. -/
def Port.getsFrame (l h : Nat) (p : Port) : Bool := decide (wireHop p.frame.dirB l h ≤ p.reach) && !p.hdrBad.contains h

theorem HopPort.getsFrame {hd : Head} {p q : Port} (hq : HopPort hd p q) (l h : Nat) : q.getsFrame l h = p.getsFrame l h := by
  rw [hq]
  rfl

theorem HopPort.payBad {hd : Head} {p q : Port} (hq : HopPort hd p q) : q.payBad = p.payBad := by rw [hq]

theorem HopPort.flying {hd : Head} {p q : Port} (hq : HopPort hd p q) : q.flying = p.flying := by
  rw [hq]
  rfl

/-- The record of an answer at hop `h`. -/
def Reply.record (h : Nat) (a : Reply) : Rec := { res := a.2.1, data := a.2.2, hop := h }

/-- The module after an answer: one that is OK may be kept for a repeat. -/
def Reply.held (now h : Nat) (replay : Bool) (t : Option Txn) (a : Reply) : Module :=
  (if a.2.1 = 0 then a.1.keep replay t (Reply.record h a) else a.1).note now

section
variable (now l : Nat) (replay : Bool) (f : Nat → Module → Reply) (h : Nat)

theorem Port.runMod_deaf {p : Port} (hg : p.getsFrame l h = false) : p.runMod now l replay f h = p := by
  unfold Port.runMod
  refine if_pos ?_
  simpa [Port.getsFrame, Bool.and_eq_false_iff, -Bool.and_eq_false_imp] using hg

theorem Port.runMod_heard {p : Port} (hg : p.getsFrame l h = true) :
    ¬(p.reach < wireHop p.frame.dirB l h ∨ p.hdrBad.contains h = true) := by
  simpa [Port.getsFrame] using hg

/-- A payload with a wrong CRC is counted and answered BADCRC. -/
theorem Port.runMod_badPayload {p : Port} (hg : p.getsFrame l h = true) (hb : p.payBad.contains h = true) :
    p.runMod now l replay f h =
      { p.setMod h (fun _ => { (p.mod h).settle now with errPay := min (((p.mod h).settle now).errPay + 1) 0xFFFF }) with
        records := FMap.set (fun _ => {}) p.records h { res := 5, hop := h } } := by
  unfold Port.runMod
  exact (if_neg (Port.runMod_heard l h hg)).trans (if_pos hb)

/-- A stored record is repeated, and the module does nothing. -/
theorem Port.runMod_replayed {p : Port} {r : Rec} (hg : p.getsFrame l h = true) (hb : p.payBad.contains h = false)
    (hs : ((p.mod h).settle now).stored replay p.flying = some r) :
    p.runMod now l replay f h = { p with records := FMap.set (fun _ => {}) p.records h { r with replay := true } } := by
  unfold Port.runMod
  extract_lets m t
  rw [if_neg (Port.runMod_heard l h hg), if_neg (by rw [hb]; decide), hs]

/-- A hop that executes the command leaves its answer. -/
theorem Port.runMod_executed {p : Port} (hg : p.getsFrame l h = true) (hb : p.payBad.contains h = false)
    (hs : ((p.mod h).settle now).stored replay p.flying = none) :
    p.runMod now l replay f h =
      { p.setMod h (fun _ => Reply.held now h replay p.flying (f h ((p.mod h).settle now))) with
        records := FMap.set (fun _ => {}) p.records h (Reply.record h (f h ((p.mod h).settle now))) } := by
  unfold Port.runMod
  extract_lets m t
  rw [if_neg (Port.runMod_heard l h hg), if_neg (by rw [hb]; decide), hs]
  rfl

/-- The cases of `Port.runMod`, by what the hop hears and holds. -/
theorem Port.hop_cases (p : Port) :
    p.getsFrame l h = false ∨ (p.getsFrame l h = true ∧ p.payBad.contains h = true) ∨
      (p.getsFrame l h = true ∧ p.payBad.contains h = false ∧ ∃ r, ((p.mod h).settle now).stored replay p.flying = some r) ∨
      (p.getsFrame l h = true ∧ p.payBad.contains h = false ∧ ((p.mod h).settle now).stored replay p.flying = none) := by
  cases p.getsFrame l h <;> cases p.payBad.contains h <;> cases ((p.mod h).settle now).stored replay p.flying <;> simp

/-- A hop leaves the others, and of the port all but modules and records. -/
theorem Port.runMod_kept (p : Port) :
    HopPort p.head p (p.runMod now l replay f h) ∧ ∀ k, k ≠ h → (p.runMod now l replay f h).hop k = p.hop k := by
  have written : ∀ (m : Module → Module) (r : Rec) k, k ≠ h →
      ({ p.setMod h m with records := FMap.set (fun _ => {}) p.records h r } : Port).hop k = p.hop k := fun m r k hk =>
    Prod.ext (FMap.get_set_other _ _ _ hk) (FMap.get_set_other _ _ _ hk)
  obtain hg | ⟨hg, hb⟩ | ⟨hg, hb, r, hs⟩ | ⟨hg, hb, hs⟩ := Port.hop_cases now l replay h p
  · rw [Port.runMod_deaf now l replay f h hg]
    exact ⟨rfl, fun _ _ => rfl⟩
  · rw [Port.runMod_badPayload now l replay f h hg hb]
    exact ⟨rfl, written _ _⟩
  · rw [Port.runMod_replayed now l replay f h hg hb hs]
    exact ⟨rfl, fun k hk => Prod.ext rfl (FMap.get_set_other _ _ _ hk)⟩
  · rw [Port.runMod_executed now l replay f h hg hb hs]
    exact ⟨rfl, written _ _⟩

/-- What a hop leaves at itself. -/
theorem Port.hop_written (p : Port) (m : Module) (r : Rec) :
    ({ p.setMod h (fun _ => m) with records := FMap.set (fun _ => {}) p.records h r } : Port).hop h = (m, r) :=
  Prod.ext (FMap.get_set_same _ _ _ _) (FMap.get_set_same _ _ _ _)

/-- What a hop leaves at itself follows from the frame and from what it held. -/
theorem HopPort.runMod_hop {hd : Head} {p q : Port} (hq : HopPort hd p q) (hh : q.hop h = p.hop h) :
    (q.runMod now l replay f h).hop h = (p.runMod now l replay f h).hop h := by
  have hm : q.mod h = p.mod h := congrArg Prod.fst hh
  have hg' := hq.getsFrame l h
  have hb' := congrArg (fun x : List Nat => x.contains h) hq.payBad
  have hs' : ((q.mod h).settle now).stored replay q.flying = ((p.mod h).settle now).stored replay p.flying := by rw [hm, hq.flying]
  obtain hg | ⟨hg, hb⟩ | ⟨hg, hb, r, hs⟩ | ⟨hg, hb, hs⟩ := Port.hop_cases now l replay h p
  · rw [Port.runMod_deaf now l replay f h hg, Port.runMod_deaf now l replay f h (hg'.trans hg)]
    exact hh
  · rw [Port.runMod_badPayload now l replay f h hg hb, Port.runMod_badPayload now l replay f h (hg'.trans hg) (hb'.trans hb), hm]
    rw [Port.hop_written, Port.hop_written]
  · rw [Port.runMod_replayed now l replay f h hg hb hs, Port.runMod_replayed now l replay f h (hg'.trans hg) (hb'.trans hb) (hs'.trans hs)]
    exact Prod.ext hm ((FMap.get_set_same _ _ _ _).trans (FMap.get_set_same _ _ _ _).symm)
  · rw [Port.runMod_executed now l replay f h hg hb hs, Port.runMod_executed now l replay f h (hg'.trans hg) (hb'.trans hb) (hs'.trans hs),
      hm, hq.flying]
    rw [Port.hop_written, Port.hop_written]

end

/-! The hops of a frame. -/

/-- Hops leave every other hop, and of the port all but modules and records. -/
theorem Port.runMods_kept (now l : Nat) (replay : Bool) (f : Nat → Module → Reply) (hops : List Nat) (p : Port) :
    HopPort p.head p (foldOver hops (Port.runMod now l replay f) p) ∧
      ∀ k, k ∉ hops → (foldOver hops (Port.runMod now l replay f) p).hop k = p.hop k := by
  induction hops generalizing p with
  | nil => exact ⟨rfl, fun _ _ => rfl⟩
  | cons h rest ih =>
    obtain ⟨hone, hkone⟩ := Port.runMod_kept now l replay f h p
    obtain ⟨hrest, hkrest⟩ := ih (p.runMod now l replay f h)
    have hhead : (p.runMod now l replay f h).head = p.head := by rw [hone]
    rw [foldOver_cons]
    refine ⟨hhead ▸ hone.trans hrest, fun k hk => ?_⟩
    obtain ⟨hne, hmem⟩ := not_or.1 (mt List.mem_cons.2 hk)
    exact (hkrest k hmem).trans (hkone k hne)

/-- Each hop of a frame does its part once. -/
theorem Port.runMods_hop (now l : Nat) (replay : Bool) (f : Nat → Module → Reply) {hops : List Nat} {h : Nat} (hnodup : hops.Nodup)
    (hmem : h ∈ hops) (p : Port) :
    (foldOver hops (Port.runMod now l replay f) p).hop h = (p.runMod now l replay f h).hop h := by
  induction hops generalizing p with
  | nil => cases hmem
  | cons k rest ih =>
    obtain ⟨hk, hrest⟩ := List.nodup_cons.1 hnodup
    rw [foldOver_cons]
    obtain rfl | hin := List.mem_cons.1 hmem
    · exact (Port.runMods_kept now l replay f rest _).2 h hk
    · obtain ⟨hport, hothers⟩ := Port.runMod_kept now l replay f k p
      have hne : h ≠ k := fun e => hk (e ▸ hin)
      exact (ih hrest hin _).trans (hport.runMod_hop now l replay f h (hothers h hne))

/-! The hops of a span. -/

theorem mem_span {a n k : Nat} : k ∈ span a n ↔ a ≤ k ∧ k < a + n := by
  simp only [span, List.mem_map, List.mem_range]
  exact ⟨fun ⟨i, hi, hk⟩ => by omega, fun ⟨ha, hk⟩ => ⟨k - a, by omega, by omega⟩⟩

theorem span_nodup (a n : Nat) : (span a n).Nodup := List.nodup_range.map fun _ _ h => Nat.add_left_cancel h

theorem mem_hopRange {a b k : Nat} : k ∈ hopRange a b ↔ a ≤ k ∧ k ≤ b := by
  unfold hopRange
  rw [mem_span]
  omega

theorem hopRange_nodup (a b : Nat) : (hopRange a b).Nodup := span_nodup _ _

theorem hopRange_self (h : Nat) : hopRange h h = [h] := by
  unfold hopRange
  rw [Nat.add_sub_cancel_left]
  rfl

end Sys2Proof.Machine
end

section
/-! A frame's hops on the device: what a port's command leaves of everything else, and what the addressed hop then holds and answers
(04 R123, R132-R133, R147). -/

namespace Sys2Proof.Machine
open Sys2Proof

/-! The rest of the device. -/

/-- Plant, cell data and clock are as before. -/
structure LinkKept (d e : Dev) : Prop where
  plant : PlantKept d e
  acq : e.acq = d.acq
  time : e.time = d.time

namespace LinkKept

theorem refl (d : Dev) : LinkKept d d := ⟨.refl d, rfl, rfl⟩

theorem trans {d e f : Dev} (h : LinkKept d e) (k : LinkKept e f) : LinkKept d f :=
  ⟨h.plant.trans k.plant, k.acq.trans h.acq, k.time.trans h.time⟩

theorem setReg (d : Dev) (a : Nat) (v : Word) : LinkKept d (d.setReg a v) := ⟨.refl d, rfl, rfl⟩

theorem raise (d : Dev) (e i : Nat) : LinkKept d (d.raise e i) := by
  have h := d.sameBut_raise e i
  exact ⟨.of_sameBut h, by rw [h], by rw [h]⟩

theorem moorSend (d : Dev) (m : Mooring) : LinkKept d (d.moorSend m) :=
  ⟨.moorSend d m, d.moorSend_acq m, d.moorSend_time m⟩

theorem ports {d e : Dev} (h : LinkKept d e) : e.ports = d.ports := by
  obtain ⟨-, -, -, -, hports⟩ := h.plant
  exact hports

theorem port {d e : Dev} (h : LinkKept d e) (n : Nat) : e.port n = d.port n := by
  unfold Dev.port
  rw [h.ports]

end LinkKept

/-- A change of port `n`, and then of registers, events and messages to the partner. -/
theorem OnlyPort.portOnly {n : Nat} {s : State} {e f : Dev} (h : OnlyPort n s.dev e) (k : LinkKept e f) :
    PortOnly n s { s with dev := f } := by
  obtain ⟨he, hports⟩ := h
  have hport := k.port
  obtain ⟨⟨h0, h1, hp, hi, -⟩, ha, ht⟩ := k
  rw [he] at h0 h1 hp hi ha ht
  refine ⟨⟨rfl, rfl⟩, fun m hm => ?_, ?_, fun _ => ha, ht, h0, h1, hp, hi⟩
  · exact (hport m).trans (hports m hm)
  · simp only [ha]

/-- Of the device only port `n` changed, of the port only modules, records and the head, which is now `hd`, and of the modules only those
at hops `a..b`. -/
structure HopsRun (n a b : Nat) (hd : Head) (d e : Dev) : Prop where
  only : OnlyPort n d e
  port : HopPort hd (d.port n) (e.port n)
  mods : ∀ k, k < a ∨ b < k → (e.port n).mod k = (d.port n).mod k

namespace HopsRun

theorem refl (n a b : Nat) (d : Dev) : HopsRun n a b (d.port n).head d d := ⟨.refl n d, .refl _, fun _ _ => rfl⟩

theorem trans {n a b : Nat} {hd hd' : Head} {d e f : Dev} (h : HopsRun n a b hd d e) (k : HopsRun n a b hd' e f) : HopsRun n a b hd' d f :=
  ⟨h.only.trans k.only, h.port.trans k.port, fun i hi => (k.mods i hi).trans (h.mods i hi)⟩

/-- A change of the head. -/
theorem setHead (n a b : Nat) (g : Head → Head) (d : Dev) :
    HopsRun n a b (g (d.port n).head) d (d.setPort n fun p => { p with head := g p.head }) := by
  refine ⟨.setPort n d _, ?_, fun k _ => ?_⟩
  · rw [Dev.port_setPort]
    rfl
  · rw [Dev.port_setPort]
    rfl

/-- A change of one module. -/
theorem setMod {n a b h : Nat} (ha : a ≤ h) (hb : h ≤ b) (g : Module → Module) (d : Dev) :
    HopsRun n a b (d.port n).head d (d.setPort n (Port.setMod h g)) := by
  refine ⟨.setPort n d _, ?_, fun k hk => ?_⟩
  · rw [Dev.port_setPort]
    rfl
  · rw [Dev.port_setPort, Port.mod_setMod, if_neg (by omega)]

/-- The hops of a frame. -/
theorem runMods {n a b : Nat} {hops : List Nat} (hin : ∀ k ∈ hops, a ≤ k ∧ k ≤ b) (replay : Bool) (f : Nat → Module → Reply) (d : Dev) :
    HopsRun n a b (d.port n).head d (d.runMods n replay hops f) := by
  obtain ⟨hport, hmods⟩ := Port.runMods_kept d.time.now (d.ringL n) replay f hops (d.port n)
  unfold Dev.runMods
  refine ⟨.setPort n d _, ?_, fun k hk => ?_⟩
  · rw [Dev.port_setPort]
    exact hport
  · rw [Dev.port_setPort]
    exact congrArg Prod.fst (hmods k fun hmem => absurd (hin k hmem) (by omega))

theorem hopsOnly {n a b : Nat} {hd : Head} {s : State} {e f : Dev} (h : HopsRun n a b hd s.dev e) (k : LinkKept e f) :
    HopsOnly n a b hd s { s with dev := f } := by
  refine ⟨h.only.portOnly k, ?_, fun i hi => ?_⟩
  · dsimp only
    rw [k.port n]
    exact h.port
  · dsimp only
    rw [k.port n]
    exact h.mods i hi

theorem head {n a b : Nat} {hd : Head} {d e : Dev} (h : HopsRun n a b hd d e) : (e.port n).head = hd := by rw [h.port]

theorem regs {n a b : Nat} {hd : Head} {d e : Dev} (h : HopsRun n a b hd d e) : e.regs = d.regs := by rw [h.only.1]

theorem time {n a b : Nat} {hd : Head} {d e : Dev} (h : HopsRun n a b hd d e) : e.time = d.time := by rw [h.only.1]

theorem reg {n a b : Nat} {hd : Head} {d e : Dev} (h : HopsRun n a b hd d e) (k : Nat) : e.reg k = d.reg k := Dev.reg_congr h.regs k

end HopsRun

/-! The addressed hop. -/

theorem Dev.getsFrame_port (d : Dev) (n h : Nat) : d.getsFrame n h = (d.port n).getsFrame (d.ringL n) h := rfl

theorem Dev.executes_iff {d : Dev} {n h : Nat} :
    d.executes n h = true ↔ (d.port n).getsFrame (d.ringL n) h = true ∧ (d.port n).payBad.contains h = false := by
  unfold Dev.executes
  rw [Dev.getsFrame_port, Bool.and_eq_true, Bool.not_eq_true']

theorem Dev.runMods_hop {n h : Nat} {hops : List Nat} (hnodup : hops.Nodup) (hmem : h ∈ hops) (replay : Bool) (f : Nat → Module → Reply)
    (d : Dev) :
    ((d.runMods n replay hops f).port n).hop h = ((d.port n).runMod d.time.now (d.ringL n) replay f h).hop h := by
  unfold Dev.runMods
  rw [Dev.port_setPort]
  exact Port.runMods_hop _ _ _ _ hnodup hmem _

section
variable {d : Dev} {n h : Nat} {hops : List Nat} (hnodup : hops.Nodup) (hmem : h ∈ hops) {replay : Bool} {f : Nat → Module → Reply}
include hnodup hmem

/-- A hop that executes the command holds and answers what `f` gives. -/
theorem Dev.runMods_executed (hx : d.executes n h = true) (hs : (d.modNow n h).stored replay (d.port n).flying = none) :
    ((d.runMods n replay hops f).port n).mod h = Reply.held d.time.now h replay (d.port n).flying (f h (d.modNow n h)) ∧
      ((d.runMods n replay hops f).port n).record h = Reply.record h (f h (d.modNow n h)) := by
  obtain ⟨hg, hb⟩ := Dev.executes_iff.1 hx
  have hrun := Dev.runMods_hop (n := n) hnodup hmem replay f d
  rw [Port.runMod_executed _ _ _ _ _ hg hb hs, Port.hop_written] at hrun
  exact Prod.mk.inj hrun

/-- A hop that holds a record of the command repeats it. -/
theorem Dev.runMods_replayed {r : Rec} (hx : d.executes n h = true) (hs : (d.modNow n h).stored replay (d.port n).flying = some r) :
    ((d.runMods n replay hops f).port n).mod h = (d.port n).mod h ∧
      ((d.runMods n replay hops f).port n).record h = { r with replay := true } := by
  obtain ⟨hg, hb⟩ := Dev.executes_iff.1 hx
  have hrun := Dev.runMods_hop (n := n) hnodup hmem replay f d
  rw [Port.runMod_replayed _ _ _ _ _ hg hb hs] at hrun
  obtain ⟨hm, hr⟩ := Prod.mk.inj hrun
  exact ⟨hm, hr.trans (FMap.get_set_same _ _ _ _)⟩

/-- A hop that the frame does not reach, or with a wrong header CRC, does nothing. -/
theorem Dev.runMods_deaf (hg : d.getsFrame n h = false) : ((d.runMods n replay hops f).port n).mod h = (d.port n).mod h := by
  have hrun := Dev.runMods_hop (n := n) hnodup hmem replay f d
  rw [Port.runMod_deaf _ _ _ _ _ hg] at hrun
  exact (Prod.mk.inj hrun).1

/-- A hop that the frame reaches with a wrong payload CRC counts it and answers BADCRC. -/
theorem Dev.runMods_badPayload (hx : d.executes n h = false) (hg : d.getsFrame n h = true) :
    ((d.runMods n replay hops f).port n).mod h = { d.modNow n h with errPay := min ((d.modNow n h).errPay + 1) 0xFFFF } ∧
      ((d.runMods n replay hops f).port n).record h = { res := 5, hop := h } := by
  have hb : (d.port n).payBad.contains h = true := by
    unfold Dev.executes at hx
    rw [hg] at hx
    simpa using hx
  have hrun := Dev.runMods_hop (n := n) hnodup hmem replay f d
  rw [Port.runMod_badPayload _ _ _ _ _ hg hb, Port.hop_written] at hrun
  exact Prod.mk.inj hrun

end

/-! What a module notes after its answer: samples of a burst capture (09 R318). -/

/-- `x` has what a module's burst samples depend on from `m`: its capture, its switches and its test. -/
structure Module.SamplesAs (x m : Module) : Prop where
  burst : x.burst = m.burst
  hides : x.hides = m.hides
  status : x.status = m.status
  test : x.test = m.test

theorem Module.SamplesAs.refl (m : Module) : m.SamplesAs m := ⟨rfl, rfl, rfl, rfl⟩

theorem Module.SamplesAs.hidden {x m : Module} (h : x.SamplesAs m) (now c : Nat) : x.hidden now c = m.hidden now c := by
  unfold Module.hidden
  rw [h.status, h.test]

/-- `x` has noted at `now` whether its samples show. -/
def Module.Noted (now : Nat) (m : Module) : Prop := m.note now = m

/-- A recording module has noted when its last note is the present. -/
theorem Module.noted_iff {now : Nat} {m : Module} :
    m.Noted now ↔ ∀ c, m.burst = some c → m.hidden now c.1 = (m.hides.head?.map (·.2)).getD false := by
  unfold Module.Noted Module.note
  cases hb : m.burst with
  | none => simp
  | some c =>
    dsimp only
    split
    case isTrue hsame => simpa using hsame
    case isFalse hnew =>
      refine ⟨fun h => ?_, fun h => absurd (h c rfl) hnew⟩
      have hlen := congrArg (fun z : Module => z.hides.length) h
      simp at hlen

theorem Module.note_noted (now : Nat) (m : Module) : (m.note now).Noted now := by
  unfold Module.note
  cases hb : m.burst with
  | none =>
    refine Module.noted_iff.2 fun c hc => ?_
    rw [hb] at hc
    cases hc
  | some c =>
    dsimp only
    split
    case isTrue hsame =>
      refine Module.noted_iff.2 fun c' hc => ?_
      obtain rfl : c = c' := Option.some.inj (hb.symm.trans hc)
      exact hsame
    case isFalse =>
      refine Module.noted_iff.2 fun c' hc => ?_
      obtain rfl : c = c' := Option.some.inj hc
      rfl

theorem Module.SamplesAs.noted {now : Nat} {x m : Module} (h : x.SamplesAs m) (hm : m.Noted now) : x.Noted now := by
  refine Module.noted_iff.2 fun c hc => ?_
  rw [h.hidden, h.hides]
  exact Module.noted_iff.1 hm c (h.burst ▸ hc)

/-- A module that went on to `now` has noted. -/
theorem Dev.modNow_noted (d : Dev) (n h : Nat) : (d.modNow n h).Noted d.time.now := Module.note_noted _ _

/-- A note changes the notes alone. -/
theorem Module.note_eq (now : Nat) (m : Module) : m.note now = { m with hides := (m.note now).hides } := by
  unfold Module.note
  split
  · rfl
  · dsimp only
    split <;> rfl

/-- A kept record changes the stored records alone. -/
theorem Module.keep_eq (m : Module) (replay : Bool) (t : Option Txn) (r : Rec) :
    m.keep replay t r = { m with replay := (m.keep replay t r).replay } := by
  unfold Module.keep
  split
  · rfl
  · split <;> rfl

theorem Reply.held_eq (now h : Nat) (replay : Bool) (t : Option Txn) (a : Reply) :
    ∃ notes recs, Reply.held now h replay t a = { a.1 with hides := notes, replay := recs } := by
  unfold Reply.held
  rw [Module.note_eq]
  split
  · rw [Module.keep_eq]
    exact ⟨_, _, rfl⟩
  · exact ⟨_, _, rfl⟩

/-- Only a command of the replay class has stored records. -/
theorem Module.stored_plain (m : Module) (t : Option Txn) : m.stored false t = none := by
  unfold Module.stored
  split
  · rfl
  · rfl

theorem Module.keep_plain (m : Module) (t : Option Txn) (r : Rec) : m.keep false t r = m := by
  unfold Module.keep
  split
  · rfl
  · rfl

theorem Reply.held_plain (now h : Nat) (t : Option Txn) (a : Reply) : Reply.held now h false t a = a.1.note now := by
  unfold Reply.held
  rw [Module.keep_plain, ite_self]

theorem Reply.held_refused (now h : Nat) (replay : Bool) (t : Option Txn) {a : Reply} (ha : a.2.1 ≠ 0) :
    Reply.held now h replay t a = a.1.note now := by
  unfold Reply.held
  rw [if_neg ha]

/-! Commands without a stored record. -/

section
variable {d : Dev} {n h : Nat} {hops : List Nat} (hnodup : hops.Nodup) (hmem : h ∈ hops) {f : Nat → Module → Reply}
include hnodup hmem

theorem Dev.runMods_plain (hx : d.executes n h = true) :
    ((d.runMods n false hops f).port n).mod h = (f h (d.modNow n h)).1.note d.time.now ∧
      ((d.runMods n false hops f).port n).record h = Reply.record h (f h (d.modNow n h)) := by
  rw [← Reply.held_plain]
  exact Dev.runMods_executed hnodup hmem hx (Module.stored_plain _ _)

/-- A hop whose answer leaves what its burst samples depend on holds and answers just that. -/
theorem Dev.runMods_answered (hx : d.executes n h = true) {x : Module} {res : Nat} {data : List Nat}
    (hf : f h (d.modNow n h) = (x, res, data)) (hsame : x.SamplesAs (d.modNow n h)) :
    ((d.runMods n false hops f).port n).mod h = x ∧
      ((d.runMods n false hops f).port n).record h = { res := res, hop := h, data := data } := by
  obtain ⟨hm, hr⟩ := Dev.runMods_plain (f := f) hnodup hmem hx
  rw [hf] at hm hr
  exact ⟨hm.trans (hsame.noted (d.modNow_noted n h)), hr⟩

end

/-- A fitted port carries out its command. -/
theorem exec_ringCmd {i : Instr} {n : Nat} {g : Dev → Dev} {s : State} (hn : n < s.dev.rings) (h : exec i s = ringCmd n g s) :
    exec i s = .next { s with dev := g s.dev } := h.trans (present_next _ (decide_eq_true hn))

end Sys2Proof.Machine
end

section
/-! String head commands (04 R149-R150, 10 R359). -/

namespace Sys2Proof.Machine
open Sys2Proof

/-! What time and a command do to the head's coils. -/

theorem Head.drop_lastSeq (now : Nat) (h : Head) : (h.drop now).lastSeq = h.lastSeq := by
  unfold Head.drop
  extract_lets g
  have hg : g.lastSeq = h.lastSeq := by
    unfold g
    split <;> rfl
  split
  · exact hg
  · split
    · exact hg
    · exact hg

theorem Head.expire_lastSeq (now : Nat) (h : Head) : (h.expire now).lastSeq = h.lastSeq := by
  unfold Head.expire
  dsimp only
  split
  · exact Head.drop_lastSeq now h
  · exact Head.drop_lastSeq now h

/-- The head's coils, positive, negative and pre-charge, and when the negative one falls. -/
def Head.coils (h : Head) : Bool × Bool × Bool × Option Nat := (h.coilP, h.coilN, h.coilPre, h.negOff)

/-- The head takes no close command: KAEXP is set, or no keep-alive has come since an expiry (04 R150). -/
def Head.shut (now : Nat) (h : Head) : Bool := h.kaexp || (h.kaWait && !h.hears now)

section
variable (now : Nat) (h : Head)

/-- The restart of the keep-alive timer leaves the coils. -/
theorem Head.coils_act (cmd : Nat) :
    (h.act now cmd).coils =
      if cmd = 1 then (h.coilP, true, h.coilPre, none)
      else if cmd = 2 then (h.coilP, h.coilN, true, h.negOff)
      else if cmd = 3 then (true, h.coilN, h.coilPre, h.negOff)
      else if cmd = 4 then (h.coilP, h.coilN, false, h.negOff)
      else if cmd = 8 then (false, h.coilN, false, if h.coilN then some (now + 20000000) else none)
      else if cmd = 9 then (false, false, false, none) else h.coils := by
  have switched : ∀ g : Head, (if g.armed && !h.armed then { g with karem := g.kato, kaT := now, kaWait := false } else g).coils = g.coils :=
    fun g => by
      split
      · rfl
      · rfl
  unfold Head.act
  rw [switched]
  split_ifs <;> rfl

/-- A command that every head takes. -/
theorem Head.judge_open {cmd : Nat} (hc : cmd = 0 ∨ cmd = 4 ∨ cmd = 8 ∨ cmd = 9) : h.judge now cmd = 0 := if_pos hc

theorem Head.judge_negClose : h.judge now 1 = if h.shut now = false then 0 else 4 := by
  change (if h.shut now = true then 4 else 0) = _
  cases h.shut now <;> rfl

theorem Head.judge_preClose : h.judge now 2 = if h.shut now = false ∧ h.conN = true then 0 else 4 := by
  change (if h.shut now = true ∨ h.conN = false then 4 else 0) = _
  cases h.shut now <;> cases h.conN <;> rfl

theorem Head.judge_posClose : h.judge now 3 = if h.shut now = false ∧ h.conN = true ∧ h.conPre = true then 0 else 4 := by
  change (if h.shut now = true ∨ h.conN = false ∨ h.conPre = false then 4 else 0) = _
  cases h.shut now <;> cases h.conN <;> cases h.conPre <;> rfl

/-- The head after a command that it takes or refuses. -/
def Head.taken (cmd : Nat) : Head := if h.judge now cmd = 0 then h.act now cmd else h

/-- What a command does to the coils, and under which condition the head takes it. -/
theorem Head.coils_taken {cmd : Nat} {ok : Prop} [Decidable ok] (hj : h.judge now cmd = if ok then 0 else 4) :
    (h.taken now cmd).coils = if ok then (h.act now cmd).coils else h.coils := by
  unfold Head.taken
  rw [hj]
  split
  · rfl
  · rfl

theorem Head.coils_taken_open {cmd : Nat} (hc : cmd = 0 ∨ cmd = 4 ∨ cmd = 8 ∨ cmd = 9) : (h.taken now cmd).coils = (h.act now cmd).coils :=
  (Head.coils_taken now h (ok := True) (Head.judge_open now h hc)).trans (if_pos trivial)

theorem Head.coils_negClose : ∃ off, (h.taken now 1).coils = (h.coilP, h.coilN || !h.shut now, h.coilPre, off) := by
  rw [Head.coils_taken now h (Head.judge_negClose now h), Head.coils_act]
  cases h.shut now
  · exact ⟨none, by simp⟩
  · exact ⟨h.negOff, by simp [Head.coils]⟩

theorem Head.coils_preClose : ∃ off, (h.taken now 2).coils = (h.coilP, h.coilN, h.coilPre || (!h.shut now && h.conN), off) := by
  rw [Head.coils_taken now h (Head.judge_preClose now h), Head.coils_act]
  refine ⟨h.negOff, ?_⟩
  cases h.shut now <;> cases h.conN <;> simp [Head.coils]

theorem Head.coils_posClose :
    ∃ off, (h.taken now 3).coils = (h.coilP || (!h.shut now && h.conN && h.conPre), h.coilN, h.coilPre, off) := by
  rw [Head.coils_taken now h (Head.judge_posClose now h), Head.coils_act]
  refine ⟨h.negOff, ?_⟩
  cases h.shut now <;> cases h.conN <;> cases h.conPre <;> simp [Head.coils]

end

/-! The head's answer. -/

/-- What a head that had gone on to `g` by `now` holds as `h` after a command with a new SEQ, and its record. -/
structure HeadTook (now cmd q : Nat) (g h : Head) (r : Rec) : Prop where
  seq : h.lastSeq = some q
  coils : h.coils = (g.taken now cmd).coils
  record : r = { res := g.judge now cmd, hop := 1, data := h.block now }

theorem Head.command_new {now cmd q : Nat} {h : Head} (hq : h.lastSeq ≠ some q) :
    HeadTook now cmd q (h.expire now) (h.command now cmd q).1 (h.command now cmd q).2 := by
  unfold Head.command
  extract_lets g res a r
  rw [if_neg (by rwa [Head.expire_lastSeq])]
  exact ⟨rfl, rfl, rfl⟩

theorem Head.command_repeated {now cmd q : Nat} {h : Head} (hq : h.lastSeq = some q) :
    h.command now cmd q = (h.expire now, { (h.expire now).stored with replay := true }) := by
  unfold Head.command
  exact if_pos ((Head.expire_lastSeq now h).trans hq)

/-! The command on the device. -/

/-- The head of port `n` is now `x.1`, and its record `x.2`. -/
def Dev.headAnswered (n : Nat) (x : Head × Rec) (d : Dev) : Dev :=
  d.setPort n (fun p => { p with head := x.1, records := FMap.set (fun _ => {}) p.records 1 x.2 })

theorem Dev.headAnswered_hopsRun (n : Nat) (x : Head × Rec) (d : Dev) : HopsRun n 1 0 x.1 d (d.headAnswered n x) := by
  refine ⟨.setPort n d _, ?_, fun k _ => ?_⟩
  · unfold Dev.headAnswered
    rw [Dev.port_setPort]
    rfl
  · unfold Dev.headAnswered
    rw [Dev.port_setPort]
    rfl

theorem Dev.headAnswered_record (n : Nat) (x : Head × Rec) (d : Dev) : ((d.headAnswered n x).port n).record 1 = x.2 := by
  unfold Dev.headAnswered
  rw [Dev.port_setPort]
  exact FMap.get_set_same _ _ _ _

section
variable {n : Nat} {s : State} (hn : n < s.dev.rings)
include hn

/-- A frame that reaches the head intact. -/
theorem headCmdAt_heard (hdeaf : (s.dev.port n).headDeaf (s.dev.ringL n) = false) (cmd q : Nat) :
    headCmdAt n cmd q s = .next { s with dev := s.dev.headAnswered n ((s.dev.port n).head.command s.dev.time.now cmd q) } := by
  unfold headCmdAt ringCmd
  rw [present_next _ (decide_eq_true hn)]
  exact congrArg (fun e => Host.Outcome.next { s with dev := e }) (if_neg (Bool.eq_false_iff.1 hdeaf))

theorem headCmdAt_new (hdeaf : (s.dev.port n).headDeaf (s.dev.ringL n) = false) {q : Nat} (hq : (s.dev.port n).head.lastSeq ≠ some q)
    (cmd : Nat) :
    ∃ t, headCmdAt n cmd q s = .next t ∧ HopsOnly n 1 0 (t.dev.port n).head s t ∧ t.dev.regs = s.dev.regs ∧
      HeadTook s.dev.time.now cmd q ((s.dev.port n).head.expire s.dev.time.now) (t.dev.port n).head ((t.dev.port n).record 1) := by
  have hrun := s.dev.headAnswered_hopsRun n ((s.dev.port n).head.command s.dev.time.now cmd q)
  have htook := Head.command_new (now := s.dev.time.now) (cmd := cmd) hq
  refine ⟨_, headCmdAt_heard hn hdeaf cmd q, ?_, hrun.regs, ?_⟩
  · dsimp only
    rw [hrun.head]
    exact hrun.hopsOnly (.refl _)
  · dsimp only
    rw [hrun.head, Dev.headAnswered_record]
    exact htook

theorem headCmdAt_repeated (hdeaf : (s.dev.port n).headDeaf (s.dev.ringL n) = false) {q : Nat}
    (hq : (s.dev.port n).head.lastSeq = some q) (cmd : Nat) :
    ∃ t, headCmdAt n cmd q s = .next t ∧ HopsOnly n 1 0 ((s.dev.port n).head.expire s.dev.time.now) s t ∧ t.dev.regs = s.dev.regs ∧
      (t.dev.port n).record 1 = { ((s.dev.port n).head.expire s.dev.time.now).stored with replay := true } := by
  have hexec := headCmdAt_heard hn hdeaf cmd q
  rw [Head.command_repeated hq] at hexec
  have hrun := s.dev.headAnswered_hopsRun n
    ((s.dev.port n).head.expire s.dev.time.now, { ((s.dev.port n).head.expire s.dev.time.now).stored with replay := true })
  exact ⟨_, hexec, hrun.hopsOnly (.refl _), hrun.regs, Dev.headAnswered_record _ _ _⟩

theorem headCmdAt_noHead (hx : s.dev.executes n 1 = true) (hhead : (s.dev.port n).isHead 1 = false) (cmd q : Nat) :
    ∃ t, headCmdAt n cmd q s = .next t ∧ HopsOnly n 1 1 (s.dev.port n).head s t ∧ t.dev.regs = s.dev.regs ∧
      (t.dev.port n).record 1 = { res := 1, hop := 1 } := by
  have hdeaf : (s.dev.port n).headDeaf (s.dev.ringL n) = true := by simp [Port.headDeaf, hhead]
  have hrun := HopsRun.runMods (n := n) (a := 1) (b := 1) (hops := [1]) (by simp) false (fun _ m => m.no 1) s.dev
  obtain ⟨-, hrec⟩ := Dev.runMods_answered (f := fun _ m => m.no 1) (List.nodup_singleton 1) (List.mem_singleton_self 1) hx rfl (.refl _)
  refine ⟨_, ?_, hrun.hopsOnly (.refl _), hrun.regs, hrec⟩
  unfold headCmdAt ringCmd
  rw [present_next _ (decide_eq_true hn)]
  exact congrArg (fun e => Host.Outcome.next { s with dev := e }) (if_pos hdeaf)

end

/-- Every head command is HDCMD with its code. -/
theorem exec_headCommand {i : Nat → Nat → Instr}
    (hi : i ∈ ([Instr.headNop, .headNegClose, .headPreClose, .headPosClose, .headPreOpen, .headOpen, .headOpenAll] : List (Nat → Nat → Instr))) :
    ∃ cmd, ∀ n q s, exec (i n q) s = headCmdAt n cmd q s := by
  simp only [List.mem_cons, List.not_mem_nil, or_false] at hi
  obtain rfl | rfl | rfl | rfl | rfl | rfl | rfl := hi
  · exact ⟨0, fun _ _ _ => rfl⟩
  · exact ⟨1, fun _ _ _ => rfl⟩
  · exact ⟨2, fun _ _ _ => rfl⟩
  · exact ⟨3, fun _ _ _ => rfl⟩
  · exact ⟨4, fun _ _ _ => rfl⟩
  · exact ⟨8, fun _ _ _ => rfl⟩
  · exact ⟨9, fun _ _ _ => rfl⟩

/-- The coils of a head that took a command, one by one. -/
theorem HeadTook.each {now cmd q : Nat} {g h : Head} {r : Rec} (t : HeadTook now cmd q g h r) {p n pre : Bool} {off : Option Nat}
    (hc : (g.taken now cmd).coils = (p, n, pre, off)) : h.coilP = p ∧ h.coilN = n ∧ h.coilPre = pre ∧ h.negOff = off := by
  obtain ⟨hp, hn, hpre, hoff⟩ : h.coilP = p ∧ (h.coilN, h.coilPre, h.negOff).1 = n ∧ h.coilPre = pre ∧ h.negOff = off := by
    have := t.coils.trans hc
    simpa [Head.coils] using this
  exact ⟨hp, hn, hpre, hoff⟩

theorem HeadTook.answered {now cmd q : Nat} {g h : Head} {r : Rec} (t : HeadTook now cmd q g h r) {res : Nat} (hr : g.judge now cmd = res) :
    r = { res := res, hop := 1, data := h.block now } := hr ▸ t.record

/-- Settles O41: a new command by `headCmdAt_new` and what it does to the coils, a repeated one by `headCmdAt_repeated`. -/
theorem headCommands : Obligations.HeadCommands := by
  intro n q s hn g shut
  have hopen : ∀ {cmd}, cmd = 0 ∨ cmd = 4 ∨ cmd = 8 ∨ cmd = 9 → g.judge s.dev.time.now cmd = if True then 0 else 4 := fun hc =>
    (Head.judge_open _ g hc).trans (if_pos trivial).symm
  refine ⟨fun hdeaf hq => ⟨?_, ?_, ?_, ?_, ?_, ?_, ?_⟩, fun hdeaf hq i hi => ?_, fun hx hhead i hi => ?_⟩
  · obtain ⟨t, ht, hhops, hregs, took⟩ := headCmdAt_new hn hdeaf hq 0
    obtain ⟨hp, hneg, hpre, -⟩ := took.each ((Head.coils_taken_open _ g (by simp)).trans (Head.coils_act _ g 0))
    exact ⟨t, ht, hhops, hregs, took.seq, hp, hneg, hpre, took.answered (hopen (by simp))⟩
  · obtain ⟨t, ht, hhops, hregs, took⟩ := headCmdAt_new hn hdeaf hq 1
    obtain ⟨off, hc⟩ := Head.coils_negClose s.dev.time.now g
    obtain ⟨hp, hneg, hpre, -⟩ := took.each hc
    exact ⟨t, ht, hhops, hregs, took.seq, hneg, hp, hpre, took.answered (Head.judge_negClose _ g)⟩
  · obtain ⟨t, ht, hhops, hregs, took⟩ := headCmdAt_new hn hdeaf hq 2
    obtain ⟨off, hc⟩ := Head.coils_preClose s.dev.time.now g
    obtain ⟨hp, hneg, hpre, -⟩ := took.each hc
    exact ⟨t, ht, hhops, hregs, took.seq, hpre, hp, hneg, took.answered (Head.judge_preClose _ g)⟩
  · obtain ⟨t, ht, hhops, hregs, took⟩ := headCmdAt_new hn hdeaf hq 3
    obtain ⟨off, hc⟩ := Head.coils_posClose s.dev.time.now g
    obtain ⟨hp, hneg, hpre, -⟩ := took.each hc
    exact ⟨t, ht, hhops, hregs, took.seq, hp, hneg, hpre, took.answered (Head.judge_posClose _ g)⟩
  · obtain ⟨t, ht, hhops, hregs, took⟩ := headCmdAt_new hn hdeaf hq 4
    obtain ⟨hp, hneg, hpre, -⟩ := took.each ((Head.coils_taken_open _ g (by simp)).trans (Head.coils_act _ g 4))
    exact ⟨t, ht, hhops, hregs, took.seq, hpre, hp, hneg, took.answered (hopen (by simp))⟩
  · obtain ⟨t, ht, hhops, hregs, took⟩ := headCmdAt_new hn hdeaf hq 8
    obtain ⟨hp, hneg, hpre, hoff⟩ := took.each ((Head.coils_taken_open _ g (by simp)).trans (Head.coils_act _ g 8))
    exact ⟨t, ht, hhops, hregs, took.seq, hp, hpre, hneg, hoff, took.answered (hopen (by simp))⟩
  · obtain ⟨t, ht, hhops, hregs, took⟩ := headCmdAt_new hn hdeaf hq 9
    obtain ⟨hp, hneg, hpre, -⟩ := took.each ((Head.coils_taken_open _ g (by simp)).trans (Head.coils_act _ g 9))
    exact ⟨t, ht, hhops, hregs, took.seq, hp, hneg, hpre, took.answered (hopen (by simp))⟩
  · obtain ⟨cmd, hexec⟩ := exec_headCommand hi
    rw [hexec n q s]
    exact headCmdAt_repeated hn hdeaf hq cmd
  · obtain ⟨cmd, hexec⟩ := exec_headCommand hi
    rw [hexec n q s]
    exact headCmdAt_noHead hn hx hhead cmd q

end Sys2Proof.Machine
end

section
/-! Module commands that read (04 R132-R136, R142, 06 R208-R214, 09 R319). -/

namespace Sys2Proof.Machine
open Sys2Proof

/-- A command has the hops `a..b` of port `n` execute `f`; before that, only the head may have gone on, to `hd`. -/
def ReadsHops (n a b : Nat) (hd : Head) (f : Nat → Module → Reply) (i : Instr) (s : State) : Prop :=
  ∃ e, HopsRun n 1 0 hd s.dev e ∧ exec i s = .next { s with dev := e.runMods n false (hopRange a b) f }

theorem ReadsHops.of_exec {n a b : Nat} {g : Dev → Nat → Module → Reply} {i : Instr} {s : State} {o : Out} (hn : n < s.dev.rings)
    (hi : exec i s = o) (ho : o = ringCmd n (fun d => d.runMods n false (hopRange a b) (g d)) s) :
    ReadsHops n a b (s.dev.port n).head (g s.dev) i s := ⟨s.dev, .refl n 1 0 s.dev, exec_ringCmd hn (hi.trans ho)⟩

/-! What the hop hears and holds does not depend on the head. -/

section
variable {n : Nat} {hd : Head} {d e : Dev} (hrun : HopsRun n 1 0 hd d e)
include hrun

theorem HopsRun.getsFrame (h : Nat) : e.getsFrame n h = d.getsFrame n h := by
  have hl : e.ringL n = d.ringL n := congrArg (· + 1) (Dev.fld_congr (hrun.reg _) 29 24)
  rw [Dev.getsFrame_port, Dev.getsFrame_port, hl, hrun.port.getsFrame]

theorem HopsRun.executes (h : Nat) : e.executes n h = d.executes n h := by
  unfold Dev.executes
  rw [hrun.getsFrame, hrun.port.payBad]

theorem HopsRun.modNow (h : Nat) : e.modNow n h = d.modNow n h := by
  unfold Dev.modNow
  rw [hrun.mods h (by omega), hrun.time]

/-- A change of the head alone, and then the hops of a frame. -/
theorem HopsRun.thenHops (a b : Nat) (f : Nat → Module → Reply) : HopsRun n a b hd d (e.runMods n false (hopRange a b) f) := by
  have hhops := HopsRun.runMods (n := n) (hops := hopRange a b) (fun _ => mem_hopRange.1) false f e
  rw [hrun.head] at hhops
  exact HopsRun.trans ⟨hrun.only, hrun.port, fun k _ => hrun.mods k (by omega)⟩ hhops

end

section
variable {n a b h : Nat} {hd : Head} {f : Nat → Module → Reply} {i : Instr} {s : State} (hi : ReadsHops n a b hd f i s) (ha : a ≤ h)
  (hb : h ≤ b)
include hi ha hb

/-- A hop that executes the command answers what `f` gives and holds what `f` leaves, unless that shows in its burst samples. -/
theorem ReadsHops.answers (hx : s.dev.executes n h = true) {x : Module} {res : Nat} {data : List Nat}
    (hf : f h (s.dev.modNow n h) = (x, res, data)) (hsame : x.SamplesAs (s.dev.modNow n h)) :
    ∃ t, exec i s = .next t ∧ HopsOnly n a b hd s t ∧ t.dev.regs = s.dev.regs ∧ (t.dev.port n).mod h = x ∧
      (t.dev.port n).record h = { res := res, hop := h, data := data } := by
  obtain ⟨e, hrun, hexec⟩ := hi
  have hall := hrun.thenHops a b f
  rw [← hrun.modNow] at hf hsame
  obtain ⟨hm, hr⟩ := Dev.runMods_answered (f := f) (hopRange_nodup a b) (mem_hopRange.2 ⟨ha, hb⟩) ((hrun.executes h).trans hx) hf hsame
  exact ⟨_, hexec, hall.hopsOnly (.refl _), hall.regs, hm, hr⟩

/-- A hop that does not execute the command does nothing, or counts a wrong payload. -/
theorem ReadsHops.unexecuted (hx : s.dev.executes n h = false) :
    ∃ t, exec i s = .next t ∧ PortOnly n s t ∧ t.dev.regs = s.dev.regs ∧
      (s.dev.getsFrame n h = false → (t.dev.port n).mod h = (s.dev.port n).mod h) ∧
      (s.dev.getsFrame n h = true →
        (t.dev.port n).mod h = { s.dev.modNow n h with errPay := min ((s.dev.modNow n h).errPay + 1) 0xFFFF } ∧
        (t.dev.port n).record h = { res := 5, hop := h }) := by
  obtain ⟨e, hrun, hexec⟩ := hi
  have hall := hrun.thenHops a b f
  have hmem := mem_hopRange.2 ⟨ha, hb⟩
  refine ⟨_, hexec, hall.only.portOnly (.refl _), hall.regs, fun hg => ?_, fun hg => ?_⟩
  · exact (Dev.runMods_deaf (hopRange_nodup a b) hmem ((hrun.getsFrame h).trans hg)).trans (hrun.mods h (by omega))
  · rw [← hrun.modNow]
    exact Dev.runMods_badPayload (hopRange_nodup a b) hmem ((hrun.executes h).trans hx) ((hrun.getsFrame h).trans hg)

end

/-! What each command asks of a hop. -/

/-- DIAGRD of a page that the table has, or of another (06 R214). -/
def diagReply (a page : Nat) (data : List (List Nat)) (h : Nat) (m : Module) : Reply :=
  if decide (page < 4) || (decide (0x80 ≤ page) && decide (page < 0x100)) then (m, 0, m.page page (data.getD (h - a) [])) else m.no 2

/-- BALTEST's read at the hops of a port; a malformed entry in the frame is BADARG (06 R208). -/
def testReply (p : Port) (h : Nat) (m : Module) : Reply := (m, if (p.testEntry h).any badTest then 2 else 0, m.testData)

/-- BURSTRD of a block (09 R319). -/
def burstReply (insts : List Nat) (a blk : Nat) (smp : List (List Nat)) (h : Nat) (m : Module) : Reply :=
  if m.ver = 2 then m.no 1 else if 3 < blk then m.no 2 else if m.burst.map (·.2) ≠ some 1 then m.no 4
  else if m.burstReady = false then m.no 3 else m.readBurst insts blk (smp.getD (h - a) [])

/-- HDSTAT at the hops of a port whose head has gone on (04 R134). -/
def headReply (now : Nat) (p : Port) (h : Nat) (m : Module) : Reply := if p.isHead h then (m, 0, p.head.block now) else m.no 1

section
variable {n : Nat} {s : State} (hn : n < s.dev.rings) (a b : Nat)
include hn

theorem exec_rdrange_reads :
    ReadsHops n a b (s.dev.port n).head (fun _ m => (m, 0, leBytes 2 m.rcd ++ leBytes 2 m.rcu)) (.rdrange n a b) s :=
  .of_exec (g := fun _ _ m => (m, 0, leBytes 2 m.rcd ++ leBytes 2 m.rcu)) (o := execRdrange n a b s) hn rfl rfl

theorem exec_rdreg_reads (addr k : Nat) :
    ReadsHops n a b (s.dev.port n).head (fun h m => m.rdreg (s.dev.katoAt n h) addr k) (.rdreg n a b addr k) s :=
  .of_exec (g := fun d h m => m.rdreg (d.katoAt n h) addr k) (o := execRdreg n a b addr k s) hn rfl rfl

theorem exec_diagrd_reads (page : Nat) (data : List (List Nat)) :
    ReadsHops n a b (s.dev.port n).head (diagReply a page data) (.diagrd n a b page data) s :=
  .of_exec (g := fun _ => diagReply a page data) (o := execDiagrd n a b page data s) hn rfl rfl

theorem exec_echoMod_reads :
    ReadsHops n a b (s.dev.port n).head (fun _ m => (m, 0, leBytes 2 m.errHdr ++ leBytes 2 m.errPay)) (.echoMod n a b) s :=
  .of_exec (g := fun _ _ m => (m, 0, leBytes 2 m.errHdr ++ leBytes 2 m.errPay)) (o := execEchoMod n a b s) hn rfl rfl

theorem exec_baltestRead_reads : ReadsHops n a b (s.dev.port n).head (testReply (s.dev.port n)) (.baltestRead n a b) s := by
  refine .of_exec (g := fun d => testReply (d.port n)) (o := execBaltestRead n a b s) hn rfl ?_
  refine congrArg (fun g => ringCmd n g s) (funext fun d => congrArg (fun f => d.runMods n false (hopRange a b) f) ?_)
  funext h m
  refine congrArg (fun bad : Bool => (m, if bad then 2 else 0, m.testData)) ?_
  beta_reduce
  cases (d.port n).testEntry h with
  | none => rfl
  | some e => rfl

theorem exec_burstrd_reads (blk : Nat) (smp : List (List Nat)) :
    ReadsHops n a b (s.dev.port n).head (burstReply s.dev.cnpy.tinsts a blk smp) (.burstrd n a b blk smp) s := by
  refine .of_exec (g := fun d => burstReply d.cnpy.tinsts a blk smp) (o := execBurstrd n a b blk smp s) hn rfl ?_
  refine congrArg (fun g => ringCmd n g s) (funext fun d => congrArg (fun f => d.runMods n false (hopRange a b) f) ?_)
  funext h m
  unfold burstReply
  refine ite_congr rfl (fun _ => rfl) fun _ => ite_congr rfl (fun _ => rfl) fun _ => ?_
  split
  case h_1 c hb =>
    have hfrozen : ¬m.burst.map (·.2) ≠ some 1 := by simp [hb]
    rw [if_neg hfrozen]
    cases hready : m.burstReady with
    | false => rfl
    | true => rfl
  case h_2 hb =>
    refine (if_pos fun h1 => ?_).symm
    obtain ⟨⟨c, k⟩, hc, rfl⟩ := Option.map_eq_some_iff.1 h1
    exact hb c hc

theorem exec_hdstat_reads :
    ReadsHops n a b ((s.dev.port n).head.expire s.dev.time.now)
      (headReply s.dev.time.now { s.dev.port n with head := (s.dev.port n).head.expire s.dev.time.now }) (.hdstat n a b) s := by
  refine ⟨_, HopsRun.setHead n 1 0 (fun h => h.expire s.dev.time.now) s.dev, ?_⟩
  rw [show exec (.hdstat n a b) s = execHdstat n a b s from rfl]
  unfold execHdstat ringCmd
  rw [present_next _ (decide_eq_true hn)]
  dsimp only [State.onDev]
  rw [Dev.port_setPort]
  rfl

/-- Every reading command has the hops execute it. -/
theorem exec_reads (addr k page blk : Nat) (data smp : List (List Nat)) :
    ∀ i ∈ [Instr.rdrange n a b, .rdreg n a b addr k, .diagrd n a b page data, .baltestRead n a b, .echoMod n a b, .burstrd n a b blk smp,
      .hdstat n a b], ∃ hd f, ReadsHops n a b hd f i s := by
  intro i hi
  simp only [List.mem_cons, List.not_mem_nil, or_false] at hi
  obtain rfl | rfl | rfl | rfl | rfl | rfl | rfl := hi
  · exact ⟨_, _, exec_rdrange_reads hn a b⟩
  · exact ⟨_, _, exec_rdreg_reads hn a b addr k⟩
  · exact ⟨_, _, exec_diagrd_reads hn a b page data⟩
  · exact ⟨_, _, exec_baltestRead_reads hn a b⟩
  · exact ⟨_, _, exec_echoMod_reads hn a b⟩
  · exact ⟨_, _, exec_burstrd_reads hn a b blk smp⟩
  · exact ⟨_, _, exec_hdstat_reads hn a b⟩

end

/-! Burst blocks (09 R319, log entry 198). -/

/-- The samples of a block as the module holds them from now on. -/
def Module.blockOf (l : List Nat) (k : Nat) (x : List Nat) (m : Module) : List Nat :=
  if FMap.get (fun _ => []) m.capture k = [] then
    ((List.range 250).zip (padTo 250 0xFFFF x)).map fun p => if m.hiddenAt l (250 * k + p.1) then 0xFFFF else p.2 % 65536
  else FMap.get (fun _ => []) m.capture k

theorem Module.readBurst_eq (l : List Nat) (k : Nat) (x : List Nat) (m : Module) :
    m.readBurst l k x =
      ({ m with capture := FMap.set (fun _ => []) m.capture k (m.blockOf l k x) }, 0, (m.blockOf l k x).flatMap (leBytes 2)) := rfl

theorem Module.length_blockOf {l : List Nat} {k : Nat} {x : List Nat} {m : Module} (h : FMap.get (fun _ => []) m.capture k = []) :
    (m.blockOf l k x).length = 250 := by
  unfold Module.blockOf
  rw [if_pos h]
  simp [padTo]

theorem Module.blockOf_ne_nil (l : List Nat) (k : Nat) (x : List Nat) (m : Module) : m.blockOf l k x ≠ [] := by
  by_cases h : FMap.get (fun _ => []) m.capture k = []
  · exact List.ne_nil_of_length_pos (by rw [Module.length_blockOf h]; decide)
  · unfold Module.blockOf
    rwa [if_neg h]

/-- A block that has been read stays as it is. -/
theorem Module.readBurst_again (l m : List Nat) (k : Nat) (x y : List Nat) (z : Module) :
    ((z.readBurst l k x).1.readBurst m k y).2.2 = (z.readBurst l k x).2.2 := by
  have hheld : FMap.get (fun _ => []) (z.readBurst l k x).1.capture k = z.blockOf l k x := FMap.get_set_same _ _ _ _
  have hagain : (z.readBurst l k x).1.blockOf m k y = z.blockOf l k x := by
    unfold Module.blockOf at hheld ⊢
    rw [hheld]
    exact if_neg (z.blockOf_ne_nil l k x)
  exact congrArg (fun w : List Nat => w.flatMap (leBytes 2)) hagain

theorem length_leBytes_flatMap (k : Nat) (b : List Nat) : (b.flatMap (leBytes k)).length = k * b.length := by
  simp [List.length_flatMap, leBytes, Nat.mul_comm]

theorem Module.readBurst_length {l : List Nat} {k : Nat} {x : List Nat} {z : Module} (h : FMap.get (fun _ => []) z.capture k = []) :
    ((z.readBurst l k x).2.2).length = 500 := by
  rw [Module.readBurst_eq, length_leBytes_flatMap, Module.length_blockOf h]

/-! The statement, command by command. -/

section
variable {n a b h : Nat} {s : State} (hn : n < s.dev.rings) (ha : a ≤ h) (hb : h ≤ b) (hx : s.dev.executes n h = true)
include hn ha hb hx

theorem diagrd_answers (page : Nat) (data : List (List Nat)) :
    ∃ t, exec (.diagrd n a b page data) s = .next t ∧ HopsOnly n a b (s.dev.port n).head s t ∧ t.dev.regs = s.dev.regs ∧
      (t.dev.port n).mod h = s.dev.modNow n h ∧
      (t.dev.port n).record h = (if page < 4 ∨ (0x80 ≤ page ∧ page < 0x100)
        then { res := 0, hop := h, data := (s.dev.modNow n h).page page (data.getD (h - a) []) } else { res := 2, hop := h }) := by
  have hreads := exec_diagrd_reads hn a b page data
  by_cases hp : page < 4 ∨ (0x80 ≤ page ∧ page < 0x100)
  · rw [if_pos hp]
    exact hreads.answers ha hb hx (if_pos (by simpa using hp)) (.refl _)
  · rw [if_neg hp]
    exact hreads.answers ha hb hx (if_neg (by simpa using hp)) (.refl _)

theorem hdstat_answers :
    ∃ t, exec (.hdstat n a b) s = .next t ∧ HopsOnly n a b ((s.dev.port n).head.expire s.dev.time.now) s t ∧ t.dev.regs = s.dev.regs ∧
      (t.dev.port n).mod h = s.dev.modNow n h ∧
      (t.dev.port n).record h = (if (s.dev.port n).isHead h
        then { res := 0, hop := h, data := ((s.dev.port n).head.expire s.dev.time.now).block s.dev.time.now } else { res := 1, hop := h }) := by
  have hreads := exec_hdstat_reads hn a b
  by_cases hp : (s.dev.port n).isHead h = true
  · rw [if_pos hp]
    exact hreads.answers ha hb hx (if_pos hp) (.refl _)
  · rw [if_neg hp]
    exact hreads.answers ha hb hx (if_neg hp) (.refl _)

theorem baltestRead_answers :
    ∃ t, exec (.baltestRead n a b) s = .next t ∧ HopsOnly n a b (s.dev.port n).head s t ∧ t.dev.regs = s.dev.regs ∧
      (t.dev.port n).mod h = s.dev.modNow n h ∧
      (t.dev.port n).record h =
        { res := if ((s.dev.port n).testEntry h).any badTest then 2 else 0, hop := h, data := (s.dev.modNow n h).testData } :=
  (exec_baltestRead_reads hn a b).answers ha hb hx rfl (.refl _)

/-- A refusal of BURSTRD leaves the module; a block that is read stays in it. -/
theorem burstrd_answers (blk : Nat) (smp : List (List Nat)) :
    let M := s.dev.modNow n h
    let X := M.readBurst s.dev.cnpy.tinsts blk (smp.getD (h - a) [])
    ∃ t, exec (.burstrd n a b blk smp) s = .next t ∧ HopsOnly n a b (s.dev.port n).head s t ∧ t.dev.regs = s.dev.regs ∧
      (t.dev.port n).mod h = (if M.ver ≠ 2 ∧ blk ≤ 3 ∧ M.burst.map (·.2) = some 1 ∧ M.burstReady = true then X.1 else M) ∧
      (t.dev.port n).record h = (if M.ver = 2 then { res := 1, hop := h } else if 3 < blk then { res := 2, hop := h }
        else if M.burst.map (·.2) ≠ some 1 then { res := 4, hop := h } else if M.burstReady = false then { res := 3, hop := h }
        else { res := 0, hop := h, data := X.2.2 }) := by
  intro M X
  have answers := fun x res data => (exec_burstrd_reads hn a b blk smp).answers ha hb hx (x := x) (res := res) (data := data)
  by_cases hver : M.ver = 2
  · rw [if_neg (fun hr => hr.1 hver), if_pos hver]
    exact answers M 1 [] (if_pos hver) (.refl _)
  rw [if_neg hver]
  have past : burstReply s.dev.cnpy.tinsts a blk smp h M = _ := if_neg hver
  by_cases hblk : 3 < blk
  · rw [if_neg (fun hr => absurd hr.2.1 (Nat.not_le.2 hblk)), if_pos hblk]
    exact answers M 2 [] (past.trans (if_pos hblk)) (.refl _)
  rw [if_neg hblk]
  replace past := past.trans (if_neg hblk)
  by_cases hfrozen : M.burst.map (·.2) = some 1
  case neg =>
    rw [if_neg (fun hr => hfrozen hr.2.2.1), if_pos hfrozen]
    exact answers M 4 [] (past.trans (if_pos hfrozen)) (.refl _)
  rw [if_neg (not_not.2 hfrozen)]
  replace past := past.trans (if_neg (not_not.2 hfrozen))
  by_cases hready : M.burstReady = false
  · rw [if_neg (fun hr => absurd (hr.2.2.2.symm.trans hready) (by decide)), if_pos hready]
    exact answers M 3 [] (past.trans (if_pos hready)) (.refl _)
  · rw [if_pos ⟨hver, Nat.not_lt.1 hblk, hfrozen, Bool.eq_true_of_not_eq_false hready⟩, if_neg hready]
    exact answers X.1 0 X.2.2 (past.trans (if_neg hready)) ⟨rfl, rfl, rfl, rfl⟩

theorem rdreg_answers (addr k : Nat) :
    ∃ t, exec (.rdreg n a b addr k) s = .next t ∧ HopsOnly n a b (s.dev.port n).head s t ∧ t.dev.regs = s.dev.regs ∧
      (t.dev.port n).mod h = s.dev.modNow n h ∧
      (t.dev.port n).record h = { res := ((s.dev.modNow n h).rdreg (s.dev.katoAt n h) addr k).2.1, hop := h,
                                  data := ((s.dev.modNow n h).rdreg (s.dev.katoAt n h) addr k).2.2 } := by
  have hkept : ((s.dev.modNow n h).rdreg (s.dev.katoAt n h) addr k).1 = s.dev.modNow n h := by
    unfold Module.rdreg
    dsimp only
    split
    · rfl
    · rfl
  exact (exec_rdreg_reads hn a b addr k).answers ha hb hx (Prod.ext hkept rfl) (.refl _)

end

/-- Settles O42: each command by what it asks of a hop. -/
theorem moduleReads : Obligations.ModuleReads := by
  intro n a b h s hn ha hb M g
  refine ⟨fun hx => ⟨?_, rdreg_answers hn ha hb hx, diagrd_answers hn ha hb hx, ?_, ?_, burstrd_answers hn ha hb hx,
    hdstat_answers hn ha hb hx⟩, fun hx addr k page blk data smp i hi => ?_, fun l m k x y z => ⟨z.readBurst_again l m k x y, z.readBurst_length⟩⟩
  · exact (exec_rdrange_reads hn a b).answers ha hb hx rfl (.refl _)
  · obtain ⟨t, ht, hhops, hregs, hm, hr⟩ := baltestRead_answers hn ha hb hx
    refine ⟨t, ht, hhops, hregs, hm, hr.trans ?_⟩
    cases (s.dev.port n).testEntry h with
    | none => rfl
    | some e => rfl
  · exact (exec_echoMod_reads hn a b).answers ha hb hx rfl (.refl _)
  · obtain ⟨hd, f, hreads⟩ := exec_reads hn a b addr k page blk data smp i hi
    exact hreads.unexecuted ha hb hx

end Sys2Proof.Machine
end

section
/-! Module commands that write, at one hop (04 R134-R137, R142, R145, 05 R161, 06 R204, R208, 09 R318). -/

namespace Sys2Proof.Machine
open Sys2Proof

/-! Registers that show what a hop was told. -/

theorem Dev.hopBit_linkKept (d : Dev) (a0 a1 h : Nat) (b : Bool) : LinkKept d (d.hopBit a0 a1 h b) := by
  unfold Dev.hopBit
  split
  · exact .setReg d _ _
  · exact .setReg d _ _

theorem Dev.hopBit_regsKept (d : Dev) (a0 a1 h : Nat) (b : Bool) : RegsKept [a0, a1] d (d.hopBit a0 a1 h b) := by
  unfold Dev.hopBit
  split
  · exact .setReg d _ (by simp)
  · exact .setReg d _ (by simp)

theorem Dev.rbit_hopBit (d : Dev) (a0 a1 : Nat) {h : Nat} (b : Bool) (h64 : h ≤ 64) :
    (if h ≤ 32 then (d.hopBit a0 a1 h b).rbit a0 (h - 1) else (d.hopBit a0 a1 h b).rbit a1 (h - 33)) = b := by
  unfold Dev.hopBit
  by_cases h32 : h ≤ 32
  · rw [if_pos h32, if_pos h32, Dev.rbit_setRbit _ _ _ _ _ (by omega) (by omega), if_pos rfl]
  · rw [if_neg h32, if_neg h32, Dev.rbit_setRbit _ _ _ _ _ (by omega) (by omega), if_pos rfl]

theorem LinkKept.ringEvent (n : Nat) (b : Bool) (d : Dev) : LinkKept d (d.ringEvent n b) := by
  unfold Dev.ringEvent Dev.raiseIf
  split
  · exact .raise d _ _
  · exact .refl d

theorem RegsKept.ringEvent (l : List Nat) {n : Nat} (hn : n < 64) (b : Bool) (d : Dev) : RegsKept l d (d.ringEvent n b) := by
  unfold Dev.ringEvent Dev.raiseIf
  split
  · exact .raise l d (by omega) n
  · exact .of_regs l rfl

/-! One hop, and then registers, events and messages. -/

section
variable {n h : Nat} {s : State} {f : Nat → Module → Reply} (hx : s.dev.executes n h = true)

theorem hopsRun_one (replay : Bool) (f : Nat → Module → Reply) (n h : Nat) (d : Dev) :
    HopsRun n h h (d.port n).head d (d.runMods n replay [h] f) :=
  .runMods (fun k hk => by rw [List.mem_singleton.1 hk]; exact ⟨le_refl h, le_refl h⟩) replay f d

include hx

/-- A hop that executes a command without a stored record holds and answers what `f` gives. -/
theorem hop_answered {e : Dev} (k : LinkKept (s.dev.runMods n false [h] f) e) {x : Module} {res : Nat} {data : List Nat}
    (hf : f h (s.dev.modNow n h) = (x, res, data)) (hsame : x.SamplesAs (s.dev.modNow n h)) :
    HopsOnly n h h (s.dev.port n).head s { s with dev := e } ∧ (e.port n).mod h = x ∧
      (e.port n).record h = { res := res, hop := h, data := data } := by
  rw [k.port n]
  exact ⟨(hopsRun_one false f n h s.dev).hopsOnly k,
    Dev.runMods_answered (List.nodup_singleton h) (List.mem_singleton_self h) hx hf hsame⟩

/-- A hop that executes a command of the replay class holds what `f` gives, but for its stored records and the notes on its burst
samples. -/
theorem hop_executed {replay : Bool} (hs : (s.dev.modNow n h).stored replay (s.dev.port n).flying = none) :
    HopsOnly n h h (s.dev.port n).head s { s with dev := s.dev.runMods n replay [h] f } ∧
      (s.dev.runMods n replay [h] f).regs = s.dev.regs ∧
      (∃ notes recs, ((s.dev.runMods n replay [h] f).port n).mod h =
        { (f h (s.dev.modNow n h)).1 with hides := notes, replay := recs }) ∧
      ((s.dev.runMods n replay [h] f).port n).record h = Reply.record h (f h (s.dev.modNow n h)) := by
  have hrun := hopsRun_one replay f n h s.dev
  obtain ⟨hm, hr⟩ := Dev.runMods_executed (f := f) (List.nodup_singleton h) (List.mem_singleton_self h) hx hs
  exact ⟨hrun.hopsOnly (.refl _), hrun.regs, hm ▸ Reply.held_eq _ _ _ _ _, hr⟩

end

/-! What each command asks of the hop. -/

/-- The entry of the one hop of a command. -/
theorem ownEntry {α : Type} (x y : α) (h : Nat) : [x].getD (h - h) y = x := by
  rw [Nat.sub_self]
  rfl

/-- SETVER (04 R145 step 4). -/
def verReply (first : Nat) (vers : List Nat) (h : Nat) (m : Module) : Reply :=
  let v := vers.getD (h - first) 0
  if (v = 2 ∨ v = 3) ∧ m.id.vermask.testBit v then ({ m with ver := v } : Module).ok else ({ m with ver := 2 } : Module).no 2

/-- SETDLY (05 R161). -/
def dlyReply (first : Nat) (dlys : List (Nat × Nat)) (h : Nat) (m : Module) : Reply :=
  let x := dlys.getD (h - first) (0, 0)
  let r : Nat → Nat := fun v => if m.ver = 3 then v % 65536 else v % 65536 / 5 * 5
  ({ m with dlyd := r x.1, dlyu := r x.2 } : Module).ok

/-- BAL at `now` (06 R204). -/
def balReply (now first : Nat) (timers : List (List Nat)) (h : Nat) (m : Module) : Reply :=
  let e := padTo 16 0 (timers.getD (h - first) [])
  if e.any (fun t => decide (4095 < t)) then m.no 2
  else (({ m with timers := e.map (· * 10000000000), timersT := now, nBal := min (m.nBal + 1) 0xFFFFFFFF } : Module).withBal, 0,
    (padTo 16 0 m.timers).flatMap (fun t => leBytes 2 ((t + 9999999999) / 10000000000)))

/-- BALTEST's start (06 R208-R209). -/
def startReply (d : Dev) (first : Nat) (entries : List Word) (shifts : List (List Int)) (h : Nat) (m : Module) : Reply :=
  let e := entries.getD (h - first) 0
  if badTest e then (m, 2, m.testData)
  else if e.bit 24 then
    if m.test.isSome then (m, 3, m.testData) else
    let r := (List.range 16).map (fun c => if e.bit c then (shifts.getD (h - first) []).getD c 0 else -32768)
    ({ m with test := some { start := d.testStart (e.field 23 16), dwell := e.field 23 16, mask := e.field 15 0, res := r } }, 0, m.testData)
  else (m, 0, m.testData)

/-- CLRST (04 R134). -/
def clearReply (mask : BitVec 64) (_ : Nat) (m : Module) : Reply :=
  ({ m with status := m.status &&& ~~~(mask &&& 0x0003000000000000#64) } : Module).ok

/-- RING.MODVER shows the version of hop `h` (04 R158). -/
def Dev.verShown (n h : Nat) (d : Dev) : Dev :=
  d.hopBit (A.ringModver0 n) (A.ringModver1 n) h (((d.port n).mod h).ver == 3)

/-- RING.DLYh keeps the delays written (05 R159). -/
def Dev.dlyShown (n first : Nat) (dlys : List (Nat × Nat)) (h : Nat) (d : Dev) : Dev :=
  let x := dlys.getD (h - first) (0, 0)
  d.setReg (A.ringDly n h) (BitVec.ofNat 32 (x.2 % 65536 * 65536 + x.1 % 65536))

/-- A command that one hop executes. -/
theorem answer_oneHop {n h : Nat} {s : State} (hn : n < s.dev.rings) {o : Out} {replay : Bool} {g : Dev → Nat → Module → Reply}
    (ho : o = ringCmd n (fun d => d.runMods n replay (span h 1) (g d)) s) :
    o = .next { s with dev := s.dev.runMods n replay [h] (g s.dev) } := ho.trans (present_next _ (decide_eq_true hn))

/-- A command over a range of one hop. -/
theorem answer_ownRange {n h : Nat} {s : State} (hn : n < s.dev.rings) {o : Out} {replay : Bool} {g : Dev → Nat → Module → Reply}
    (ho : o = ringCmd n (fun d => d.runMods n replay (hopRange h h) (g d)) s) :
    o = .next { s with dev := s.dev.runMods n replay [h] (g s.dev) } := by
  rw [hopRange_self] at ho
  exact answer_oneHop hn ho

/-- A command that one hop executes, and that the device then shows. -/
theorem answer_oneHop_shown {n h : Nat} {s : State} (hn : n < s.dev.rings) {o : Out} {f : Nat → Module → Reply} {shown : Nat → Dev → Dev}
    (ho : o = ringCmd n (fun d => foldOver (span h 1) shown (d.runMods n false (span h 1) f)) s) :
    o = .next { s with dev := shown h (s.dev.runMods n false [h] f) } := ho.trans (present_next _ (decide_eq_true hn))

section
variable {n h : Nat} {s : State} (hn : n < s.dev.rings)
include hn

theorem exec_setver (v : Nat) :
    exec (.setver n h [v]) s = .next { s with dev := (s.dev.runMods n false [h] (verReply h [v])).verShown n h } :=
  (show exec (.setver n h [v]) s = execSetver n h [v] s from rfl).trans
    (answer_oneHop_shown (f := verReply h [v]) (shown := Dev.verShown n) hn rfl)

theorem exec_setdly (x : Nat × Nat) :
    exec (.setdly n h [x]) s = .next { s with dev := (s.dev.runMods n false [h] (dlyReply h [x])).dlyShown n h [x] h } :=
  (show exec (.setdly n h [x]) s = execSetdly n h [x] s from rfl).trans
    (answer_oneHop_shown (f := dlyReply h [x]) (shown := Dev.dlyShown n h [x]) hn rfl)

theorem exec_balMod (e : List Nat) :
    exec (.balMod n h [e]) s = .next { s with dev := s.dev.runMods n false [h] (balReply s.dev.time.now h [e]) } :=
  (show exec (.balMod n h [e]) s = execBalMod n h [e] s from rfl).trans
    (answer_oneHop (g := fun d => balReply d.time.now h [e]) hn rfl)

theorem exec_baltestStart (e : Word) (sh : List Int) :
    exec (.baltestStart n h [e] [sh]) s = .next { s with dev := s.dev.runMods n false [h] (startReply s.dev h [e] [sh]) } :=
  (show exec (.baltestStart n h [e] [sh]) s = execBaltestStart n h [e] [sh] s from rfl).trans
    (answer_oneHop (g := fun d => startReply d h [e] [sh]) hn rfl)

theorem exec_cfgtag (tag : Word) :
    exec (.cfgtag n h h tag) s = .next { s with dev := s.dev.runMods n false [h] (fun _ m => ({ m with tag := tag } : Module).ok) } :=
  (show exec (.cfgtag n h h tag) s = execCfgtag n h h tag s from rfl).trans
    (answer_ownRange (g := fun _ _ m => ({ m with tag := tag } : Module).ok) hn rfl)

theorem exec_wrreg (addr : Nat) (w : List Word) :
    exec (.wrreg n h h addr w) s =
      .next { s with dev := s.dev.runMods n false [h] (fun k m => m.wrreg (s.dev.katoAt n k) addr w) } :=
  (show exec (.wrreg n h h addr w) s = execWrreg n h h addr w s from rfl).trans
    (answer_ownRange (g := fun d k m => m.wrreg (d.katoAt n k) addr w) hn rfl)

theorem exec_turnHop {i : Instr} {v : Nat} {locked : Bool} (hi : exec i s = ringCmd n (Dev.turnHop n h v locked) s) :
    ∃ b, exec i s = .next { s with dev := (s.dev.runMods n false [h] (fun _ m => m.setTurn v locked)).ringEvent n b } :=
  ⟨_, exec_ringCmd hn hi⟩

theorem exec_burst {i : Instr} {x : Word} (hi : exec i s = burstAll n h [x] s) :
    exec i s = .next { s with dev := s.dev.runMods n true [h] (fun k m => m.burstOp ([x].getD (k - h) 0)) } :=
  hi.trans (answer_oneHop (g := fun _ k m => m.burstOp ([x].getD (k - h) 0)) hn rfl)

theorem exec_burstArm (c : Nat) :
    exec (.burstArm n h [c]) s =
      .next { s with dev := s.dev.runMods n true [h] (fun k m => m.burstOp ([burstEntry 0 c].getD (k - h) 0)) } :=
  exec_burst hn (show exec (.burstArm n h [c]) s = execBurstArm n h [c] s from rfl)

theorem exec_burstFreeze (c : Nat) :
    exec (.burstFreeze n h [c]) s =
      .next { s with dev := s.dev.runMods n true [h] (fun k m => m.burstOp ([burstEntry 1 c].getD (k - h) 0)) } :=
  exec_burst hn (show exec (.burstFreeze n h [c]) s = execBurstFreeze n h [c] s from rfl)

theorem exec_burstDisarm :
    exec (.burstDisarm n h h) s =
      .next { s with dev := s.dev.runMods n true [h] (fun k m => m.burstOp ([burstEntry 2 0].getD (k - h) 0)) } := by
  refine exec_burst hn ((show exec (.burstDisarm n h h) s = execBurstDisarm n h h s from rfl).trans ?_)
  unfold execBurstDisarm
  rw [hopRange_self]
  rfl

end

/-! Ranging: RANGE passes the hops from 1 on, and RING.LOOP takes the loop count of the device's own end (04 R142, R153). -/

/-- The counts that RANGE leaves in a module. -/
def rangeReply (dirB : Bool) (counts : List Nat) (h : Nat) (m : Module) : Reply :=
  let c := m.count dirB (counts.getD (h - 1) 0)
  ((if dirB then { m with rcu := c } else { m with rcd := c } : Module)).ok

/-- The device after RANGE, before the loop count is shown. -/
def Dev.ranged (n : Nat) (dirB : Bool) (c0 : Nat) (counts : List Nat) (d : Dev) : Dev :=
  (d.runMods n false (span 1 counts.length) (rangeReply dirB counts)).setPort n
    (fun p => if dirB then { p with c0b := c0 } else { p with c0a := c0 })

/-- The loop count of the device's own end is shown, and the partner hears of it. -/
def Dev.loopShown (n c0 : Nat) (d : Dev) : Dev := (d.setFld (A.ringLoop n) 15 0 c0).moorSend (.loopCount n c0)

theorem exec_rangeMod {n : Nat} {s : State} (hn : n < s.dev.rings) (dirB : Bool) (c0 : Nat) (counts : List Nat) :
    exec (.rangeMod n dirB c0 counts) s = .next { s with dev :=
      if dirB = s.dev.atEndB then (s.dev.ranged n dirB c0 counts).loopShown n c0 else s.dev.ranged n dirB c0 counts } :=
  (show exec (.rangeMod n dirB c0 counts) s = execRangeMod n dirB c0 counts s from rfl).trans (present_next _ (decide_eq_true hn))

end Sys2Proof.Machine
end

section
/-! What a module that executes a writing command holds and answers: versions, delays, turnarounds, words, timers, tests and burst captures
(04 R134-R137, R142, R145, 05 R161, 06 R204, R208-R209, 09 R318). -/

namespace Sys2Proof.Machine
open Sys2Proof

/-- The test that a BALTEST entry starts now, with the shifts that it will measure (06 R208-R209). -/
def Dev.newTest (e : Word) (sh : List Int) (d : Dev) : BalTest :=
  { start := d.testStart (e.field 23 16), dwell := e.field 23 16, mask := e.field 15 0,
    res := (List.range 16).map (fun c => if e.bit c then sh.getD c 0 else -32768) }

section
variable {n h : Nat} {s : State} (hn : n < s.dev.rings) (hx : s.dev.executes n h = true)
include hn hx

/-! Ranging, versions and delays. -/

theorem rangeMod_writes (h1 : 1 ≤ h) (dirB : Bool) (c0 : Nat) (l : List Nat) (hl : h ≤ l.length) :
    let M := s.dev.modNow n h
    ∃ t, exec (.rangeMod n dirB c0 l) s = .next t ∧ PortOnly n s t ∧
      (t.dev.port n).mod h =
        (if dirB then { M with rcu := M.count true (l.getD (h - 1) 0) } else { M with rcd := M.count false (l.getD (h - 1) 0) }) ∧
      (∀ k, l.length < k → (t.dev.port n).mod k = (s.dev.port n).mod k) ∧ RegsKept [A.ringLoop n] s.dev t.dev ∧
      (dirB = s.dev.atEndB → t.dev.fld (A.ringLoop n) 15 0 = c0 % 65536) ∧ (dirB ≠ s.dev.atEndB → t.dev.regs = s.dev.regs) := by
  intro M
  have hrun := HopsRun.runMods (n := n) (a := 1) (b := l.length) (hops := span 1 l.length)
    (fun k hk => by have := mem_span.1 hk; omega) false (rangeReply dirB l) s.dev
  generalize hd : s.dev.ranged n dirB c0 l = d
  have honly : OnlyPort n s.dev d := hd ▸ hrun.only.trans (.setPort n _ _)
  have hmods : ∀ k, (d.port n).mod k = ((s.dev.runMods n false (span 1 l.length) (rangeReply dirB l)).port n).mod k := fun k => by
    rw [← hd]
    unfold Dev.ranged
    rw [Dev.port_setPort]
    cases dirB <;> rfl
  have hat : (d.port n).mod h =
      (if dirB then { M with rcu := M.count true (l.getD (h - 1) 0) } else { M with rcd := M.count false (l.getD (h - 1) 0) }) := by
    obtain ⟨hm, -⟩ := Dev.runMods_answered (f := rangeReply dirB l) (d := s.dev) (span_nodup 1 l.length) (mem_span.2 ⟨h1, by omega⟩) hx rfl
      (by cases dirB <;> exact ⟨rfl, rfl, rfl, rfl⟩)
    rw [hmods, hm]
    cases dirB <;> rfl
  have hregs : d.regs = s.dev.regs := by rw [honly.1]
  have hshown : LinkKept d (d.loopShown n c0) := (LinkKept.setReg d _ _).trans (.moorSend _ _)
  have hexec := exec_rangeMod hn dirB c0 l
  rw [hd] at hexec
  by_cases hend : dirB = s.dev.atEndB
  · rw [if_pos hend] at hexec
    have hreg : ∀ k, (d.loopShown n c0).reg k = (d.setFld (A.ringLoop n) 15 0 c0).reg k := fun k => Dev.reg_congr (Dev.moorSend_regs _ _) k
    refine ⟨_, hexec, honly.portOnly hshown, ?_, fun k hk => ?_, fun k hk hne => ?_, fun _ => ?_, fun hno => absurd hend hno⟩
    · dsimp only
      rw [hshown.port n]
      exact hat
    · dsimp only
      rw [hshown.port n, hmods]
      exact hrun.mods k (.inr hk)
    · exact (hreg k).trans ((RegsKept.setReg d _ (List.mem_singleton_self _) k hk hne).trans (Dev.reg_congr hregs k))
    · exact (Dev.fld_congr (hreg _) 15 0).trans (Dev.fld_setFld_same d _ c0 (by decide) (by decide))
  · rw [if_neg hend] at hexec
    exact ⟨_, hexec, honly.portOnly (.refl d), hat, fun k hk => (hmods k).trans (hrun.mods k (.inr hk)), .of_regs _ hregs,
      fun heq => absurd heq hend, fun _ => hregs⟩

theorem setver_writes (h64 : h ≤ 64) (v : Nat) :
    let M := s.dev.modNow n h
    ∃ t, exec (.setver n h [v]) s = .next t ∧ HopsOnly n h h (s.dev.port n).head s t ∧
      RegsKept [A.ringModver0 n, A.ringModver1 n] s.dev t.dev ∧
      (t.dev.port n).mod h = { M with ver := if (v = 2 ∨ v = 3) ∧ M.id.vermask.testBit v = true then v else 2 } ∧
      ((t.dev.port n).record h).res = (if (v = 2 ∨ v = 3) ∧ M.id.vermask.testBit v = true then 0 else 2) ∧
      (if h ≤ 32 then t.dev.rbit (A.ringModver0 n) (h - 1) else t.dev.rbit (A.ringModver1 n) (h - 33)) =
        decide (((t.dev.port n).mod h).ver = 3) := by
  intro M
  have hreply : verReply h [v] h M = ({ M with ver := if (v = 2 ∨ v = 3) ∧ M.id.vermask.testBit v = true then v else 2 },
      if (v = 2 ∨ v = 3) ∧ M.id.vermask.testBit v = true then 0 else 2, []) := by
    unfold verReply
    rw [ownEntry]
    by_cases hv : (v = 2 ∨ v = 3) ∧ M.id.vermask.testBit v = true
    · simp only [if_pos hv]
      rfl
    · simp only [if_neg hv]
      rfl
  have hregs := (hopsRun_one false (verReply h [v]) n h s.dev).regs
  have hshown : ∀ d : Dev, LinkKept d (d.verShown n h) := fun d => Dev.hopBit_linkKept d _ _ _ _
  obtain ⟨hhops, hm, hr⟩ := hop_answered hx (hshown _) hreply ⟨rfl, rfl, rfl, rfl⟩
  refine ⟨_, exec_setver hn v, hhops, (RegsKept.of_regs _ hregs).trans (Dev.hopBit_regsKept _ _ _ _ _), hm, congrArg Rec.res hr, ?_⟩
  dsimp only
  rw [(hshown _).port n]
  exact Dev.rbit_hopBit _ _ _ _ h64

theorem setdly_writes {a b : Nat} (ha : a < 65536) (hb : b < 65536) :
    let M := s.dev.modNow n h
    ∃ t, exec (.setdly n h [(a, b)]) s = .next t ∧ HopsOnly n h h (s.dev.port n).head s t ∧ RegsKept [A.ringDly n h] s.dev t.dev ∧
      (t.dev.port n).mod h = { M with dlyd := if M.ver = 3 then a else a / 5 * 5, dlyu := if M.ver = 3 then b else b / 5 * 5 } ∧
      t.dev.reg (A.ringDly n h) = BitVec.ofNat 32 (b * 65536 + a) := by
  intro M
  have hreply : dlyReply h [(a, b)] h M =
      ({ M with dlyd := if M.ver = 3 then a else a / 5 * 5, dlyu := if M.ver = 3 then b else b / 5 * 5 }, 0, []) := by
    unfold dlyReply
    rw [ownEntry]
    dsimp only
    rw [Nat.mod_eq_of_lt ha, Nat.mod_eq_of_lt hb]
    rfl
  have hdly : ∀ d : Dev, d.dlyShown n h [(a, b)] h = d.setReg (A.ringDly n h) (BitVec.ofNat 32 (b * 65536 + a)) := fun d => by
    unfold Dev.dlyShown
    rw [ownEntry]
    dsimp only
    rw [Nat.mod_eq_of_lt ha, Nat.mod_eq_of_lt hb]
  have hregs := (hopsRun_one false (dlyReply h [(a, b)]) n h s.dev).regs
  obtain ⟨hhops, hm, -⟩ := hop_answered hx (.setReg _ (A.ringDly n h) (BitVec.ofNat 32 (b * 65536 + a))) hreply ⟨rfl, rfl, rfl, rfl⟩
  have hexec := exec_setdly (h := h) hn (a, b)
  rw [hdly] at hexec
  exact ⟨_, hexec, hhops, (RegsKept.of_regs _ hregs).trans (.setReg _ _ (List.mem_singleton_self _)), hm, Dev.reg_setReg _ _ _⟩

/-! Turnarounds. -/

/-- SETTURN whose value and locks give the module `x` and the result `res`. -/
theorem setturn_writes {i : Instr} {v : Nat} {locked : Bool} (hi : exec i s = ringCmd n (Dev.turnHop n h v locked) s) {x : Module} {res : Nat}
    (hreply : (s.dev.modNow n h).setTurn v locked = (x, res, [])) (hsame : x.SamplesAs (s.dev.modNow n h)) :
    ∃ t, exec i s = .next t ∧ HopsOnly n h h (s.dev.port n).head s t ∧ RegsKept [] s.dev t.dev ∧ (t.dev.port n).mod h = x ∧
      ((t.dev.port n).record h).res = res := by
  obtain ⟨b, hexec⟩ := exec_turnHop hn hi
  have hregs := (hopsRun_one false (fun _ m => m.setTurn v locked) n h s.dev).regs
  have h64 : n < 64 := lt_trans hn s.dev.rings_lt
  obtain ⟨hhops, hm, hr⟩ := hop_answered (f := fun _ m => m.setTurn v locked) hx (LinkKept.ringEvent n b _) hreply hsame
  exact ⟨_, hexec, hhops, (RegsKept.of_regs _ hregs).trans (.ringEvent [] h64 b _), hm, congrArg Rec.res hr⟩

theorem setturnForceTa_writes :
    ∃ t, exec (.setturnForceTa n h) s = .next t ∧ HopsOnly n h h (s.dev.port n).head s t ∧ RegsKept [] s.dev t.dev ∧
      (t.dev.port n).mod h = { s.dev.modNow n h with turn := 1 } := by
  obtain ⟨t, ht, hhops, hregs, hm, -⟩ := setturn_writes (i := .setturnForceTa n h) hn hx rfl (v := 1) rfl ⟨rfl, rfl, rfl, rfl⟩
  exact ⟨t, ht, hhops, hregs, hm⟩

theorem setturnForceTb_writes :
    ∃ t, exec (.setturnForceTb n h) s = .next t ∧ HopsOnly n h h (s.dev.port n).head s t ∧ RegsKept [] s.dev t.dev ∧
      (t.dev.port n).mod h = { s.dev.modNow n h with turn := 2 } := by
  obtain ⟨t, ht, hhops, hregs, hm, -⟩ := setturn_writes (i := .setturnForceTb n h) hn hx rfl (v := 2) rfl ⟨rfl, rfl, rfl, rfl⟩
  exact ⟨t, ht, hhops, hregs, hm⟩

theorem setturnRelease_writes (locked : Bool) :
    let M := s.dev.modNow n h
    ∃ t, exec (.setturnRelease n h locked) s = .next t ∧ HopsOnly n h h (s.dev.port n).head s t ∧ RegsKept [] s.dev t.dev ∧
      (if (M.autoTa || M.autoTb) && !locked then (t.dev.port n).mod h = M ∧ ((t.dev.port n).record h).res = 3
       else (t.dev.port n).mod h = { M with turn := 0, autoTa := false, autoTb := false, selfTurn := false }) := by
  intro M
  have writes := fun x res => setturn_writes (i := .setturnRelease n h locked) hn hx rfl (v := 0) (locked := locked) (x := x) (res := res)
  by_cases hbusy : ((M.autoTa || M.autoTb) && !locked) = true
  · obtain ⟨t, ht, hhops, hregs, hm, hr⟩ := writes M 3 (if_pos hbusy) (.refl _)
    exact ⟨t, ht, hhops, hregs, by rw [if_pos hbusy]; exact ⟨hm, hr⟩⟩
  · obtain ⟨t, ht, hhops, hregs, hm, -⟩ := writes _ 0 (if_neg hbusy) ⟨rfl, rfl, rfl, rfl⟩
    exact ⟨t, ht, hhops, hregs, by rw [if_neg hbusy]; exact hm⟩

/-! Words. -/

theorem cfgtag_writes (tag : Word) :
    ∃ t, exec (.cfgtag n h h tag) s = .next t ∧ HopsOnly n h h (s.dev.port n).head s t ∧ t.dev.regs = s.dev.regs ∧
      (t.dev.port n).mod h = { s.dev.modNow n h with tag := tag } := by
  obtain ⟨hhops, hm, -⟩ := hop_answered (f := fun _ m => ({ m with tag := tag } : Module).ok) hx (.refl _) rfl ⟨rfl, rfl, rfl, rfl⟩
  exact ⟨_, exec_cfgtag hn tag, hhops, (hopsRun_one false _ n h s.dev).regs, hm⟩

omit hn hx in
theorem Module.put_samples (a : Nat) (v : Word) (m : Module) : (m.put a v).SamplesAs m := by
  unfold Module.put
  split_ifs <;> exact ⟨rfl, rfl, rfl, rfl⟩

omit hn hx in
theorem Module.wrreg_samples (kato : Option Nat) (a : Nat) (ws : List Word) (m : Module) : (m.wrreg kato a ws).1.SamplesAs m := by
  unfold Module.wrreg
  dsimp only
  split_ifs
  · exact .refl m
  · exact .refl m
  · exact .refl m
  · exact foldOver_keeps (fun x : Module => x.SamplesAs m) _ _ m (fun p x hx => by
      have hput := x.put_samples p.1 p.2
      exact ⟨hput.burst.trans hx.burst, hput.hides.trans hx.hides, hput.status.trans hx.status, hput.test.trans hx.test⟩) (.refl m)

theorem wrreg_writes (addr : Nat) (w : List Word) :
    let M := s.dev.modNow n h
    ∃ t, exec (.wrreg n h h addr w) s = .next t ∧ HopsOnly n h h (s.dev.port n).head s t ∧ t.dev.regs = s.dev.regs ∧
      (t.dev.port n).mod h = (M.wrreg (s.dev.katoAt n h) addr w).1 ∧
      ((t.dev.port n).record h).res = (M.wrreg (s.dev.katoAt n h) addr w).2.1 := by
  intro M
  obtain ⟨hhops, hm, hr⟩ := hop_answered (f := fun k m => m.wrreg (s.dev.katoAt n k) addr w) hx (.refl _) rfl (M.wrreg_samples _ _ _)
  exact ⟨_, exec_wrreg hn addr w, hhops, (hopsRun_one false _ n h s.dev).regs, hm, congrArg Rec.res hr⟩

/-! Bleed timers and balance-switch tests. -/

omit hn hx in
theorem padTo_length {α : Type} {k : Nat} (x : α) {l : List α} (hl : l.length = k) : padTo k x l = l := by
  subst hl
  refine List.ext_getElem (by simp [padTo]) fun i _ hi => ?_
  simp [padTo, hi]

omit hn hx in
theorem testBit_maskOf (l : List Nat) (i : Nat) : (maskOf l).testBit i = decide (i ∈ l) := by
  have fold : ∀ m : Nat, (l.foldl (fun m i => m ||| (1 <<< i)) m).testBit i = (m.testBit i || decide (i ∈ l)) := by
    induction l with
    | nil => simp
    | cons j l ih =>
      intro m
      rw [List.foldl_cons, ih, Nat.testBit_or, Nat.one_shiftLeft, Nat.testBit_two_pow]
      simp [Bool.or_assoc, eq_comm]
  exact (fold 0).trans (by simp)

omit hn hx in
/-- The BAL bits show which timers run (04 R128, 06 R204). -/
theorem Module.withBal_bit (m : Module) {c : Nat} (hc : c < 16) : m.withBal.status.getLsbD (16 + c) = decide (0 < m.timers.getD c 0) := by
  have hmask : ∀ c, c < 16 → (0xFFFFFFFF0000FFFF#64).getLsbD (16 + c) = false := by decide
  unfold Module.withBal
  dsimp only
  rw [BitVec.getLsbD_or, BitVec.getLsbD_and, hmask c hc, Bool.and_false, Bool.false_or, BitVec.getLsbD_ofNat,
    show 65536 = 2 ^ 16 from rfl, Nat.testBit_mul_two_pow, Nat.add_sub_cancel_left, testBit_maskOf]
  simp only [List.mem_filter, List.mem_range, decide_eq_true_eq]
  simp [hc, show 16 + c < 64 by omega]

theorem balMod_writes {e : List Nat} (he : e.length = 16) (hok : e.all (fun x => decide (x ≤ 4095)) = true) :
    let M := s.dev.modNow n h
    ∃ t, exec (.balMod n h [e]) s = .next t ∧ HopsOnly n h h (s.dev.port n).head s t ∧ t.dev.regs = s.dev.regs ∧
      ((t.dev.port n).mod h).timers = e.map (· * 10000000000) ∧
      (∀ c, c < 16 → ((t.dev.port n).mod h).status.getLsbD (16 + c) = decide (0 < e.getD c 0)) ∧
      ((t.dev.port n).record h).data = (padTo 16 0 M.timers).flatMap (fun x => leBytes 2 ((x + 9999999999) / 10000000000)) := by
  intro M
  have hany : e.any (fun t => decide (4095 < t)) = false := by
    rw [List.any_eq_false]
    intro x hx
    have := List.all_eq_true.1 hok x hx
    simp only [decide_eq_true_eq] at this ⊢
    omega
  have hreply : balReply s.dev.time.now h [e] h M =
      (({ M with timers := e.map (· * 10000000000), timersT := s.dev.time.now, nBal := min (M.nBal + 1) 0xFFFFFFFF } : Module).withBal, 0,
        (padTo 16 0 M.timers).flatMap (fun t => leBytes 2 ((t + 9999999999) / 10000000000))) := by
    unfold balReply
    rw [ownEntry, padTo_length 0 he]
    exact if_neg (by rw [hany]; decide)
  obtain ⟨hhops, hregs, ⟨notes, recs, hm⟩, hr⟩ := hop_executed (f := balReply s.dev.time.now h [e]) hx (Module.stored_plain _ _)
  rw [hreply] at hm hr
  refine ⟨_, exec_balMod hn e, hhops, hregs, by rw [hm]; rfl, fun c hc => ?_, congrArg Rec.data hr⟩
  have hbit := Module.withBal_bit
    { M with timers := e.map (· * 10000000000), timersT := s.dev.time.now, nBal := min (M.nBal + 1) 0xFFFFFFFF } hc
  rw [hm]
  refine hbit.trans ?_
  have hget : (e.map (· * 10000000000)).getD c 0 = e.getD c 0 * 10000000000 := by
    simp [List.getD_eq_getElem?_getD, he, hc]
  simp only [hget]
  exact decide_eq_decide.2 (by omega)

theorem balMod_refuses {e : List Nat} (he : e.length = 16) (hbad : e.any (fun x => decide (4095 < x)) = true) :
    ∃ t, exec (.balMod n h [e]) s = .next t ∧ HopsOnly n h h (s.dev.port n).head s t ∧ t.dev.regs = s.dev.regs ∧
      (t.dev.port n).mod h = s.dev.modNow n h ∧ ((t.dev.port n).record h).res = 2 := by
  have hreply : balReply s.dev.time.now h [e] h (s.dev.modNow n h) = (s.dev.modNow n h, 2, []) := by
    unfold balReply
    rw [ownEntry, padTo_length 0 he]
    exact if_pos hbad
  obtain ⟨hhops, hm, hr⟩ := hop_answered hx (.refl _) hreply (.refl _)
  exact ⟨_, exec_balMod hn e, hhops, (hopsRun_one false _ n h s.dev).regs, hm, congrArg Rec.res hr⟩

omit hn hx in
theorem startReply_own (d : Dev) (e : Word) (sh : List Int) (h : Nat) (m : Module) :
    startReply d h [e] [sh] h m =
      if badTest e then (m, 2, m.testData)
      else if e.bit 24 then
        if m.test.isSome then (m, 3, m.testData) else ({ m with test := some (d.newTest e sh) }, 0, m.testData)
      else (m, 0, m.testData) := by
  unfold startReply
  rw [ownEntry, ownEntry]
  rfl

/-- A BALTEST entry that is malformed, that asks for no start, or that meets a running test leaves the module; another starts a test. -/
theorem baltestStart_writes (e : Word) (sh : List Int) :
    let M := s.dev.modNow n h
    ∃ t, exec (.baltestStart n h [e] [sh]) s = .next t ∧ HopsOnly n h h (s.dev.port n).head s t ∧ t.dev.regs = s.dev.regs ∧
      (badTest e = true → (t.dev.port n).mod h = M ∧ (t.dev.port n).record h = { res := 2, hop := h, data := M.testData }) ∧
      (badTest e = false → e.bit 24 = false → (t.dev.port n).mod h = M ∧ ((t.dev.port n).record h).data = M.testData) ∧
      (badTest e = false → e.bit 24 = true → M.test ≠ none →
        (t.dev.port n).mod h = M ∧ (t.dev.port n).record h = { res := 3, hop := h, data := M.testData }) ∧
      (badTest e = false → e.bit 24 = true → M.test = none → ∃ r, (t.dev.port n).mod h =
          ({ M with test := some { start := s.dev.testStart (e.field 23 16), dwell := e.field 23 16, mask := e.field 15 0, res := r } } :
            Module).note s.dev.time.now ∧
        ∀ c, c < 16 → r.getD c 0 = (if e.bit c then sh.getD c 0 else -32768)) := by
  intro M
  have hrun := hopsRun_one false (startReply s.dev h [e] [sh]) n h s.dev
  have reply := startReply_own s.dev e sh h M
  have kept := fun res data (hf : startReply s.dev h [e] [sh] h M = (M, res, data)) =>
    (hop_answered hx (.refl _) hf (.refl M)).2
  refine ⟨_, exec_baltestStart hn e sh, hrun.hopsOnly (.refl _), hrun.regs, fun hbad => ?_, fun hgood hno => ?_, fun hgood hyes hbusy => ?_,
    fun hgood hyes hfree => ?_⟩
  · exact kept 2 _ (reply.trans (if_pos hbad))
  · obtain ⟨hm, hr⟩ := kept 0 M.testData ((reply.trans (if_neg (Bool.eq_false_iff.1 hgood))).trans (if_neg (Bool.eq_false_iff.1 hno)))
    exact ⟨hm, congrArg Rec.data hr⟩
  · refine kept 3 _ (((reply.trans (if_neg (Bool.eq_false_iff.1 hgood))).trans (if_pos hyes)).trans (if_pos ?_))
    exact Option.isSome_iff_ne_none.2 hbusy
  · obtain ⟨hm, -⟩ := Dev.runMods_plain (f := startReply s.dev h [e] [sh]) (List.nodup_singleton h) (List.mem_singleton_self h) hx
    have started := ((reply.trans (if_neg (Bool.eq_false_iff.1 hgood))).trans (if_pos hyes)).trans
      (if_neg (by rw [hfree]; decide))
    refine ⟨_, hm.trans (congrArg (fun a : Reply => a.1.note s.dev.time.now) started), fun c hc => ?_⟩
    simp [List.getD_eq_getElem?_getD, hc]

end

end Sys2Proof.Machine
end

section
/-! CLRST and BURST, the commands of the replay class (04 R134, R147, 09 R318). -/

namespace Sys2Proof.Machine
open Sys2Proof

/-! Time leaves a module's version and its stored records. -/

/-- `x` has the version and the stored records of `m`. -/
def Module.StoresAs (x m : Module) : Prop := x.ver = m.ver ∧ x.replay = m.replay

theorem Module.StoresAs.trans {x y z : Module} (h : x.StoresAs y) (k : y.StoresAs z) : x.StoresAs z :=
  ⟨h.1.trans k.1, h.2.trans k.2⟩

theorem Module.StoresAs.ite {x y m : Module} {p : Prop} [Decidable p] (h : x.StoresAs m) (k : y.StoresAs m) :
    (if p then x else y).StoresAs m := by
  split
  · exact h
  · exact k

theorem Module.endTest_stores (now : Nat) (m : Module) : (m.endTest now).StoresAs m := by
  unfold Module.endTest
  split
  · exact ⟨rfl, rfl⟩
  · exact .ite ⟨rfl, rfl⟩ ⟨rfl, rfl⟩

theorem Module.pass_stores (now : Nat) (m : Module) : (m.pass now).StoresAs m := by
  unfold Module.pass
  extract_lets k run c a b lost z
  have hc : c.StoresAs m := .ite ⟨rfl, rfl⟩ ⟨rfl, rfl⟩
  have ha : a.StoresAs m := ⟨hc.1, hc.2⟩
  have hb : b.StoresAs m := (Module.endTest_stores now a).trans ha
  exact .ite hb (.ite (.ite ⟨hb.1, hb.2⟩ hb) ⟨hb.1, hb.2⟩)

theorem Module.settle_stores (now : Nat) (m : Module) : (m.settle now).StoresAs m := by
  unfold Module.settle
  rw [Module.note_eq]
  exact Module.pass_stores now m

/-- Time does not decide whether a record is repeated. -/
theorem Module.stored_settle (now : Nat) (replay : Bool) (t : Option Txn) (m : Module) :
    (m.settle now).stored replay t = m.stored replay t := by
  obtain ⟨hver, hreplay⟩ := Module.settle_stores now m
  unfold Module.stored
  rw [hver, hreplay]

/-! CLRST. -/

/-- CLRST's frame reaches hop 1 intact, and hop 1 does not repeat a record. -/
def Dev.clearsHead (n : Nat) (d : Dev) : Bool := d.executes n 1 && ((((d.port n).mod 1).stored true (d.port n).flying).isNone)

/-- KAEXP of the head is cleared (04 R150). -/
def Dev.kaexpCleared (n : Nat) (t : Nat) (d : Dev) : Dev :=
  d.setPort n (fun p => { p with head := { p.head.expire t with kaexp := false } })

/-- CLRST at hop `h` (04 R134). -/
def Dev.clrst (n h : Nat) (mask : BitVec 64) (d : Dev) : Dev :=
  if mask.getLsbD 55 ∧ h ≤ 1 ∧ 1 ≤ h ∧ d.clearsHead n then
    (d.runMods n true [h] (clearReply mask)).kaexpCleared n d.time.now
  else d.runMods n true [h] (clearReply mask)

section
variable {n h : Nat} {s : State} (hn : n < s.dev.rings) (hx : s.dev.executes n h = true)
include hn

theorem exec_clrst (mask : BitVec 64) : exec (.clrst n h h mask) s = .next { s with dev := s.dev.clrst n h mask } := by
  rw [show exec (.clrst n h h mask) s = execClrst n h h mask s from rfl]
  unfold execClrst
  rw [hopRange_self]
  exact present_next _ (decide_eq_true hn)

include hx

/-- The first CLRST clears what its mask names. -/
theorem clrst_writes (h1 : 1 ≤ h) (mask : BitVec 64) (hs : (s.dev.modNow n h).stored true (s.dev.port n).flying = none) :
    ∃ t, exec (.clrst n h h mask) s = .next t ∧
      HopsOnly n h h (if mask.getLsbD 55 ∧ h = 1 then { (s.dev.port n).head.expire s.dev.time.now with kaexp := false }
        else (s.dev.port n).head) s t ∧
      t.dev.regs = s.dev.regs ∧ ((t.dev.port n).mod h).status = (s.dev.modNow n h).status &&& ~~~(mask &&& 0x0003000000000000#64) := by
  obtain ⟨hhops, hregs, ⟨notes, recs, hm⟩, -⟩ := hop_executed (f := clearReply mask) hx hs
  have hstatus := congrArg Module.status hm
  have hexec := exec_clrst (h := h) hn mask
  unfold Dev.clrst at hexec
  by_cases hhead : mask.getLsbD 55 = true ∧ h = 1
  · obtain ⟨hbit, rfl⟩ := hhead
    have hclears : s.dev.clearsHead n = true := by
      unfold Dev.clearsHead
      rw [hx, ← Module.stored_settle s.dev.time.now]
      exact Option.isNone_iff_eq_none.2 hs
    rw [if_pos ⟨hbit, le_refl 1, le_refl 1, hclears⟩] at hexec
    have hrun := hopsRun_one true (clearReply mask) n 1 s.dev
    have hcleared := HopsRun.setHead n 1 1 (fun g => { g.expire s.dev.time.now with kaexp := false }) (s.dev.runMods n true [1] (clearReply mask))
    rw [hrun.head] at hcleared
    refine ⟨_, hexec, ?_, (hrun.trans hcleared).regs, ?_⟩
    · rw [if_pos ⟨hbit, rfl⟩]
      exact (hrun.trans hcleared).hopsOnly (.refl _)
    · refine Eq.trans ?_ hstatus
      unfold Dev.kaexpCleared
      dsimp only
      rw [Dev.port_setPort]
      rfl
  · rw [if_neg (fun hc => hhead ⟨hc.1, by omega⟩)] at hexec
    refine ⟨_, hexec, ?_, hregs, hstatus⟩
    rw [if_neg hhead]
    exact hhops

/-- A repeated CLRST clears nothing again. -/
theorem clrst_repeats (mask : BitVec 64) {r : Rec} (hs : (s.dev.modNow n h).stored true (s.dev.port n).flying = some r) :
    ∃ t, exec (.clrst n h h mask) s = .next t ∧ PortOnly n s t ∧ (t.dev.port n).mod h = (s.dev.port n).mod h ∧
      (t.dev.port n).record h = { r with replay := true } ∧ (t.dev.port n).head = (s.dev.port n).head := by
  have hrun := hopsRun_one true (clearReply mask) n h s.dev
  obtain ⟨hm, hr⟩ := Dev.runMods_replayed (f := clearReply mask) (List.nodup_singleton h) (List.mem_singleton_self h) hx hs
  have hexec := exec_clrst (h := h) hn mask
  have hidle : ¬(mask.getLsbD 55 = true ∧ h ≤ 1 ∧ 1 ≤ h ∧ s.dev.clearsHead n = true) := by
    rintro ⟨-, hle, hge, hclears⟩
    obtain rfl : h = 1 := by omega
    have hnone := Option.isNone_iff_eq_none.1 (Bool.and_eq_true_iff.1 hclears).2
    rw [← Module.stored_settle s.dev.time.now] at hnone
    cases hs.symm.trans hnone
  unfold Dev.clrst at hexec
  rw [if_neg hidle] at hexec
  exact ⟨_, hexec, hrun.only.portOnly (.refl _), hm, hr, hrun.head⟩

/-! BURST. -/

omit hn hx in
/-- The fields of a BURST entry. -/
theorem burstEntry_fields {op c : Nat} (hop : op < 3) (hc : c < 16) :
    (burstEntry op c).field 3 0 = c ∧ (burstEntry op c).field 5 4 = op ∧ (burstEntry op c).field 31 6 = 0 := by
  have small : ∀ op, op < 3 → ∀ c, c < 16 →
      (burstEntry op c).field 3 0 = c ∧ (burstEntry op c).field 5 4 = op ∧ (burstEntry op c).field 31 6 = 0 := by decide
  exact small op hop c hc

omit hn hx in
theorem Module.burstOp_arm {c : Nat} (hc : c < 16) {m : Module} (hver : m.ver ≠ 2) :
    m.burstOp (burstEntry 0 c) = ({ m with burst := some (c, 0), burstReady := false, hides := [], capture := [] } : Module).ok := by
  obtain ⟨hcell, hop, hrest⟩ := burstEntry_fields (op := 0) (by decide) hc
  unfold Module.burstOp
  rw [hcell, hop, hrest, if_neg hver, if_neg (by decide), if_pos rfl]

omit hn hx in
theorem Module.burstOp_disarm {m : Module} (hver : m.ver ≠ 2) :
    m.burstOp (burstEntry 2 0) = ({ m with burst := none, burstReady := false, hides := [], capture := [] } : Module).ok := by
  obtain ⟨hcell, hop, hrest⟩ := burstEntry_fields (op := 2) (c := 0) (by decide) (by decide)
  unfold Module.burstOp
  rw [hcell, hop, hrest, if_neg hver, if_neg (by decide), if_neg (by decide), if_neg (by decide)]

omit hn hx in
/-- A FREEZE on the cell of an armed capture. -/
theorem Module.burstOp_freeze {c : Nat} (hc : c < 16) {m : Module} (hver : m.ver ≠ 2) (harmed : m.burst = some (c, 0))
    (hready : m.burstReady = false) :
    m.burstOp (burstEntry 1 c) = ({ m with burst := some (c, 1), burstReady := false, frzT := m.timersT } : Module).ok := by
  obtain ⟨hcell, hop, hrest⟩ := burstEntry_fields (op := 1) (by decide) hc
  unfold Module.burstOp
  rw [hcell, hop, hrest, if_neg hver, if_neg (by decide), if_neg (by decide), if_pos rfl, harmed]
  exact (if_neg (by simp [hready])).trans (if_neg (by decide))

omit hn in
/-- A BURST command whose entry is `x`. -/
theorem burst_writes {i : Instr} {x : Word}
    (hexec : exec i s = .next { s with dev := s.dev.runMods n true [h] (fun k m => m.burstOp ([x].getD (k - h) 0)) })
    (hs : (s.dev.modNow n h).stored true (s.dev.port n).flying = none) {z : Module} (hz : (s.dev.modNow n h).burstOp x = z.ok) :
    ∃ t, exec i s = .next t ∧ HopsOnly n h h (s.dev.port n).head s t ∧ t.dev.regs = s.dev.regs ∧
      ((t.dev.port n).mod h).burst = z.burst ∧ ((t.dev.port n).mod h).burstReady = z.burstReady := by
  obtain ⟨hhops, hregs, ⟨notes, recs, hm⟩, -⟩ := hop_executed (f := fun k m => m.burstOp ([x].getD (k - h) 0)) hx hs
  rw [ownEntry, hz] at hm
  exact ⟨_, hexec, hhops, hregs, (congrArg Module.burst hm :), (congrArg Module.burstReady hm :)⟩

/-- A v2 module does not know BURST. -/
theorem burst_unsupported (hver : (s.dev.modNow n h).ver = 2) (c : Nat) :
    ∀ i ∈ [Instr.burstArm n h [c], .burstFreeze n h [c], .burstDisarm n h h],
      ∃ t, exec i s = .next t ∧ HopsOnly n h h (s.dev.port n).head s t ∧ (t.dev.port n).mod h = s.dev.modNow n h ∧
        (t.dev.port n).record h = { res := 1, hop := h } := by
  have hs : (s.dev.modNow n h).stored true (s.dev.port n).flying = none := by
    unfold Module.stored
    rw [hver]
    cases (s.dev.port n).flying with
    | none => rfl
    | some t => rfl
  have refused : ∀ {i : Instr} {x : Word},
      exec i s = .next { s with dev := s.dev.runMods n true [h] (fun k m => m.burstOp ([x].getD (k - h) 0)) } →
      ∃ t, exec i s = .next t ∧ HopsOnly n h h (s.dev.port n).head s t ∧ (t.dev.port n).mod h = s.dev.modNow n h ∧
        (t.dev.port n).record h = { res := 1, hop := h } := fun {i x} hexec => by
    have hno : (s.dev.modNow n h).burstOp x = (s.dev.modNow n h).no 1 := if_pos hver
    obtain ⟨hm, hr⟩ := Dev.runMods_executed (f := fun k m => m.burstOp ([x].getD (k - h) 0)) (List.nodup_singleton h)
      (List.mem_singleton_self h) hx hs
    rw [ownEntry, hno] at hm hr
    refine ⟨_, hexec, (hopsRun_one true _ n h s.dev).hopsOnly (.refl _), ?_, hr⟩
    exact hm.trans ((Reply.held_refused _ _ _ _ Nat.one_ne_zero).trans (s.dev.modNow_noted n h))
  intro i hi
  simp only [List.mem_cons, List.not_mem_nil, or_false] at hi
  obtain rfl | rfl | rfl := hi
  · exact refused (exec_burstArm hn c)
  · exact refused (exec_burstFreeze hn c)
  · exact refused (exec_burstDisarm hn)

end

end Sys2Proof.Machine
end

section
/-! A ring's state, the device's own transactions and the discovery of hops leave the modules as they are (04 R145-R148, 06 R220). -/

namespace Sys2Proof.Machine
open Sys2Proof

/-- Every ring's modules are as before. -/
def ModsKept (d e : Dev) : Prop := ∀ n, (e.port n).mods = (d.port n).mods

namespace ModsKept

theorem refl (d : Dev) : ModsKept d d := fun _ => rfl

theorem trans {d e f : Dev} (h : ModsKept d e) (k : ModsKept e f) : ModsKept d f := fun n => (k n).trans (h n)

theorem ite {d e f : Dev} {p : Prop} [Decidable p] (h : ModsKept d e) (k : ModsKept d f) : ModsKept d (if p then e else f) := by
  split
  · exact h
  · exact k

theorem fold {α : Type} (l : List α) (f : α → Dev → Dev) (d : Dev) (h : ∀ a e, ModsKept e (f a e)) : ModsKept d (foldOver l f d) :=
  foldOver_keeps (ModsKept d) l f d (fun a e he => he.trans (h a e)) (refl d)

theorem mod {d e : Dev} (h : ModsKept d e) (n k : Nat) : (e.port n).mod k = (d.port n).mod k := by
  unfold Port.mod
  rw [h n]

/-- A change outside the ports. -/
theorem of_ports {d e : Dev} (h : e.ports = d.ports) : ModsKept d e := fun n => by
  unfold Dev.port
  rw [h]

theorem of_sameBut {d e : Dev} (h : Dev.sameBut d e) : ModsKept d e := of_ports (by rw [h])

theorem setReg (d : Dev) (a : Nat) (v : Word) : ModsKept d (d.setReg a v) := refl d

/-- A change of a port that leaves its modules. -/
theorem setPort (d : Dev) (n : Nat) {f : Port → Port} (h : ∀ p, (f p).mods = p.mods) : ModsKept d (d.setPort n f) := by
  intro m
  by_cases hm : m = n
  · rw [hm, Dev.port_setPort, h]
  · rw [Dev.port_setPort_other d f hm]

section
variable (d : Dev)

theorem raise (e i : Nat) : ModsKept d (d.raise e i) := of_sameBut (d.sameBut_raise e i)

theorem moorSend (m : Mooring) : ModsKept d (d.moorSend m) := by
  unfold Dev.moorSend
  exact ite (refl d) (refl d)

theorem queueDev (n code first last : Nat) (req : List Nat) (recLen : Nat) : ModsKept d (d.queueDev n code first last req recLen) := by
  have queued : ∀ (c a b : Nat) (r : List Nat) (p : Port), (p.queueDev c a b r recLen).mods = p.mods := fun c a b r p => by
    unfold Port.queueDev
    dsimp only
    split <;> rfl
  unfold Dev.queueDev
  exact ite (setPort d n (queued _ _ _ _)) (fold _ _ d fun _ e => setPort e n (queued _ _ _ _))

/-! Ring states (04 R140). -/

theorem settleState (base : Nat) : ModsKept d (d.settleState base) := by
  have settled : ModsKept d (d.settleNow base) := by
    unfold Dev.settleNow
    extract_lets old st b e
    have shown : ModsKept d e := of_ports rfl
    exact ite shown (shown.trans ((of_sameBut (e.sameBut_raiseBase 0)).trans (of_sameBut (Dev.sameBut_logRec _ _ _ _ _))))
  unfold Dev.settleState
  refine ite (ite (trans ?_ (moorSend _ _)) (refl d)) settled
  exact of_ports rfl

theorem wake : ModsKept d d.wake := by
  unfold Dev.wake
  exact ite (ite (settleState d 3) ((settleState d 3).trans (fold _ _ _ fun _ e => refl e))) (refl d)

theorem bleedStop (n : Nat) : ModsKept d (d.bleedStop n) := by
  unfold Dev.bleedStop Dev.sendZero
  refine ite (trans (trans ?_ (queueDev _ _ _ _ _ _ _)) (raise _ _ _)) (refl d)
  exact of_ports rfl

theorem disarm (n : Nat) : ModsKept d (d.disarm n) := by
  have sent : ∀ e : Dev, ModsKept e (e.sendBurst n 2) := fun e => by
    unfold Dev.sendBurst
    exact ite (queueDev e _ _ _ _ _ _) (fold _ _ e fun _ f => queueDev f _ _ _ _ _ _)
  unfold Dev.disarm
  refine ite (trans ?_ (sent _)) (refl d)
  exact of_ports rfl

theorem setRing (n st : Nat) : ModsKept d (d.setRing n st) := by
  have told : ∀ e : Dev, ModsKept e (e.tellRing n) := fun e => by
    unfold Dev.tellRing
    exact ite (moorSend e _) (refl e)
  unfold Dev.setRing
  extract_lets old a b c
  have marked : ModsKept a b := setPort a n fun _ => rfl
  have entered : ModsKept d c := marked.trans (ite (refl b) ((told b).trans (wake _)))
  exact ite (entered.trans ((bleedStop c n).trans (disarm _ n))) entered

theorem ringEvent (n : Nat) (b : Bool) : ModsKept d (d.ringEvent n b) := by
  unfold Dev.ringEvent Dev.raiseIf
  exact ite (raise d _ _) (refl d)

/-! Discovery of hops (04 R145, 06 R220). -/

theorem setIdentity (n h st : Nat) : ModsKept d (d.setIdentity n h st) := by
  have bit : ∀ (e : Dev) (b : Bool), ModsKept e (e.hopBit (A.ringAuth0 n) (A.ringAuth1 n) h b) := fun e b => by
    unfold Dev.hopBit
    exact ite (setReg e _ _) (setReg e _ _)
  unfold Dev.setIdentity
  refine ite (refl d) (trans (trans ?_ (bit _ _)) (raise _ _ _))
  exact setPort d n fun _ => rfl

theorem enumHop (n h uid : Nat) : ModsKept d (d.enumHop n h uid) := by
  unfold Dev.enumHop
  exact ite (setIdentity d _ _ _) (ite (setIdentity d _ _ _) (refl d))

theorem discEnd (n : Nat) : ModsKept d (d.discEnd n) := by
  unfold Dev.discEnd
  exact ite ((ite (setRing d n 2) (refl d)).trans (ringEvent _ n true)) (refl d)

theorem discoverNext (n a b : Nat) : ModsKept d (d.discoverNext n a b) := by
  unfold Dev.discoverNext
  exact (ite (refl d) (queueDev d _ _ _ _ _ _)).trans
    ((queueDev _ _ _ _ _ _ _).trans ((queueDev _ _ _ _ _ _ _).trans (queueDev _ _ _ _ _ _ _)))

end

/-! A ring that goes down (02 R73, 04 R145). -/

theorem unreach (n : Nat) (t : Txn) (s : State) : ModsKept s.dev (s.unreach n t).dev := by
  have cleaned : ∀ (a k : Nat) (e : Dev), ModsKept e (e.cleanPoison a k) := fun a k e => by
    unfold Dev.cleanPoison
    exact ite (refl e) (refl e)
  unfold State.unreach
  split
  · exact refl _
  · extract_lets k d
    have coded : ModsKept s.dev d := setPort s.dev n fun p => by split <;> rfl
    exact (coded.trans (of_ports rfl)).trans (cleaned _ _ d.takeFree)

theorem portDown (n st : Nat) (s : State) : ModsKept s.dev (s.portDown n st).dev := by
  have ended : ∀ u : State, ModsKept u.dev (u.endTxns n).dev := fun u => by
    unfold State.endTxns
    extract_lets own d e
    have left : ModsKept u.dev d := fold _ _ _ fun t f => setIdentity f _ _ _
    have landed : ModsKept d e := setPort d n fun _ => rfl
    exact foldOver_keeps (fun t : State => ModsKept u.dev t.dev) _ _ _ (fun t w h => h.trans (unreach n t w)) (left.trans landed)
  exact ((setRing s.dev n st).trans (ringEvent _ n true)).trans (ended _)

end ModsKept
end Sys2Proof.Machine
end

section
/-! ENUM: each module keeps its identity, and in single use the last one turns (04 R135, R137, R145). -/

namespace Sys2Proof.Machine
open Sys2Proof

/-- ENUM at hop `h` of a ring of `l` (04 R135). -/
def enumReply (dirB : Bool) (l : Nat) (ids : List ModId) (h : Nat) (m : Module) : Reply :=
  match ids[wireHop dirB l h - 1]? with
  | none => m.no 1
  | some i => ({ m with ident := some i }, 0, modIdBytes i)

/-- The hops that returned ENUM. -/
def Dev.enumHops (n : Nat) (ids : List ModId) (d : Dev) : List Nat := (span 1 ids.length).map (wireHop d.atEndB (d.ringL n))

/-- The modules' answers to ENUM. -/
def Dev.enumerated (n : Nat) (ids : List ModId) (d : Dev) : Dev :=
  d.runMods n false (d.enumHops n ids) (enumReply d.atEndB (d.ringL n) ids)

/-- A module whose URX has not locked turns the frame (04 R137). -/
def Module.turned (m : Module) : Module :=
  if m.turn = 0 ∧ m.autoTa = false then { m with autoTa := true, selfTurn := true } else m

/-- In single use the last module that returned ENUM turned it. -/
def Dev.enumTurned (n : Nat) (ids : List ModId) (d : Dev) : Dev :=
  if d.rbit (A.ringCfg n) 30 ∨ ids = [] then d.enumerated n ids else (d.enumerated n ids).setPort n (Port.setMod ids.length Module.turned)

/-- The device after ENUM's answers, with the reached count in RING.STAT. -/
def Dev.enumCounted (n : Nat) (ids : List ModId) (d : Dev) : Dev :=
  if d.atEndB then (d.enumTurned n ids).setFld (A.ringStat n) 20 14 ids.length else (d.enumTurned n ids).setFld (A.ringStat n) 27 21 ids.length

/-- What follows ENUM's answers leaves the modules; outside discovery nothing follows. -/
theorem exec_enumMod {n : Nat} {s : State} (hn : n < s.dev.rings) (ids : List ModId) :
    ∃ t, exec (.enumMod n ids) s = .next t ∧ ModsKept (s.dev.enumCounted n ids) t.dev ∧
      (s.dev.portEn n = false ∨ ((s.dev.enumCounted n ids).port n).discHop = [] → t = { s with dev := s.dev.enumCounted n ids }) := by
  rw [show exec (.enumMod n ids) s = execEnumMod n ids s from rfl]
  unfold execEnumMod
  extract_lets run hops d d' e old l bad f g
  have he : e = s.dev.enumCounted n ids := rfl
  clear_value e
  subst he
  split
  case isTrue => exact ⟨_, present_next _ (decide_eq_true hn), .refl _, fun _ => rfl⟩
  case isFalse hdisc =>
    split
    · exact ⟨_, present_next _ (decide_eq_true hn), ModsKept.portDown n 5 _, fun h => absurd h hdisc⟩
    · refine ⟨_, present_next _ (decide_eq_true hn), ?_, fun h => absurd h hdisc⟩
      have dropped : ModsKept (s.dev.enumCounted n ids) f := (ModsKept.ringEvent _ n _).trans (.setPort _ n fun _ => rfl)
      have named : ModsKept f g := .fold _ _ _ fun h k => .enumHop k n h _
      refine (dropped.trans named).trans ?_
      dsimp only [State.onDev]
      split
      · exact .discEnd g n
      · exact .discoverNext g n _ _

section
variable {n : Nat} {d : Dev} (hend : d.atEndB = false) (ids : List ModId)
include hend

theorem Dev.enumHops_endA : d.enumHops n ids = span 1 ids.length := by
  unfold Dev.enumHops
  rw [hend]
  exact List.map_id _

/-- ENUM changes the modules that it reached, and then the last one may turn. -/
theorem Dev.enumTurned_run : HopsRun n 1 ids.length (d.port n).head d (d.enumTurned n ids) := by
  have answered : HopsRun n 1 ids.length (d.port n).head d (d.enumerated n ids) := .runMods (fun k hk => by
    rw [Dev.enumHops_endA hend] at hk
    have := mem_span.1 hk
    omega) false _ d
  unfold Dev.enumTurned
  split
  case isTrue => exact answered
  case isFalse hlast =>
    have hpos : ids.length ≠ 0 := fun h => hlast (.inr (List.length_eq_zero_iff.1 h))
    have turned := HopsRun.setMod (n := n) (a := 1) (Nat.one_le_iff_ne_zero.2 hpos) (le_refl ids.length) Module.turned (d.enumerated n ids)
    rw [answered.head] at turned
    exact answered.trans turned

theorem Dev.enumCounted_eq : d.enumCounted n ids = (d.enumTurned n ids).setFld (A.ringStat n) 27 21 ids.length := by
  unfold Dev.enumCounted
  exact if_neg (by rw [hend]; decide)

/-- A module that ENUM reached keeps its identity, and the last one of a ring in single use turns. -/
theorem Dev.enumCounted_mod {h : Nat} (h1 : 1 ≤ h) (hl : h ≤ ids.length) (hx : d.executes n h = true) :
    ((d.enumCounted n ids).port n).mod h =
      (if h = ids.length ∧ d.rbit (A.ringCfg n) 30 = false ∧ (d.modNow n h).turn = 0 ∧ (d.modNow n h).autoTa = false
        then { d.modNow n h with ident := ids[h - 1]?, autoTa := true, selfTurn := true }
        else { d.modNow n h with ident := ids[h - 1]? }) := by
  have hid : ids[h - 1]? = some (ids[h - 1]'(by omega)) := List.getElem?_eq_getElem (by omega)
  have hreply : enumReply d.atEndB (d.ringL n) ids h (d.modNow n h) =
      ({ d.modNow n h with ident := ids[h - 1]? }, 0, modIdBytes (ids[h - 1]'(by omega))) := by
    unfold enumReply
    rw [hend, show wireHop false (d.ringL n) h = h from rfl, hid]
  have hnodup : (d.enumHops n ids).Nodup := by
    rw [Dev.enumHops_endA hend]
    exact span_nodup _ _
  have hmem : h ∈ d.enumHops n ids := by
    rw [Dev.enumHops_endA hend]
    exact mem_span.2 ⟨h1, by omega⟩
  have hm : ((d.enumerated n ids).port n).mod h = { d.modNow n h with ident := ids[h - 1]? } :=
    (Dev.runMods_answered hnodup hmem hx hreply ⟨rfl, rfl, rfl, rfl⟩).1
  rw [Dev.enumCounted_eq hend]
  change ((d.enumTurned n ids).port n).mod h = _
  have hids : ids ≠ [] := by
    rintro rfl
    exact absurd hl (by simp; omega)
  unfold Dev.enumTurned
  by_cases hdual : d.rbit (A.ringCfg n) 30 = true
  · rw [if_pos (.inl hdual), if_neg (by rw [hdual]; simp)]
    exact hm
  · rw [if_neg (by simp [hdual, hids]), Dev.port_setPort, Port.mod_setMod]
    by_cases hlast : h = ids.length
    · rw [if_pos hlast, ← hlast, hm]
      unfold Module.turned
      simp [hdual]
    · rw [if_neg hlast, if_neg (fun hc => hlast hc.1)]
      exact hm

end

theorem enumMod_writes {n h : Nat} {s : State} (hn : n < s.dev.rings) (h1 : 1 ≤ h) (hx : s.dev.executes n h = true) (ids : List ModId)
    (hend : s.dev.atEndB = false) (hl : h ≤ ids.length) :
    let M := s.dev.modNow n h
    ∃ t, exec (.enumMod n ids) s = .next t ∧ t.pending = s.pending ∧ ((t.dev.port n).mod h).ident = ids[h - 1]? ∧
      (s.dev.portEn n = false ∨ (s.dev.port n).discHop = [] →
        HopsOnly n 1 ids.length (s.dev.port n).head s t ∧ RegsKept [A.ringStat n] s.dev t.dev ∧
          (t.dev.port n).mod h = (if h = ids.length ∧ s.dev.rbit (A.ringCfg n) 30 = false ∧ M.turn = 0 ∧ M.autoTa = false
            then { M with ident := ids[h - 1]?, autoTa := true, selfTurn := true } else { M with ident := ids[h - 1]? })) := by
  intro M
  have hrun := Dev.enumTurned_run (n := n) hend ids
  have hmod := Dev.enumCounted_mod hend ids h1 hl hx
  obtain ⟨t, ht, hkept, hquiet⟩ := exec_enumMod hn ids
  have hpending : t.pending = s.pending := by
    have keeps := exec_keeps (.enumMod n ids) s
    rw [ht] at keeps
    exact keeps.1
  refine ⟨t, ht, hpending, ?_, fun hidle => ?_⟩
  · rw [hkept.mod, hmod]
    split
    · rfl
    · rfl
  · have hdisc : ((s.dev.enumCounted n ids).port n).discHop = (s.dev.port n).discHop := by
      rw [Dev.enumCounted_eq hend]
      exact (congrArg Port.discHop hrun.port :)
    rw [hquiet (hidle.imp_right hdisc.trans), Dev.enumCounted_eq hend]
    have hcounted := LinkKept.setReg (s.dev.enumTurned n ids) (A.ringStat n)
      (((s.dev.enumTurned n ids).reg (A.ringStat n)).setField 27 21 ids.length)
    refine ⟨hrun.hopsOnly hcounted, (RegsKept.of_regs _ hrun.regs).trans (.setReg _ _ (List.mem_singleton_self _)), ?_⟩
    rw [← Dev.enumCounted_eq hend]
    exact hmod

/-- Settles O43: one lemma for each command, from what it asks of the hop and what the hop then holds. -/
theorem moduleWrites : Obligations.ModuleWrites := by
  intro n h s hn h1 h64 hx M
  refine ⟨rangeMod_writes hn hx h1, setver_writes hn hx h64, fun a b ha hb => setdly_writes hn hx ha hb, setturnForceTa_writes hn hx,
    setturnForceTb_writes hn hx, setturnRelease_writes hn hx, cfgtag_writes hn hx, wrreg_writes hn hx,
    fun mask => ⟨clrst_writes hn hx h1 mask, fun r hr => clrst_repeats hn hx mask hr⟩,
    fun e he => ⟨balMod_writes hn hx he, balMod_refuses hn hx he⟩, baltestStart_writes hn hx, fun c hc hver hs => ⟨?_, ?_, fun harmed hready => ?_⟩,
    fun c hver => burst_unsupported hn hx hver c, fun ids hend hl => enumMod_writes hn h1 hx ids hend hl⟩
  · exact burst_writes hx (exec_burstArm hn c) hs (Module.burstOp_arm hc hver)
  · exact burst_writes hx (exec_burstDisarm hn) hs (Module.burstOp_disarm hver)
  · exact burst_writes hx (exec_burstFreeze hn c) hs (Module.burstOp_freeze hc hver harmed hready)

end Sys2Proof.Machine
end

section
/-! Transactions that the device queues for itself change ring ports only (04 R134), so bleeding that stops and strings that are
disarmed leave the registers (06 R203, 09 R317). -/

namespace Sys2Proof.Machine
open Sys2Proof

theorem Dev.queueDev_ports (n code first last : Nat) (req : List Nat) (recLen : Nat) (d : Dev) :
    d.queueDev n code first last req recLen = { d with ports := (d.queueDev n code first last req recLen).ports } := by
  unfold Dev.queueDev
  dsimp only
  split
  · rfl
  · exact foldOver_ports _ _ d fun _ _ => rfl

theorem Dev.sendBurst_ports (n op : Nat) (d : Dev) : d.sendBurst n op = { d with ports := (d.sendBurst n op).ports } := by
  unfold Dev.sendBurst
  dsimp only
  split
  · exact Dev.queueDev_ports _ _ _ _ _ _ d
  · exact foldOver_ports _ _ d fun _ e => Dev.queueDev_ports _ _ _ _ _ _ e

theorem RegsKept.refl (l : List Nat) (d : Dev) : RegsKept l d d := RegsKept.of_regs l rfl

theorem RegsKept.ite {l : List Nat} {d e f : Dev} {p : Prop} [Decidable p] (h : RegsKept l d e) (k : RegsKept l d f) :
    RegsKept l d (if p then e else f) := by
  split
  · exact h
  · exact k

theorem RegsKept.fold {α : Type} {l : List Nat} (xs : List α) (f : α → Dev → Dev) (d : Dev) (h : ∀ x e, RegsKept l e (f x e)) :
    RegsKept l d (foldOver xs f d) :=
  foldOver_keeps (RegsKept l d) xs f d (fun x e he => he.trans (h x e)) (.refl l d)

theorem RegsKept.bleedStop (l : List Nat) (n : Nat) (d : Dev) : RegsKept l d (d.bleedStop n) := by
  unfold Dev.bleedStop
  refine .ite (RegsKept.trans (.of_regs l ?_) (.raise l _ (by decide) n)) (.refl l d)
  unfold Dev.sendZero
  rw [Dev.queueDev_ports]
  rfl

theorem RegsKept.disarmAll (l : List Nat) (d : Dev) : RegsKept l d d.disarmAll := by
  refine .fold _ _ d fun n e => ?_
  unfold Dev.disarm
  refine .ite (.of_regs l ?_) (.refl l e)
  rw [Dev.sendBurst_ports]
  rfl

end Sys2Proof.Machine
end

section
/-! Writes of the registers with behaviour of their own (05 R168-R177, R192-R198, 06 R203, 09 R317, 15 R538). -/

namespace Sys2Proof.Machine
open Sys2Proof

/-! The commands: UCODE and the ACQ registers are there on every device, as is CNPY.BALEN. -/

theorem exec_acqCtlWrite (v : Word) (s : State) : exec (.acqCtlWrite v) s = .next { s with dev := s.dev.writeAcqCtl v } := rfl
theorem exec_acqFiltWrite (v : Word) (s : State) : exec (.acqFiltWrite v) s = .next { s with dev := s.dev.writeAcqFilt v } := rfl
theorem exec_acqStretchWrite (v : Word) (s : State) : exec (.acqStretchWrite v) s = .next { s with dev := s.dev.writeAcqStretch v } := rfl
theorem exec_acqValcfgWrite (v : Word) (s : State) : exec (.acqValcfgWrite v) s = .next { s with dev := s.dev.writeAcqValcfg v } := rfl
theorem exec_cnpyBalen0Write (v : Word) (s : State) : exec (.cnpyBalenWrite 0 v) s = .next { s with dev := s.dev.writeBalen 0 v } := rfl
theorem exec_cnpyBalen1Write (v : Word) (s : State) : exec (.cnpyBalenWrite 1 v) s = .next { s with dev := s.dev.writeBalen 1 v } := rfl

/-- CNPY.IMPCTL is there where the impedance unit is fitted (00 R8, 19 R599). -/
theorem exec_cnpyImpctlWrite (v : Word) {s : State} (h : s.dev.hasImp = true) :
    exec (.cnpyImpctlWrite v) s = .next { s with dev := s.dev.writeImpctl v } := by
  have present : s.dev.absentAt A.cnpyImpctl = false := by
    change (!s.dev.hasImp) = false
    rw [h]
    rfl
  refine next_dev_congr ?_
  unfold Dev.ctlWrite
  rw [present]
  rfl

/-- Any pair but 0 writes the UCODE of pair 1. -/
theorem exec_ucodeWrite (p : Nat) (v : Word) (s : State) :
    exec (.ucodeWrite p v) s = .next { s with dev := s.dev.writeUcode (if p = 0 then 0 else 1) v } := by
  refine next_dev_congr ?_
  split
  · rfl
  · rfl

/-! Fields that a write sets when their value is in range, and else leaves with event 135. -/

/-- Field `hi..lo` of register `a` is `x` when that is in range (`ok`), and otherwise as it was, with event 135 pending. Nothing else of the
registers outside EVT and LOG changed, and no pending event was lost. -/
structure FieldTaken (ok : Prop) [Decidable ok] (a hi lo x : Nat) (d e : Dev) : Prop where
  fld : e.fld a hi lo = if ok then x else d.fld a hi lo
  apart : ∀ hi' lo', hi' < 32 → hi < lo' ∨ hi' < lo → e.fld a hi' lo' = d.fld a hi' lo'
  refused : ¬ ok → e.eventPending 135 = true
  kept : RegsKept [a] d e
  pend : PendKept d e

/-- Outside EVT and LOG a register holds no pending bit. -/
theorem PendKept.setReg_outside (d : Dev) {a : Nat} (v : Word) (h : evtArea a = false) : PendKept d (d.setReg a v) := by
  refine .setReg d v ?_
  by_contra hin
  rw [evtArea_of_evt (by omega) (by omega)] at h
  cases h

theorem Dev.fieldTaken (ok : Prop) [Decidable ok] {a hi lo x : Nat} (d : Dev) (hw : hi < 32) (hl : lo ≤ hi) (hx : x < 2 ^ (hi + 1 - lo))
    (ha : evtArea a = false) : FieldTaken ok a hi lo x d (if ok then d.setFld a hi lo x else d.raise 135 0) := by
  by_cases h : ok
  · rw [if_pos h]
    exact
      { fld := by rw [if_pos h, Dev.fld_setFld_same d a x hw hl, Nat.mod_eq_of_lt hx]
        apart := fun _ _ hw' hap => Dev.fld_setFld_apart d a x hw hl hw' hap
        refused := fun hn => absurd h hn
        kept := .setReg d _ List.mem_cons_self
        pend := .setReg_outside d _ ha }
  · rw [if_neg h]
    have same := d.reg_raise ha (e := 135) (by decide) 0
    exact
      { fld := by rw [if_neg h, Dev.fld_congr same]
        apart := fun hi' lo' _ _ => Dev.fld_congr same hi' lo'
        refused := fun _ => d.raise_pending (by decide) 0
        kept := .raise _ d (by decide) 0
        pend := (d.raise_regsRaised (by decide) 0).pend }

theorem Word.field_lt (w : Word) (hi lo : Nat) : w.field hi lo < 2 ^ (hi + 1 - lo) := Nat.mod_lt _ (Nat.two_pow_pos _)

/-- P set or left. -/
def Dev.acqCtlPeriod (v : Word) (d : Dev) : Dev :=
  if 10 ≤ v.field 31 20 ∧ v.field 31 20 ≤ 4000 then d.setFld A.acqCtl 31 20 (v.field 31 20) else d.raise 135 0

/-- P and OFFSET, each set or left. -/
def Dev.acqCtlFields (v : Word) (d : Dev) : Dev :=
  if 14000 ≤ v.field 15 0 then (d.acqCtlPeriod v).setFld A.acqCtl 15 0 (v.field 15 0) else (d.acqCtlPeriod v).raise 135 0

theorem Dev.raiseIf_regsRaised (d : Dev) (b : Bool) {e : Nat} (he : e < 384) (i : Nat) : RegsRaised [e, 367] d (d.raiseIf b e i) := by
  unfold Dev.raiseIf
  split
  · exact d.raise_regsRaised he i
  · exact .of_regs _ rfl

/-- Once the fields are set, a period below the program set's T raises event 381 (03 R105). -/
theorem Dev.writeAcqCtl_raised (v : Word) (d : Dev) : RegsRaised [381, 367] (d.acqCtlFields v) (d.writeAcqCtl v) := by
  unfold Dev.writeAcqCtl
  extract_lets p o old e f
  change RegsRaised _ f _
  split
  · exact .of_regs _ rfl
  · exact f.raiseIf_regsRaised _ (by decide) _

theorem acqCtl_written (v : Word) (s : State) :
    ∃ t, exec (.acqCtlWrite v) s = .next t ∧ DevOnly s t ∧ RegsKept [A.acqCtl] s.dev t.dev ∧
      t.dev.fld A.acqCtl 31 20 = (if 10 ≤ v.field 31 20 ∧ v.field 31 20 ≤ 4000 then v.field 31 20 else s.dev.fld A.acqCtl 31 20) ∧
      t.dev.fld A.acqCtl 15 0 = (if 14000 ≤ v.field 15 0 then v.field 15 0 else s.dev.fld A.acqCtl 15 0) ∧
      (¬ (10 ≤ v.field 31 20 ∧ v.field 31 20 ≤ 4000) ∨ v.field 15 0 < 14000 → t.dev.eventPending 135 = true) := by
  have period : FieldTaken (10 ≤ v.field 31 20 ∧ v.field 31 20 ≤ 4000) A.acqCtl 31 20 (v.field 31 20) s.dev (s.dev.acqCtlPeriod v) :=
    s.dev.fieldTaken _ (by decide) (by decide) (Word.field_lt v 31 20) (by decide)
  have offset : FieldTaken (14000 ≤ v.field 15 0) A.acqCtl 15 0 (v.field 15 0) (s.dev.acqCtlPeriod v) (s.dev.acqCtlFields v) :=
    (s.dev.acqCtlPeriod v).fieldTaken _ (by decide) (by decide) (Word.field_lt v 15 0) (by decide)
  have last := s.dev.writeAcqCtl_raised v
  have same : (s.dev.writeAcqCtl v).reg A.acqCtl = (s.dev.acqCtlFields v).reg A.acqCtl := last.kept _ (by decide) List.not_mem_nil
  have kept : RegsKept [A.acqCtl] s.dev (s.dev.writeAcqCtl v) :=
    (period.kept.trans offset.kept).trans fun a ha _ => last.kept a ha List.not_mem_nil
  refine ⟨_, exec_acqCtlWrite v s, ⟨rfl, rfl⟩, kept, ?_, ?_, fun h => ?_⟩
  · exact (Dev.fld_congr same 31 20).trans ((offset.apart 31 20 (by decide) (by decide)).trans period.fld)
  · rw [← period.apart 15 0 (by decide) (by decide)]
    exact (Dev.fld_congr same 15 0).trans offset.fld
  · refine last.pend.eventPending (by decide) ?_
    obtain h | h := h
    · exact offset.pend.eventPending (by decide) (period.refused h)
    · exact offset.refused (Nat.not_le.2 h)

theorem acqValcfg_written (v : Word) (s : State) :
    ∃ t, exec (.acqValcfgWrite v) s = .next t ∧ DevOnly s t ∧ RegsKept [A.acqValcfg] s.dev t.dev ∧
      t.dev.fld A.acqValcfg 2 0 = (if v.field 2 0 = 0 then s.dev.fld A.acqValcfg 2 0 else v.field 2 0) ∧
      (v.field 2 0 = 0 → t.dev.eventPending 135 = true) := by
  have taken := s.dev.fieldTaken (¬ v.field 2 0 = 0) (a := A.acqValcfg) (by decide) (by decide) (Word.field_lt v 2 0) (by decide)
  rw [ite_not] at taken
  exact ⟨_, exec_acqValcfgWrite v s, ⟨rfl, rfl⟩, taken.kept, by rw [← ite_not]; exact taken.fld, fun h => taken.refused (not_not_intro h)⟩

/-! EN in bit 31 and a threshold in bits 15 to 0: ACQ.STRETCH and CNPY.IMPCTL. -/

/-- Register `a` with EN and its threshold taken from `v`. -/
def Dev.setEnable (a : Nat) (v : Word) (d : Dev) : Dev := (d.setRbit a 31 (v.bit 31)).setFld a 15 0 (v.field 15 0)

theorem RegsKept.setEnable (a : Nat) (v : Word) (d : Dev) : RegsKept [a] d (d.setEnable a v) :=
  (RegsKept.setReg d _ List.mem_cons_self).trans (.setReg _ _ List.mem_cons_self)

theorem Dev.rbit_setEnable (a : Nat) (v : Word) (d : Dev) : (d.setEnable a v).rbit a 31 = v.bit 31 := by
  unfold Dev.setEnable
  rw [Dev.rbit_setFld _ _ _ (by decide) (by decide) (by decide), if_neg (by decide), Dev.rbit_setRbit _ _ _ _ _ (by decide) (by decide), if_pos rfl]

theorem Dev.fld_setEnable (a : Nat) (v : Word) (d : Dev) : (d.setEnable a v).fld a 15 0 = v.field 15 0 := by
  unfold Dev.setEnable
  rw [Dev.fld_setFld_same _ _ _ (by decide) (by decide), Nat.mod_eq_of_lt (Word.field_lt v 15 0)]

/-- Of the registers EN and IQUIET alone are set; EN decides on the stretch. -/
theorem Dev.writeAcqStretch_time (v : Word) (d : Dev) : ∃ x : TimeSt, d.writeAcqStretch v = { d.setEnable A.acqStretch v with time := x } := by
  unfold Dev.writeAcqStretch
  dsimp only
  split
  · exact ⟨_, rfl⟩
  · exact ⟨_, rfl⟩

theorem acqStretch_written (v : Word) (s : State) :
    ∃ t, exec (.acqStretchWrite v) s = .next t ∧ PlantOnly s t ∧ RegsKept [A.acqStretch] s.dev t.dev ∧
      t.dev.rbit A.acqStretch 31 = v.bit 31 ∧ t.dev.fld A.acqStretch 15 0 = v.field 15 0 := by
  obtain ⟨x, hx⟩ := s.dev.writeAcqStretch_time v
  refine ⟨_, (exec_acqStretchWrite v s).trans (next_dev_congr hx), PlantKept.plantOnly (PlantKept.refl _), RegsKept.setEnable _ v _, ?_, ?_⟩
  · exact Dev.rbit_setEnable _ v _
  · exact Dev.fld_setEnable _ v _

theorem cnpyImpctl_written (v : Word) {s : State} (h : s.dev.hasImp = true) :
    ∃ t, exec (.cnpyImpctlWrite v) s = .next t ∧ DevOnly s t ∧ t.dev.rbit A.cnpyImpctl 31 = v.bit 31 ∧
      t.dev.fld A.cnpyImpctl 15 0 = v.field 15 0 := by
  have same : (s.dev.writeImpctl v).reg A.cnpyImpctl = (s.dev.setEnable A.cnpyImpctl v).reg A.cnpyImpctl := by
    unfold Dev.writeImpctl
    dsimp only
    split
    · rfl
    · exact RegsKept.disarmAll [] _ _ (by decide) List.not_mem_nil
  refine ⟨_, exec_cnpyImpctlWrite v h, ⟨rfl, rfl⟩, ?_, ?_⟩
  · exact (Dev.rbit_congr same 31).trans (Dev.rbit_setEnable _ v _)
  · exact (Dev.fld_congr same 15 0).trans (Dev.fld_setEnable _ v _)

/-! ACQ.FILT (05 R172, R177, R197). -/

/-- Of the registers outside EVT and LOG only ACQ.FILT may differ, and nothing of the plant. -/
def FiltKept (d e : Dev) : Prop := RegsKept [A.acqFilt] d e ∧ PlantKept d e

theorem FiltKept.refl (d : Dev) : FiltKept d d := ⟨.refl _ d, .refl d⟩

theorem FiltKept.trans {d e f : Dev} (h : FiltKept d e) (k : FiltKept e f) : FiltKept d f := ⟨h.1.trans k.1, h.2.trans k.2⟩

/-- A write of the register, with a change of the acquisition unit. -/
theorem FiltKept.setFilt (d : Dev) (w : Word) (q : AcqSt) : FiltKept d { d.setReg A.acqFilt w with acq := q } :=
  ⟨.setReg d w List.mem_cons_self, .refl d⟩

theorem FiltKept.writeCorner (n : Nat) (v : Word) (d : Dev) : FiltKept d (d.writeCorner n v) := by
  unfold Dev.writeCorner
  dsimp only
  split
  · exact ⟨.raise _ d (by decide) 0, .of_sameBut (d.sameBut_raise 135 0)⟩
  · split
    · exact .refl d
    · exact .setFilt d _ _

theorem FiltKept.writeRange (n : Nat) (v : Word) (d : Dev) : FiltKept d (d.writeRange n v) := by
  unfold Dev.writeRange
  split
  · exact .refl d
  · dsimp only
    split
    · exact .setFilt d _ _
    · exact .setFilt d _ _

theorem acqFilt_written (v : Word) (s : State) :
    ∃ t, exec (.acqFiltWrite v) s = .next t ∧ PlantOnly s t ∧ RegsKept [A.acqFilt] s.dev t.dev := by
  have corners : FiltKept s.dev ((((s.dev.writeCorner 0 v).writeCorner 1 v).writeCorner 2 v).writeCorner 3 v) :=
    (((FiltKept.writeCorner 0 v _).trans (.writeCorner 1 v _)).trans (.writeCorner 2 v _)).trans (.writeCorner 3 v _)
  obtain ⟨hregs, hplant⟩ := corners.trans ((FiltKept.writeRange 0 v _).trans (.writeRange 1 v _))
  exact ⟨_, exec_acqFiltWrite v s, hplant.plantOnly, hregs⟩

/-! CNPY.BALEN (06 R203, R228). -/

/-- Strings whose bit falls stop bleeding, which leaves the register as written. -/
theorem Dev.writeBalen_kept (k : Nat) (v : Word) (d : Dev) :
    RegsKept [] (d.setReg (if k = 0 then A.cnpyBalen0 else A.cnpyBalen1)
      (v &&& BitVec.ofNat 32 (2 ^ (if k = 0 then min 32 d.rings else d.rings - 32) - 1))) (d.writeBalen k v) := by
  exact .fold _ _ _ fun i e => .ite (.bleedStop [] _ e) (.refl [] e)

/-- A register that holds `w`, and otherwise only events. -/
theorem regsKept_written {d e : Dev} {a : Nat} {w : Word} (ha : evtArea a = false) (h : RegsKept [] (d.setReg a w) e) :
    RegsKept [a] d e ∧ e.reg a = w :=
  ⟨(RegsKept.setReg d w List.mem_cons_self).trans fun b hb _ => h b hb List.not_mem_nil, (h a ha List.not_mem_nil).trans (Dev.reg_setReg d a w)⟩

/-! LOG.UCODE (15 R538): a USER record, or a drop. -/

/-- A record was queued behind the `n` that waited, or the next one will carry the gap flag. -/
def QueuedOrGap (n : Nat) (e : Dev) : Prop := e.log.queue.length = n + 1 ∨ e.log.gap = true

theorem Dev.bump_log (d : Dev) (c o b : Nat) : (d.bump c o b).log = d.log := by rw [d.bump_regs c o b]

/-- A record that fits is queued; one that does not sets the gap flag alone. -/
theorem Dev.logTry_cases (d : Dev) (r : LogRec) :
    (∃ x, (d.logTry r).1.log.queue = d.log.queue ++ [x]) ∧ (d.logTry r).2 = true ∨ (d.logTry r).1.log = { d.log with gap := true } := by
  unfold Dev.logTry
  extract_lets room
  split
  · exact .inl ⟨⟨_, rfl⟩, rfl⟩
  · exact .inr (Dev.bump_log _ _ _ _)

theorem Dev.logTry_queuedOrGap (d : Dev) (r : LogRec) : QueuedOrGap d.log.queue.length (d.logTry r).1 := by
  obtain ⟨⟨x, hx⟩, -⟩ | hlog := d.logTry_cases r
  · exact .inl (by rw [hx, List.length_append, List.length_singleton])
  · exact .inr (by rw [hlog])

/-- The base part of a raising leaves the log's queue and its gap flag. -/
theorem Dev.raiseBase_queue (d : Dev) (e : Nat) : (d.raiseBase e).log.queue = d.log.queue ∧ (d.raiseBase e).log.gap = d.log.gap := by
  have counted := ((d.setRbit (A.evtPend (e / 32)) (e % 32) true).bump_log (A.evtCnt e) (A.evtOvf (e / 32)) (e % 32)).trans (d.setRbit_log _ _ _)
  unfold Dev.raiseBase
  extract_lets r pend cnt l l0 l1 l2 routed
  have set0 : l0.queue = l.queue ∧ l0.gap = l.gap := by unfold l0; split <;> exact ⟨rfl, rfl⟩
  have set1 : l1.queue = l0.queue ∧ l1.gap = l0.gap := by unfold l1; split <;> exact ⟨rfl, rfl⟩
  have tcx : l2.queue = l1.queue ∧ l2.gap = l1.gap := by unfold l2; split <;> exact ⟨rfl, rfl⟩
  have kept : l2.queue = d.log.queue ∧ l2.gap = d.log.gap := by
    rw [tcx.1, tcx.2, set1.1, set1.2, set0.1, set0.2, ← counted]
    exact ⟨rfl, rfl⟩
  split
  · exact kept
  · exact kept

/-- With the gap flag set, a record is queued or the flag stays. -/
theorem Dev.logEvent_queuedOrGap {d : Dev} (h : d.log.gap = true) (e i : Nat) : QueuedOrGap d.log.queue.length (d.logEvent e i).1 := by
  unfold Dev.logEvent
  split
  · split
    · exact Dev.logTry_queuedOrGap _ _
    · exact .inr h
  · exact .inr h

/-- Event 367 after a drop may be queued, or leaves the gap flag. -/
theorem Dev.dropEvent_queuedOrGap {d : Dev} (h : d.log.gap = true) : QueuedOrGap d.log.queue.length d.dropEvent := by
  unfold Dev.dropEvent
  extract_lets due log noted
  split
  · obtain ⟨hqueue, hgap⟩ := noted.raiseBase_queue 367
    have told := Dev.logEvent_queuedOrGap (hgap.trans h) 367 0
    rwa [hqueue] at told
  · exact .inr h

theorem Dev.logRec_queuedOrGap (d : Dev) (ty e : Nat) (b : List Nat) (m : List (List Nat)) :
    QueuedOrGap d.log.queue.length (d.logRec ty e b m) := by
  unfold Dev.logRec
  extract_lets r
  split
  · exact Dev.logTry_queuedOrGap _ _
  case isFalse hdrop =>
    obtain ⟨-, hfit⟩ | hlog := Dev.logTry_cases d { ty := ty, event := e, time := d.time.now, scan := d.scan, detail := b, conts := m }
    · exact absurd hfit hdrop
    · have told := Dev.dropEvent_queuedOrGap (d := r.1) (congrArg LogSt.gap hlog)
      rwa [congrArg LogSt.queue hlog] at told

/-- A drop is counted in LOG.DROP and raises event 367, or nothing within a minute of the last time (15 R527, R530). -/
theorem Dev.dropRec_noted (d : Dev) : Dev.sameBut d d.dropRec ∧ RegsRaised [367] d d.dropRec ∧ QueuedOrGap d.log.queue.length d.dropRec := by
  have hlog := ({ d with log := { d.log with gap := true } } : Dev).bump_log A.logDrop A.logOvf 0
  have told := Dev.dropEvent_queuedOrGap (congrArg LogSt.gap hlog)
  rw [hlog] at told
  have counted := (RegsRaised.bump_logDrop [367] { d with log := { d.log with gap := true } }).of_same_regs (d := d) rfl
  exact ⟨Dev.sameBut_trans (Dev.sameBut_trans (e := { d with log := { d.log with gap := true } }) rfl (Dev.sameBut_bump _ _ _ _))
    (Dev.sameBut_dropEvent _), counted.trans (Dev.dropEvent_regsRaised _), told⟩

/-- A USER record is queued, or a drop noted: past 8 records of the scan, and for want of room. -/
theorem Dev.writeUcode_noted (p : Nat) (v : Word) (d : Dev) :
    Dev.sameBut d (d.writeUcode p v) ∧ RegsRaised [367] d (d.writeUcode p v) ∧ QueuedOrGap d.log.queue.length (d.writeUcode p v) := by
  unfold Dev.writeUcode
  extract_lets used log counted
  have hqueue : counted.log.queue = d.log.queue := by
    change (if p = 0 then { d.log with user0 := d.log.user0 + 1 } else { d.log with user1 := d.log.user1 + 1 } : LogSt).queue = _
    split <;> rfl
  split
  · exact d.dropRec_noted
  · refine ⟨Dev.sameBut_trans (e := counted) rfl (Dev.sameBut_logRec _ _ _ _ _), (Dev.logRec_regsRaised _ _ _ _ _).of_same_regs rfl, ?_⟩
    rw [← hqueue]
    exact Dev.logRec_queuedOrGap _ _ _ _ _

theorem ucode_written (p : Nat) (v : Word) (s : State) :
    ∃ t, exec (.ucodeWrite p v) s = .next t ∧ EventsOnly s.dev t.dev ∧ DevOnly s t ∧
      (t.dev.log.queue.length = s.dev.log.queue.length + 1 ∨ t.dev.log.gap = true) := by
  obtain ⟨hsame, hraised, htold⟩ := s.dev.writeUcode_noted (if p = 0 then 0 else 1) v
  exact ⟨_, exec_ucodeWrite p v s, ⟨hsame, hraised.kept⟩, ⟨rfl, rfl⟩, htold⟩

/-- Settles O38: each register by the lemma on its write. -/
theorem registerWrites : Obligations.RegisterWrites := by
  intro v s
  refine ⟨acqCtl_written v s, acqValcfg_written v s, acqStretch_written v s, acqFilt_written v s, cnpyImpctl_written v, ?_, ?_,
    fun p => ucode_written p v s⟩
  · obtain ⟨hkept, hreg⟩ := regsKept_written (by decide) (s.dev.writeBalen_kept 0 v)
    exact ⟨_, exec_cnpyBalen0Write v s, ⟨rfl, rfl⟩, hkept, hreg⟩
  · obtain ⟨hkept, hreg⟩ := regsKept_written (by decide) (s.dev.writeBalen_kept 1 v)
    exact ⟨_, exec_cnpyBalen1Write v s, ⟨rfl, rfl⟩, hkept, hreg⟩

end Sys2Proof.Machine
end

section
/-! Current samples, own results, the insulation cycle and the quiet timer (05 R170-R183). -/

namespace Sys2Proof.Machine
open Sys2Proof

/-! After a current sample is counted, what follows leaves the count (05 R169-R173, 09 R320-R323). -/

/-- Coulomb count, time of the last sample and cores are as before. -/
structure CountKept (d e : Dev) : Prop where
  coul : e.acq.coul = d.acq.coul
  sampleT : e.acq.sampleT = d.acq.sampleT
  k0 : e.k0 = d.k0
  k1 : e.k1 = d.k1

namespace CountKept

theorem refl (d : Dev) : CountKept d d := ⟨rfl, rfl, rfl, rfl⟩

theorem trans {d e f : Dev} (h : CountKept d e) (k : CountKept e f) : CountKept d f :=
  ⟨k.coul.trans h.coul, k.sampleT.trans h.sampleT, k.k0.trans h.k0, k.k1.trans h.k1⟩

theorem of_acq {d e : Dev} (ha : e.acq = d.acq) (h0 : e.k0 = d.k0) (h1 : e.k1 = d.k1) : CountKept d e := ⟨by rw [ha], by rw [ha], h0, h1⟩

theorem ite {d e f : Dev} {p : Prop} [Decidable p] (h : CountKept d e) (k : CountKept d f) : CountKept d (if p then e else f) := by
  split
  · exact h
  · exact k

theorem raise (d : Dev) (e i : Nat) : CountKept d (d.raise e i) := by
  have same := d.sameBut_raise e i
  exact of_acq (by rw [same]) (by rw [same]) (by rw [same])

theorem raiseIf (d : Dev) (b : Bool) (e i : Nat) : CountKept d (d.raiseIf b e i) := by
  unfold Dev.raiseIf
  exact ite (raise d e i) (refl d)

theorem tellStretch (d : Dev) : CountKept d d.tellStretch := by
  unfold Dev.tellStretch
  exact ite (of_acq (d.moorSend_acq _) (d.moorSend_k0 _) (d.moorSend_k1 _)) (refl d)

theorem endStretch (d : Dev) : CountKept d d.endStretch := by
  have cleared : CountKept d ((d.setRbit A.acqStat 29 false).raise 130 0) :=
    trans (e := d.setRbit A.acqStat 29 false) ⟨rfl, rfl, rfl, rfl⟩ (raise _ 130 0)
  unfold Dev.endStretch
  refine trans ?_ (tellStretch _)
  exact ⟨cleared.coul, cleared.sampleT, cleared.k0, cleared.k1⟩

theorem stepDetect (d : Dev) : CountKept d d.stepDetect.1 := by
  unfold Dev.stepDetect
  dsimp only
  split
  · exact refl d
  · exact ⟨rfl, rfl, rfl, rfl⟩

/-- A step freezes strings by BURST transactions, or is noted by event 207. -/
theorem freezeArmed (diff : Int) (d : Dev) : CountKept d (d.freezeArmed diff) := by
  have frozen : ∀ (e : Dev) (x : CnpySt) (n : Nat) (f : StrSt → StrSt),
      CountKept e (((({ e with cnpy := x } : Dev).setStr n f).sendBurst n 1).raise 207 n) := fun e x n f => by
    refine trans ?_ (raise _ 207 n)
    rw [Dev.sendBurst_ports]
    exact ⟨rfl, rfl, rfl, rfl⟩
  unfold Dev.freezeArmed
  extract_lets h j pre st held keep _ e
  refine ite (raise d 207 0) (ite (refl d) ?_)
  exact foldOver_keeps (CountKept d) _ _ e (fun n f hf => hf.trans (ite (frozen f _ n _) (refl f))) ⟨rfl, rfl, rfl, rfl⟩

end CountKept

/-- With no hold, 50 µs of the sample enter the count; samples come 50 µs apart (log entry 33). -/
theorem currentSample_counted (i : Int) {s : State} (hhold : s.dev.acq.hold = 0) :
    ∃ t, exec (.currentSample i) s = .next t ∧ DevOnly s t ∧
      t.dev.acq.coul = clampI (-(coulMax * 65536)) (coulMax * 65536) (s.dev.acq.coul + 50 * s.dev.streamI i) ∧
      t.dev.acq.sampleT = max (s.dev.acq.sampleT + 50000) s.dev.time.now ∧ t.dev.k0 = s.dev.k0 ∧ t.dev.k1 = s.dev.k1 := by
  change ∃ t, execCurrentSample i s = .next t ∧ _
  unfold execCurrentSample
  extract_lets d0 j t held x c _ q0 q _ counted noted _ stepped m iq quiet _ timed r detected stretched frozen
  have hx : x = j := if_neg (by unfold held d0; rw [hhold]; decide)
  have hcoul : counted.acq.coul = clampI (-(coulMax * 65536)) (coulMax * 65536) (d0.acq.coul + 50 * j) := by
    change clampI _ _ (d0.acq.coul + 50 * x) = _
    rw [hx]
  have kept : CountKept counted frozen := by
    have hnoted : CountKept counted noted := .raiseIf counted _ 366 0
    have htimed : CountKept noted timed := ⟨rfl, rfl, rfl, rfl⟩
    have hdetected : CountKept timed detected := .stepDetect timed
    have hstretched : CountKept detected stretched := .ite (.endStretch detected) (.refl detected)
    have hfrozen : CountKept stretched frozen := by
      unfold frozen
      split
      · exact .refl stretched
      · exact .ite (.freezeArmed _ stretched) (.refl stretched)
    exact (hnoted.trans htimed).trans ((hdetected.trans hstretched).trans hfrozen)
  exact ⟨_, rfl, ⟨rfl, rfl⟩, kept.coul.trans hcoul, kept.sampleT, kept.k0, kept.k1⟩

/-! Own results (05 R172-R184, 12 R416). -/

/-- The coming scan's views, the mirror's own results and the plant are as before. -/
structure OwnKept (d e : Dev) : Prop where
  plant : PlantKept d e
  next : e.acq.next = d.acq.next
  mine : e.acq.mine = d.acq.mine

namespace OwnKept

theorem refl (d : Dev) : OwnKept d d := ⟨.refl d, rfl, rfl⟩

theorem trans {d e f : Dev} (h : OwnKept d e) (k : OwnKept e f) : OwnKept d f :=
  ⟨h.plant.trans k.plant, k.next.trans h.next, k.mine.trans h.mine⟩

theorem fold {α : Type} (l : List α) (f : α → Dev → Dev) (d : Dev) (h : ∀ a e, OwnKept e (f a e)) : OwnKept d (foldOver l f d) :=
  foldOver_keeps (OwnKept d) l f d (fun a e he => he.trans (h a e)) (refl d)

theorem raiseIf (d : Dev) (b : Bool) (e i : Nat) : OwnKept d (d.raiseIf b e i) := by
  unfold Dev.raiseIf
  split
  · have same := d.sameBut_raise e i
    exact ⟨.of_sameBut same, by rw [same], by rw [same]⟩
  · exact refl d

theorem overStep (x : OwnIn) (j : Nat) (d : Dev) : OwnKept d (d.overStep x j) := by
  unfold Dev.overStep
  refine trans ?_ (raiseIf _ _ _ _)
  exact ⟨.refl d, rfl, rfl⟩

theorem plausStep (vals : List Int) (p : Nat × Nat) (d : Dev) : OwnKept d (d.plausStep vals p) := by
  unfold Dev.plausStep
  refine trans ?_ (raiseIf _ _ _ _)
  exact ⟨.refl d, rfl, rfl⟩

theorem ownDiffer (d : Dev) : OwnKept d d.ownDiffer := by
  unfold Dev.ownDiffer
  split
  · exact refl d
  · refine fold _ _ d fun j e => trans ?_ (raiseIf _ _ _ _)
    exact ⟨.refl e, rfl, rfl⟩

end OwnKept

/-- The view with the numbers and codes of the own values stored in its scan header. -/
def View.setOwn (own : List Int) (val : List Nat) (w : View) : View := { w with hdr := { w.hdr with own := own, val := val } }

/-- Of the coming scan's view only the own values of the header and their codes are stored. -/
theorem Dev.ownResults_header (x : OwnIn) (d : Dev) :
    PlantKept d (d.ownResults x) ∧ ∃ codes, (d.ownResults x).acq.next = d.acq.next.setOwn ((List.range 30).map (d.ownVal x)) codes := by
  unfold Dev.ownResults
  extract_lets vals ranged judged codes
  have kept : OwnKept d judged := (OwnKept.fold _ _ d fun j e => .overStep x j e).trans (.fold _ _ ranged fun p e => .plausStep vals p e)
  exact ⟨kept.plant, codes, congrArg (View.setOwn vals codes) kept.next⟩

/-- The mirror's own results stay apart from the header, which takes the primary's (05 R183). -/
theorem Dev.keepOwn_header (x : OwnIn) (d : Dev) :
    PlantKept d (d.keepOwn x) ∧ (d.keepOwn x).acq.next.hdr = d.acq.next.hdr ∧ (d.keepOwn x).acq.mine = (List.range 30).map (d.ownNum x) := by
  obtain ⟨plant, codes, hnext⟩ := d.ownResults_header x
  unfold Dev.keepOwn
  exact ⟨plant, by dsimp only; rw [hnext]; rfl, rfl⟩

theorem ownResultsReady_stored (own : OwnIn) (s : State) :
    ∃ t, exec (.ownResultsReady own) s = .next t ∧ PlantOnly s t ∧
      (s.dev.mirrors = false → t.dev.acq.next.hdr.own = (List.range 30).map (s.dev.ownVal own)) ∧
      (s.dev.mirrors = true → t.dev.acq.next.hdr = s.dev.acq.next.hdr ∧ t.dev.acq.mine = (List.range 30).map (s.dev.ownNum own)) := by
  cases hm : s.dev.mirrors with
  | true =>
    obtain ⟨plant, hhdr, hmine⟩ := s.dev.keepOwn_header own
    have differ := OwnKept.ownDiffer (s.dev.keepOwn own)
    exact ⟨_, next_dev_congr (if_pos hm), (plant.trans differ.plant).plantOnly, nofun,
      fun _ => ⟨by rw [differ.next, hhdr], by rw [differ.mine, hmine]⟩⟩
  | false =>
    obtain ⟨plant, codes, hnext⟩ := s.dev.ownResults_header own
    have hacq : (s.dev.ownResults own).tellOwn.acq = (s.dev.ownResults own).acq := Dev.moorSend_acq _ _
    refine ⟨_, next_dev_congr (if_neg (by rw [hm]; decide)), (plant.trans (.moorSend _ _)).plantOnly, fun _ => ?_, nofun⟩
    rw [hacq, hnext]
    rfl

/-! The insulation cycle (05 R175): an INVALID result wakes the device from WATCH (16 R550). -/

/-- The plant and the mark of a bad insulation result are as before, and no pending event was lost. -/
structure IsoKept (d e : Dev) : Prop where
  plant : PlantKept d e
  bad : e.acq.isoBad = d.acq.isoBad
  pend : PendKept d e

namespace IsoKept

theorem refl (d : Dev) : IsoKept d d := ⟨.refl d, rfl, .of_regs rfl⟩

theorem trans {d e f : Dev} (h : IsoKept d e) (k : IsoKept e f) : IsoKept d f := ⟨h.plant.trans k.plant, k.bad.trans h.bad, h.pend.trans k.pend⟩

theorem ite {d e f : Dev} {p : Prop} [Decidable p] (h : IsoKept d e) (k : IsoKept d f) : IsoKept d (if p then e else f) := by
  split
  · exact h
  · exact k

theorem of_raised {l : List Nat} {d e : Dev} (h : Dev.sameBut d e) (k : RegsRaised l d e) : IsoKept d e := ⟨.of_sameBut h, by rw [h], k.pend⟩

theorem setReg (d : Dev) {a : Nat} (v : Word) (h : evtArea a = false) : IsoKept d (d.setReg a v) := ⟨.refl d, rfl, .setReg_outside d v h⟩

section
variable (d : Dev)

theorem settleNow (base : Nat) : IsoKept d (d.settleNow base) := by
  unfold Dev.settleNow
  extract_lets old st b e
  have shown : IsoKept d e := (setReg d _ (by decide)).trans (setReg _ _ (by decide))
  have noted : IsoKept e ((e.raiseNoLog 0).logRec 7 0 [old, st, 0, 0, 0, 0, 0, 0] []) :=
    trans (of_raised (e.sameBut_raiseBase 0) (e.raiseBase_regsRaised (by decide)))
      (of_raised (Dev.sameBut_logRec _ _ _ _ _) (Dev.logRec_regsRaised _ _ _ _ _))
  exact ite shown (shown.trans noted)

theorem settleState (base : Nat) : IsoKept d (d.settleState base) := by
  have sent : ∀ e : Dev, IsoKept e (e.moorSend (.opState d.stampDue base)) := fun e =>
    ⟨.moorSend e _, by rw [Dev.moorSend_acq], .of_regs (e.moorSend_regs _)⟩
  have stamped : IsoKept d { d with pwr := { d.pwr with stDue := some (d.stampDue, base) } } := ⟨.refl d, rfl, .of_regs rfl⟩
  unfold Dev.settleState
  exact ite (ite (stamped.trans (sent _)) (refl d)) (settleNow d base)

theorem wake : IsoKept d d.wake := by
  have settled : IsoKept d (foldOver (List.range 30) (fun j e => e.settleOwn j 2) (d.settleState 3)) :=
    foldOver_keeps (IsoKept d) _ _ _ (fun _ e h => h.trans ⟨.refl e, rfl, .of_regs rfl⟩) (settleState d 3)
  unfold Dev.wake
  exact ite (ite (settleState d 3) settled) (refl d)

end
end IsoKept

theorem isoCycleEnd_bad (s : State) :
    ∃ t, exec (.isoCycleEnd none) s = .next t ∧ t.dev.acq.isoBad = true ∧ t.dev.eventPending 136 = true ∧ PlantOnly s t := by
  have raised : ∀ d : Dev, IsoKept d (d.raise 136 0) := fun d => .of_raised (d.sameBut_raise 136 0) (d.raise_regsRaised (by decide) 0)
  have woken := IsoKept.wake (({ s.dev with acq := { s.dev.acq with isoBad := true, isoSkip := s.dev.acq.isoSkip - 1 } } : Dev).raise 136 0)
  exact ⟨_, rfl, woken.bad.trans (raised _).bad, woken.pend.eventPending (by decide) (Dev.raise_pending _ (by decide) 0),
    ((raised _).plant.trans woken.plant).plantOnly⟩

/-! The quiet timer (05 R170). -/

theorem quietTimerExpiry_asked (s : State) :
    ∃ t, exec .quietTimerExpiry s = .next t ∧ t.dev = { s.dev with time := t.dev.time } ∧ DevOnly s t ∧
      (t.dev.time.stretchReq = true ↔ s.dev.time.stretchReq = true ∨
        (s.dev.isRun = true ∧ s.dev.rbit A.acqStretch 31 = true ∧ s.dev.runPeriod < 20000000 ∧ s.dev.time.stretched = false ∧
          s.dev.follows = false)) := by
  change ∃ t, execQuietTimerExpiry s = .next t ∧ _
  unfold execQuietTimerExpiry
  extract_lets d ok
  have hok : ok = true ↔ d.isRun = true ∧ d.rbit A.acqStretch 31 = true ∧ d.runPeriod < 20000000 ∧ d.time.stretched = false ∧
      d.follows = false := by
    simp [ok, and_assoc]
  by_cases h : ok = true
  · rw [if_pos h]
    exact ⟨_, rfl, rfl, ⟨rfl, rfl⟩, fun _ => .inr (hok.1 h), fun _ => rfl⟩
  · rw [if_neg h]
    exact ⟨_, rfl, rfl, ⟨rfl, rfl⟩, .inl, fun hor => hor.resolve_right fun hasked => h (hok.2 hasked)⟩

end Sys2Proof.Machine
end

section
/-! Calibration of the own current channels (05 R187-R189). -/

namespace Sys2Proof.Machine
open Sys2Proof

/-- No calibration run in progress. -/
def AcqSt.endCal (q : AcqSt) : AcqSt := { q with cal := none }

/-- A run ends: its state shown, event 131 pending, and no run in progress. -/
structure CalEnded (st : Nat) (d e : Dev) : Prop where
  plant : PlantKept d e
  acq : e.acq = d.acq.endCal
  state : e.fld A.acqCalstat 2 0 = st
  event : e.eventPending 131 = true

theorem PlantKept.setAcq (d : Dev) (q : AcqSt) : PlantKept d { d with acq := q } := PlantKept.refl d

theorem Dev.calEnd_ended {st : Nat} (hst : st < 8) (mask : Nat) (d : Dev) : CalEnded st d (d.calEnd st mask) := by
  have base := (d.setFld A.acqCalstat 2 0 st).sameBut_raiseBase 131
  have raised := (d.setFld A.acqCalstat 2 0 st).raiseBase_regsRaised (e := 131) (by decide)
  have record : ∀ e : Dev, Dev.sameBut e (e.logRec 4 131 [st, mask, 0, 0, 0, 0, 0, 0] []) := fun e => e.sameBut_logRec _ _ _ _
  have recorded : ∀ e : Dev, RegsRaised [367] e (e.logRec 4 131 [st, mask, 0, 0, 0, 0, 0, 0] []) := fun e => e.logRec_regsRaised _ _ _ _
  have baseAcq : ((d.setFld A.acqCalstat 2 0 st).raiseBase 131).acq = d.acq := by
    rw [base]
    rfl
  have recordAcq : ∀ e : Dev, (e.logRec 4 131 [st, mask, 0, 0, 0, 0, 0, 0] []).acq = e.acq := fun e => by rw [record e]
  have shown : (d.calEnd st mask).reg A.acqCalstat = (d.setFld A.acqCalstat 2 0 st).reg A.acqCalstat :=
    ((recorded _).kept A.acqCalstat (by decide) List.not_mem_nil).trans (raised.kept A.acqCalstat (by decide) List.not_mem_nil)
  exact
    { plant := ((PlantKept.of_sameBut base).trans (.setAcq _ _)).trans (.of_sameBut (record _))
      acq := (recordAcq _).trans (congrArg AcqSt.endCal baseAcq)
      state := (Dev.fld_congr shown 2 0).trans ((Dev.fld_setFld_same _ _ _ (by decide) (by decide)).trans (Nat.mod_eq_of_lt hst))
      event := (recorded _).pend.eventPending (by decide)
        ((d.setFld A.acqCalstat 2 0 st).raiseBase_pending (e := 131) (by decide)) }

/-! CAL_START (05 R187-R188). -/

/-- The device with no run asked for. -/
def Dev.calTaken (d : Dev) : Dev := { d with acq := { d.acq with calReq := none } }

/-- The device with a run for the channels of `m` just begun: state 1 and no samples. -/
def Dev.calBegun (m : Nat) (d : Dev) : Dev :=
  ({ d with acq := { d.acq with cal := some { mask := m, samples := [], ready := false } } } : Dev).setFld A.acqCalstat 2 0 1

section
variable {d : Dev} {m q : Nat} {hv : Bool}

theorem Dev.calStart_running {r : CalRun} (h : d.acq.cal = some r) : d.calStart m q hv = d.calTaken := if_pos (by rw [h]; rfl)

theorem Dev.calStart_idle (h : d.acq.cal = none) :
    d.calStart m q hv = if d.calOk m q hv then d.calTaken.calBegun m else d.calTaken.calEnd 3 m := if_neg (by rw [h]; decide)

theorem Dev.calStart_met (h : d.acq.cal = none) (hok : d.calOk m q hv = true) : d.calStart m q hv = d.calTaken.calBegun m := by
  rw [Dev.calStart_idle h, if_pos hok]

theorem Dev.calStart_failed (h : d.acq.cal = none) (hok : d.calOk m q hv = false) : d.calStart m q hv = d.calTaken.calEnd 3 m := by
  rw [Dev.calStart_idle h, if_neg (by rw [hok]; decide)]

end

/-- START only asks for a run: CAL_START takes its mask and begins it, or ends it at once (log entry 23). -/
theorem calStart_begun (mask q : Nat) (hv : Bool) (s : State) :
    let m := s.dev.acq.calReq.getD (s.dev.fld A.acqCalctl 7 4)
    ∃ t, exec (.calStart .task mask q hv) s = .next t ∧ PlantOnly s t ∧ t.dev.acq.calReq = none ∧
      (s.dev.acq.cal.isSome = true → t.dev = { s.dev with acq := { s.dev.acq with calReq := none } }) ∧
      (s.dev.acq.cal = none → s.dev.calOk m q hv = true →
        t.dev.acq.cal = some { mask := m, samples := [], ready := false } ∧ t.dev.fld A.acqCalstat 2 0 = 1) ∧
      (s.dev.acq.cal = none → s.dev.calOk m q hv = false →
        t.dev.acq.cal = none ∧ t.dev.fld A.acqCalstat 2 0 = 3 ∧ t.dev.eventPending 131 = true) := by
  intro m
  have taken : exec (.calStart .task mask q hv) s = .next { s with dev := s.dev.calStart m q hv } := rfl
  have plant : PlantKept s.dev s.dev.calTaken := .setAcq _ _
  cases hrun : s.dev.acq.cal with
  | some r => exact ⟨_, taken.trans (next_dev_congr (Dev.calStart_running hrun)), plant.plantOnly, rfl, fun _ => rfl, nofun, nofun⟩
  | none =>
    cases hpre : s.dev.calOk m q hv with
    | true =>
      have state : (s.dev.calTaken.calBegun m).fld A.acqCalstat 2 0 = 1 := Dev.fld_setFld_same _ _ _ (by decide) (by decide)
      exact ⟨_, taken.trans (next_dev_congr (Dev.calStart_met hrun hpre)), PlantKept.plantOnly plant, rfl, nofun, fun _ _ => ⟨rfl, state⟩, nofun⟩
    | false =>
      have ended := Dev.calEnd_ended (st := 3) (by decide) m s.dev.calTaken
      exact ⟨_, taken.trans (next_dev_congr (Dev.calStart_failed hrun hpre)), (plant.trans ended.plant).plantOnly, congrArg AcqSt.calReq ended.acq,
        nofun, nofun, fun _ _ => ⟨congrArg AcqSt.cal ended.acq, ended.state, ended.event⟩⟩

/-! CAL_SAMPLE (05 R188). -/

/-- The run with one sample a channel more, of the pin values `v`. -/
def CalRun.sampled (d : Dev) (v : List Int) (r : CalRun) : CalRun :=
  { r with samples := r.samples ++ [(List.range 4).map fun j => d.scaled j (v.getD j 0)], ready := decide (64 ≤ r.samples.length + 1) }

section
variable {v : List Int} {q : Nat} {hv : Bool} {s : State}

theorem exec_calSample_none (h : s.dev.acq.cal = none) : exec (.calSample v q hv) s = .next s := by
  change execCalSample v q hv s = _
  unfold execCalSample
  rw [h]

/-- A run that has its samples takes no more. -/
theorem exec_calSample_ready {r : CalRun} (h : s.dev.acq.cal = some r) (hr : r.ready = true) : exec (.calSample v q hv) s = .next s := by
  change execCalSample v q hv s = _
  unfold execCalSample
  rw [h]
  exact if_pos hr

theorem exec_calSample_taken {r : CalRun} (h : s.dev.acq.cal = some r) (hr : r.ready = false) (hok : s.dev.calOk r.mask q hv = true) :
    exec (.calSample v q hv) s = .next { s with dev := { s.dev with acq := { s.dev.acq with cal := some (r.sampled s.dev v) } } } := by
  change execCalSample v q hv s = _
  unfold execCalSample
  rw [h]
  exact (if_neg (by rw [hr]; decide)).trans (if_pos hok)

theorem exec_calSample_failed {r : CalRun} (h : s.dev.acq.cal = some r) (hr : r.ready = false) (hok : s.dev.calOk r.mask q hv = false) :
    exec (.calSample v q hv) s = .next { s with dev := s.dev.calEnd 4 r.mask } := by
  change execCalSample v q hv s = _
  unfold execCalSample
  rw [h]
  exact (if_neg (by rw [hr]; decide)).trans (if_neg (by rw [hok]; decide))

end

theorem calSample_taken (v : List Int) (q : Nat) (hv : Bool) (s : State) :
    ∃ t, exec (.calSample v q hv) s = .next t ∧ PlantOnly s t ∧
      (s.dev.acq.cal = none → t = s) ∧
      (∀ r, s.dev.acq.cal = some r → r.ready = false → s.dev.calOk r.mask q hv = true →
        ∃ r', t.dev.acq.cal = some r' ∧ r'.mask = r.mask ∧ r'.samples.length = r.samples.length + 1 ∧ t.dev.regs = s.dev.regs) ∧
      (∀ r, s.dev.acq.cal = some r → r.ready = false → s.dev.calOk r.mask q hv = false →
        t.dev.acq.cal = none ∧ t.dev.fld A.acqCalstat 2 0 = 4) := by
  have unchanged : PlantOnly s s := (PlantKept.refl s.dev).plantOnly
  cases hrun : s.dev.acq.cal with
  | none => exact ⟨_, exec_calSample_none hrun, unchanged, fun _ => rfl, nofun, nofun⟩
  | some r =>
    cases hready : r.ready with
    | true =>
      refine ⟨_, exec_calSample_ready hrun hready, unchanged, nofun, ?_, ?_⟩
      · rintro _ ⟨⟩ hnot
        exact absurd (hready.symm.trans hnot) (by decide)
      · rintro _ ⟨⟩ hnot
        exact absurd (hready.symm.trans hnot) (by decide)
    | false =>
      cases hpre : s.dev.calOk r.mask q hv with
      | true =>
        refine ⟨_, exec_calSample_taken hrun hready hpre, (PlantKept.setAcq _ _).plantOnly, nofun, ?_, ?_⟩
        · rintro _ ⟨⟩ - -
          exact ⟨_, rfl, rfl, List.length_append, rfl⟩
        · rintro _ ⟨⟩ - hbad
          exact absurd (hpre.symm.trans hbad) (by decide)
      | false =>
        have ended := s.dev.calEnd_ended (st := 4) (by decide) r.mask
        refine ⟨_, exec_calSample_failed hrun hready hpre, ended.plant.plantOnly, nofun, ?_, ?_⟩
        · rintro _ ⟨⟩ - hgood
          exact absurd (hpre.symm.trans hgood) (by decide)
        · rintro _ ⟨⟩ - -
          exact ⟨congrArg AcqSt.cal ended.acq, ended.state⟩

/-! CAL_COMPUTE (05 R189). -/

/-- The offsets that a run offers: the means of its channels' samples, and for the other channels the offsets in force. -/
def Dev.calOffsets (d : Dev) (r : CalRun) : List Int :=
  (List.range 4).map fun j => if r.mask.testBit j then rndDiv ((r.chan j).foldl (· + ·) 0) 64 else d.acq.offsets.getD j 0

theorem Dev.calOffsets_other (d : Dev) {r : CalRun} {j : Nat} (hj : j < 4) (h : r.mask.testBit j = false) :
    (d.calOffsets r).getD j 0 = d.acq.offsets.getD j 0 := by
  simp [Dev.calOffsets, hj, h]

theorem exec_calCompute_none {s : State} (h : s.dev.acq.cal = none) : exec .calCompute s = .next s := by
  change execCalCompute s = _
  unfold execCalCompute
  rw [h]

/-- By means and variances a run ends, or its offsets are offered. -/
theorem exec_calCompute_some {s : State} {r : CalRun} (h : s.dev.acq.cal = some r) :
    exec .calCompute s = .next { s with dev := s.dev.calEnd 4 r.mask } ∨
      exec .calCompute s = .next { s with dev := { s.dev with acq :=
        { s.dev.acq with newOffsets := some (s.dev.calOffsets r), cal := some { r with ready := true } } } } := by
  change execCalCompute s = _ ∨ execCalCompute s = _
  unfold execCalCompute
  rw [h]
  exact ite_eq_or_eq _ _ _

theorem calCompute_judged (s : State) :
    ∃ t, exec .calCompute s = .next t ∧ PlantOnly s t ∧ (s.dev.acq.cal = none → t = s) ∧
      ∀ r, s.dev.acq.cal = some r →
        (t.dev.acq.cal = none ∧ t.dev.fld A.acqCalstat 2 0 = 4 ∧ t.dev.acq.newOffsets = s.dev.acq.newOffsets) ∨
        (t.dev.acq.cal = some { r with ready := true } ∧ ∃ l, t.dev.acq.newOffsets = some l ∧ l.length = 4 ∧
          ∀ j, j < 4 → r.mask.testBit j = false → l.getD j 0 = s.dev.acq.offsets.getD j 0) := by
  cases hrun : s.dev.acq.cal with
  | none => exact ⟨_, exec_calCompute_none hrun, (PlantKept.refl s.dev).plantOnly, fun _ => rfl, nofun⟩
  | some r =>
    obtain hbad | hgood := exec_calCompute_some hrun
    · have ended := s.dev.calEnd_ended (st := 4) (by decide) r.mask
      refine ⟨_, hbad, ended.plant.plantOnly, nofun, ?_⟩
      rintro _ ⟨⟩
      exact .inl ⟨congrArg AcqSt.cal ended.acq, ended.state, (congrArg AcqSt.newOffsets ended.acq :)⟩
    · refine ⟨_, hgood, (PlantKept.setAcq _ _).plantOnly, nofun, ?_⟩
      rintro _ ⟨⟩
      exact .inr ⟨rfl, _, rfl, rfl, fun _ => s.dev.calOffsets_other⟩

/-- Settles O40: each command by the lemma on it. -/
theorem acquisitionCommands : Obligations.AcquisitionCommands :=
  ⟨fun i _ hhold => currentSample_counted i hhold, ownResultsReady_stored, fun _ _ _ => ⟨_, rfl, rfl, rfl, rfl, rfl, rfl⟩, isoCycleEnd_bad,
    quietTimerExpiry_asked, calStart_begun, calSample_taken, calCompute_judged⟩

end Sys2Proof.Machine
end

section
/-! Commands that the device sends of its own accord over a port: they wait there, and nothing else of the port changes (04 R134, R146,
log entry 12). -/

namespace Sys2Proof.Machine
open Sys2Proof

/-- A transaction of the device's own with this code waits at the port, with a tag or for one. -/
def Port.Sends (code : Nat) (p : Port) : Prop := ∃ x ∈ p.txns ++ p.backlog, x.code = code ∧ x.holder = 0

theorem mem_insertDev_self (t : Txn) (l : List Txn) : t ∈ insertDev t l := by
  induction l with
  | nil => exact List.mem_singleton_self t
  | cons x l ih =>
    unfold insertDev
    split
    · exact List.mem_cons_of_mem x ih
    · exact List.mem_cons_self

theorem Port.queueDev_sends (code first last : Nat) (req : List Nat) (recLen : Nat) (p : Port) :
    (p.queueDev code first last req recLen).Sends code := by
  unfold Port.queueDev
  dsimp only
  split
  case h_1 => exact ⟨_, List.mem_append_right _ (List.mem_append_right _ (List.mem_singleton_self _)), rfl, rfl⟩
  case h_2 => exact ⟨_, List.mem_append_left _ (mem_insertDev_self _ _), rfl, rfl⟩

/-- Only the transactions of a port differ. -/
def Port.QueueOnly (p q : Port) : Prop := q = { p with txns := q.txns, backlog := q.backlog }

theorem Port.QueueOnly.trans {p q r : Port} (h : p.QueueOnly q) (k : q.QueueOnly r) : p.QueueOnly r := by
  unfold Port.QueueOnly at *
  rw [k, h]

theorem Port.queueDev_queueOnly (code first last : Nat) (req : List Nat) (recLen : Nat) (p : Port) :
    p.QueueOnly (p.queueDev code first last req recLen) := by
  unfold Port.queueDev
  dsimp only
  split
  · rfl
  · rfl

/-- Of the device only the transactions of port `n` changed. -/
structure QueueRun (n : Nat) (d e : Dev) : Prop where
  only : OnlyPort n d e
  port : (d.port n).QueueOnly (e.port n)

theorem QueueRun.refl (n : Nat) (d : Dev) : QueueRun n d d := ⟨.refl n d, rfl⟩

theorem QueueRun.trans {n : Nat} {d e f : Dev} (h : QueueRun n d e) (k : QueueRun n e f) : QueueRun n d f :=
  ⟨h.only.trans k.only, h.port.trans k.port⟩

theorem QueueRun.fold {α : Type} {n : Nat} (l : List α) (f : α → Dev → Dev) (d : Dev) (h : ∀ a e, QueueRun n e (f a e)) :
    QueueRun n d (foldOver l f d) :=
  foldOver_keeps (QueueRun n d) l f d (fun a e he => he.trans (h a e)) (.refl n d)

theorem QueueRun.setPort (n : Nat) (d : Dev) {f : Port → Port} (h : ∀ p : Port, p.QueueOnly (f p)) : QueueRun n d (d.setPort n f) := by
  refine ⟨.setPort n d f, ?_⟩
  rw [Dev.port_setPort]
  exact h _

/-- What every part of a fold brings about, a fold with a part brings about. -/
theorem foldOver_brings {α σ : Type} {P : σ → Prop} {l : List α} {f : α → σ → σ} (hl : l ≠ []) (h : ∀ a t, P (f a t)) (s : σ) :
    P (foldOver l f s) := by
  cases l with
  | nil => exact absurd rfl hl
  | cons a rest => exact foldOver_keeps P rest f (f a s) (fun b t _ => h b t) (h a s)

theorem frameHops_le (code reqLen recLen hops : Nat) : frameHops code reqLen recLen hops ≤ hops :=
  (List.length_filter_le _ _).trans_eq List.length_range

section
variable (n code first last : Nat) (req : List Nat) (recLen : Nat) (d : Dev)

theorem Dev.queueDev_run : QueueRun n d (d.queueDev n code first last req recLen) := by
  unfold Dev.queueDev
  dsimp only
  split
  · exact .setPort n d fun _ => Port.queueDev_queueOnly _ _ _ _ _ _
  · exact .fold _ _ d fun _ e => .setPort n e fun _ => Port.queueDev_queueOnly _ _ _ _ _ _

/-- A command split into frames has at least one. -/
theorem Dev.queueDev_sends : ((d.queueDev n code first last req recLen).port n).Sends code := by
  have sent : ∀ (e : Dev) (a b : Nat) (r : List Nat), ((e.setPort n fun p => p.queueDev code a b r recLen).port n).Sends code :=
    fun e a b r => by
      rw [Dev.port_setPort]
      exact Port.queueDev_sends _ _ _ _ _ _
  unfold Dev.queueDev
  extract_lets hops k
  split
  case isTrue => exact sent d _ _ _
  case isFalse hsplit =>
    have hk : k ≤ hops := frameHops_le _ _ _ _
    have hframes : (hops + k - 1) / k ≠ 0 := (Nat.div_pos (by omega) (by omega)).ne'
    exact foldOver_brings (P := fun e : Dev => (e.port n).Sends code) (fun h => hframes (List.range_eq_nil.1 h)) (fun _ e => sent e _ _ _) d

end

/-- Port `n` notes `f`, and a command with this code waits there; nothing else of the device changed. -/
structure Asked (n code : Nat) (f : Port → Port) (d e : Dev) : Prop where
  only : OnlyPort n d e
  port : (f (d.port n)).QueueOnly (e.port n)
  sends : (e.port n).Sends code

theorem Dev.asked (n code first last : Nat) (req : List Nat) (recLen : Nat) (f : Port → Port) (d : Dev) :
    Asked n code f d ((d.setPort n f).queueDev n code first last req recLen) := by
  obtain ⟨honly, hport⟩ := Dev.queueDev_run n code first last req recLen (d.setPort n f)
  rw [Dev.port_setPort] at hport
  exact ⟨(OnlyPort.setPort n d f).trans honly, hport, Dev.queueDev_sends _ _ _ _ _ _ _⟩

theorem OnlyPort.regs {n : Nat} {d e : Dev} (h : OnlyPort n d e) : e.regs = d.regs := by rw [h.1]

end Sys2Proof.Machine
end

section
/-! What the device asks of a hop by itself, and a hop's identity without records (06 R210, R218-R222). -/

namespace Sys2Proof.Machine
open Sys2Proof

/-- The device's new challenge of a hop. -/
def Port.noteChallenge (h : Nat) (ch : List Nat) (p : Port) : Port := { p with challenge := FMap.set (fun _ => []) p.challenge h ch }

/-- The first step of a hop's configuration sequence. -/
def Port.noteCfg (h : Nat) (p : Port) : Port := { p with cfgStep := FMap.set (fun _ => 0) p.cfgStep h 1 }

/-- A hop's balance-switch test in its first pass. -/
def Port.noteTest (h : Nat) (p : Port) : Port := { p with btRun := FMap.set (fun _ => none) p.btRun h (some {}) }

theorem Port.challengeOf_noteChallenge (h : Nat) (ch : List Nat) (p : Port) : (p.noteChallenge h ch).challengeOf h = ch :=
  FMap.get_set_same (fun _ => []) p.challenge h ch

theorem Port.cfgAt_noteCfg (h : Nat) (p : Port) : (p.noteCfg h).cfgAt h = 1 := FMap.get_set_same (fun _ => 0) p.cfgStep h 1

theorem Port.test_noteTest (h : Nat) (p : Port) : (p.noteTest h).test h = some {} := FMap.get_set_same (fun _ => none) p.btRun h (some {})

/-! A queued command leaves what the port noted. -/

theorem Port.QueueOnly.challengeOf {p q : Port} (k : p.QueueOnly q) (h : Nat) : q.challengeOf h = p.challengeOf h := by
  rw [k]
  rfl

theorem Port.QueueOnly.cfgAt {p q : Port} (k : p.QueueOnly q) (h : Nat) : q.cfgAt h = p.cfgAt h := by
  rw [k]
  rfl

theorem Port.QueueOnly.test {p q : Port} (k : p.QueueOnly q) (h : Nat) : q.test h = p.test h := by
  rw [k]
  rfl

theorem Dev.sendChallenge_asked (n h : Nat) (d : Dev) :
    Asked n 8 (Port.noteChallenge h (challengeBytes d.freeCnt)) d.takeFree (d.sendChallenge n h) :=
  Dev.asked n 8 h h _ 20 (Port.noteChallenge h (challengeBytes d.freeCnt)) d.takeFree

theorem Dev.reconfigure_asked (n h : Nat) (d : Dev) : Asked n 10 (Port.noteCfg h) d (d.reconfigure n h) :=
  Dev.asked n 10 h h [0, 0, 0, 0] 4 (Port.noteCfg h) d

theorem Dev.queueTest_asked (n h : Nat) (d : Dev) : Asked n 33 (Port.noteTest h) d (d.queueTest n h) :=
  Dev.asked n 33 h h _ 36 (Port.noteTest h) d

/-- A hop that enters another identity state shows it and raises event 306 (06 R220). -/
theorem Dev.setIdentity_entered {n h st : Nat} {d : Dev} (hst : d.identity n h ≠ st) :
    ∃ e, OnlyPort n d e ∧ e.identity n h = st ∧ LinkKept e (d.setIdentity n h st) ∧
      RegsKept [A.ringAuth0 n, A.ringAuth1 n] d (d.setIdentity n h st) ∧ (d.setIdentity n h st).eventPending 306 = true := by
  unfold Dev.setIdentity
  rw [if_neg hst]
  extract_lets e
  generalize hf : e.hopBit (A.ringAuth0 n) (A.ringAuth1 n) h (st == 1 || st == 4) = f
  have hlink : LinkKept e f := hf ▸ Dev.hopBit_linkKept _ _ _ _ _
  have hregs : RegsKept [A.ringAuth0 n, A.ringAuth1 n] e f := hf ▸ Dev.hopBit_regsKept _ _ _ _ _
  refine ⟨e, .setPort n d _, ?_, hlink.trans (.raise f _ _), ?_, Dev.raise_pending f (by decide) n⟩
  · unfold Dev.identity
    rw [Dev.port_setPort]
    exact FMap.get_set_same _ _ _ _
  · exact ((RegsKept.of_regs _ rfl).trans hregs).trans (.raise _ f (by decide) n)

section
variable {n h : Nat} {s : State} (hn : n < s.dev.rings)
include hn

theorem exec_authChallengeRun : exec (.authChallengeRun n h) s = .next { s with dev := s.dev.challengeHop n h } :=
  exec_ringCmd (g := fun d => d.challengeHop n h) hn rfl

theorem authChallengeRun_sends (hkey : ¬(s.dev.identity n h = 4 ∧ s.dev.hopKey n h = 0)) (hok : s.dev.hwdOk = true)
    (hown : s.dev.challenges n h = true) :
    ∃ t, exec (.authChallengeRun n h) s = .next t ∧ PortOnly n s t ∧ t.dev.regs = s.dev.regs ∧
      (t.dev.port n).challengeOf h = challengeBytes s.dev.freeCnt ∧ (t.dev.port n).Sends 8 := by
  have hsent : s.dev.challengeHop n h = s.dev.sendChallenge n h := if_neg (by simp [hkey, hok, hown])
  have asked := s.dev.sendChallenge_asked n h
  refine ⟨_, exec_authChallengeRun hn, ?_⟩
  rw [hsent]
  -- The count of the values drawn, which alone `takeFree` changes, is no part of what a port's command leaves.
  refine ⟨OnlyPort.portOnly (s := { s with dev := s.dev.takeFree }) asked.only (.refl _), asked.only.regs, ?_, asked.sends⟩
  exact (asked.port.challengeOf h).trans (Port.challengeOf_noteChallenge h _ _)

theorem authChallengeRun_idle
    (hno : (s.dev.identity n h = 4 ∧ s.dev.hopKey n h = 0) ∨ s.dev.hwdOk = false ∨ s.dev.challenges n h = false)
    (hdisc : s.dev.discovering n h = false) : exec (.authChallengeRun n h) s = .next s := by
  rw [exec_authChallengeRun hn]
  unfold Dev.challengeHop
  rw [if_pos hno, hdisc]
  rfl

theorem cfgRetry_starts (hstale : FMap.get (fun _ => false) (s.dev.port n).cfgStale h = true) :
    ∃ t, exec (.cfgRetry n h) s = .next t ∧ PortOnly n s t ∧ t.dev.regs = s.dev.regs ∧ (t.dev.port n).cfgAt h = 1 ∧
      (t.dev.port n).Sends 10 := by
  have asked := s.dev.reconfigure_asked n h
  refine ⟨{ s with dev := s.dev.reconfigure n h }, ?_, asked.only.portOnly (.refl _), asked.only.regs, ?_, asked.sends⟩
  · refine (exec_ringCmd hn rfl).trans ?_
    rw [hstale]
    rfl
  · exact (asked.port.cfgAt h).trans (Port.cfgAt_noteCfg h _)

theorem cfgRetry_idle (hstale : FMap.get (fun _ => false) (s.dev.port n).cfgStale h = false) :
    exec (.cfgRetry n h) s = .next s := by
  refine (exec_ringCmd hn rfl).trans ?_
  rw [hstale]
  rfl

theorem balanceTestRun_starts (hauth : s.dev.authentic n h = true) :
    ∃ t, exec (.balanceTestRun n h) s = .next t ∧ PortOnly n s t ∧ t.dev.regs = s.dev.regs ∧ (t.dev.port n).test h = some {} ∧
      (t.dev.port n).Sends 33 := by
  have asked := s.dev.queueTest_asked n h
  refine ⟨{ s with dev := s.dev.queueTest n h }, ?_, asked.only.portOnly (.refl _), asked.only.regs, ?_, asked.sends⟩
  · refine (exec_ringCmd hn rfl).trans ?_
    rw [hauth]
    rfl
  · exact (asked.port.test h).trans (Port.test_noteTest h _)

theorem balanceTestRun_idle (hauth : s.dev.authentic n h = false) : exec (.balanceTestRun n h) s = .next s := by
  refine (exec_ringCmd hn rfl).trans ?_
  rw [hauth]
  rfl

theorem authRecordTimeout_fails (hnew : s.dev.identity n h ≠ 3) (hkey : ¬(s.dev.identity n h = 4 ∧ s.dev.hopKey n h = 0)) :
    ∃ t, exec (.authRecordTimeout n h) s = .next t ∧ PortOnly n s t ∧ t.dev.identity n h = 2 ∧
      RegsKept [A.ringAuth0 n, A.ringAuth1 n] s.dev t.dev ∧ (s.dev.identity n h ≠ 2 → t.dev.eventPending 306 = true) := by
  refine ⟨{ s with dev := s.dev.setIdentity n h 2 }, ?_, ?_⟩
  · refine (exec_ringCmd hn rfl).trans ?_
    rw [if_neg (by simp [hnew, hkey])]
  by_cases hfailed : s.dev.identity n h = 2
  · have hsame : s.dev.setIdentity n h 2 = s.dev := if_pos hfailed
    rw [hsame]
    exact ⟨(OnlyPort.refl n s.dev).portOnly (.refl _), hfailed, .of_regs _ rfl, fun hne => absurd hfailed hne⟩
  · obtain ⟨e, honly, hid, hlink, hregs, hpend⟩ := Dev.setIdentity_entered hfailed
    refine ⟨honly.portOnly hlink, ?_, hregs, fun _ => hpend⟩
    unfold Dev.identity
    rw [hlink.port n]
    exact hid

theorem authRecordTimeout_idle (hno : s.dev.identity n h = 3 ∨ (s.dev.identity n h = 4 ∧ s.dev.hopKey n h = 0)) :
    exec (.authRecordTimeout n h) s = .next s := by
  refine (exec_ringCmd hn rfl).trans ?_
  rw [if_pos hno]

end

end Sys2Proof.Machine
end

section
/-! Challenges, keys and the keep-alive time-out at the addressed hop (04 R150, 06 R219, R223). -/

namespace Sys2Proof.Machine
open Sys2Proof

/-- AUTHCH with challenge `ch` (06 R219). -/
def authReply (ch : List Nat) (_ : Nat) (m : Module) : Reply :=
  let a : Module := { m with nAuth := min (m.nAuth + 1) 0xFFFFFFFF }
  if m.keygen = 0 then a.no 4 else (a, 0, m.respond m.key ch)

/-- KEYSET of generation and key `x` (06 R223). -/
def keyReply (ok : Bool) (x : Nat × Nat) (_ : Nat) (m : Module) : Reply :=
  if ok && decide (m.keygen < x.1) then ({ m with key := x.2, keygen := x.1 } : Module).ok else m.no 4

theorem Port.executes_of_heard {l : Nat} {p : Port} (h : p.headDeaf l = false) :
    p.getsFrame l 1 = true ∧ p.payBad.contains 1 = false := by
  unfold Port.headDeaf at h
  simp only [Bool.or_eq_false_iff, decide_eq_false_iff_not, Nat.not_lt] at h
  obtain ⟨⟨⟨hreach, hhdr⟩, hpay⟩, -⟩ := h
  refine ⟨?_, hpay⟩
  unfold Port.getsFrame
  rw [decide_eq_true hreach, hhdr]
  rfl

section
variable {n h : Nat} {s : State} (hn : n < s.dev.rings) (hx : s.dev.executes n h = true)
include hn

theorem exec_authch :
    exec (.authch n h) s = .next { s with dev := s.dev.runMods n false [h] (authReply ((s.dev.port n).challengeOf h)) } :=
  (show exec (.authch n h) s = execAuthch n h s from rfl).trans (answer_oneHop (g := fun d => authReply ((d.port n).challengeOf h)) hn rfl)

theorem exec_keyset (ok : Bool) :
    exec (.keyset n h ok) s = .next { s with dev := s.dev.runMods n false [h] (keyReply ok ((s.dev.port n).keyFor h)) } :=
  (show exec (.keyset n h ok) s = execKeyset n h ok s from rfl).trans
    (answer_oneHop (g := fun d => keyReply ok ((d.port n).keyFor h)) hn rfl)

include hx

theorem authch_answers :
    let M := s.dev.modNow n h
    ∃ t, exec (.authch n h) s = .next t ∧ HopsOnly n h h (s.dev.port n).head s t ∧ t.dev.regs = s.dev.regs ∧
      (t.dev.port n).mod h = { M with nAuth := min (M.nAuth + 1) 0xFFFFFFFF } ∧
      (t.dev.port n).record h = (if M.keygen = 0 then { res := 4, hop := h }
        else { res := 0, hop := h, data := M.respond M.key ((s.dev.port n).challengeOf h) }) := by
  intro M
  have hregs := (hopsRun_one false (authReply ((s.dev.port n).challengeOf h)) n h s.dev).regs
  by_cases hkey : M.keygen = 0
  · obtain ⟨hhops, hm, hr⟩ := hop_answered hx (.refl _) (f := authReply ((s.dev.port n).challengeOf h)) (if_pos hkey) ⟨rfl, rfl, rfl, rfl⟩
    rw [if_pos hkey]
    exact ⟨_, exec_authch hn, hhops, hregs, hm, hr⟩
  · obtain ⟨hhops, hm, hr⟩ := hop_answered hx (.refl _) (f := authReply ((s.dev.port n).challengeOf h)) (if_neg hkey) ⟨rfl, rfl, rfl, rfl⟩
    rw [if_neg hkey]
    exact ⟨_, exec_authch hn, hhops, hregs, hm, hr⟩

theorem keyset_answers (ok : Bool) :
    let M := s.dev.modNow n h
    let x := (s.dev.port n).keyFor h
    ∃ t, exec (.keyset n h ok) s = .next t ∧ HopsOnly n h h (s.dev.port n).head s t ∧ t.dev.regs = s.dev.regs ∧
      (if ok = true ∧ M.keygen < x.1 then (t.dev.port n).mod h = { M with key := x.2, keygen := x.1 } ∧ ((t.dev.port n).record h).res = 0
        else (t.dev.port n).mod h = M ∧ ((t.dev.port n).record h).res = 4) := by
  intro M x
  have hregs := (hopsRun_one false (keyReply ok x) n h s.dev).regs
  by_cases hkey : ok = true ∧ M.keygen < x.1
  · obtain ⟨hhops, hm, hr⟩ := hop_answered hx (.refl _) (f := keyReply ok x) (if_pos (by simpa using hkey)) ⟨rfl, rfl, rfl, rfl⟩
    exact ⟨_, exec_keyset hn ok, hhops, hregs, (if_pos hkey).mpr ⟨hm, congrArg Rec.res hr⟩⟩
  · obtain ⟨hhops, hm, hr⟩ := hop_answered hx (.refl _) (f := keyReply ok x) (if_neg (by simpa using hkey)) (.refl _)
    exact ⟨_, exec_keyset hn ok, hhops, hregs, (if_neg hkey).mpr ⟨hm, congrArg Rec.res hr⟩⟩

end

section
variable {n k : Nat} {s : State} (hn : n < s.dev.rings) (hdeaf : (s.dev.port n).headDeaf (s.dev.ringL n) = false)
include hn hdeaf

/-- A head takes a time-out from 20 to 200 ms. -/
theorem exec_hdcfg_taken (h20 : 20 ≤ k) (h200 : k ≤ 200) :
    ReadsHops n 1 1 { (s.dev.port n).head.expire s.dev.time.now with kato := k } (fun _ m => m.ok) (.hdcfg n k) s := by
  refine ⟨_, HopsRun.setHead n 1 0 (fun g => { g.expire s.dev.time.now with kato := k }) s.dev, ?_⟩
  refine (exec_ringCmd hn (show exec (.hdcfg n k) s = execHdcfg n k s from rfl)).trans ?_
  rw [hdeaf, decide_eq_true h20, decide_eq_true h200]
  rfl

theorem exec_hdcfg_refused (hbad : k < 20 ∨ 200 < k) : ReadsHops n 1 1 (s.dev.port n).head (fun _ m => m.no 2) (.hdcfg n k) s := by
  refine ⟨_, .refl n 1 0 s.dev, (exec_ringCmd hn (show exec (.hdcfg n k) s = execHdcfg n k s from rfl)).trans ?_⟩
  have hok : (decide (20 ≤ k) && decide (k ≤ 200)) = false := by simp; omega
  rw [hdeaf, hok]
  rfl

theorem hdcfg_answers :
    (20 ≤ k → k ≤ 200 → ∃ t, exec (.hdcfg n k) s = .next t ∧
      HopsOnly n 1 1 { (s.dev.port n).head.expire s.dev.time.now with kato := k } s t ∧ t.dev.regs = s.dev.regs ∧
      ((t.dev.port n).record 1).res = 0) ∧
    (k < 20 ∨ 200 < k → ∃ t, exec (.hdcfg n k) s = .next t ∧ HopsOnly n 1 1 (s.dev.port n).head s t ∧ t.dev.regs = s.dev.regs ∧
      ((t.dev.port n).record 1).res = 2) := by
  have hx : s.dev.executes n 1 = true := Dev.executes_iff.2 (Port.executes_of_heard hdeaf)
  refine ⟨fun h20 h200 => ?_, fun hbad => ?_⟩
  · obtain ⟨t, ht, hhops, hregs, -, hr⟩ := (exec_hdcfg_taken hn hdeaf h20 h200).answers (le_refl 1) (le_refl 1) hx rfl (.refl _)
    exact ⟨t, ht, hhops, hregs, congrArg Rec.res hr⟩
  · obtain ⟨t, ht, hhops, hregs, -, hr⟩ := (exec_hdcfg_refused hn hdeaf hbad).answers (le_refl 1) (le_refl 1) hx rfl (.refl _)
    exact ⟨t, ht, hhops, hregs, congrArg Rec.res hr⟩

end

end Sys2Proof.Machine
end

section
/-! The balancing plan of one string (06 R202-R204, R217). -/

namespace Sys2Proof.Machine
open Sys2Proof

theorem runsOf_ne_nil {l : List Nat} (h : l ≠ []) : runsOf l ≠ [] := by
  cases l with
  | nil => exact absurd rfl h
  | cons a rest =>
    unfold runsOf
    split
    · split
      · exact List.cons_ne_nil _ _
      · exact List.cons_ne_nil _ _
    · exact List.cons_ne_nil _ _

/-- The plan of string `n` has gone out: of the ports only port `n` changed, by BAL for the modules `fit`; the string whose turn is next,
registers outside EVT and LOG, cores and protection are as before. -/
structure PlanSent (n : Nat) (fit : List Nat) (d e : Dev) : Prop where
  turn : e.cnpy.balNext = d.cnpy.balNext
  others : ∀ k, k ≠ n → e.port k = d.port k
  sends : fit ≠ [] → (e.port n).Sends 32
  quiet : fit = [] → e.ports = d.ports
  regs : RegsKept [] d e
  k0 : e.k0 = d.k0
  k1 : e.k1 = d.k1
  prot : e.prot = d.prot

/-- Only ports changed. -/
theorem PlanSent.of_onlyPort {n : Nat} {fit : List Nat} {d e : Dev} (h : OnlyPort n d e) (hs : fit ≠ [] → (e.port n).Sends 32)
    (hq : fit = [] → e.ports = d.ports) : PlanSent n fit d e := by
  obtain ⟨he, hports⟩ := h
  exact ⟨by rw [he], hports, hs, hq, .of_regs _ (by rw [he]), by rw [he], by rw [he], by rw [he]⟩

/-- The plan, and then an event. -/
theorem PlanSent.raise {n : Nat} {fit : List Nat} {d e : Dev} (h : PlanSent n fit d e) {ev : Nat} (hev : ev < 384) (i : Nat) :
    PlanSent n fit d (e.raise ev i) := by
  have hsame := e.sameBut_raise ev i
  have hlink := LinkKept.raise e ev i
  obtain ⟨k0, k1, -⟩ := hlink.plant
  refine ⟨?_, fun k hk => (hlink.port k).trans (h.others k hk), fun hf => ?_, fun hf => hlink.ports.trans (h.quiet hf),
    h.regs.trans (.raise _ e hev i), k0.trans h.k0, k1.trans h.k1, ?_⟩
  · rw [hsame]
    exact h.turn
  · rw [hlink.port n]
    exact h.sends hf
  · rw [hsame]
    exact h.prot

theorem Dev.sendPlan_sent (n : Nat) (d : Dev) : PlanSent n ((d.hopsOf n).filter (d.tagOk n)) d (d.sendPlan n) := by
  unfold Dev.sendPlan
  extract_lets p fit keep tm q e f
  have sent : PlanSent n fit e f := by
    refine .of_onlyPort (QueueRun.fold _ _ e fun r g => Dev.queueDev_run n _ _ _ _ _ g).only (fun hfit => ?_) fun hfit => ?_
    · exact foldOver_brings (P := fun g : Dev => (g.port n).Sends 32) (runsOf_ne_nil hfit) (fun r g => Dev.queueDev_sends n _ _ _ _ _ g) e
    · unfold f
      rw [hfit]
      rfl
  -- What the plan keeps is no part of `PlanSent`, nor is what a string notes.
  have kept : PlanSent n fit d f := ⟨sent.turn, sent.others, sent.sends, sent.quiet, sent.regs, sent.k0, sent.k1, sent.prot⟩
  split
  · have noted : PlanSent n fit d (f.setStr n fun x => { x with bleedOff := false }) :=
      ⟨kept.turn, kept.others, kept.sends, kept.quiet, kept.regs, kept.k0, kept.k1, kept.prot⟩
    exact noted.raise (by decide) n
  · exact kept

theorem exec_balancePlan {n : Nat} {s : State}
    (hn : (s.dev.ringsOn.find? (fun n => decide (s.dev.cnpy.balNext ≤ n)) <|> s.dev.ringsOn.head?) = some n) :
    exec .balancePlan s = .next { s with dev := ({ s.dev with cnpy := { s.dev.cnpy with balNext := n + 1 } }).sendPlan n } := by
  change execBalancePlan s = _
  unfold execBalancePlan
  dsimp only
  cases hfind : s.dev.ringsOn.find? (fun n => decide (s.dev.cnpy.balNext ≤ n)) with
  | none =>
    rw [hfind] at hn
    have hhead : s.dev.ringsOn.head? = some n := hn
    rw [hhead]
  | some m =>
    rw [hfind] at hn
    obtain rfl : m = n := Option.some.inj hn
    rfl

theorem balancePlan_sends {n : Nat} {s : State}
    (hn : (s.dev.ringsOn.find? (fun n => decide (s.dev.cnpy.balNext ≤ n)) <|> s.dev.ringsOn.head?) = some n) :
    ∃ t, exec .balancePlan s = .next t ∧ DevOnly s t ∧ t.dev.cnpy.balNext = n + 1 ∧
      ((∃ h ∈ s.dev.hopsOf n, s.dev.tagOk n h = true) → (t.dev.port n).Sends 32) ∧
      ((∀ h ∈ s.dev.hopsOf n, s.dev.tagOk n h = false) → t.dev.ports = s.dev.ports) ∧ (∀ k, k ≠ n → t.dev.port k = s.dev.port k) ∧
      RegsKept [] s.dev t.dev ∧ t.dev.k0 = s.dev.k0 ∧ t.dev.k1 = s.dev.k1 ∧ t.dev.prot = s.dev.prot := by
  have sent := Dev.sendPlan_sent n { s.dev with cnpy := { s.dev.cnpy with balNext := n + 1 } }
  refine ⟨_, exec_balancePlan hn, ⟨rfl, rfl⟩, sent.turn, ?_, fun hno => ?_, sent.others, sent.regs, sent.k0, sent.k1, sent.prot⟩
  · rintro ⟨h, hmem, htag⟩
    exact sent.sends (List.ne_nil_of_mem (List.mem_filter.2 ⟨hmem, htag⟩))
  · exact sent.quiet (List.filter_eq_nil_iff.2 fun h hmem => by
      rw [Bool.not_eq_true]
      exact hno h hmem)

/-- Settles O45: each command by the lemma on it. -/
theorem balanceAndIdentity : Obligations.BalanceAndIdentity := by
  refine ⟨fun n h s hn _ _ => ⟨authChallengeRun_sends hn, authChallengeRun_idle hn, cfgRetry_starts hn, cfgRetry_idle hn,
    balanceTestRun_starts hn, balanceTestRun_idle hn, authRecordTimeout_fails hn, authRecordTimeout_idle hn,
    fun hx => ⟨authch_answers hn hx, keyset_answers hn hx⟩, fun hdeaf k => hdcfg_answers hn hdeaf⟩, fun n s => balancePlan_sends⟩

end Sys2Proof.Machine
end

section
/-! What the operations that a latched zone starts leave: cores, published outputs, PROT's registers and what protection holds (07 R246-R251,
10 R342-R371). -/

namespace Sys2Proof.Machine
open Sys2Proof

/-- The first core of each pair, and the published outputs. -/
def Dev.running (d : Dev) : CoreSt × CoreSt × FMap Word := (d.k0, d.k1, d.pubs)

/-- Cores, published outputs and the PROT block are as before, and no pending event was lost. -/
structure ProtKept (d e : Dev) : Prop where
  running : e.running = d.running
  prot : e.prot = d.prot
  block : ∀ a, 0x40050000 ≤ a → a < 0x40060000 → e.reg a = d.reg a
  pend : PendKept d e

namespace ProtKept

theorem refl (d : Dev) : ProtKept d d := ⟨rfl, rfl, fun _ _ _ => rfl, .of_regs rfl⟩

theorem trans {d e f : Dev} (h : ProtKept d e) (k : ProtKept e f) : ProtKept d f :=
  ⟨k.running.trans h.running, k.prot.trans h.prot, fun a hlo hhi => (k.block a hlo hhi).trans (h.block a hlo hhi), h.pend.trans k.pend⟩

theorem ite {d e f : Dev} {p : Prop} [Decidable p] (h : ProtKept d e) (k : ProtKept d f) : ProtKept d (if p then e else f) := by
  split
  · exact h
  · exact k

theorem fold {α : Type} (l : List α) (f : α → Dev → Dev) (d : Dev) (h : ∀ a e, ProtKept e (f a e)) : ProtKept d (foldOver l f d) :=
  foldOver_keeps (ProtKept d) l f d (fun a e he => he.trans (h a e)) (refl d)

/-- A change outside registers, cores, published outputs and protection. -/
theorem of_same {d e : Dev} (hd : e.running = d.running) (hp : e.prot = d.prot) (hr : e.regs = d.regs) : ProtKept d e :=
  ⟨hd, hp, fun a _ _ => Dev.reg_congr hr a, .of_regs hr⟩

/-- A register of a block after PROT. -/
theorem setReg (d : Dev) {a : Nat} (v : Word) (h : 0x40060000 ≤ a) : ProtKept d (d.setReg a v) :=
  ⟨rfl, rfl, fun _ _ hhi => Dev.reg_setReg_other d v (by omega), .setReg d v (by omega)⟩

/-- Events and log records. -/
theorem of_raised {l : List Nat} {d e : Dev} (h : Dev.sameBut d e) (k : RegsRaised l d e) : ProtKept d e := by
  refine ⟨?_, ?_, fun a hlo hhi => k.kept a ?_ List.not_mem_nil, k.pend⟩
  · rw [h]
    rfl
  · rw [h]
  · unfold evtArea
    rw [decide_eq_false (by omega : ¬ a < 0x40020000), decide_eq_false (by omega : ¬ 0x40120000 ≤ a)]
    simp

theorem latched {d e : Dev} (h : ProtKept d e) : e.latched = d.latched :=
  Dev.fld_congr (h.block A.protStat (by decide) (by decide)) 7 0

section
variable (d : Dev)

theorem raise {e : Nat} (he : e < 384) (i : Nat) : ProtKept d (d.raise e i) := .of_raised (d.sameBut_raise e i) (d.raise_regsRaised he i)

theorem raiseIf {e : Nat} (b : Bool) (he : e < 384) (i : Nat) : ProtKept d (d.raiseIf b e i) := by
  unfold Dev.raiseIf
  exact ite (raise d he i) (refl d)

theorem raiseNoLog {e : Nat} (he : e < 384) : ProtKept d (d.raiseNoLog e) := .of_raised (d.sameBut_raiseBase e) (d.raiseBase_regsRaised he)

theorem logRec (ty e : Nat) (b : List Nat) (m : List (List Nat)) : ProtKept d (d.logRec ty e b m) :=
  .of_raised (d.sameBut_logRec ty e b m) (d.logRec_regsRaised ty e b m)

theorem moorSend (m : Mooring) : ProtKept d (d.moorSend m) := by
  unfold Dev.moorSend
  exact ite (of_same rfl rfl rfl) (refl d)

/-! Device states and results of sequences (16 R548, 10 R348, R371). -/

theorem settleNow (base : Nat) : ProtKept d (d.settleNow base) := by
  unfold Dev.settleNow
  extract_lets old st b e
  have shown : ProtKept d e := (setReg d _ (by decide)).trans (setReg _ _ (by decide))
  exact ite shown (shown.trans ((raiseNoLog e (by decide)).trans (logRec _ _ _ _ _)))

theorem settleState (base : Nat) : ProtKept d (d.settleState base) := by
  unfold Dev.settleState
  refine ite (ite (trans ?_ (moorSend _ _)) (refl d)) (settleNow d base)
  exact of_same rfl rfl rfl

theorem wake : ProtKept d d.wake := by
  unfold Dev.wake
  refine ite (ite (settleState d 3) ((settleState d 3).trans (fold _ _ _ fun _ _ => ?_))) (refl d)
  exact of_same rfl rfl rfl

theorem lateReply (sess seq st : Nat) (body : List Nat) : ProtKept d (d.lateReply sess seq st body) := by
  unfold Dev.lateReply
  split
  · exact refl d
  · exact of_same rfl rfl rfl

theorem answerSeq (tgt code tag res : Nat) (refused : Bool) : ProtKept d (d.answerSeq tgt code tag res refused) := by
  unfold Dev.answerSeq
  split
  · exact refl d
  · refine trans ?_ (lateReply _ _ _ _ _)
    exact of_same rfl rfl rfl

theorem putResult (code tag src res : Nat) (refused : Bool) : ProtKept d (d.putResult code tag src res refused) := by
  have written : ProtKept d (d.setReg A.ctlSeqres (resWord code tag src res)) := setReg d _ (by decide)
  unfold Dev.putResult
  exact ite (written.trans (answerSeq _ _ _ _ _ _)) written

theorem putStrResult (n code tag src res : Nat) (refused : Bool) : ProtKept d (d.putStrResult n code tag src res refused) := by
  have written : ProtKept d (if d.portEn n then d.setReg (A.ctlSres n) (resWord code tag src res) else d) :=
    ite (setReg d _ (by unfold A.ctlSres; omega)) (refl d)
  unfold Dev.putStrResult
  exact ite (written.trans (answerSeq _ _ _ _ _ _)) written

theorem endStr (n res : Nat) : ProtKept d (d.endStr n res) := by
  unfold Dev.endStr Dev.strResult
  refine ite (refl d) (trans ?_ ((putStrResult _ n _ _ _ _ _).trans (raise _ (by decide) _)))
  exact of_same rfl rfl rfl

/-! Head commands (10 R361, R368). -/

theorem setPorts (p : FMap Port) : ProtKept d { d with ports := p } := of_same rfl rfl rfl

theorem sendOpen (n cmd : Nat) : ProtKept d (d.sendOpen n cmd) := by
  have counted : ProtKept d (d.strArc n) := by
    unfold Dev.strArc
    exact ite (refl d) ((setReg d _ (by unfold A.ctlLarc; omega)).trans (raiseIf _ _ (by decide) _))
  have sent : ∀ e : Dev, ProtKept e (e.headCmd n cmd) := fun e => by
    unfold Dev.headCmd
    rw [Dev.queueDev_ports]
    exact (setPorts e _).trans (setPorts _ _)
  exact counted.trans (sent _)

/-! The block open (10 R342-R355). -/

theorem setBlk (f : BlkSeq → BlkSeq) : ProtKept d (d.setBlk f) := by
  have shown : ∀ e : Dev, ProtKept e e.showBlk := fun e =>
    ((setReg e _ (by decide)).trans (setReg _ _ (by decide))).trans (setReg _ _ (by decide))
  refine trans ?_ (shown _)
  exact of_same rfl rfl rfl

theorem endBlk (res : Nat) : ProtKept d (d.endBlk res) := by
  have answered : ∀ e : Dev, ProtKept e (e.blkResult d.ctl.blk.code d.ctl.blk.tag d.ctl.blk.src res false) := fun e =>
    (putResult e _ _ _ _ _).trans (raise _ (by decide) _)
  unfold Dev.endBlk
  exact ite (refl d) (((setBlk d _).trans (fold _ _ _ fun _ e => putResult e _ _ _ _ _)).trans (answered _))

theorem driveHold (k : Contactor) (on : Bool) : ProtKept d (d.driveHold k on) := by
  have agreed : ∀ e : Dev, ProtKept e e.fbAgree := fun e => ite (refl e) (setReg e _ (by decide))
  have driven : ∀ i, ProtKept d (d.setRbit A.ctlStat i on).fbAgree := fun i => (setReg d _ (by decide)).trans (agreed _)
  unfold Dev.driveHold
  cases k with
  | pos => exact ite (refl d) ((driven 26).trans (of_same rfl rfl rfl))
  | neg => exact ite (refl d) ((driven 25).trans (of_same rfl rfl rfl))

theorem setHold (k : Contactor) (on : Bool) : ProtKept d (d.setHold k on) := by
  unfold Dev.setHold
  extract_lets _ e
  have agreed : ProtKept d e := of_same rfl rfl rfl
  exact ite agreed (agreed.trans (driveHold _ _ _))

theorem bothOff : ProtKept d ((d.setHold .pos false).setHold .neg false) := (setHold d _ _).trans (setHold _ _ _)

theorem gatesOff : ProtKept d d.gatesOff := by
  unfold Dev.gatesOff
  extract_lets _ e e' off lp _ e'' f
  have low : ProtKept d e' := trans (e := e) (of_same rfl rfl rfl) (setReg _ _ (by decide))
  have loops : ProtKept e' e'' := of_same rfl rfl rfl
  have sinks : ProtKept e'' f := (setReg _ _ (by decide)).trans (setReg _ _ (by decide))
  exact ite low ((low.trans loops).trans (sinks.trans ((setReg _ _ (by decide)).trans (setReg _ _ (by decide)))))

theorem openDone : ProtKept d d.openDone := by
  unfold Dev.openDone
  extract_lets e _ f
  have done : ProtKept d f := trans (e := e) (endBlk d 0) (of_same rfl rfl rfl)
  exact ite (done.trans (settleState _ _)) done

theorem openBoth : ProtKept d d.openBoth := by
  have off : ProtKept d (((d.setHold .pos false).setHold .neg false).blkStep 3) := (bothOff d).trans (setBlk _ _)
  unfold Dev.openBoth
  exact ite (off.trans (openDone _)) off

theorem startOpen (code tag src : Nat) : ProtKept d (d.startOpen code tag src) := by
  unfold Dev.startOpen
  extract_lets e _ f g
  have ended : ProtKept d e := ite ((gatesOff d).trans (endBlk _ _)) (refl d)
  clear_value e
  have asked : ProtKept e f := of_same rfl rfl rfl
  have started : ProtKept d g := (ended.trans asked).trans (setBlk f _)
  exact ite (started.trans (openBoth _)) started

theorem tripOpen : ProtKept d d.tripOpen := by
  unfold Dev.tripOpen
  refine ite (trans ?_ (openBoth _)) (ite (bothOff d) (startOpen d _ _ _))
  exact of_same rfl rfl rfl

/-! The backup open and the reserve release of a latched zone (07 R251, 09 R307). -/

theorem backupOpen (z : Nat) : ProtKept d (d.backupOpen z) := by
  have opened : ProtKept d (foldOver (List.range 48) (fun n d => if (d.strz n).testBit z then (d.endStr n 18).sendOpen n 0x09 else d) d) :=
    fold _ _ d fun n e => ite ((endStr e n 18).trans (sendOpen _ n 0x09)) (refl e)
  unfold Dev.backupOpen
  exact ite (opened.trans (tripOpen _)) opened

theorem endRelease : ProtKept d d.endRelease := by
  unfold Dev.endRelease
  split
  · exact refl d
  · extract_lets _ e
    have ended : ProtKept d e := of_same rfl rfl rfl
    have cleared : ProtKept e (e.setRbit A.cnpyRsv 31 false) := setReg _ _ (by decide)
    exact (ended.trans (cleared.trans (setReg _ _ (by decide)))).trans (raise _ (by decide) _)

end
end ProtKept
end Sys2Proof.Machine
end

section
/-! Requests of zones (07 R246-R248): whatever they start, cores, outputs and the Layer 0 counters stay, and no bit of PROT.STAT clears. -/

namespace Sys2Proof.Machine
open Sys2Proof

/-- The counters and active elements of both channels, and whether start-up has restored the latches. -/
def ProtSt.counts (p : ProtSt) : FMap Nat × FMap Nat × FMap Bool × Bool := (p.cntA, p.cntB, p.active, p.restored)

/-- Cores, published outputs and Layer 0 counters are as before, no bit of PROT.STAT was cleared and no pending event was lost. -/
structure CountsKept (d e : Dev) : Prop where
  running : e.running = d.running
  counts : e.prot.counts = d.prot.counts
  l0act : e.reg A.protL0act = d.reg A.protL0act
  stat : ∀ i, i < 32 → d.rbit A.protStat i = true → e.rbit A.protStat i = true
  pend : PendKept d e

namespace CountsKept

theorem refl (d : Dev) : CountsKept d d := ⟨rfl, rfl, rfl, fun _ _ h => h, .of_regs rfl⟩

theorem trans {d e f : Dev} (h : CountsKept d e) (k : CountsKept e f) : CountsKept d f :=
  ⟨k.running.trans h.running, k.counts.trans h.counts, k.l0act.trans h.l0act, fun i hi hd => k.stat i hi (h.stat i hi hd), h.pend.trans k.pend⟩

theorem ite {d e f : Dev} {p : Prop} [Decidable p] (h : CountsKept d e) (k : CountsKept d f) : CountsKept d (if p then e else f) := by
  split
  · exact h
  · exact k

theorem foldMem {α : Type} (l : List α) (f : α → Dev → Dev) (d : Dev) (h : ∀ a ∈ l, ∀ e, CountsKept e (f a e)) :
    CountsKept d (foldOver l f d) := List.foldlRecOn l _ (refl d) fun e he a ha => he.trans (h a ha e)

/-- A change outside registers, cores and published outputs that leaves the counters. -/
theorem of_same {d e : Dev} (hd : e.running = d.running) (hc : e.prot.counts = d.prot.counts) (hr : e.regs = d.regs) : CountsKept d e :=
  ⟨hd, hc, Dev.reg_congr hr _, fun i _ hb => (Dev.rbit_congr (Dev.reg_congr hr _) i).trans hb, .of_regs hr⟩

theorem of_prot {d e : Dev} (h : ProtKept d e) : CountsKept d e :=
  ⟨h.running, congrArg ProtSt.counts h.prot, h.block _ (by decide) (by decide),
    fun i _ hb => (Dev.rbit_congr (h.block _ (by decide) (by decide)) i).trans hb, h.pend⟩

/-- A register of PROT beside PROT.STAT and PROT.L0ACT. -/
theorem setReg (d : Dev) {a : Nat} (v : Word) (h : 0x40050000 ≤ a) (hs : A.protStat ≠ a) (ha : A.protL0act ≠ a) : CountsKept d (d.setReg a v) :=
  ⟨rfl, rfl, Dev.reg_setReg_other d v ha, fun i _ hb => (Dev.rbit_congr (Dev.reg_setReg_other d v hs) i).trans hb, .setReg d v (by omega)⟩

theorem setStat (d : Dev) {i : Nat} (hi : i < 32) : CountsKept d (d.setRbit A.protStat i true) := by
  refine ⟨rfl, rfl, Dev.reg_setRbit_other d _ _ (by decide), fun j hj hb => ?_, .setReg d _ (by decide)⟩
  rw [Dev.rbit_setRbit d _ _ _ _ hi hj, hb, ite_self]

/-- A latch once set stays set (07 R248). -/
theorem latched {d e : Dev} (h : CountsKept d e) {z : Nat} (hz : z < 8) (hd : d.latched.testBit z = true) : e.latched.testBit z = true := by
  rw [Dev.latched_testBit _ hz] at hd ⊢
  exact h.stat z (by omega) hd

section
variable (d : Dev)

theorem setSrc {z : Nat} (hz : z < 8) (v : Word) : CountsKept d (d.setReg (A.protSrc z) v) :=
  setReg d v (by unfold A.protSrc; omega) (by unfold A.protStat A.protSrc; omega) (by unfold A.protL0act A.protSrc; omega)

theorem setLatch {z : Nat} (hz : z < 8) (src reason : Nat) : CountsKept d (d.setLatch z src reason) := by
  unfold Dev.setLatch
  extract_lets w a b b' _ b'' f g h i
  have source : CountsKept d a := setSrc d hz w
  have driven : CountsKept a b := ((setStat a (by omega)).trans (setStat _ (by omega))).trans (setStat _ (by omega))
  have counted : CountsKept b b' := by
    have taken : CountsKept b (b.setReg A.protLatches (satInc (b.reg A.protLatches))) := setReg b _ (by decide) (by decide) (by decide)
    exact ite (taken.trans (setReg _ _ (by decide) (by decide) (by decide))) taken
  clear_value b'
  have noted : CountsKept b' b'' := of_same rfl rfl rfl
  clear_value b''
  have recorded : ProtKept b'' h := (ProtKept.logRec b'' _ _ _ _).trans ((ProtKept.raiseNoLog f (by decide)).trans (.raiseIf _ _ (by decide) _))
  have safe : CountsKept h i := by
    have marked : CountsKept h (h.setRbit A.protStat 31 true) := setStat h (by decide)
    exact ite (ite marked (marked.trans (of_prot ((ProtKept.endRelease _).trans (.settleState _ _))))) (refl h)
  exact source.trans (driven.trans (counted.trans (noted.trans ((of_prot recorded).trans (safe.trans (of_prot (.backupOpen i z)))))))

theorem latchZones (mask src reason : Nat) : CountsKept d (d.latchZones mask src reason) := by
  unfold Dev.latchZones
  extract_lets _ e
  have noted : CountsKept d e := of_same rfl rfl rfl
  refine noted.trans (foldMem _ _ e fun z hz f => ?_)
  have hz : z < 8 := List.mem_range.1 (List.mem_filter.1 hz).1
  exact ite (setSrc f hz _) (setLatch f hz src reason)

theorem requestZones (mask src reason : Nat) : CountsKept d (d.requestZones mask src reason) := by
  unfold Dev.requestZones
  exact ite (latchZones d mask src reason) (of_same rfl rfl rfl)

theorem raiseIf {e : Nat} (b : Bool) (he : e < 384) (i : Nat) : CountsKept d (d.raiseIf b e i) := of_prot (.raiseIf d b he i)

end
end CountsKept

theorem mem_bitsOf {n m z : Nat} : z ∈ bitsOf n m ↔ z < n ∧ m.testBit z = true := by
  unfold bitsOf
  rw [List.mem_filter, List.mem_range]

/-- Once start-up has restored the latches, a request latches its zones (07 R248). -/
theorem Dev.requestZones_latches {d : Dev} (h : d.prot.restored = true) {mask z : Nat} (hz : z < 8) (hm : mask.testBit z = true)
    (src reason : Nat) : (d.requestZones mask src reason).latched.testBit z = true := by
  obtain ⟨-, hset, -⟩ := LatchesSet.latchZones d mask src reason
  unfold Dev.requestZones
  rw [if_pos h]
  exact hset z (mem_bitsOf.2 ⟨hz, hm⟩)

end Sys2Proof.Machine
end

section
/-! The Layer 0 verdict (07 R235, R240-R246, R261): what it shows, raises and latches. -/

namespace Sys2Proof.Machine
open Sys2Proof

/-- The verdict over every enabled element of the configured rings (07 R240). -/
def Dev.verdict (d : Dev) : Verdict :=
  (d.ringsOn.flatMap (d.ringElems d.acq.next)).foldl (d.judgeElem (d.rbit A.protStat 29))
    { a := d.prot.cntA, b := d.prot.cntB, act := d.prot.active }

/-- The zones that a verdict requests: those of both channels, or of either (07 R241-R242). -/
def Verdict.zones (either : Bool) (x : Verdict) : Nat := if either then x.zoneA ||| x.zoneB else x.zoneA &&& x.zoneB

/-- The counters and PROT.L0ACT as a verdict leaves them. -/
def Dev.withVerdict (x : Verdict) (d : Dev) : Dev :=
  ({ d with prot := { d.prot with cntA := x.a, cntB := x.b, active := x.act } } : Dev).setReg A.protL0act (BitVec.ofNat 32 (min x.cntA x.cntB))

/-- PROT.L0FIRST shows the first newly active element (07 R261). -/
def Dev.firstShown (x : Verdict) (d : Dev) : Dev :=
  match x.new with
  | [] => d
  | e :: _ => if d.rbit A.protL0first 0 then d else d.setReg A.protL0first e.first

/-- A verdict's events, and the end of WATCH. -/
def Dev.verdictNoted (x : Verdict) (d : Dev) : Dev :=
  let d := foldOver x.gone (fun n d => d.raise 161 n) (foldOver x.new (fun e d => d.raise 160 e.n) (d.firstShown x))
  if x.new = [] then d else d.wake

/-- The zones of a verdict reach the latches. -/
def Dev.verdictRequests (m : Nat) (d : Dev) : Dev := if m = 0 then d else d.requestZones m 0 0

theorem Dev.layer0_eq (d : Dev) :
    d.layer0 = (((d.withVerdict d.verdict).verdictNoted d.verdict).verdictRequests (d.verdict.zones (d.rbit A.protStat 29))).signatures := rfl

namespace CountsKept

theorem restored {d e : Dev} (h : CountsKept d e) : e.prot.restored = d.prot.restored := congrArg (fun x => x.2.2.2) h.counts

section
variable (d : Dev)

theorem firstShown (x : Verdict) : CountsKept d (d.firstShown x) := by
  unfold Dev.firstShown
  split
  · exact refl d
  · exact ite (refl d) (setReg d _ (by decide) (by decide) (by decide))

theorem verdictNoted (x : Verdict) : CountsKept d (d.verdictNoted x) := by
  have active : ∀ e : Dev, ProtKept e (foldOver x.new (fun y f => f.raise 160 y.n) e) := fun e =>
    .fold _ _ e fun y f => .raise f (by decide) y.n
  have ceased : ∀ e : Dev, ProtKept e (foldOver x.gone (fun n f => f.raise 161 n) e) := fun e => .fold _ _ e fun n f => .raise f (by decide) n
  have raised := (active (d.firstShown x)).trans (ceased _)
  exact (firstShown d x).trans (of_prot (.ite raised (raised.trans (.wake _))))

theorem verdictRequests (m : Nat) : CountsKept d (d.verdictRequests m) := ite (refl d) (requestZones d m 0 0)

theorem signatures : CountsKept d d.signatures := by
  unfold Dev.signatures
  exact ite (refl d) ((setStat d (by decide)).trans (of_prot (.raise _ (by decide) _)))

theorem grantCheck : CountsKept d d.grantCheck := by
  unfold Dev.grantCheck
  extract_lets _ _ _ _ _ _ _ _ _ _ e f z
  have counted : CountsKept d f := trans (e := e) (of_same rfl rfl rfl) (raiseIf e _ (by decide) _)
  exact ite (counted.trans (requestZones f z 3 0)) counted

theorem layer0 : CountsKept (d.withVerdict d.verdict) d.layer0 := by
  rw [Dev.layer0_eq]
  exact (verdictNoted _ _).trans ((verdictRequests _ _).trans (signatures _))

end
end CountsKept

/-- A newly active element raises event 160 (07 R242). -/
theorem Dev.verdictNoted_pending {x : Verdict} (hx : x.new ≠ []) (d : Dev) : (d.verdictNoted x).eventPending 160 = true := by
  have raised : (foldOver x.new (fun e d => d.raise 160 e.n) (d.firstShown x)).eventPending 160 = true :=
    foldOver_brings (P := fun d => Dev.eventPending d 160 = true) hx (fun e f => f.raise_pending (by decide) e.n) _
  have ceased := (ProtKept.fold x.gone (fun n d => d.raise 161 n) (foldOver x.new (fun e d => d.raise 160 e.n) (d.firstShown x))
    fun n f => .raise f (by decide) n).trans (.wake _)
  unfold Dev.verdictNoted
  rw [if_neg hx]
  exact ceased.pend.eventPending (by decide) raised

theorem Dev.layer0_pending {d : Dev} (hx : d.verdict.new ≠ []) : d.layer0.eventPending 160 = true := by
  have later := (CountsKept.verdictRequests ((d.withVerdict d.verdict).verdictNoted d.verdict) (d.verdict.zones (d.rbit A.protStat 29))).trans
    (.signatures _)
  rw [Dev.layer0_eq]
  exact later.pend.eventPending (by decide) (Dev.verdictNoted_pending hx _)

/-- The zones of a verdict are latched (07 R246). -/
theorem Dev.layer0_latches {d : Dev} (h : d.prot.restored = true) {z : Nat} (hz : z < 8)
    (hm : (d.verdict.zones (d.rbit A.protStat 29)).testBit z = true) : d.layer0.latched.testBit z = true := by
  have restored := (CountsKept.verdictNoted (d.withVerdict d.verdict) d.verdict).restored.trans h
  rw [Dev.layer0_eq]
  refine (CountsKept.signatures _).latched hz ?_
  unfold Dev.verdictRequests
  rw [if_neg fun h0 => by rw [h0, Nat.zero_testBit] at hm; cases hm]
  exact Dev.requestZones_latches restored hz hm 0 0

theorem exec_l0Verdict (s : State) : exec .l0Verdict s = .next { s with dev := s.dev.layer0.grantCheck } := rfl

/-- L0_VERDICT (07 R240-R246). -/
theorem l0Verdict_judges (s : State) :
    ∃ t, exec .l0Verdict s = .next t ∧ t.dev.prot.cntA = s.dev.verdict.a ∧ t.dev.prot.cntB = s.dev.verdict.b ∧
      t.dev.prot.active = s.dev.verdict.act ∧
      t.dev.reg A.protL0act = BitVec.ofNat 32 (min s.dev.verdict.cntA s.dev.verdict.cntB) ∧
      (s.dev.verdict.new ≠ [] → t.dev.eventPending 160 = true) ∧
      (s.dev.prot.restored = true → ∀ z, z < 8 → (s.dev.verdict.zones (s.dev.rbit A.protStat 29)).testBit z = true →
        t.dev.latched.testBit z = true) ∧
      (∀ z, z < 8 → s.dev.latched.testBit z = true → t.dev.latched.testBit z = true) ∧
      DevOnly s t ∧ t.dev.k0 = s.dev.k0 ∧ t.dev.k1 = s.dev.k1 ∧ t.dev.pubs = s.dev.pubs := by
  have grants := CountsKept.grantCheck s.dev.layer0
  obtain ⟨hrun, hcounts, hact, -, -⟩ := (CountsKept.layer0 s.dev).trans grants
  have hlatched : (s.dev.withVerdict s.dev.verdict).latched = s.dev.latched :=
    Dev.fld_congr (Dev.reg_setReg_other _ _ (by decide)) 7 0
  refine ⟨_, exec_l0Verdict s, congrArg (fun x => x.1) hcounts, congrArg (fun x => x.2.1) hcounts, congrArg (fun x => x.2.2.1) hcounts,
    hact.trans (Dev.reg_setReg _ _ _), fun hx => grants.pend.eventPending (by decide) (Dev.layer0_pending hx),
    fun hr z hz hm => grants.latched hz (Dev.layer0_latches hr hz hm), fun z hz hl => ?_, ⟨rfl, rfl⟩,
    congrArg (fun x => x.1) hrun, congrArg (fun x => x.2.1) hrun, congrArg (fun x => x.2.2) hrun⟩
  exact ((CountsKept.layer0 s.dev).trans grants).latched hz (by rwa [hlatched])

end Sys2Proof.Machine
end

section
/-! Self-tests of the Layer 0 channels (07 R242) and what a twin that fails one gives up (12 R414, R422-R423). -/

namespace Sys2Proof.Machine
open Sys2Proof

namespace ImagesKept
section
variable (d : Dev)

theorem giveUp : ImagesKept d d.giveUp := by
  unfold Dev.giveUp
  extract_lets a _ b c
  have low : ImagesKept d a := gatesOff d
  clear_value a
  have left : ImagesKept a b := of_same rfl rfl rfl
  have shown : ImagesKept b c := ((setReg b _ (by decide)).trans (setReg _ _ (by decide))).trans ((setEth _ (by decide) _ _).trans (setEth _ (by decide) _ _))
  exact ite ((low.trans left).trans (shown.trans (moorSend c _))) (refl d)

theorem yield_ : ImagesKept d d.yield_ :=
  ((((giveUp d).trans (holdsOff _)).trans (stopCores _)).trans (setTwin _ 7)).trans ((raise _ (by decide) 0).trans (lhSync _))

theorem twinFail : ImagesKept d d.twinFail := by
  unfold Dev.twinFail
  exact ite (yield_ d) (refl d)

end
end ImagesKept

theorem Dev.twinFail_single {d : Dev} (h : d.isTwin = false) : d.twinFail = d := by
  unfold Dev.twinFail
  rw [h]
  rfl

theorem Dev.isTwin_congr {d e : Dev} (hunit : e.reg A.sysUnitmap = d.reg A.sysUnitmap) (hstrap : e.reg A.sysStrap = d.reg A.sysStrap) :
    e.isTwin = d.isTwin := by
  unfold Dev.isTwin
  rw [Dev.rbit_congr hunit, Dev.fld_congr hstrap]

/-- L0FAULT ends: both channels hold the merged counters, and a record tells of it (07 R242). -/
def Dev.l0Repaired (d : Dev) : Dev :=
  (({ d with prot := { d.prot with
      cntA := mergeCounts d.prot.cntA d.prot.cntB
      cntB := mergeCounts d.prot.cntA d.prot.cntB } } : Dev).setRbit A.protStat 29 false).logRec 0 165
    (leBytes 4 1 ++ leBytes 4 0) []

/-- The end of a self-test that both channels pass. -/
theorem Dev.l0SelfTest_passed (d : Dev) :
    d.l0SelfTest true true = if d.rbit A.protStat 29 then (d.raise 166 0).l0Repaired else d.raise 166 0 := by
  rw [← Dev.rbit_congr (d.reg_raise (a := A.protStat) (e := 166) (by decide) (by decide) 0) 29]
  rfl

/-- The end of a self-test that a channel fails. -/
theorem Dev.l0SelfTest_failed {a b : Bool} (h : (a && b) = false) (d : Dev) :
    d.l0SelfTest a b = if d.pstate = 7 then { d.raise 166 0 with pwr := { d.pwr with noRun := true } } else (d.raise 166 0).twinFail := by
  have hpwr : (d.raise 166 0).pwr = d.pwr := by rw [d.sameBut_raise 166 0]
  have hstate : (d.raise 166 0).pstate = d.pstate := Dev.fld_congr (d.reg_raise (by decide) (by decide) 0) 31 28
  rw [← hpwr, ← hstate]
  unfold Dev.l0SelfTest
  dsimp only
  rw [h]
  rfl

theorem Dev.l0SelfTest_failed_pending {a b : Bool} (h : (a && b) = false) (d : Dev) : (d.l0SelfTest a b).eventPending 166 = true := by
  have pending := d.raise_pending (e := 166) (by decide) 0
  rw [Dev.l0SelfTest_failed h]
  split
  · exact pending
  · exact (ImagesKept.twinFail _).pend.eventPending (by decide) pending

theorem Dev.l0Repaired_counts (d : Dev) : d.l0Repaired.prot.cntA = mergeCounts d.prot.cntA d.prot.cntB ∧
    d.l0Repaired.prot.cntB = d.l0Repaired.prot.cntA := by
  unfold Dev.l0Repaired
  rw [Dev.sameBut_logRec]
  exact ⟨rfl, rfl⟩

theorem Dev.l0Repaired_regs (d : Dev) :
    RegsKept [A.protStat] d d.l0Repaired ∧ d.l0Repaired.rbit A.protStat 29 = false ∧ PendKept d d.l0Repaired := by
  have logged := Dev.logRec_regsRaised (({ d with prot := { d.prot with
      cntA := mergeCounts d.prot.cntA d.prot.cntB
      cntB := mergeCounts d.prot.cntA d.prot.cntB } } : Dev).setRbit A.protStat 29 false) 0 165 (leBytes 4 1 ++ leBytes 4 0) []
  refine ⟨RegsKept.trans (RegsKept.setReg _ _ List.mem_cons_self) fun a ha _ => logged.kept a ha List.not_mem_nil, ?_,
    PendKept.trans (.setReg d _ (by decide)) logged.pend⟩
  refine (Dev.rbit_congr (logged.kept _ (by decide) List.not_mem_nil) 29).trans ?_
  rw [Dev.rbit_setRbit _ _ _ _ _ (by decide) (by decide), if_pos rfl]

section
variable {i : Bool → Bool → Instr} {s : State} (hi : i = Instr.l0SelftestEnd ∨ i = Instr.l0SelftestDaily)
include hi

theorem exec_l0Selftest (a b : Bool) : exec (i a b) s = .next { s with dev := s.dev.l0SelfTest a b } := by
  obtain rfl | rfl := hi
  · rfl
  · rfl

theorem l0Selftest_passed :
    ∃ t, exec (i true true) s = .next t ∧ t.dev.eventPending 166 = true ∧ DevOnly s t ∧ RegsKept [A.protStat] s.dev t.dev ∧
      (s.dev.rbit A.protStat 29 = true → t.dev.rbit A.protStat 29 = false ∧
        t.dev.prot.cntA = mergeCounts s.dev.prot.cntA s.dev.prot.cntB ∧ t.dev.prot.cntB = t.dev.prot.cntA) ∧
      (s.dev.rbit A.protStat 29 = false → t.dev.prot = s.dev.prot ∧ t.dev.rbit A.protStat 29 = false) := by
  have raised := RegsKept.raise [A.protStat] s.dev (e := 166) (by decide) 0
  have pending := s.dev.raise_pending (e := 166) (by decide) 0
  have hprot : (s.dev.raise 166 0).prot = s.dev.prot := by rw [s.dev.sameBut_raise 166 0]
  refine ⟨_, exec_l0Selftest hi true true, ?_⟩
  rw [Dev.l0SelfTest_passed]
  cases hfault : s.dev.rbit A.protStat 29 with
  | true =>
    obtain ⟨hregs, hbit, hpend⟩ := (s.dev.raise 166 0).l0Repaired_regs
    obtain ⟨ha, hb⟩ := (s.dev.raise 166 0).l0Repaired_counts
    rw [hprot] at ha
    exact ⟨hpend.eventPending (by decide) pending, ⟨rfl, rfl⟩, raised.trans hregs, fun _ => ⟨hbit, ha, hb⟩, nofun⟩
  | false =>
    exact ⟨pending, ⟨rfl, rfl⟩, raised, nofun, fun _ => ⟨hprot, (Dev.rbit_congr (s.dev.reg_raise (by decide) (by decide) 0) 29).trans hfault⟩⟩

section
variable {a b : Bool} (hab : (a && b) = false)
include hab

theorem l0Selftest_failed_starting (h7 : s.dev.pstate = 7) :
    ∃ t, exec (i a b) s = .next t ∧ t.dev.eventPending 166 = true ∧ t.dev.pwr = { s.dev.pwr with noRun := true } ∧
      t.dev.prot = s.dev.prot ∧ RegsKept [] s.dev t.dev ∧ DevOnly s t := by
  refine ⟨_, exec_l0Selftest hi a b, ?_⟩
  rw [Dev.l0SelfTest_failed hab, if_pos h7]
  refine ⟨s.dev.raise_pending (by decide) 0, rfl, ?_, .raise [] s.dev (by decide) 0, rfl, rfl⟩
  rw [s.dev.sameBut_raise 166 0]

theorem l0Selftest_failed_single (h7 : s.dev.pstate ≠ 7) (hone : s.dev.isTwin = false) :
    ∃ t, exec (i a b) s = .next t ∧ t.dev.eventPending 166 = true ∧ EventsOnly s.dev t.dev ∧ DevOnly s t := by
  have single : (s.dev.raise 166 0).isTwin = false :=
    (Dev.isTwin_congr (s.dev.reg_raise (by decide) (by decide) 0) (s.dev.reg_raise (by decide) (by decide) 0)).trans hone
  refine ⟨_, exec_l0Selftest hi a b, ?_⟩
  rw [Dev.l0SelfTest_failed hab, if_neg h7, Dev.twinFail_single single]
  exact ⟨s.dev.raise_pending (by decide) 0, ⟨s.dev.sameBut_raise 166 0, .raise [] s.dev (by decide) 0⟩, rfl, rfl⟩

end

theorem l0Selftest_raises (a b : Bool) : ∃ t, exec (i a b) s = .next t ∧ t.dev.eventPending 166 = true ∧ DevOnly s t := by
  cases hab : a && b with
  | false => exact ⟨_, exec_l0Selftest hi a b, Dev.l0SelfTest_failed_pending hab s.dev, rfl, rfl⟩
  | true =>
    obtain ⟨rfl, rfl⟩ := Bool.and_eq_true_iff.1 hab
    obtain ⟨t, ht, hpend, honly, -⟩ := l0Selftest_passed (s := s) hi
    exact ⟨t, ht, hpend, honly⟩

end

end Sys2Proof.Machine
end

section
/-! Zone lines (07 R248-R249) and grants that fell (07 R245). -/

namespace Sys2Proof.Machine
open Sys2Proof

/-! A line seen low. -/

/-- ZONE_LINE_LOW on the device. -/
def Dev.lineLow (z : Nat) (d : Dev) : Dev :=
  let d := d.setRbit A.protStat (16 + z) true
  if d.rbit A.protStat (8 + z) then d else d.requestZones (2 ^ z) 5 0

theorem exec_zoneLineLow {z : Nat} (hz : z < 8) (s : State) : exec (.zoneLineLow z) s = .next { s with dev := s.dev.lineLow z } :=
  present_next _ (decide_eq_true hz)

theorem exec_zoneLineLow_absent {z : Nat} (hz : 8 ≤ z) (s : State) : exec (.zoneLineLow z) s = .fault .noSuchUnit :=
  present_absent _ (decide_eq_false (by omega))

section
variable {z : Nat} (hz : z < 8) (d : Dev)
include hz

/-- The readback bit stands apart from the drive. -/
theorem Dev.driven_setReadback (b : Bool) : (d.setRbit A.protStat (16 + z) b).rbit A.protStat (8 + z) = d.rbit A.protStat (8 + z) := by
  rw [Dev.rbit_setRbit _ _ _ _ _ (by omega) (by omega), if_neg (by omega)]

theorem Dev.lineLow_driven {d : Dev} (h : d.rbit A.protStat (8 + z) = true) : d.lineLow z = d.setRbit A.protStat (16 + z) true := by
  unfold Dev.lineLow
  dsimp only
  rw [Dev.driven_setReadback hz, h, if_pos rfl]

theorem Dev.lineLow_foreign {d : Dev} (h : d.rbit A.protStat (8 + z) = false) :
    d.lineLow z = (d.setRbit A.protStat (16 + z) true).requestZones (2 ^ z) 5 0 := by
  unfold Dev.lineLow
  dsimp only
  rw [Dev.driven_setReadback hz, h]
  rfl

theorem Dev.lineLow_readback : (d.lineLow z).rbit A.protStat (16 + z) = true := by
  refine (CountsKept.ite (.refl (d.setRbit A.protStat (16 + z) true)) (.requestZones _ (2 ^ z) 5 0)).stat _ (by omega) ?_
  rw [Dev.rbit_setRbit _ _ _ _ _ (by omega) (by omega), if_pos rfl]

theorem Dev.lineLow_latches {d : Dev} (hr : d.prot.restored = true) (h : d.rbit A.protStat (8 + z) = false) :
    (d.lineLow z).latched.testBit z = true := by
  rw [Dev.lineLow_foreign hz h]
  exact Dev.requestZones_latches (d := d.setRbit A.protStat (16 + z) true) hr hz Nat.testBit_two_pow_self 5 0

end

/-! A driven line that reads high. -/

/-- READBACK_FAULT of a driven line. -/
def Dev.readHigh (z : Nat) (d : Dev) : Dev := ((d.setRbit A.protStat (16 + z) false).setRbit A.protStat 28 true).raise 172 z

theorem exec_readbackFault_driven {z : Nat} (hz : z < 8) {s : State} (h : s.dev.rbit A.protStat (8 + z) = true) :
    exec (.readbackFault z) s = .next { s with dev := s.dev.readHigh z } :=
  (present_next _ (decide_eq_true hz)).trans (next_dev_congr (if_pos h))

theorem exec_readbackFault_foreign {z : Nat} (hz : z < 8) {s : State} (h : s.dev.rbit A.protStat (8 + z) = false) :
    exec (.readbackFault z) s = .next s :=
  (present_next _ (decide_eq_true hz)).trans (next_dev_congr (if_neg (by rw [h]; decide)))

theorem exec_readbackFault_absent {z : Nat} (hz : 8 ≤ z) (s : State) : exec (.readbackFault z) s = .fault .noSuchUnit :=
  present_absent _ (decide_eq_false (by omega))

theorem Dev.readHigh_shown {z : Nat} (hz : z < 8) (d : Dev) : (d.readHigh z).rbit A.protStat 28 = true ∧
    (d.readHigh z).rbit A.protStat (16 + z) = false ∧ (d.readHigh z).eventPending 172 = true ∧ RegsKept [A.protStat] d (d.readHigh z) := by
  have stat : ∀ i, (d.readHigh z).rbit A.protStat i = ((d.setRbit A.protStat (16 + z) false).setRbit A.protStat 28 true).rbit A.protStat i :=
    Dev.rbit_congr (Dev.reg_raise _ (by decide) (by decide) z)
  refine ⟨?_, ?_, Dev.raise_pending _ (by decide) z,
    ((RegsKept.setReg d _ List.mem_cons_self).trans (.setReg _ _ List.mem_cons_self)).trans (.raise _ _ (by decide) z)⟩
  · rw [stat, Dev.rbit_setRbit _ _ _ _ _ (by decide) (by decide), if_pos rfl]
  · rw [stat, Dev.rbit_setRbit _ _ _ _ _ (by decide) (by omega), if_neg (by omega), Dev.rbit_setRbit _ _ _ _ _ (by omega) (by omega), if_pos rfl]

/-! Grants that fell. -/

theorem exec_ggraceExpiry_none {s : State} (h : s.dev.prot.gPend = []) : exec .ggraceExpiry s = .next s := by
  change execGgraceExpiry s = _
  unfold execGgraceExpiry
  rw [h]

theorem exec_ggraceExpiry_some {s : State} {x : Nat × Nat × Nat} {l : List (Nat × Nat × Nat)} (h : s.dev.prot.gPend = x :: l) :
    exec .ggraceExpiry s = .next { s with dev := { s.dev.at x.1 with prot := s.dev.prot.dropGrants (s.dev.at x.1).time.now } } := by
  change execGgraceExpiry s = _
  unfold execGgraceExpiry
  rw [h]
  rfl

theorem ProtSt.mem_dropGrants (now : Nat) (p : ProtSt) (x : Nat × Nat × Nat) : x ∈ (p.dropGrants now).gPend ↔ x ∈ p.gPend ∧ now < x.1 := by
  unfold ProtSt.dropGrants
  rw [List.mem_filter, decide_eq_true_iff]

theorem ggraceExpiry_drops (s : State) :
    ∃ t, exec .ggraceExpiry s = .next t ∧ DevOnly s t ∧ t.dev = { s.dev with time := t.dev.time, prot := t.dev.prot } ∧
      (s.dev.prot.gPend = [] → t = s) ∧
      (s.dev.prot.gPend ≠ [] → ∀ x, x ∈ t.dev.prot.gPend ↔ x ∈ s.dev.prot.gPend ∧ t.dev.time.now < x.1) := by
  cases hg : s.dev.prot.gPend with
  | nil => exact ⟨s, exec_ggraceExpiry_none hg, ⟨rfl, rfl⟩, rfl, fun _ => rfl, fun h => absurd rfl h⟩
  | cons x l =>
    refine ⟨_, exec_ggraceExpiry_some hg, ⟨rfl, rfl⟩, rfl, nofun, fun _ y => ?_⟩
    rw [← hg]
    exact ProtSt.mem_dropGrants _ _ y

/-! The statement. -/

/-- An element's counters move by its class; past its limit it asks for its zones (07 R235, R240-R241). -/
theorem Dev.judgeElem_counts (d : Dev) (f : Bool) (v : Verdict) (e : Elem) :
    (d.judgeElem f v e).a = FMap.set (fun _ => 0) v.a e.key (dwellNext e.cls e.rec_.cap (FMap.get (fun _ => 0) v.a e.key)) ∧
    (d.judgeElem f v e).b = FMap.set (fun _ => 0) v.b e.key (dwellNext e.cls e.rec_.cap (FMap.get (fun _ => 0) v.b e.key)) ∧
    (e.rec_.lim ≤ dwellNext e.cls e.rec_.cap (FMap.get (fun _ => 0) v.a e.key) → (d.judgeElem f v e).zoneA = v.zoneA ||| d.elemZones e) :=
  ⟨rfl, rfl, fun h => if_pos (decide_eq_true h)⟩

/-- Settles O34: the verdict by what its requests keep (`CountsKept`), each other command by the lemmas on it. -/
theorem protectionVerdicts : Obligations.ProtectionVerdicts := by
  refine ⟨l0Verdict_judges, Dev.judgeElem_counts, fun i s hi => ⟨l0Selftest_passed hi, fun a b hab => l0Selftest_failed_starting hi hab,
    fun a b hab => l0Selftest_failed_single hi hab, l0Selftest_raises hi⟩, fun z s hz => ⟨?_, fun hdriven => ?_, exec_readbackFault_foreign hz⟩,
    fun z s hz => ⟨exec_zoneLineLow_absent hz s, exec_readbackFault_absent hz s⟩, ggraceExpiry_drops⟩
  · exact ⟨_, exec_zoneLineLow hz s, ⟨rfl, rfl⟩, s.dev.lineLow_readback hz, Dev.lineLow_latches hz, Dev.lineLow_driven hz⟩
  · exact ⟨_, exec_readbackFault_driven hz hdriven, ⟨rfl, rfl⟩, s.dev.readHigh_shown hz⟩

end Sys2Proof.Machine
end

section
/-! Trip release (07 R252-R253): the evaluation at a request's boundary, and the check of its lines. -/

namespace Sys2Proof.Machine
open Sys2Proof

/-! A release that waits. -/

theorem exec_tripReleaseEval_idle {s : State} (h : s.dev.prot.check.isSome = true ∨ s.dev.prot.rels = []) :
    exec .tripReleaseEval s = .next s := by
  change execTripReleaseEval s = _
  unfold execTripReleaseEval
  obtain hcheck | hrels := h
  · obtain ⟨r, hr⟩ := Option.isSome_iff_exists.1 hcheck
    dsimp only
    rw [hr]
  · dsimp only
    rw [hrels]
    split
    case h_1 _ hnil => cases hnil
    case h_2 => rfl

/-! The evaluation of the first request. -/

/-- The requests behind the first. -/
def Dev.nextRelease (l : List RelReq) (d : Dev) : Dev := { d with prot := { d.prot with rels := l } }

/-- The line check of `r`: the lines of the zones of `m` are let go (07 R252). -/
def Dev.startCheck (r : RelReq) (m : Nat) (d : Dev) : Dev :=
  foldOver (bitsOf 8 m) (fun z d => d.setRbit A.protStat (8 + z) false) { d with prot := { d.prot with check := some r } }

/-- The evaluation of `r` at its boundary, for the zones of `m` that are latched. -/
def Dev.evalRelease (r : RelReq) (l : List RelReq) (m : Nat) (d : Dev) : Dev :=
  if m = 0 then (d.nextRelease l).releaseAnswer r true
  else if d.mayRelease m r.seen then (d.nextRelease l).startCheck r m
  else (d.nextRelease l).releaseAnswer r false

section
variable {s : State} {r : RelReq} {l : List RelReq} (hcheck : s.dev.prot.check = none) (hrels : s.dev.prot.rels = r :: l)
include hcheck hrels

theorem exec_tripReleaseEval_waiting : exec .tripReleaseEval s =
    .next { s with dev := if s.dev.dueNow r.due then s.dev.evalRelease r l (r.mask &&& s.dev.latched) else s.dev } := by
  change execTripReleaseEval s = _
  unfold execTripReleaseEval
  dsimp only
  split
  case h_1 _ _ hrels' =>
    obtain ⟨rfl, rfl⟩ := List.cons.inj (hrels'.symm.trans hrels)
    cases s.dev.dueNow _ with
    | true => rfl
    | false => rfl
  case h_2 hno => exact absurd hrels (hno r l hcheck)

theorem exec_tripReleaseEval_early (hdue : s.dev.dueNow r.due = false) : exec .tripReleaseEval s = .next s := by
  rw [exec_tripReleaseEval_waiting hcheck hrels, hdue]
  rfl

theorem exec_tripReleaseEval_due (hdue : s.dev.dueNow r.due = true) :
    exec .tripReleaseEval s = .next { s with dev := s.dev.evalRelease r l (r.mask &&& s.dev.latched) } := by
  rw [exec_tripReleaseEval_waiting hcheck hrels, if_pos hdue]

end

/-! The lines of zones. -/

/-- Of the device, lines were driven or let go: PROT.STAT changed, above the latches only. -/
structure LinesMoved (d e : Dev) : Prop where
  plant : PlantKept d e
  prot : e.prot = d.prot
  latched : e.latched = d.latched

theorem LinesMoved.drive (d : Dev) {z : Nat} (hz : z < 8) (b : Bool) : LinesMoved d (d.setRbit A.protStat (8 + z) b) :=
  ⟨.refl d, rfl, (LatchKept.setStat d b (by omega) (by omega)).2⟩

theorem LinesMoved.fold (m : Nat) (b : Bool) (d : Dev) :
    LinesMoved d (foldOver (bitsOf 8 m) (fun z d => d.setRbit A.protStat (8 + z) b) d) :=
  List.foldlRecOn (bitsOf 8 m) _ ⟨.refl d, rfl, rfl⟩ fun e he z hz => by
    obtain ⟨hplant, hprot, hlatched⟩ := LinesMoved.drive e (mem_bitsOf.1 hz).1 b
    exact ⟨he.plant.trans hplant, hprot.trans he.prot, hlatched.trans he.latched⟩

/-- A drive bit that a fold writes, or that is written already, reads as written. -/
theorem Dev.rbit_driveLines {l : List Nat} (hl : ∀ z ∈ l, z < 8) {z : Nat} (hz : z < 8) (b : Bool) {d : Dev}
    (h : z ∈ l ∨ d.rbit A.protStat (8 + z) = b) : (foldOver l (fun z d => d.setRbit A.protStat (8 + z) b) d).rbit A.protStat (8 + z) = b := by
  induction l generalizing d with
  | nil => exact h.resolve_left List.not_mem_nil
  | cons y l ih =>
    have hy := hl y List.mem_cons_self
    refine ih (fun x hx => hl x (List.mem_cons_of_mem y hx)) (d := d.setRbit A.protStat (8 + y) b) ?_
    rw [Dev.rbit_setRbit _ _ _ _ _ (by omega) (by omega)]
    obtain rfl | hne := eq_or_ne z y
    · exact .inr (if_pos rfl)
    · rw [if_neg (by omega)]
      exact h.imp_left fun hmem => (List.mem_cons.1 hmem).resolve_left hne

theorem Dev.startCheck_lines (r : RelReq) {m z : Nat} (hz : z < 8) (hm : m.testBit z = true) (d : Dev) :
    (d.startCheck r m).rbit A.protStat (8 + z) = false :=
  Dev.rbit_driveLines (fun _ hy => (mem_bitsOf.1 hy).1) hz false (.inl (mem_bitsOf.2 ⟨hz, hm⟩))

/-- The line check starts at the boundary of a request that may be granted. -/
theorem tripReleaseEval_checks {s : State} {r : RelReq} {l : List RelReq} (hcheck : s.dev.prot.check = none) (hrels : s.dev.prot.rels = r :: l)
    (hdue : s.dev.dueNow r.due = true) (hm : r.mask &&& s.dev.latched ≠ 0) (hmay : s.dev.mayRelease (r.mask &&& s.dev.latched) r.seen = true) :
    ∃ t, exec .tripReleaseEval s = .next t ∧ t.dev.prot.check = some r ∧ t.dev.prot.rels = l ∧ t.dev.latched = s.dev.latched ∧
      (∀ z, z < 8 → (r.mask &&& s.dev.latched).testBit z = true → t.dev.rbit A.protStat (8 + z) = false) ∧ PlantOnly s t := by
  obtain ⟨hplant, hprot, hlatched⟩ := LinesMoved.fold (r.mask &&& s.dev.latched) false
    { s.dev.nextRelease l with prot := { (s.dev.nextRelease l).prot with check := some r } }
  refine ⟨_, exec_tripReleaseEval_due hcheck hrels hdue, ?_⟩
  unfold Dev.evalRelease
  rw [if_neg hm, if_pos hmay]
  exact ⟨congrArg ProtSt.check hprot, congrArg ProtSt.rels hprot, hlatched, fun z hz hz' => Dev.startCheck_lines r hz hz' _,
    PlantKept.plantOnly hplant⟩

/-! The end of the line check. -/

/-- The request whose lines were checked no longer waits. -/
def Dev.checkEnded (d : Dev) : Dev := { d with prot := { d.prot with check := none } }

/-- The end of the line check of `r` for the zones of `m`, with the lines of `h` high and the partner's word `b`. -/
def Dev.endCheck (r : RelReq) (m h : Nat) (b : Bool) (d : Dev) : Dev :=
  if (m &&& h) = m ∧ (r.seen &&& m) = 0 ∧ (b = true ∨ d.agreed = false) then (d.checkEnded.granted m).releaseAnswer r true
  else (foldOver (bitsOf 8 m) (fun z d => d.setRbit A.protStat (8 + z) true) d.checkEnded).releaseAnswer r false

theorem exec_releaseLineCheckEnd_none (h : Nat) (b : Bool) {s : State} (hcheck : s.dev.prot.check = none) :
    exec (.releaseLineCheckEnd h b) s = .next s := by
  change execReleaseLineCheckEnd h b s = _
  unfold execReleaseLineCheckEnd
  dsimp only
  rw [hcheck]

theorem exec_releaseLineCheckEnd_some (h : Nat) (b : Bool) {s : State} {r : RelReq} (hcheck : s.dev.prot.check = some r) :
    exec (.releaseLineCheckEnd h b) s = .next { s with dev := s.dev.endCheck r (r.mask &&& s.dev.latched) h b } := by
  change execReleaseLineCheckEnd h b s = _
  unfold execReleaseLineCheckEnd
  dsimp only
  rw [hcheck]
  rfl

/-- The answer of a release leaves protection. -/
theorem ProtKept.releaseAnswer (r : RelReq) (ok : Bool) (d : Dev) : ProtKept d (d.releaseAnswer r ok) := ProtKept.lateReply d _ _ _ _

theorem Dev.sameBut_prot {d e : Dev} (h : Dev.sameBut d e) : e.prot = d.prot := by
  rw [h]

/-- A zone's release touches registers and events only. -/
theorem Dev.releaseZone_prot (z : Nat) (d : Dev) : (d.releaseZone z).prot = d.prot := Dev.sameBut_prot (Dev.sameBut_raise _ 163 z)

/-- A granted release changes of protection, beside registers, only the latches that it stores. -/
theorem Dev.granted_check (m : Nat) (d : Dev) : (d.granted m).prot.check = d.prot.check := by
  have released : (foldOver (bitsOf 8 m) Dev.releaseZone d).prot = d.prot :=
    foldOver_keeps (fun e : Dev => e.prot = d.prot) _ _ d (fun z e he => (e.releaseZone_prot z).trans he) rfl
  unfold Dev.granted
  extract_lets e f g _ x
  have cleared : g.prot = d.prot := by
    refine Eq.trans ?_ released
    unfold g
    split
    · rfl
    · rfl
  have stored : x.prot.check = d.prot.check := (congrArg ProtSt.check cleared :)
  split
  · exact (congrArg ProtSt.check (ProtKept.settleState (x.setRbit A.protStat 31 false) 3).prot).trans stored
  · exact stored

/-- RELEASE_LINE_CHECK_END while a check runs (07 R252-R253). -/
theorem releaseLineCheckEnd_ends (h : Nat) (b : Bool) {s : State} {r : RelReq} (hcheck : s.dev.prot.check = some r) :
    ∃ t, exec (.releaseLineCheckEnd h b) s = .next t ∧ t.dev.prot.check = none ∧ DevOnly s t ∧
      ((r.mask &&& s.dev.latched) &&& h ≠ (r.mask &&& s.dev.latched) → t.dev.latched = s.dev.latched) := by
  refine ⟨_, exec_releaseLineCheckEnd_some h b hcheck, ?_, ⟨rfl, rfl⟩, fun hlow => ?_⟩
  · unfold Dev.endCheck
    split
    · exact (congrArg ProtSt.check (ProtKept.releaseAnswer r true _).prot).trans (s.dev.checkEnded.granted_check _)
    · exact congrArg ProtSt.check ((ProtKept.releaseAnswer r false _).prot.trans (LinesMoved.fold _ true s.dev.checkEnded).prot)
  · unfold Dev.endCheck
    rw [if_neg fun hgrant => hlow hgrant.1]
    exact (ProtKept.releaseAnswer r false _).latched.trans (LinesMoved.fold _ true s.dev.checkEnded).latched

/-- Settles O35: the evaluation and the end of the check, case by case; without a grant only the drives of lines move (`LinesMoved`). -/
theorem tripRelease : Obligations.TripRelease :=
  ⟨fun _ => exec_tripReleaseEval_idle, fun _ _ _ => exec_tripReleaseEval_early,
    fun _ _ _ hcheck hrels hdue => ⟨⟨_, exec_tripReleaseEval_due hcheck hrels hdue, rfl, rfl⟩, tripReleaseEval_checks hcheck hrels hdue⟩,
    fun h b _ => exec_releaseLineCheckEnd_none h b, fun h b _ _ => releaseLineCheckEnd_ends h b⟩

end Sys2Proof.Machine
end

section
/-! The parts of the device that events and folds leave, read through a projection; strings of the reported state. -/

namespace Sys2Proof.Machine
open Sys2Proof

/-- A reading that every part of a fold leaves, the fold leaves. -/
theorem foldOver_reads {α σ β : Type} (p : σ → β) (l : List α) (f : α → σ → σ) (s : σ) (h : ∀ a t, p (f a t) = p t) :
    p (foldOver l f s) = p s := foldOver_keeps (fun t => p t = p s) l f s (fun a t ht => (h a t).trans ht) rfl

theorem Dev.sameBut_cnpy {d e : Dev} (h : Dev.sameBut d e) : e.cnpy = d.cnpy := by
  rw [h]

theorem Dev.sameBut_rep {d e : Dev} (h : Dev.sameBut d e) : e.rep = d.rep := by
  rw [h]

theorem Dev.sameBut_acq {d e : Dev} (h : Dev.sameBut d e) : e.acq = d.acq := by
  rw [h]

theorem Dev.sameBut_raiseIf (d : Dev) (b : Bool) (e i : Nat) : Dev.sameBut d (d.raiseIf b e i) := by
  unfold Dev.raiseIf
  split
  · exact d.sameBut_raise e i
  · exact d.sameBut_refl

theorem Dev.sameBut_bumpBy (k c o b : Nat) (d : Dev) : Dev.sameBut d (d.bumpBy k c o b) :=
  foldOver_keeps (Dev.sameBut d) _ _ d (fun _ e he => Dev.sameBut_trans he (e.sameBut_bump c o b)) d.sameBut_refl

theorem Dev.sameBut_uncorrectable (a : Nat) (d : Dev) : Dev.sameBut d (d.uncorrectable a) :=
  Dev.sameBut_trans (Dev.sameBut_trans (d.sameBut_bump A.memUecnt A.memOvf 13) (Dev.sameBut_raiseBase _ 360)) (Dev.sameBut_logRec _ _ _ _ _)

@[simp] theorem Dev.str_setStr (d : Dev) (n : Nat) (f : StrSt → StrSt) : (d.setStr n f).str n = f (d.str n) := by
  simp [Dev.str, Dev.setStr, FMap.upd]

theorem Dev.str_setStr_other (d : Dev) {n k : Nat} (f : StrSt → StrSt) (h : k ≠ n) : (d.setStr n f).str k = d.str k :=
  FMap.get_set_other _ _ _ h

theorem Dev.str_congr {d e : Dev} (h : e.rep = d.rep) (n : Nat) : e.str n = d.str n := by
  unfold Dev.str
  rw [h]

end Sys2Proof.Machine
end

section
/-! The scan job (08 R286): what it writes, what confirming it shows, and what the report leaves of the canopy. -/

namespace Sys2Proof.Machine
open Sys2Proof

/-! The page written. -/

/-- What the rest of a scan job and its end go by: the pages, the one confirmed, whether one is written, and the frame's views. -/
structure ScanPages where
  page0 : FMap Slot
  page1 : FMap Slot
  conf : Nat
  wrote : Bool
  acq : AcqSt

def Dev.pages (d : Dev) : ScanPages := ⟨d.cnpy.page0, d.cnpy.page1, d.cnpy.conf, d.cnpy.wrote, d.acq⟩

theorem Dev.sameBut_pages {d e : Dev} (h : Dev.sameBut d e) : e.pages = d.pages := by
  rw [h]
  rfl

/-- Slots `x` as the page that is not confirmed. -/
def CnpySt.writePage (x : FMap Slot) (c : CnpySt) : CnpySt := if c.conf = 0 then { c with page1 := x } else { c with page0 := x }

theorem CnpySt.writePage_conf (x : FMap Slot) (c : CnpySt) : (c.writePage x).conf = c.conf := by
  unfold CnpySt.writePage
  split <;> rfl

theorem CnpySt.writePage_page (x : FMap Slot) {c : CnpySt} (h : c.conf < 2) : (c.writePage x).page (1 - c.conf) = x := by
  unfold CnpySt.writePage
  split
  case isTrue h0 => rw [h0]; rfl
  case isFalse h0 => rw [show 1 - c.conf = 0 by omega]; rfl

/-- The scan job's page is written. -/
def Dev.pageWritten (v : View) (d : Dev) : Dev := { d with cnpy := { d.cnpy.writePage (d.jobCells v).page with wrote := true } }

@[simp] theorem Dev.pages_cleanPoison (a n : Nat) (d : Dev) : (d.cleanPoison a n).pages = d.pages := by
  unfold Dev.cleanPoison
  dsimp only
  split <;> rfl

theorem Dev.pages_noteTfb (x : FMap Slot) (n h : Nat) (d : Dev) : (d.noteTfb x n h).pages = d.pages := by
  unfold Dev.noteTfb
  exact (Dev.sameBut_pages (Dev.sameBut_raiseIf _ _ 197 n)).trans rfl

/-- Behind the page's write a scan job notes only what it found. -/
theorem Dev.runScanJob_pages (v : View) (d : Dev) : (d.runScanJob v).pages = (d.pageWritten v).pages := by
  unfold Dev.runScanJob
  extract_lets a recs _ c sig e e1 e2 e3 e4
  have written : e.pages = (d.pageWritten v).pages := rfl
  have bad : e1.pages = e.pages := foldOver_reads Dev.pages _ _ e fun _ f =>
    (Dev.sameBut_pages (Dev.sameBut_raise _ _ _)).trans (Dev.sameBut_pages (f.sameBut_uncorrectable _))
  have cleaned : e2.pages = e1.pages := foldOver_reads Dev.pages _ _ e1 fun _ _ => Dev.pages_cleanPoison _ _ _
  have counted : e3.pages = e2.pages := by
    unfold e3
    split
    · rfl
    · exact Dev.sameBut_pages (Dev.sameBut_trans (Dev.sameBut_trans (Dev.sameBut_bumpBy _ _ _ _ _) (Dev.sameBut_bumpBy _ _ _ _ _))
        (Dev.sameBut_raiseIf _ _ _ _))
  have begun : e4.pages = e3.pages := foldOver_reads Dev.pages _ _ e3 fun n f => by
    split
    · rfl
    · exact (Dev.sameBut_pages (Dev.sameBut_raise (f.setStr n _) 201 n)).trans rfl
  have noted := foldOver_reads Dev.pages e4.ringsIn (fun n d => foldOver (d.hopsOf n) (fun h d => d.noteTfb a.page n h) d) e4 fun n f =>
    foldOver_reads Dev.pages _ _ f fun h g => g.pages_noteTfb a.page n h
  exact noted.trans (begun.trans (counted.trans (cleaned.trans (bad.trans written))))

section
variable (v : View) (d : Dev)

theorem Dev.runScanJob_wrote : (d.runScanJob v).cnpy.wrote = true := (congrArg ScanPages.wrote (d.runScanJob_pages v) :)

theorem Dev.runScanJob_conf : (d.runScanJob v).cnpy.conf = d.cnpy.conf :=
  (congrArg ScanPages.conf (d.runScanJob_pages v) :).trans (d.cnpy.writePage_conf _)

theorem Dev.runScanJob_view0 : (d.runScanJob v).view0 = d.view0 :=
  congrArg (fun x : ScanPages => (x.acq.view 0).getD {}) (d.runScanJob_pages v)

theorem Dev.runScanJob_page (h : d.cnpy.conf < 2) : (d.runScanJob v).cnpy.page (1 - d.cnpy.conf) = (d.jobCells v).page :=
  (congrArg (fun x : ScanPages => if 1 - d.cnpy.conf = 0 then x.page0 else x.page1) (d.runScanJob_pages v)).trans (CnpySt.writePage_page _ h)

end

/-! The report, made of a confirmed page (09 R332), leaves the canopy and CNPY.CONF. -/

/-- The canopy, and the scan that is shown as confirmed. -/
def Dev.confShown (d : Dev) : CnpySt × Word := (d.cnpy, d.reg A.cnpyConf)

theorem Dev.confShown_of_raised {l : List Nat} {d e : Dev} (h : Dev.sameBut d e) (k : RegsRaised l d e) : e.confShown = d.confShown :=
  Prod.ext (Dev.sameBut_cnpy h) (k.kept A.cnpyConf (by decide) List.not_mem_nil)

theorem Dev.confShown_raiseIf (d : Dev) (b : Bool) {e : Nat} (he : e < 384) (i : Nat) : (d.raiseIf b e i).confShown = d.confShown :=
  Dev.confShown_of_raised (d.sameBut_raiseIf b e i) (d.raiseIf_regsRaised b he i)

theorem Dev.confShown_strEvents (x : StrCalc) (l : List Int) (d : Dev) : (d.strEvents x l).confShown = d.confShown :=
  (Dev.confShown_raiseIf _ _ (by decide) _).trans (Dev.confShown_raiseIf _ _ (by decide) _)

theorem Dev.confShown_tellGrants (l : List Nat) (d : Dev) : (d.tellGrants l).confShown = d.confShown := by
  unfold Dev.tellGrants
  split
  · exact Prod.ext (d.moorSend_cnpy _) (Dev.reg_congr (d.moorSend_regs _) _)
  · rfl

theorem Dev.confShown_noteGrant (c e : Nat) (d : Dev) : (d.noteGrant c e).confShown = d.confShown := by
  unfold Dev.noteGrant
  dsimp only
  split <;> rfl

theorem Dev.confShown_report (d : Dev) : d.report.confShown = d.confShown := by
  unfold Dev.report
  extract_lets _ _ _ _ _ d1 _ _ _ _ _ _ lim _ _ d2 _ _ _ _ _ _ _ _ _ _ _ _ _ _ _ _ _ _ _ _ _ _ _ _ _ _ d3 d4 d5 _ d6 d7 _ _ _
  have granted : d2.confShown = d.confShown := d1.confShown_tellGrants lim
  have events : d3.confShown = d2.confShown := foldOver_reads Dev.confShown _ _ d2 fun x e => e.confShown_strEvents x.1 x.2
  have cuts : d5.confShown = d3.confShown := (d4.confShown_raiseIf _ (by decide) 1).trans (d3.confShown_raiseIf _ (by decide) 0)
  have ends : d7.confShown = d5.confShown := (d6.confShown_raiseIf _ (by decide) 0).trans (d5.confShown_raiseIf _ (by decide) 0)
  exact (d7.confShown_noteGrant _ _).trans (ends.trans (cuts.trans (events.trans granted)))

/-! The commands. -/

theorem exec_scanJobEnd_none {s : State} (h : s.dev.cnpy.job = none) : exec .scanJobEnd s = .next s := by
  change execScanJobEnd s = _
  unfold execScanJobEnd
  dsimp only
  rw [h]

/-- The end of the scan job: a twin's page waits for the comparison, another's is confirmed. -/
def Dev.endScanJob (d : Dev) : Dev :=
  if d.agreed then { d.runScanJob d.view0 with cnpy := { (d.runScanJob d.view0).cnpy with job := none } } else (d.runScanJob d.view0).finishJob

theorem exec_scanJobEnd_some {s : State} (h : s.dev.cnpy.job ≠ none) : exec .scanJobEnd s = .next { s with dev := s.dev.endScanJob } := by
  obtain ⟨k, hk⟩ := Option.ne_none_iff_exists'.1 h
  change execScanJobEnd s = _
  unfold execScanJobEnd
  dsimp only
  rw [hk]
  rfl

/-! Confirming, field by field. -/

theorem Dev.confirm_reg (k : Nat) (d : Dev) : (d.confirm k).reg A.cnpyConf = BitVec.ofNat 32 k := Dev.reg_setReg _ _ _

theorem Dev.confirm_conf (k : Nat) (d : Dev) : (d.confirm k).cnpy.conf = 1 - d.cnpy.conf := rfl

theorem Dev.confirm_page (k j : Nat) (d : Dev) : (d.confirm k).cnpy.page j = d.cnpy.page j := rfl

/-- A page written is confirmed and reported. -/
theorem Dev.finishJob_wrote {d : Dev} (h : d.cnpy.wrote = true) : d.finishJob.cnpy = (d.confirm d.view0.hdr.scan).cnpy ∧
    d.finishJob.reg A.cnpyConf = (d.confirm d.view0.hdr.scan).reg A.cnpyConf := by
  unfold Dev.finishJob
  rw [if_pos h]
  exact Prod.ext_iff.1 (d.confirm d.view0.hdr.scan).confShown_report

theorem scanJobEnd_confirms {s : State} (h : s.dev.cnpy.job ≠ none) (hagreed : s.dev.agreed = false) (hconf : s.dev.cnpy.conf < 2) :
    ∃ t, exec .scanJobEnd s = .next t ∧ t.dev.cnpy.conf = 1 - s.dev.cnpy.conf ∧
      t.dev.reg A.cnpyConf = BitVec.ofNat 32 s.dev.view0.hdr.scan ∧
      t.dev.cnpy.page t.dev.cnpy.conf = (s.dev.jobCells s.dev.view0).page ∧ DevOnly s t := by
  have single : s.dev.endScanJob = (s.dev.runScanJob s.dev.view0).finishJob := if_neg (by simp [hagreed])
  obtain ⟨cnpy, reg⟩ := Dev.finishJob_wrote (s.dev.runScanJob_wrote s.dev.view0)
  have conf : s.dev.endScanJob.cnpy.conf = 1 - s.dev.cnpy.conf := by
    rw [single, cnpy, Dev.confirm_conf, Dev.runScanJob_conf]
  refine ⟨_, exec_scanJobEnd_some h, conf, ?_, ?_, rfl, rfl⟩
  · dsimp only
    rw [single, reg, Dev.confirm_reg, Dev.runScanJob_view0]
  · dsimp only
    rw [conf, single, cnpy, Dev.confirm_page, Dev.runScanJob_page _ _ hconf]

theorem scanJobEnd_waits {s : State} (h : s.dev.cnpy.job ≠ none) (hagreed : s.dev.agreed = true) :
    ∃ t, exec .scanJobEnd s = .next t ∧ t.dev.cnpy.job = none ∧ t.dev.cnpy.wrote = true ∧ t.dev.cnpy.conf = s.dev.cnpy.conf ∧ DevOnly s t := by
  refine ⟨_, exec_scanJobEnd_some h, ?_⟩
  unfold Dev.endScanJob
  rw [if_pos hagreed]
  exact ⟨rfl, s.dev.runScanJob_wrote s.dev.view0, s.dev.runScanJob_conf s.dev.view0, rfl, rfl⟩

theorem exec_scanJobOverrun_none {s : State} (h : s.dev.cnpy.job = none) : exec .scanJobOverrun s = .next s := by
  change execScanJobOverrun s = _
  unfold execScanJobOverrun
  dsimp only
  rw [h]

/-- The scan job is dropped. -/
def Dev.jobDropped (d : Dev) : Dev := { d with cnpy := { d.cnpy with job := none, wrote := false, abandoned := true } }

theorem exec_scanJobOverrun_some {s : State} (h : s.dev.cnpy.job ≠ none) :
    exec .scanJobOverrun s = .next { s with dev := s.dev.jobDropped.raise 200 0 } := by
  obtain ⟨k, hk⟩ := Option.ne_none_iff_exists'.1 h
  change execScanJobOverrun s = _
  unfold execScanJobOverrun
  dsimp only
  rw [hk]
  rfl

theorem scanJobOverrun_drops {s : State} (h : s.dev.cnpy.job ≠ none) :
    ∃ t, exec .scanJobOverrun s = .next t ∧ t.dev.cnpy.job = none ∧ t.dev.cnpy.wrote = false ∧ t.dev.cnpy.conf = s.dev.cnpy.conf ∧
      t.dev.eventPending 200 = true ∧ RegsKept [] s.dev t.dev ∧ DevOnly s t := by
  have cnpy := Dev.sameBut_cnpy (s.dev.jobDropped.sameBut_raise 200 0)
  exact ⟨_, exec_scanJobOverrun_some h, (congrArg CnpySt.job cnpy :), (congrArg CnpySt.wrote cnpy :), (congrArg CnpySt.conf cnpy :),
    Dev.raise_pending _ (by decide) 0, .trans (.of_regs [] rfl) (.raise [] s.dev.jobDropped (by decide) 0), rfl, rfl⟩

end Sys2Proof.Machine
end

section
/-! Task jobs (08 R288-R292): the queues of the pairs take turns, and a job's answer is written at its output address. -/

namespace Sys2Proof.Machine
open Sys2Proof

/-! The start. -/

theorem exec_estJobStart_busy {s : State} (h : s.dev.cnpy.job ≠ none ∨ s.dev.cnpy.running ≠ none) : exec .estJobStart s = .next s := by
  change execEstJobStart s = _
  unfold execEstJobStart
  dsimp only
  rw [if_pos (h.imp Option.isSome_iff_ne_none.2 Option.isSome_iff_ne_none.2)]

/-- Job `j` of pair `p` runs, and the turn is the other pair's. -/
def Dev.startEst (p : Nat) (j : EstJob) (d : Dev) : Dev :=
  Dev.setEstQ p (fun z => { z with jobs := z.jobs.map (fun x => if x.handle == j.handle then { x with st := 1 } else x) })
    { d with cnpy := { d.cnpy with running := some (p, j.handle), turn := decide (p = 0) } }

theorem Dev.setEstQ_running (p : Nat) (f : EstQ → EstQ) (d : Dev) : (d.setEstQ p f).cnpy.running = d.cnpy.running := by
  unfold Dev.setEstQ
  dsimp only
  split <;> rfl

theorem Dev.setEstQ_turn (p : Nat) (f : EstQ → EstQ) (d : Dev) : (d.setEstQ p f).cnpy.turn = d.cnpy.turn := by
  unfold Dev.setEstQ
  dsimp only
  split <;> rfl

theorem Dev.startEst_running (p : Nat) (j : EstJob) (d : Dev) : (d.startEst p j).cnpy.running = some (p, j.handle) := Dev.setEstQ_running _ _ _

theorem Dev.startEst_turn (p : Nat) (j : EstJob) (d : Dev) : (d.startEst p j).cnpy.turn = decide (p = 0) := Dev.setEstQ_turn _ _ _

section
variable {s : State} {p : Nat} {j : EstJob} (hjob : s.dev.cnpy.job = none) (hrun : s.dev.cnpy.running = none)
  (hp : p = if s.dev.cnpy.turn then 1 else 0)
include hjob hrun hp

theorem exec_estJobStart_turn (hfind : (s.dev.estQ p).jobs.find? (fun j => j.st == 0) = some j) :
    exec .estJobStart s = .next { s with dev := if s.dev.jobFits j then s.dev.startEst p j else s.dev } := by
  change execEstJobStart s = _
  unfold execEstJobStart
  dsimp only
  rw [if_neg (by simp [hjob, hrun]), ← hp]
  unfold Dev.estQ at hfind
  rw [hfind]
  rfl

theorem exec_estJobStart_other (hnone : (s.dev.estQ p).jobs.find? (fun j => j.st == 0) = none)
    (hfind : (s.dev.estQ (1 - p)).jobs.find? (fun j => j.st == 0) = some j) :
    exec .estJobStart s = .next { s with dev := if s.dev.jobFits j then s.dev.startEst (1 - p) j else s.dev } := by
  change execEstJobStart s = _
  unfold execEstJobStart
  dsimp only
  rw [if_neg (by simp [hjob, hrun]), ← hp]
  unfold Dev.estQ at hnone hfind
  rw [hnone, hfind]
  rfl

end

theorem estStarted_of_exec {s : State} {p : Nat} {j : EstJob} (hfits : s.dev.jobFits j = true)
    (h : exec .estJobStart s = .next { s with dev := if s.dev.jobFits j then s.dev.startEst p j else s.dev }) :
    ∃ t, exec .estJobStart s = .next t ∧ t.dev.cnpy.running = some (p, j.handle) ∧ t.dev.cnpy.turn = decide (p = 0) ∧
      t.dev.regs = s.dev.regs ∧ DevOnly s t := by
  rw [if_pos hfits] at h
  exact ⟨_, h, s.dev.startEst_running p j, s.dev.startEst_turn p j, rfl, rfl, rfl⟩

/-! The end. -/

theorem exec_estJobEnd_none {s : State} (h : s.dev.cnpy.running = none) : exec .estJobEnd s = .next s := by
  change execEstJobEnd s = _
  unfold execEstJobEnd
  dsimp only
  rw [h]

/-- The words of a job's header, with its result `r` (08 R290). -/
def Dev.estHeader (desc : List Nat) (r : Nat) (d : Dev) : List Nat :=
  [r + 256 * (pickWord desc 0 / 2 ^ 24), (d.reg A.cnpyConf).toNat, if r = 0 then pickWord desc 1 / 65536 else 0, 0]

/-- The bytes that a job's end writes. -/
def State.estBytes (desc : List Nat) (s : State) : List Byte :=
  toBytes ((s.dev.estHeader desc (s.jobOut desc).1 ++ (s.jobOut desc).2).flatMap (leBytes 4))

/-- Job `j` of pair `p` ran to result `r`: it waits to be read, or leaves the queue where its program was replaced meanwhile. -/
def Dev.endEst (p : Nat) (j : EstJob) (h r : Nat) (d : Dev) : Dev :=
  Dev.setEstQ p (fun z => { z with jobs := if 1000 ≤ j.owner then z.jobs.filter (fun x => !(x.handle == h))
                                   else z.jobs.map (fun x => if x.handle == h then { x with st := if r = 0 then 2 else 3 } else x) })
    { d with cnpy := { d.cnpy with running := none } }

theorem exec_estJobEnd_some {s : State} {p h : Nat} {j : EstJob} (hrun : s.dev.cnpy.running = some (p, h))
    (hfind : (s.dev.estQ p).jobs.find? (fun j => j.handle == h) = some j) :
    exec .estJobEnd s = .next { s with
      dev := ((s.dev.endEst p j h (s.jobOut j.desc).1).raiseIf (!((s.jobOut j.desc).1 == 0)) 195 (j.owner % 1000)).cleanPoison
        (pickWord j.desc 6) (s.estBytes j.desc).length
      mem := writeBytes (pickWord j.desc 6) (s.estBytes j.desc) s.mem } := by
  change execEstJobEnd s = _
  unfold execEstJobEnd
  dsimp only
  rw [hrun]
  dsimp only
  rw [hfind]
  rfl

theorem State.length_estBytes (desc : List Nat) (s : State) : (s.estBytes desc).length = 4 * (4 + (s.jobOut desc).2.length) := by
  unfold State.estBytes toBytes Dev.estHeader
  rw [List.length_map, length_leBytes_flatMap, List.length_append]
  rfl

/-- A little-endian word starts with its low byte. -/
theorem head_toBytes_words (w : Nat) (l : List Nat) : (toBytes ((w :: l).flatMap (leBytes 4))).getD 0 0 = BitVec.ofNat 8 w := by
  change BitVec.ofNat 8 (w >>> (8 * 0) % 256) = _
  exact BitVec.eq_of_toNat_eq (by simp)

theorem State.head_estBytes (desc : List Nat) (s : State) : (s.estBytes desc).getD 0 0 = BitVec.ofNat 8 (s.jobOut desc).1 := by
  refine (head_toBytes_words _ _).trans (BitVec.eq_of_toNat_eq ?_)
  simp

@[simp] theorem Dev.cleanPoison_cnpy (a n : Nat) (d : Dev) : (d.cleanPoison a n).cnpy = d.cnpy := by
  unfold Dev.cleanPoison
  dsimp only
  split <;> rfl

theorem estJobEnd_writes {s : State} {p h : Nat} {j : EstJob} (hrun : s.dev.cnpy.running = some (p, h))
    (hfind : (s.dev.estQ p).jobs.find? (fun j => j.handle == h) = some j) :
    ∃ t, exec .estJobEnd s = .next t ∧ t.dev.cnpy.running = none ∧ t.pending = s.pending ∧
      BytesKept (pickWord j.desc 6) (4 * (4 + (s.jobOut j.desc).2.length)) s t ∧ t.byte (pickWord j.desc 6) = BitVec.ofNat 8 (s.jobOut j.desc).1 ∧
      ((s.jobOut j.desc).1 ≠ 0 → t.dev.eventPending 195 = true) := by
  have hlen := s.length_estBytes j.desc
  refine ⟨_, exec_estJobEnd_some hrun hfind, ?_, rfl, fun k hk => ?_, ?_, fun hr => ?_⟩
  · rw [Dev.cleanPoison_cnpy, Dev.sameBut_cnpy (Dev.sameBut_raiseIf _ _ _ _)]
    exact Dev.setEstQ_running _ _ _
  · exact get_writeBytes_other _ _ (by rwa [hlen])
  · unfold State.byte
    rw [get_writeBytes, if_pos (by omega), Nat.sub_self, State.head_estBytes]
  · have failed : (!((s.jobOut j.desc).1 == 0)) = true := by simpa using hr
    refine (PendKept.of_regs (Dev.cleanPoison_regs _ _ _)).eventPending (by decide) ?_
    rw [failed]
    exact Dev.raise_pending _ (by decide) _

end Sys2Proof.Machine
end

section
/-! The health job (09 R310-R315): string by string, its coulomb count, its cells and its new charge interval. -/

namespace Sys2Proof.Machine
open Sys2Proof

/-- Plant, acquisition, the confirmed page's number, the time of the last health job and each cell's SoC are as before. -/
structure SocKept (d e : Dev) : Prop where
  plant : PlantKept d e
  acq : e.acq = d.acq
  conf : e.cnpy.conf = d.cnpy.conf
  last : e.cnpy.lastHealth = d.cnpy.lastHealth
  soc : ∀ j, (e.slot j).z = (d.slot j).z

namespace SocKept

theorem refl (d : Dev) : SocKept d d := ⟨.refl d, rfl, rfl, rfl, fun _ => rfl⟩

theorem trans {d e f : Dev} (h : SocKept d e) (k : SocKept e f) : SocKept d f :=
  ⟨h.plant.trans k.plant, k.acq.trans h.acq, k.conf.trans h.conf, k.last.trans h.last, fun j => (k.soc j).trans (h.soc j)⟩

/-- A change outside the canopy. -/
theorem of_cnpy {d e : Dev} (hp : PlantKept d e) (ha : e.acq = d.acq) (hc : e.cnpy = d.cnpy) : SocKept d e :=
  ⟨hp, ha, congrArg CnpySt.conf hc, congrArg CnpySt.lastHealth hc, fun j => by unfold Dev.slot; rw [hc]⟩

end SocKept

/-- What the work on string `n`'s health leaves: `SocKept`, the other strings, and the charges of string `n`. -/
structure HealthKept (n : Nat) (d e : Dev) : Prop where
  kept : SocKept d e
  others : ∀ k, k ≠ n → e.str k = d.str k
  charges : (e.str n).qch = (d.str n).qch ∧ (e.str n).qds = (d.str n).qds
  interval : (e.str n).qch0 = (d.str n).qch0 ∧ (e.str n).qds0 = (d.str n).qds0

namespace HealthKept
variable {n : Nat}

/-- A change outside the strings. -/
theorem of_rep {d e : Dev} (h : SocKept d e) (hr : e.rep.str = d.rep.str) : HealthKept n d e := by
  have str : ∀ k, e.str k = d.str k := fun k => by unfold Dev.str; rw [hr]
  exact ⟨h, fun k _ => str k, by rw [str]; exact ⟨rfl, rfl⟩, by rw [str]; exact ⟨rfl, rfl⟩⟩

theorem refl (d : Dev) : HealthKept n d d := of_rep (.refl d) rfl

theorem trans {d e f : Dev} (h : HealthKept n d e) (k : HealthKept n e f) : HealthKept n d f :=
  ⟨h.kept.trans k.kept, fun m hm => (k.others m hm).trans (h.others m hm), ⟨k.charges.1.trans h.charges.1, k.charges.2.trans h.charges.2⟩,
    ⟨k.interval.1.trans h.interval.1, k.interval.2.trans h.interval.2⟩⟩

theorem ite {d e f : Dev} {p : Prop} [Decidable p] (h : HealthKept n d e) (k : HealthKept n d f) : HealthKept n d (if p then e else f) := by
  split
  · exact h
  · exact k

theorem fold {α : Type} (l : List α) (f : α → Dev → Dev) (d : Dev) (h : ∀ a e, HealthKept n e (f a e)) : HealthKept n d (foldOver l f d) :=
  foldOver_keeps (HealthKept n d) l f d (fun a e he => he.trans (h a e)) (refl d)

theorem of_sameBut {d e : Dev} (h : Dev.sameBut d e) : HealthKept n d e :=
  of_rep (.of_cnpy (.of_sameBut h) (Dev.sameBut_acq h) (Dev.sameBut_cnpy h)) (congrArg RepSt.str (Dev.sameBut_rep h))

/-- A change of string `n` beside its charges. -/
theorem setStr (d : Dev) {f : StrSt → StrSt} (hc : (f (d.str n)).qch = (d.str n).qch ∧ (f (d.str n)).qds = (d.str n).qds)
    (hi : (f (d.str n)).qch0 = (d.str n).qch0 ∧ (f (d.str n)).qds0 = (d.str n).qds0) : HealthKept n d (d.setStr n f) :=
  ⟨.of_cnpy (.refl d) rfl rfl, fun _ hk => d.str_setStr_other f hk, by rwa [Dev.str_setStr], by rwa [Dev.str_setStr]⟩

end HealthKept

/-- Health is written beside the SoC. -/
theorem Dev.slot_putHealth_z (j k : Nat) (y : Slot) (d : Dev) : ((d.putHealth j y).slot k).z = (d.slot k).z := by
  have put : ∀ m : FMap Slot, (slotOf (FMap.upd (fun _ => {}) m j y.takeHealth) k).z = (slotOf m k).z := fun m => by
    unfold slotOf FMap.upd
    rw [FMap.get_set]
    split
    case isTrue h => rw [h]; rfl
    case isFalse => rfl
  unfold Dev.slot CnpySt.page
  change (slotOf (if d.cnpy.conf = 0 then _ else _) k).z = _
  split
  · exact put _
  · exact put _

theorem SocKept.putHealth (j : Nat) (y : Slot) (d : Dev) : SocKept d (d.putHealth j y) :=
  ⟨.refl d, rfl, rfl, rfl, fun k => d.slot_putHealth_z j k y⟩

theorem HealthKept.putHealth {n : Nat} (j : Nat) (y : Slot) (d : Dev) : HealthKept n d (d.putHealth j y) := of_rep (.putHealth j y d) rfl

theorem HealthKept.healthBounds {n : Nat} (m j : Nat) (y : Slot) (d : Dev) : HealthKept n d (d.healthBounds m j y) := by
  unfold Dev.healthBounds
  extract_lets now old new _ e
  have noted : HealthKept n d e := of_rep (.of_cnpy (.refl d) rfl rfl) rfl
  exact noted.trans (fold _ _ e fun _ f => of_sameBut (f.sameBut_raise 206 m))

theorem HealthKept.relearnAll {n : Nat} (m : Nat) (d : Dev) : HealthKept n d (d.relearnAll m) := fold _ _ d fun _ e => putHealth _ _ e

theorem HealthKept.setCapdis (n : Nat) (b : Bool) (d : Dev) : HealthKept n d (d.setCapdis n b) := by
  unfold Dev.setCapdis
  extract_lets d1 d2 d3
  have marked : HealthKept n d d1 := setStr d ⟨rfl, rfl⟩ ⟨rfl, rfl⟩
  have shown : HealthKept n d1 d2 := ite (of_rep (.of_cnpy (.refl d1) rfl rfl) rfl) (of_rep (.of_cnpy (.refl d1) rfl rfl) rfl)
  have raised : HealthKept n d d3 := (marked.trans shown).trans (of_sameBut (d2.sameBut_raise 204 n))
  exact ite (raised.trans (relearnAll n d3)) raised

theorem HealthKept.coulombSoc (n : Nat) (u : HealthIn) (d : Dev) : HealthKept n d (d.coulombSoc n u) := by
  unfold Dev.coulombSoc
  extract_lets x _ s lo dq zc anchor zc' ok e zf enter leave
  have counted : HealthKept n d e := setStr d ⟨rfl, rfl⟩ ⟨rfl, rfl⟩
  exact ite (refl d) (ite (counted.trans (setCapdis n true e)) (ite (counted.trans (setCapdis n false e)) counted))

theorem HealthKept.healthCells (n : Nat) (u : HealthIn) (d : Dev) : HealthKept n d (d.healthCells n u) :=
  fold _ _ d fun _ e => ite ((putHealth _ _ e).trans (healthBounds n _ _ _)) (refl e)

/-- The strings of `l` start a new charge interval, and the others are as before. -/
structure IntervalsBegun (l : List Nat) (d e : Dev) : Prop where
  kept : SocKept d e
  charges : ∀ n, (e.str n).qch = (d.str n).qch ∧ (e.str n).qds = (d.str n).qds
  begun : ∀ n ∈ l, (e.str n).qch0 = (d.str n).qch ∧ (e.str n).qds0 = (d.str n).qds
  others : ∀ n, n ∉ l → e.str n = d.str n

theorem Dev.healthStr_begins (dtn q n : Nat) (d : Dev) : IntervalsBegun [n] d (d.healthStr dtn q n) := by
  unfold Dev.healthStr
  extract_lets s u was e f
  have worked : HealthKept n e (f.raiseIf (!(f.relearning n == was)) 205 n) :=
    ((HealthKept.coulombSoc n u e).trans (HealthKept.healthCells n u _)).trans (.of_sameBut (f.sameBut_raiseIf _ _ _))
  have marked : SocKept d e := .of_cnpy (.refl d) rfl rfl
  have str : e.str n = { d.str n with qch0 := s.qch, qds0 := s.qds } := d.str_setStr n _
  have others : ∀ k, k ≠ n → (f.raiseIf (!(f.relearning n == was)) 205 n).str k = d.str k :=
    fun k hk => (worked.others k hk).trans (d.str_setStr_other _ hk)
  refine ⟨marked.trans worked.kept, fun k => ?_, fun k hk => ?_, fun k hk => others k fun h => hk (List.mem_singleton.2 h)⟩
  · obtain rfl | hk := eq_or_ne k n
    · rw [worked.charges.1, worked.charges.2, str]
      exact ⟨rfl, rfl⟩
    · rw [others k hk]
      exact ⟨rfl, rfl⟩
  · obtain rfl := List.mem_singleton.1 hk
    rw [worked.interval.1, worked.interval.2, str]
    exact ⟨rfl, rfl⟩

theorem IntervalsBegun.cons {n : Nat} {l : List Nat} {d e f : Dev} (h : IntervalsBegun [n] d e) (k : IntervalsBegun l e f) :
    IntervalsBegun (n :: l) d f := by
  refine ⟨h.kept.trans k.kept, fun m => ?_, fun m hm => ?_, fun m hm => ?_⟩
  · rw [(k.charges m).1, (k.charges m).2]
    exact h.charges m
  · by_cases hl : m ∈ l
    · rw [(k.begun m hl).1, (k.begun m hl).2]
      exact h.charges m
    · rw [k.others m hl]
      exact h.begun m (List.mem_singleton.2 ((List.mem_cons.1 hm).resolve_right hl))
  · rw [List.mem_cons, not_or] at hm
    obtain ⟨hn, hl⟩ := hm
    exact (k.others m hl).trans (h.others m fun h1 => hn (List.mem_singleton.1 h1))

theorem foldOver_healthStr_begins (dtn q : Nat) (l : List Nat) (d : Dev) : IntervalsBegun l d (foldOver l (Dev.healthStr dtn q) d) := by
  induction l generalizing d with
  | nil => exact ⟨.refl d, fun _ => ⟨rfl, rfl⟩, fun _ h => absurd h List.not_mem_nil, fun _ _ => rfl⟩
  | cons n l ih => exact (Dev.healthStr_begins dtn q n d).cons (ih _)

/-- The time of the last health job is now. -/
def Dev.healthNow (d : Dev) : Dev := { d with cnpy := { d.cnpy with lastHealth := d.time.now } }

/-- The health of the strings in service, up to now. -/
def Dev.runHealth (d : Dev) : Dev :=
  foldOver d.ringsOn (Dev.healthStr (d.time.now - d.cnpy.lastHealth) (d.time.now / 900000000000 - d.cnpy.lastHealth / 900000000000)) d.healthNow

theorem exec_healthJob (s : State) : exec .healthJob s = .next { s with dev := s.dev.runHealth } := rfl

theorem healthJob_begins (s : State) : ∃ t, exec .healthJob s = .next t ∧ t.dev.cnpy.lastHealth = s.dev.time.now ∧
    (∀ n ∈ s.dev.ringsOn, (t.dev.str n).qch0 = (s.dev.str n).qch ∧ (t.dev.str n).qds0 = (s.dev.str n).qds) ∧
    (∀ n, n ∉ s.dev.ringsOn → t.dev.str n = s.dev.str n) ∧ (∀ j, (t.dev.slot j).z = (s.dev.slot j).z) ∧ t.dev.cnpy.conf = s.dev.cnpy.conf ∧
    t.dev.acq = s.dev.acq ∧ PlantOnly s t := by
  obtain ⟨kept, -, begun, others⟩ := foldOver_healthStr_begins (s.dev.time.now - s.dev.cnpy.lastHealth)
    (s.dev.time.now / 900000000000 - s.dev.cnpy.lastHealth / 900000000000) s.dev.ringsOn s.dev.healthNow
  exact ⟨_, exec_healthJob s, kept.last, begun, others, kept.soc, kept.conf, kept.acq, PlantKept.plantOnly kept.plant⟩

end Sys2Proof.Machine
end

section
/-! Snapshots (08 R293): an entry per string, in two sets that are written in turn. -/

namespace Sys2Proof.Machine
open Sys2Proof

/-- Where the set being written holds the entry of string `n`. -/
def Dev.snapAddr (n : Nat) (d : Dev) : Nat := (if d.cnpy.snapUseB then 0x20340000 else 0x20280000) + 0x4000 * n

/-- The events and the record of a failed write, at `a`, of the entry of string `n`. -/
def Dev.snapFailed (a n : Nat) (d : Dev) : Dev := ((d.raise 199 n).raiseNoLog 365).logRec 6 365 ([4, 0, 0, 0] ++ leBytes 4 a) []

/-- The entry of string `n` is written, or its write fails. -/
def Dev.snapTried (ok : Bool) (n : Nat) (d : Dev) : Dev := if ok then d.snapWrite ok n else (d.snapWrite ok n).snapFailed (d.snapAddr n) n

/-- Behind string `n` the next string follows, or the other set. -/
def Dev.snapNext (n : Nat) (d : Dev) : Dev :=
  let e := { d with cnpy := { d.cnpy with snapNext := n + 1 } }
  if e.ringsOn.any (fun k => decide (n < k)) then e else e.snapCycle

/-- SNAPSHOT_REFRESH before it shows whether every string has a valid entry. -/
def Dev.snapStep (ok : Bool) (d : Dev) : Dev :=
  match d.ringsOn.find? (fun n => decide (d.cnpy.snapNext ≤ n)) with
  | none => d
  | some n => (d.snapTried ok n).snapNext n

theorem exec_snapshotRefresh (ok : Bool) (s : State) : exec (.snapshotRefresh ok) s =
    .next { s with dev := (s.dev.snapStep ok).setRbit A.cnpyStat 28 (s.dev.snapStep ok).snapsOk } := by
  change execSnapshotRefresh ok s = _
  unfold execSnapshotRefresh
  extract_lets d e
  have step : e = d.snapStep ok := by
    unfold e Dev.snapStep
    cases d.ringsOn.find? (fun n => decide (d.cnpy.snapNext ≤ n)) with
    | none => rfl
    | some n => rfl
  rw [step]

theorem Dev.sameBut_snapFailed (a n : Nat) (d : Dev) : Dev.sameBut d (d.snapFailed a n) :=
  Dev.sameBut_trans (Dev.sameBut_trans (d.sameBut_raise 199 n) (Dev.sameBut_raiseBase _ 365)) (Dev.sameBut_logRec _ _ _ _ _)

theorem Dev.snapFailed_pending (a n : Nat) (d : Dev) :
    (d.snapFailed a n).eventPending 199 = true ∧ (d.snapFailed a n).eventPending 365 = true := by
  have logged : PendKept ((d.raise 199 n).raiseNoLog 365) (d.snapFailed a n) := (Dev.logRec_regsRaised _ 6 365 _ []).pend
  have counted : PendKept (d.raise 199 n) ((d.raise 199 n).raiseNoLog 365) := (Dev.raiseBase_regsRaised _ (by decide)).pend
  exact ⟨(counted.trans logged).eventPending (by decide) (d.raise_pending (by decide) n),
    logged.eventPending (by decide) (Dev.raiseBase_pending _ (by decide))⟩

/-- The two sets of entries. -/
def Dev.snaps (d : Dev) : FMap Snap × FMap Snap := (d.cnpy.snapA, d.cnpy.snapB)

theorem Dev.snapNext_snaps (n : Nat) (d : Dev) : (d.snapNext n).snaps = d.snaps := by
  unfold Dev.snapNext
  dsimp only
  split <;> rfl

theorem Dev.snapTried_snaps (ok : Bool) (n : Nat) (d : Dev) : (d.snapTried ok n).snaps = (d.snapWrite ok n).snaps := by
  unfold Dev.snapTried
  split
  · rfl
  · exact congrArg (fun c : CnpySt => (c.snapA, c.snapB)) (Dev.sameBut_cnpy (Dev.sameBut_snapFailed _ n _))

theorem Dev.snapWrite_entry (ok : Bool) (n : Nat) (d : Dev) :
    FMap.get (fun _ => {}) (if d.cnpy.snapUseB then (d.snapWrite ok n).cnpy.snapB else (d.snapWrite ok n).cnpy.snapA) n = d.snapOf n ok := by
  unfold Dev.snapWrite
  dsimp only
  cases d.cnpy.snapUseB with
  | true => exact FMap.get_set_same (fun _ => {}) d.cnpy.snapB n _
  | false => exact FMap.get_set_same (fun _ => {}) d.cnpy.snapA n _

theorem PendKept.snapNext (n : Nat) (d : Dev) : PendKept d (d.snapNext n) := by
  unfold Dev.snapNext Dev.snapCycle
  dsimp only
  split
  · exact .of_regs rfl
  · exact (PendKept.of_regs rfl).trans (.setReg _ _ (by decide))

theorem PlantKept.snapStep (ok : Bool) (d : Dev) : PlantKept d (d.snapStep ok) := by
  have tried : ∀ n, PlantKept d (d.snapTried ok n) := fun n => by
    unfold Dev.snapTried
    split
    · exact .refl d
    · exact PlantKept.trans (e := d.snapWrite ok n) (.refl d) (.of_sameBut (Dev.sameBut_snapFailed _ n _))
  have next : ∀ n (e : Dev), PlantKept e (e.snapNext n) := fun n e => by
    unfold Dev.snapNext
    dsimp only
    split
    · exact .refl e
    · exact .refl e
  unfold Dev.snapStep
  split
  · exact .refl d
  · exact (tried _).trans (next _ _)

/-- CNPY.STAT tells no string in service. -/
theorem Dev.ringsOn_setStat (i : Nat) (b : Bool) (d : Dev) : (d.setRbit A.cnpyStat i b).ringsOn = d.ringsOn := by
  have rings : (d.setRbit A.cnpyStat i b).rings = d.rings := Dev.fld_congr (d.reg_setRbit_other i b (by decide)) 23 18
  unfold Dev.ringsOn
  rw [rings]
  refine List.filter_congr fun n hn => Dev.rbit_congr (d.reg_setRbit_other i b ?_) 31
  have hlt := d.rings_lt
  have hn' := List.mem_range.1 hn
  unfold A.ringCfg A.cnpyStat
  omega

theorem Dev.snapsOk_setStat (i : Nat) (b : Bool) (d : Dev) : (d.setRbit A.cnpyStat i b).snapsOk = d.snapsOk := by
  unfold Dev.snapsOk
  rw [d.ringsOn_setStat]
  rfl

theorem snapshotRefresh_writes (ok : Bool) (s : State) : ∃ t, exec (.snapshotRefresh ok) s = .next t ∧
    t.dev.rbit A.cnpyStat 28 = t.dev.snapsOk ∧ PlantOnly s t ∧
    ∀ n, s.dev.ringsOn.find? (fun n => decide (s.dev.cnpy.snapNext ≤ n)) = some n →
      FMap.get (fun _ => {}) (if s.dev.cnpy.snapUseB then t.dev.cnpy.snapB else t.dev.cnpy.snapA) n = s.dev.snapOf n ok ∧
      (ok = false → (s.dev.snapOf n ok).valid = false ∧ t.dev.eventPending 199 = true ∧ t.dev.eventPending 365 = true) := by
  refine ⟨_, exec_snapshotRefresh ok s, ?_, PlantKept.plantOnly ((PlantKept.snapStep ok s.dev).trans (.refl _)), fun n hn => ?_⟩
  · rw [Dev.rbit_setRbit _ _ _ _ _ (by decide) (by decide), if_pos rfl, Dev.snapsOk_setStat]
  · have step : s.dev.snapStep ok = (s.dev.snapTried ok n).snapNext n := by
      unfold Dev.snapStep
      rw [hn]
    have snaps : (s.dev.snapStep ok).snaps = (s.dev.snapWrite ok n).snaps := by
      rw [step, Dev.snapNext_snaps, Dev.snapTried_snaps]
    refine ⟨?_, ?_⟩
    · refine Eq.trans ?_ (s.dev.snapWrite_entry ok n)
      exact congrArg (fun x : FMap Snap × FMap Snap => FMap.get (fun _ => {}) (if s.dev.cnpy.snapUseB then x.2 else x.1) n) snaps
    · rintro rfl
      have pend : PendKept ((s.dev.snapWrite false n).snapFailed (s.dev.snapAddr n) n)
          ((s.dev.snapStep false).setRbit A.cnpyStat 28 (s.dev.snapStep false).snapsOk) := by
        rw [step]
        exact (PendKept.snapNext n _).trans (.setReg _ _ (by decide))
      obtain ⟨h199, h365⟩ := (s.dev.snapWrite false n).snapFailed_pending (s.dev.snapAddr n) n
      exact ⟨rfl, pend.eventPending (by decide) h199, pend.eventPending (by decide) h365⟩

end Sys2Proof.Machine
end

section
/-! Impedance (09 R317-R324): a string is armed, its arming ends without a step, its bursts are fitted and the fit is taken. -/

namespace Sys2Proof.Machine
open Sys2Proof

theorem Dev.sendBurst_rep (n op : Nat) (d : Dev) : (d.sendBurst n op).rep = d.rep := by
  rw [Dev.sendBurst_ports]

/-! Arming and its end, seen on the strings. -/

theorem Dev.arm_str (n : Nat) (d : Dev) : (d.arm n).str n = { d.str n with armed := true, frozen := false, reading := false } :=
  (Dev.str_congr (Dev.sendBurst_rep n 0 _) n).trans (Dev.str_setStr _ n _)

theorem Dev.arm_str_other {n k : Nat} (h : k ≠ n) (d : Dev) : (d.arm n).str k = d.str k :=
  (Dev.str_congr (Dev.sendBurst_rep n 0 _) k).trans (Dev.str_setStr_other _ _ h)

theorem Dev.disarm_rot (n : Nat) (d : Dev) : ((d.disarm n).str n).rot = (d.str n).rot := by
  unfold Dev.disarm
  split
  · rw [Dev.str_congr (Dev.sendBurst_rep n 2 _), Dev.str_setStr]
  · rfl

/-! The commands on a fitted ring. -/

/-- The arming of string `n` ends unused; it is armed again, for the next cell of the rotation, when it may be. -/
def Dev.rotateArm (n : Nat) (d : Dev) : Dev :=
  let e := (d.disarm n).setStr n (fun x => { x with rot := x.rot + 1 })
  if e.mayArm n then e.arm n else e

/-- The fits of string `n`'s hops wait for their job's end, and the arming is over. -/
def Dev.fitBursts (n : Nat) (d : Dev) : Dev :=
  let w := foldOver (d.hopsOf n) (fun h m => FMap.set (fun _ => []) m (64 * n + h - 1) (d.impRecord n h (d.fitHop n h))) d.cnpy.impWork
  let e := { d with cnpy := { d.cnpy with impWork := w, bursts := d.cnpy.bursts.filter (fun p => !(p.1 / 64 == n)) } }
  (e.disarm n).setStr n (fun x => { x with capT := some e.time.now, rot := x.rot + 1 })

/-- The fits of string `n` that wait. -/
def Dev.fitsWaiting (n : Nat) (d : Dev) : FMap (List Nat) := d.cnpy.impWork.filter (fun p => p.1 / 64 == n)

/-- The fits of string `n` that wait are records. -/
def Dev.fitsTaken (n : Nat) (d : Dev) : Dev :=
  { d with cnpy := { d.cnpy with impWork := d.cnpy.impWork.filter (fun p => !(p.1 / 64 == n)),
                                 imp := foldOver (d.fitsWaiting n) (fun p m => FMap.set (fun _ => []) m p.1 p.2) d.cnpy.imp } }

/-- The scan of the first good fit is noted. -/
def Dev.fitScanNoted (n : Nat) (l : FMap (List Nat)) (d : Dev) : Dev :=
  match l.find? (fun p => p.2.getD 1 0 % 256 == 0) with
  | none => d
  | some p => d.setStr n (fun x => { x with capScan := p.2.getD 0 0 })

/-- The fit of string `n` is taken into the health of its cells. -/
def Dev.endFit (n : Nat) (d : Dev) : Dev :=
  (foldOver (d.fitsWaiting n) (fun p d => d.fitSlot n (p.1 % 64 + 1) p.2) ((d.fitsTaken n).fitScanNoted n (d.fitsWaiting n))).raise 208 n

theorem Dev.rotateArm_rot (n : Nat) (d : Dev) : ((d.rotateArm n).str n).rot = (d.str n).rot + 1 := by
  have turned : (((d.disarm n).setStr n (fun x => { x with rot := x.rot + 1 })).str n).rot = (d.str n).rot + 1 := by
    rw [Dev.str_setStr, d.disarm_rot]
  unfold Dev.rotateArm
  dsimp only
  split
  · rw [Dev.arm_str]
    exact turned
  · exact turned

section
variable {n : Nat} {s : State}

theorem exec_impedance_absent (h : s.dev.rings ≤ n) {i : Instr} (hi : i ∈ [Instr.impedanceArm n, .armTimeout n, .fitJob n, .fitJobEnd n]) :
    exec i s = .fault .noSuchUnit := by
  have absent : ∀ g : Dev → Dev, ringCmd n g s = .fault .noSuchUnit := fun g => present_absent _ (decide_eq_false (Nat.not_lt.2 h))
  simp only [List.mem_cons, List.not_mem_nil, or_false] at hi
  obtain rfl | rfl | rfl | rfl := hi
  · exact absent _
  · exact absent _
  · exact absent _
  · exact absent _

variable (hn : n < s.dev.rings)
include hn

theorem exec_impedanceArm : exec (.impedanceArm n) s = .next { s with dev := if s.dev.mayArm n then s.dev.arm n else s.dev } :=
  exec_ringCmd hn (g := fun d => if d.mayArm n then d.arm n else d) rfl

theorem exec_armTimeout : exec (.armTimeout n) s =
    .next { s with dev := if (s.dev.str n).armed && !(s.dev.str n).reading then s.dev.rotateArm n else s.dev } :=
  exec_ringCmd hn (g := fun d => if (d.str n).armed && !(d.str n).reading then d.rotateArm n else d) rfl

theorem exec_fitJob : exec (.fitJob n) s = .next { s with dev := if !s.dev.burstsRead n then s.dev else s.dev.fitBursts n } :=
  exec_ringCmd hn (g := fun d => if !d.burstsRead n then d else d.fitBursts n) rfl

theorem exec_fitJobEnd : exec (.fitJobEnd n) s = .next { s with dev := if s.dev.fitsWaiting n = [] then s.dev else s.dev.endFit n } :=
  exec_ringCmd hn (g := fun d => if d.fitsWaiting n = [] then d else d.endFit n) rfl

theorem exec_impedanceArm_not (h : s.dev.mayArm n = false) : exec (.impedanceArm n) s = .next s := by
  rw [exec_impedanceArm hn, h]
  rfl

theorem impedanceArm_arms (h : s.dev.mayArm n = true) : ∃ t, exec (.impedanceArm n) s = .next t ∧ (t.dev.str n).armed = true ∧
    (t.dev.str n).frozen = false ∧ (∀ k, k ≠ n → t.dev.str k = s.dev.str k) ∧ DevOnly s t := by
  refine ⟨_, exec_impedanceArm hn, ?_⟩
  rw [h]
  have str := s.dev.arm_str n
  exact ⟨congrArg StrSt.armed str, congrArg StrSt.frozen str, fun _ hk => s.dev.arm_str_other hk, rfl, rfl⟩

theorem exec_armTimeout_not (h : (s.dev.str n).armed = false ∨ (s.dev.str n).reading = true) : exec (.armTimeout n) s = .next s := by
  have idle : ((s.dev.str n).armed && !(s.dev.str n).reading) = false := by
    obtain h | h := h
    · rw [h, Bool.false_and]
    · rw [h, Bool.not_true, Bool.and_false]
  rw [exec_armTimeout hn, idle]
  rfl

theorem armTimeout_rotates (ha : (s.dev.str n).armed = true) (hr : (s.dev.str n).reading = false) :
    ∃ t, exec (.armTimeout n) s = .next t ∧ (t.dev.str n).rot = (s.dev.str n).rot + 1 ∧ DevOnly s t := by
  refine ⟨_, exec_armTimeout hn, ?_⟩
  rw [ha, hr]
  exact ⟨s.dev.rotateArm_rot n, rfl, rfl⟩

theorem exec_fitJob_not (h : s.dev.burstsRead n = false) : exec (.fitJob n) s = .next s := by
  rw [exec_fitJob hn, h]
  rfl

theorem fitJob_fits (h : s.dev.burstsRead n = true) : ∃ t, exec (.fitJob n) s = .next t ∧ (t.dev.str n).capT = some s.dev.time.now ∧
    (t.dev.str n).rot = (s.dev.str n).rot + 1 ∧ DevOnly s t := by
  refine ⟨_, exec_fitJob hn, ?_⟩
  rw [h]
  refine ⟨congrArg StrSt.capT (Dev.str_setStr _ n _), (congrArg StrSt.rot (Dev.str_setStr _ n _)).trans ?_, rfl, rfl⟩
  exact congrArg (· + 1) (Dev.disarm_rot n _)

theorem exec_fitJobEnd_not (h : s.dev.cnpy.impWork.filter (fun p => p.1 / 64 == n) = []) : exec (.fitJobEnd n) s = .next s :=
  (exec_fitJobEnd hn).trans (next_dev_congr (if_pos h))

end

theorem Dev.impWork_fitSlot (n h : Nat) (r : List Nat) (d : Dev) : (d.fitSlot n h r).cnpy.impWork = d.cnpy.impWork := by
  unfold Dev.fitSlot Dev.healthBounds
  dsimp only
  split
  · rfl
  · exact foldOver_reads (fun e : Dev => e.cnpy.impWork) _ _ _ fun _ e => congrArg CnpySt.impWork (Dev.sameBut_cnpy (e.sameBut_raise 206 n))

theorem Dev.impWork_fitScanNoted (n : Nat) (l : FMap (List Nat)) (d : Dev) : (d.fitScanNoted n l).cnpy.impWork = d.cnpy.impWork := by
  unfold Dev.fitScanNoted
  split <;> rfl

theorem Dev.impWork_endFit (n : Nat) (d : Dev) : (d.endFit n).cnpy.impWork = d.cnpy.impWork.filter (fun p => !(p.1 / 64 == n)) := by
  have cells := foldOver_reads (fun e : Dev => e.cnpy.impWork) (d.fitsWaiting n) (fun p d => d.fitSlot n (p.1 % 64 + 1) p.2)
    ((d.fitsTaken n).fitScanNoted n (d.fitsWaiting n)) fun _ e => e.impWork_fitSlot n _ _
  exact (congrArg CnpySt.impWork (Dev.sameBut_cnpy (Dev.sameBut_raise _ 208 n))).trans (cells.trans (Dev.impWork_fitScanNoted n _ _))

theorem fitJobEnd_takes {n : Nat} {s : State} (hn : n < s.dev.rings) (h : s.dev.cnpy.impWork.filter (fun p => p.1 / 64 == n) ≠ []) :
    ∃ t, exec (.fitJobEnd n) s = .next t ∧ t.dev.cnpy.impWork = s.dev.cnpy.impWork.filter (fun p => !(p.1 / 64 == n)) ∧
      t.dev.eventPending 208 = true ∧ DevOnly s t := by
  refine ⟨_, (exec_fitJobEnd hn).trans (next_dev_congr (if_neg h)), ?_⟩
  exact ⟨s.dev.impWork_endFit n, Dev.raise_pending _ (by decide) n, rfl, rfl⟩

end Sys2Proof.Machine
end

section
/-! Timers of the reported state (09 R307-R308, R329): the rest of SOCM, the release of the reserve, and the PCS requests. -/

namespace Sys2Proof.Machine
open Sys2Proof

theorem exec_socmRestExpiry_none {s : State} (h : s.dev.rep.restT = none) : exec .socmRestExpiry s = .next s := by
  change execSocmRestExpiry s = _
  unfold execSocmRestExpiry
  dsimp only
  rw [h]

theorem socmRestExpiry_tracks {u : Nat} {s : State} (h : s.dev.rep.restT = some u) : ∃ t, exec .socmRestExpiry s = .next t ∧
    t.dev.rep.socm = s.dev.rep.blk0.socf ∧ t.dev.rep.restT = none ∧ t.dev.rep.tracking = true ∧ PlantOnly s t := by
  have he : exec .socmRestExpiry s = .next { s with dev :=
      ({ s.dev with rep := { s.dev.rep with socm := s.dev.rep.blk0.socf, restT := none, tracking := true } } : Dev).at (u + 600000000000) } := by
    change execSocmRestExpiry s = _
    unfold execSocmRestExpiry
    dsimp only
    rw [h]
  exact ⟨_, he, rfl, rfl, rfl, PlantKept.plantOnly (.refl s.dev)⟩

theorem exec_reserveExpiry_none {s : State} (h : s.dev.rep.relFrel = none) : exec .reserveExpiry s = .next s := by
  change execReserveExpiry s = _
  unfold execReserveExpiry
  rw [h]
  rfl

/-- No release of the reserve runs: FREL and its flag are clear. -/
def Dev.releaseCleared (d : Dev) : Dev := (({ d with rep := { d.rep with relFrel := none } } : Dev).setRbit A.cnpyRsv 31 false).setFld A.cnpyRsv 9 0 0

theorem exec_reserveExpiry_some {s : State} (h : s.dev.rep.relFrel ≠ none) :
    exec .reserveExpiry s = .next { s with dev := (s.dev.at s.dev.rep.relUntil).releaseCleared.raise 210 0 } := by
  obtain ⟨f, hf⟩ := Option.ne_none_iff_exists'.1 h
  change execReserveExpiry s = _
  unfold execReserveExpiry Dev.endRelease Dev.at
  dsimp only
  rw [hf]
  rfl

theorem Dev.releaseCleared_flag (d : Dev) : d.releaseCleared.rbit A.cnpyRsv 31 = false := by
  unfold Dev.releaseCleared
  rw [Dev.rbit_setFld _ _ _ (by decide) (by decide) (by decide), if_neg (by decide), Dev.rbit_setRbit _ _ _ _ _ (by decide) (by decide), if_pos rfl]

theorem reserveExpiry_ends {s : State} (h : s.dev.rep.relFrel ≠ none) : ∃ t, exec .reserveExpiry s = .next t ∧ t.dev.rep.relFrel = none ∧
    t.dev.rbit A.cnpyRsv 31 = false ∧ t.dev.eventPending 210 = true ∧ DevOnly s t :=
  ⟨_, exec_reserveExpiry_some h, congrArg RepSt.relFrel (Dev.sameBut_rep (Dev.sameBut_raise _ 210 0)),
    (Dev.rbit_congr (Dev.reg_raise _ (by decide) (by decide) 0) 31).trans (Dev.releaseCleared_flag _), Dev.raise_pending _ (by decide) 0, rfl, rfl⟩

/-! The requests of the PCS. -/

/-- The discharge request, or the charge request. -/
def Dev.pcsForce (discharge : Bool) (d : Dev) : Option PcsForce := if discharge then d.rep.dis else d.rep.chg

/-- No end is set for the request. -/
def pcsLasts (r : Option PcsForce) : Bool := match r with | none => true | some x => x.until_.isNone

theorem pcsLasts_of_endless {r : Option PcsForce} (h : ∀ x, r = some x → x.until_ = none) : pcsLasts r = true := by
  cases r with
  | none => rfl
  | some x => exact Option.isNone_iff_eq_none.2 (h x rfl)

theorem pcsLasts_some_ends {x : PcsForce} (h : x.until_ ≠ none) : pcsLasts (some x) ≠ true := fun hnone => h (Option.isNone_iff_eq_none.1 hnone)

/-- The request is over, and what it cut off with it. -/
def Dev.endPcs (discharge : Bool) (d : Dev) : Dev :=
  { d.at (endOf (d.pcsForce discharge)) with
    rep := if discharge then { d.rep with dis := none, cutD := false } else { d.rep with chg := none, cutC := false } }

section
variable (b : Bool) {s : State}

theorem exec_pcsRequestExpiry (s : State) :
    exec (.pcsRequestExpiry b) s = .next { s with dev := if pcsLasts (s.dev.pcsForce b) then s.dev else s.dev.endPcs b } := rfl

theorem exec_pcsRequestExpiry_endless (h : ∀ x, s.dev.pcsForce b = some x → x.until_ = none) : exec (.pcsRequestExpiry b) s = .next s :=
  (exec_pcsRequestExpiry b s).trans (next_dev_congr (if_pos (pcsLasts_of_endless h)))

theorem exec_pcsRequestExpiry_ends {x : PcsForce} (h : s.dev.pcsForce b = some x) (hx : x.until_ ≠ none) :
    exec (.pcsRequestExpiry b) s = .next { s with dev := s.dev.endPcs b } :=
  (exec_pcsRequestExpiry b s).trans (next_dev_congr (if_neg (h ▸ pcsLasts_some_ends hx)))

end

theorem pcsRequestExpiry_dis {s : State} {x : PcsForce} (h : s.dev.rep.dis = some x) (hx : x.until_ ≠ none) :
    ∃ t, exec (.pcsRequestExpiry true) s = .next t ∧ t.dev.rep.dis = none ∧ t.dev.rep.chg = s.dev.rep.chg ∧ PlantOnly s t :=
  ⟨_, exec_pcsRequestExpiry_ends true h hx, rfl, rfl, PlantKept.plantOnly (.refl s.dev)⟩

theorem pcsRequestExpiry_chg {s : State} {x : PcsForce} (h : s.dev.rep.chg = some x) (hx : x.until_ ≠ none) :
    ∃ t, exec (.pcsRequestExpiry false) s = .next t ∧ t.dev.rep.chg = none ∧ t.dev.rep.dis = s.dev.rep.dis ∧ PlantOnly s t :=
  ⟨_, exec_pcsRequestExpiry_ends false h hx, rfl, rfl, PlantKept.plantOnly (.refl s.dev)⟩

/-- Settles O52: a lemma for each command and each case of it. -/
theorem estimationJobs : Obligations.EstimationJobs := fun s =>
  ⟨exec_scanJobEnd_none, scanJobEnd_confirms, scanJobEnd_waits, exec_scanJobOverrun_none, scanJobOverrun_drops, exec_estJobStart_busy,
    fun _ _ hjob hrun hp hfind => ⟨fun hlate => by rw [exec_estJobStart_turn hjob hrun hp hfind, hlate]; rfl,
      fun hfits => estStarted_of_exec hfits (exec_estJobStart_turn hjob hrun hp hfind)⟩,
    fun _ _ hjob hrun hp hnone hfind hfits => estStarted_of_exec hfits (exec_estJobStart_other hjob hrun hp hnone hfind),
    exec_estJobEnd_none, fun _ _ _ => estJobEnd_writes, healthJob_begins s, fun ok => snapshotRefresh_writes ok s,
    fun _ hn _ => exec_impedance_absent hn,
    fun _ hn => ⟨exec_impedanceArm_not hn, impedanceArm_arms hn, exec_armTimeout_not hn, armTimeout_rotates hn, exec_fitJob_not hn, fitJob_fits hn,
      exec_fitJobEnd_not hn, fitJobEnd_takes hn⟩,
    exec_socmRestExpiry_none, fun _ => socmRestExpiry_tracks, exec_reserveExpiry_none, reserveExpiry_ends, exec_pcsRequestExpiry_endless true,
    exec_pcsRequestExpiry_endless false, fun _ => pcsRequestExpiry_dis, fun _ => pcsRequestExpiry_chg⟩

end Sys2Proof.Machine
end

section
/-! What results, answers and changes of the device state leave (10 R348, R371, 14 R491, 16 R548): beside registers, they tell it to
the log, to Heartwood's sessions, to the partner and to the power unit alone. -/

namespace Sys2Proof.Machine
open Sys2Proof

/-- Of the device, what is told differs, and of its registers those of `l` and those of EVT and LOG, where no pending event was
lost. -/
structure Told (l : List Nat) (d e : Dev) : Prop where
  same : e = { d with regs := e.regs, log := e.log, hwd := e.hwd, pwr := e.pwr, twin := e.twin }
  regs : RegsKept l d e
  pend : PendKept d e

namespace Told
section
variable {l : List Nat}

theorem refl (d : Dev) : Told l d d := ⟨rfl, .refl l d, .of_regs rfl⟩

theorem trans {d e f : Dev} (h : Told l d e) (k : Told l e f) : Told l d f :=
  ⟨by rw [k.same, h.same], h.regs.trans k.regs, h.pend.trans k.pend⟩

theorem ite {d e f : Dev} {p : Prop} [Decidable p] (h : Told l d e) (k : Told l d f) : Told l d (if p then e else f) := by
  split
  · exact h
  · exact k

theorem fold {α : Type} (xs : List α) (f : α → Dev → Dev) (d : Dev) (h : ∀ x e, Told l e (f x e)) : Told l d (foldOver xs f d) :=
  foldOver_keeps (Told l d) xs f d (fun x e he => he.trans (h x e)) (.refl d)

/-- A change of what is told, registers apart. -/
theorem of_same {d e : Dev} (h : e = { d with log := e.log, hwd := e.hwd, pwr := e.pwr, twin := e.twin }) : Told l d e := by
  have hr : e.regs = d.regs := by rw [h]
  refine ⟨?_, .of_regs l hr, .of_regs hr⟩
  rw [hr]
  exact h

/-- Events and log records. -/
theorem of_raised {m : List Nat} {d e : Dev} (h : Dev.sameBut d e) (k : RegsRaised m d e) : Told l d e :=
  ⟨by rw [h], fun a ha _ => k.kept a ha List.not_mem_nil, k.pend⟩

theorem setReg (d : Dev) {a : Nat} (v : Word) (ha : a ∈ l) (hp : a < 0x40010000 ∨ 0x40010030 ≤ a) : Told l d (d.setReg a v) :=
  ⟨rfl, .setReg d v ha, .setReg d v hp⟩

theorem reg {d e : Dev} (h : Told l d e) {a : Nat} (ha : evtArea a = false) (hl : a ∉ l) : e.reg a = d.reg a := h.regs a ha hl

theorem ctl {d e : Dev} (h : Told l d e) : e.ctl = d.ctl := by rw [h.same]

theorem rep {d e : Dev} (h : Told l d e) : e.rep = d.rep := by rw [h.same]

theorem ports {d e : Dev} (h : Told l d e) : e.ports = d.ports := by rw [h.same]

theorem plant {d e : Dev} (h : Told l d e) : PlantKept d e := by
  rw [h.same]
  exact .refl d

end

section
variable (l : List Nat) (d : Dev)

theorem raise {e : Nat} (he : e < 384) (i : Nat) : Told l d (d.raise e i) := .of_raised (d.sameBut_raise e i) (d.raise_regsRaised he i)

theorem raiseIf (b : Bool) {e : Nat} (he : e < 384) (i : Nat) : Told l d (d.raiseIf b e i) := ite (raise l d he i) (refl d)

/-! Changes of the device state. -/

theorem settleNow (base : Nat) : Told [A.pwrStat] d (d.settleNow base) := by
  unfold Dev.settleNow
  extract_lets old st b e
  have shown : Told [A.pwrStat] d e := (setReg d _ (by simp) (by decide)).trans (setReg _ _ (by simp) (by decide))
  have raised : Told [A.pwrStat] e (e.raiseNoLog 0) := of_raised (e.sameBut_raiseBase 0) (e.raiseBase_regsRaised (by decide))
  exact ite shown (shown.trans (raised.trans (of_raised (Dev.sameBut_logRec _ _ _ _ _) (Dev.logRec_regsRaised _ _ _ _ _))))

theorem moorSend (m : Mooring) : Told l d (d.moorSend m) := ite (of_same rfl) (refl d)

theorem settleState (base : Nat) : Told [A.pwrStat] d (d.settleState base) := by
  unfold Dev.settleState
  refine ite (ite (trans ?_ (moorSend _ _ _)) (refl d)) (settleNow d base)
  exact of_same rfl

/-! Results. -/

theorem lateReply (sess seq st : Nat) (body : List Nat) : Told l d (d.lateReply sess seq st body) := by
  unfold Dev.lateReply
  split
  · exact refl d
  · exact of_same rfl

theorem answerSeq (tgt code tag res : Nat) (refused : Bool) : Told l d (d.answerSeq tgt code tag res refused) := by
  unfold Dev.answerSeq
  split
  · exact refl d
  · refine trans ?_ (lateReply _ _ _ _ _ _)
    exact of_same rfl

theorem putResult (code tag src res : Nat) (refused : Bool) : Told [A.ctlSeqres] d (d.putResult code tag src res refused) := by
  have written : Told [A.ctlSeqres] d (d.setReg A.ctlSeqres (resWord code tag src res)) := setReg d _ (by simp) (by decide)
  unfold Dev.putResult
  exact ite (written.trans (answerSeq _ _ _ _ _ _ _)) written

theorem blkResult (code tag src res : Nat) (refused : Bool) : Told [A.ctlSeqres] d (d.blkResult code tag src res refused) :=
  (putResult d code tag src res refused).trans (raise _ _ (by split <;> decide) _)

theorem putStrResult (n code tag src res : Nat) (refused : Bool) : Told [A.ctlSres n] d (d.putStrResult n code tag src res refused) := by
  have written : Told [A.ctlSres n] d (if d.portEn n then d.setReg (A.ctlSres n) (resWord code tag src res) else d) :=
    ite (setReg d _ (by simp) (by unfold A.ctlSres; omega)) (refl d)
  unfold Dev.putStrResult
  exact ite (written.trans (answerSeq _ _ _ _ _ _ _)) written

theorem strResult (n code tag src res : Nat) (refused : Bool) : Told [A.ctlSres n] d (d.strResult n code tag src res refused) :=
  (putStrResult d n code tag src res refused).trans (raise _ _ (by split <;> decide) _)

end
end Told

/-! What a result shows (10 R371). -/

theorem Dev.reg_putResult (code tag src res : Nat) (refused : Bool) (d : Dev) :
    (d.putResult code tag src res refused).reg A.ctlSeqres = resWord code tag src res := by
  unfold Dev.putResult
  dsimp only
  split
  · rw [(Told.answerSeq [] _ _ _ _ _ _).reg (by decide) List.not_mem_nil, Dev.reg_setReg]
  · exact Dev.reg_setReg _ _ _

theorem Dev.reg_blkResult (code tag src res : Nat) (refused : Bool) (d : Dev) :
    (d.blkResult code tag src res refused).reg A.ctlSeqres = resWord code tag src res := by
  have raised : Told [] (d.putResult code tag src res refused) (d.blkResult code tag src res refused) := .raise _ _ (by split <;> decide) _
  rw [raised.reg (by decide) List.not_mem_nil, Dev.reg_putResult]

theorem Dev.blkResult_pending (code tag src res : Nat) (refused : Bool) (d : Dev) :
    (d.blkResult code tag src res refused).eventPending (if refused then 225 else 224) = true :=
  Dev.raise_pending _ (by split <;> decide) _

theorem A.ctlSres_lt {n : Nat} (h : n < 48) : 0x40070300 ≤ A.ctlSres n ∧ A.ctlSres n < 0x40080000 := by
  unfold A.ctlSres
  omega

/-- A register between EVT and LOG stands apart from events. -/
theorem evtArea_between {a : Nat} (h : 0x40020000 ≤ a) (k : a < 0x40120000) : evtArea a = false := by
  have hlog : ¬ 0x40120000 ≤ a := by omega
  have hevt : ¬ a < 0x40020000 := by omega
  simp [evtArea, hevt, hlog]

theorem evtArea_ctlSres {n : Nat} (h : n < 48) : evtArea (A.ctlSres n) = false := by
  obtain ⟨hlo, hhi⟩ := A.ctlSres_lt h
  exact evtArea_between (by omega) (by omega)

theorem Dev.reg_strResult {n : Nat} (hn : n < 48) (code tag src res : Nat) (refused : Bool) {d : Dev} (h : d.portEn n = true) :
    (d.strResult n code tag src res refused).reg (A.ctlSres n) = resWord code tag src res := by
  have raised : Told [] (d.putStrResult n code tag src res refused) (d.strResult n code tag src res refused) :=
    .raise _ _ (by split <;> decide) _
  rw [raised.reg (evtArea_ctlSres hn) List.not_mem_nil]
  unfold Dev.putStrResult
  dsimp only
  rw [if_pos h]
  split
  · rw [(Told.answerSeq [] _ _ _ _ _ _).reg (evtArea_ctlSres hn) List.not_mem_nil, Dev.reg_setReg]
  · exact Dev.reg_setReg _ _ _

theorem Dev.strResult_pending (n code tag src res : Nat) (refused : Bool) (d : Dev) :
    (d.strResult n code tag src res refused).eventPending (if refused then 225 else 224) = true :=
  Dev.raise_pending _ (by split <;> decide) _

/-! The end of a block sequence (10 R347-R348). -/

/-- A sequence that runs ends: the block holds none, and its requests are answered. -/
theorem Told.endBlk {d : Dev} (h : d.ctl.blk.code ≠ 0) (res : Nat) : Told [A.ctlSeqres] (d.setBlk fun _ => {}) (d.endBlk res) := by
  unfold Dev.endBlk
  dsimp only
  rw [if_neg h]
  exact (Told.fold _ _ _ fun _ _ => .putResult _ _ _ _ _ _).trans (.blkResult _ _ _ _ _ _)

theorem Dev.endBlk_none {d : Dev} (h : d.ctl.blk.code = 0) (res : Nat) : d.endBlk res = d := if_pos h

theorem Dev.endBlk_ctl {d : Dev} (h : d.ctl.blk.code ≠ 0) (res : Nat) : (d.endBlk res).ctl = { d.ctl with blk := {} } := (Told.endBlk h res).ctl

theorem Dev.endBlk_result {d : Dev} (h : d.ctl.blk.code ≠ 0) (res : Nat) :
    (d.endBlk res).reg A.ctlSeqres = resWord d.ctl.blk.code d.ctl.blk.tag d.ctl.blk.src res ∧ (d.endBlk res).eventPending 224 = true := by
  unfold Dev.endBlk
  dsimp only
  rw [if_neg h]
  exact ⟨Dev.reg_blkResult _ _ _ _ _ _, Dev.blkResult_pending _ _ _ _ false _⟩

end Sys2Proof.Machine
end

section
/-! What CTL.STAT shows of the contactors (10 R342-R343, R370) is left by every operation of sequences but the turning of a hold. -/

namespace Sys2Proof.Machine
open Sys2Proof

/-- A head command is numbered, and only its port has it queued (10 R361). -/
theorem Dev.headCmd_asked (n cmd : Nat) (d : Dev) :
    Asked n 0x50 (fun p => { p with headSeq := ((d.port n).headSeq + 1) % 256 }) d (d.headCmd n cmd) := by
  unfold Dev.headCmd
  exact Dev.asked n _ _ _ _ _ _ d

/-- The bits of CTL.STAT that show contactors: both feedbacks, both holds and WELD. -/
def contactBits : List Nat := [23, 24, 25, 26, 29]

theorem lt_of_mem_contactBits : ∀ {i : Nat}, i ∈ contactBits → 22 < i ∧ i < 30 ∧ i ≠ 27 ∧ i ≠ 28 := by decide

theorem holdBit_mem (k : Contactor) : holdBit k ∈ contactBits := by cases k <;> decide

theorem fbBit_mem (k : Contactor) : fbBit k ∈ contactBits := by cases k <;> decide

/-- What shows contactors is as before, as is the positive hold of the agreed sequence state, and no pending event was lost. -/
structure ContactsKept (d e : Dev) : Prop where
  stat : ∀ i ∈ contactBits, e.rbit A.ctlStat i = d.rbit A.ctlStat i
  agreed : e.ctl.agrPos = d.ctl.agrPos
  pend : PendKept d e

namespace ContactsKept

theorem refl (d : Dev) : ContactsKept d d := ⟨fun _ _ => rfl, rfl, .of_regs rfl⟩

theorem trans {d e f : Dev} (h : ContactsKept d e) (k : ContactsKept e f) : ContactsKept d f :=
  ⟨fun i hi => (k.stat i hi).trans (h.stat i hi), k.agreed.trans h.agreed, h.pend.trans k.pend⟩

theorem ite {d e f : Dev} {p : Prop} [Decidable p] (h : ContactsKept d e) (k : ContactsKept d f) : ContactsKept d (if p then e else f) := by
  split
  · exact h
  · exact k

theorem foldMem {α : Type} (l : List α) (f : α → Dev → Dev) (d : Dev) (h : ∀ a ∈ l, ∀ e, ContactsKept e (f a e)) :
    ContactsKept d (foldOver l f d) := List.foldlRecOn l _ (refl d) fun e he a ha => he.trans (h a ha e)

/-- A change outside registers that leaves the agreed sequence state. -/
theorem of_same {d e : Dev} (hr : e.regs = d.regs) (ha : e.ctl.agrPos = d.ctl.agrPos) : ContactsKept d e :=
  ⟨fun i _ => Dev.rbit_congr (Dev.reg_congr hr _) i, ha, .of_regs hr⟩

theorem of_told {l : List Nat} {d e : Dev} (h : Told l d e) (hl : A.ctlStat ∉ l) : ContactsKept d e :=
  ⟨fun i _ => Dev.rbit_congr (h.reg (by decide) hl) i, congrArg CtlSt.agrPos h.ctl, h.pend⟩

section
variable (d : Dev)

/-- A register behind EVT.PEND, but CTL.STAT. -/
theorem setReg {a : Nat} (v : Word) (h : A.ctlStat ≠ a) (hp : a < 0x40010000 ∨ 0x40010030 ≤ a) : ContactsKept d (d.setReg a v) :=
  ⟨fun i _ => Dev.rbit_congr (Dev.reg_setReg_other d v h) i, rfl, .setReg d v hp⟩

/-- A field of CTL.STAT that shows no contactor. -/
theorem setStat {hi lo : Nat} (v : Nat) (hw : hi < 32) (hl : lo ≤ hi) (h : ∀ i ∈ contactBits, ¬ (lo ≤ i ∧ i ≤ hi)) :
    ContactsKept d (d.setFld A.ctlStat hi lo v) :=
  ⟨fun i hi => by
    obtain ⟨-, hlt, -⟩ := lt_of_mem_contactBits hi
    rw [Dev.rbit_setFld d _ v hw hl (by omega), if_neg (h i hi)], rfl, .setReg d _ (by decide)⟩

theorem setStatBit {j : Nat} (b : Bool) (hj : j < 32) (h : j ∉ contactBits) : ContactsKept d (d.setRbit A.ctlStat j b) :=
  setStat d _ hj (le_refl j) fun i hi hij => h (by rwa [show j = i by omega])

theorem raise {e : Nat} (he : e < 384) (i : Nat) : ContactsKept d (d.raise e i) := of_told (.raise [] d he i) List.not_mem_nil

theorem raiseIf (b : Bool) {e : Nat} (he : e < 384) (i : Nat) : ContactsKept d (d.raiseIf b e i) :=
  of_told (.raiseIf [] d b he i) List.not_mem_nil

theorem settleNow (base : Nat) : ContactsKept d (d.settleNow base) := of_told (.settleNow d base) (by decide)

theorem settleState (base : Nat) : ContactsKept d (d.settleState base) := of_told (.settleState d base) (by decide)

/-! The block (10 R345-R356). -/

theorem showBlk : ContactsKept d d.showBlk :=
  ((setStat d _ (by decide) (by decide) (by decide)).trans (setStat _ _ (by decide) (by decide) (by decide))).trans
    (setStatBit _ _ (by decide) (by decide))

theorem setBlk (f : BlkSeq → BlkSeq) : ContactsKept d (d.setBlk f) :=
  trans (e := { d with ctl := { d.ctl with blk := f d.ctl.blk } }) (of_same rfl rfl) (showBlk _)

theorem endBlk (res : Nat) : ContactsKept d (d.endBlk res) := by
  by_cases h : d.ctl.blk.code = 0
  · rw [Dev.endBlk_none h]
    exact refl d
  · exact (setBlk d _).trans (of_told (.endBlk h res) (by decide))

theorem fbAgree : ContactsKept d d.fbAgree := by
  unfold Dev.fbAgree
  exact ite (refl d) (setStatBit d _ (by decide) (by decide))

theorem gatesOff : ContactsKept d d.gatesOff := by
  unfold Dev.gatesOff
  extract_lets _ e e' off lp _ e'' f
  have low : ContactsKept d e' := trans (e := e) (of_same rfl rfl) (setStatBit e _ (by decide) (by decide))
  have loops : ContactsKept e' e'' := of_same rfl rfl
  have sinks : ContactsKept e'' f := (setReg _ _ (by decide) (by decide)).trans (setReg _ _ (by decide) (by decide))
  exact ite low ((low.trans loops).trans (sinks.trans ((setReg _ _ (by decide) (by decide)).trans (setReg _ _ (by decide) (by decide)))))

theorem openDone : ContactsKept d d.openDone := by
  unfold Dev.openDone
  extract_lets e _ f
  have done : ContactsKept d f := trans (e := e) (endBlk d 0) (of_same rfl rfl)
  exact ite (done.trans (settleState _ _)) done

theorem closeDone : ContactsKept d d.closeDone := by
  have done : ContactsKept d ((d.gatesOff.blkStep 6).endBlk 0) := ((gatesOff d).trans (setBlk _ _)).trans (endBlk _ _)
  unfold Dev.closeDone
  exact ite (done.trans (settleState _ _)) done

theorem startRamp : ContactsKept d d.startRamp := by
  have owned : ∀ e : Dev, ContactsKept e e.ownLoops := fun e => by
    unfold Dev.ownLoops
    extract_lets _ _ _ f g
    have loops : ContactsKept e f := of_same rfl rfl
    have modes : ContactsKept f g := (setReg _ _ (by decide) (by decide)).trans (setReg _ _ (by decide) (by decide))
    exact (loops.trans modes).trans (setStatBit _ _ (by decide) (by decide))
  exact (setBlk d _).trans (owned _)

theorem closeStep3 : ContactsKept d d.closeStep3 := by
  unfold Dev.closeStep3
  exact ite (setBlk d _) (ite ((startRamp d).trans (setBlk _ _)) (setBlk d _))

/-! Strings (10 R360-R361, R368). -/

theorem endStr {n : Nat} (hn : n < 48) (res : Nat) : ContactsKept d (d.endStr n res) := by
  have hne : A.ctlStat ∉ [A.ctlSres n] := by
    rw [List.mem_singleton]
    unfold A.ctlStat A.ctlSres
    omega
  unfold Dev.endStr
  refine ite (refl d) (trans ?_ (of_told (.strResult _ n _ _ _ _ _) hne))
  exact of_same rfl rfl

theorem sendOpen {n : Nat} (hn : n < 48) (cmd : Nat) : ContactsKept d (d.sendOpen n cmd) := by
  have counted : ContactsKept d (d.strArc n) := by
    unfold Dev.strArc
    exact ite (refl d) ((setReg d _ (by unfold A.ctlStat A.ctlLarc; omega) (by unfold A.ctlLarc; omega)).trans (raiseIf _ _ (by decide) _))
  have sent : ∀ e : Dev, ContactsKept e (e.headCmd n cmd) := fun e => by
    obtain ⟨honly, -, -⟩ := e.headCmd_asked n cmd
    exact of_same honly.regs (by rw [honly.1])
  exact counted.trans (sent _)

/-! Life counters (10 R368), load switches and limp-home (11 R377-R394), and snapshots (08 R293). -/

theorem life {a : Nat} (x inst : Nat) (h : A.ctlStat ≠ a) (hp : a < 0x40010000 ∨ 0x40010030 ≤ a) : ContactsKept d (d.life a x inst) :=
  (setReg d _ h hp).trans (raiseIf _ _ (by decide) _)

theorem opened (k : Contactor) : ContactsKept d (d.opened k) := by
  have counted : ∀ (e : Dev) (j x y : Nat), j < 2 → ContactsKept e ((e.life (A.ctlLcyc j) x 0).life (A.ctlLarc j) y 0) :=
    fun e j x y _ => (life e _ _ (by unfold A.ctlStat A.ctlLcyc; omega) (by unfold A.ctlLcyc; omega)).trans
      (life _ _ _ (by unfold A.ctlStat A.ctlLarc; omega) (by unfold A.ctlLarc; omega))
  cases k with
  | pos => exact trans (of_same (e := { d with ctl := { d.ctl with posArc := none } }) rfl rfl) (counted _ 0 _ _ (by decide))
  | neg => exact trans (of_same (e := { d with ctl := { d.ctl with negArc := none } }) rfl rfl) (counted _ 1 _ _ (by decide))

theorem allChansOff : ContactsKept d d.allChansOff := foldMem _ _ d fun _ _ _ => of_same rfl rfl

theorem lswStep {n : Nat} (hn : n < 32) (t : Nat) (f : Lsw → Lsw) : ContactsKept d (d.lswStep n t f) := by
  have event : ∀ (e : Dev) (b : Bool), ContactsKept e (e.lswEvent n b) := fun e b => by
    unfold Dev.lswEvent
    refine ite (trans ?_ (raise _ (by omega) _)) (refl e)
    exact of_same rfl rfl
  unfold Dev.lswStep
  refine ite (trans ?_ (event _ _)) (of_same rfl rfl)
  exact of_same rfl rfl

theorem lhReset : ContactsKept d d.lhReset := by
  unfold Dev.lhReset Dev.lhSync
  refine trans ?_ (foldMem _ _ _ fun n hn e => lswStep e (List.mem_range.1 (List.mem_filter.1 hn).1) _ _)
  exact of_same rfl rfl

theorem snapAll : ContactsKept d d.snapAll := by
  have written : ContactsKept d (foldOver d.ringsOn (Dev.snapWrite true) d) := foldMem _ _ d fun _ _ _ => of_same rfl rfl
  have cycled : ∀ e : Dev, ContactsKept e e.snapCycle := fun e =>
    trans (of_same (e := { e with cnpy := { e.cnpy with snapNext := 0, snapUseB := !e.cnpy.snapUseB } }) rfl rfl)
      (setReg _ _ (by decide) (by decide))
  exact (written.trans (cycled _)).trans (setReg _ _ (by decide) (by decide))

end
end ContactsKept
end Sys2Proof.Machine
end

section
/-! Holds (10 R342): a hold turned on or off is the one thing of its contactor that moves, and what opens a contactor turns none on. -/

namespace Sys2Proof.Machine
open Sys2Proof

/-! Driving a hold. -/

/-- The bookkeeping of a hold just turned: full drive from now on, or the arcing integral. -/
def Dev.driven (k : Contactor) (on : Bool) (d : Dev) : Dev :=
  match k with
  | .pos => { d with ctl := { d.ctl with posEco := false, posT := d.time.now, posArc := if on then none else some 0 } }
  | .neg => { d with ctl := { d.ctl with negEco := false, negT := d.time.now, negArc := if on then none else some 0 } }

theorem Dev.driveHold_eq (k : Contactor) (on : Bool) (d : Dev) : d.driveHold k on =
    if d.rbit A.ctlStat (holdBit k) = on then d else (d.setRbit A.ctlStat (holdBit k) on).fbAgree.driven k on := by cases k <;> rfl

/-- The parts of the contactor state that no hold concerns. -/
def CtlSt.beside (c : CtlSt) : BlkSeq × Bool × Bool × FMap StrSeq := (c.blk, c.gateLow, c.fltN, c.strs)

theorem Dev.driven_kept (k : Contactor) (on : Bool) (d : Dev) :
    (d.driven k on).regs = d.regs ∧ (d.driven k on).ctl.beside = d.ctl.beside ∧ (d.driven k on).ctl.agrPos = d.ctl.agrPos ∧
      PlantKept d (d.driven k on) := by
  cases k with
  | pos => exact ⟨rfl, rfl, rfl, .refl d⟩
  | neg => exact ⟨rfl, rfl, rfl, .refl d⟩

theorem Dev.rbit_driveHold (k : Contactor) (on : Bool) (d : Dev) {i : Nat} (hi : i ∈ contactBits) :
    (d.driveHold k on).rbit A.ctlStat i = if i = holdBit k then on else d.rbit A.ctlStat i := by
  have small : ∀ {j}, j ∈ contactBits → j < 32 := fun hj => by have := lt_of_mem_contactBits hj; omega
  rw [Dev.driveHold_eq]
  split
  case isTrue already =>
    split
    case isTrue h => rw [h, already]
    case isFalse => rfl
  case isFalse =>
    obtain ⟨hregs, -⟩ := Dev.driven_kept k on (d.setRbit A.ctlStat (holdBit k) on).fbAgree
    rw [Dev.rbit_congr (Dev.reg_congr hregs _), (ContactsKept.fbAgree _).stat i hi,
      Dev.rbit_setRbit d _ _ _ on (small (holdBit_mem k)) (small hi)]

theorem Told.fbAgree (d : Dev) : Told [A.ctlStat] d d.fbAgree := .ite (.refl d) (.setReg d _ (by simp) (by decide))

/-- Driving a hold changes its register, its bookkeeping and nothing else. -/
theorem Dev.driveHold_kept (k : Contactor) (on : Bool) (d : Dev) :
    (d.driveHold k on).ctl.beside = d.ctl.beside ∧ (d.driveHold k on).ctl.agrPos = d.ctl.agrPos ∧
      PlantKept d (d.driveHold k on) ∧ PendKept d (d.driveHold k on) := by
  rw [Dev.driveHold_eq]
  split
  · exact ⟨rfl, rfl, .refl d, .of_regs rfl⟩
  · have turned : Told [A.ctlStat] d (d.setRbit A.ctlStat (holdBit k) on).fbAgree :=
      (Told.setReg d _ (by simp) (by decide)).trans (.fbAgree _)
    obtain ⟨hregs, hbeside, hagr, hplant⟩ := Dev.driven_kept k on (d.setRbit A.ctlStat (holdBit k) on).fbAgree
    exact ⟨hbeside.trans (congrArg CtlSt.beside turned.ctl), hagr.trans (congrArg CtlSt.agrPos turned.ctl), turned.plant.trans hplant,
      turned.pend.trans (.of_regs hregs)⟩

/-! Turning a hold of the agreed sequence state. -/

/-- The agreed sequence state has the hold so. -/
def Dev.agree (k : Contactor) (on : Bool) (d : Dev) : Dev :=
  { d with ctl := match k with
    | .pos => { d.ctl with agrPos := on }
    | .neg => { d.ctl with agrNeg := on } }

theorem Dev.setHold_eq (k : Contactor) (on : Bool) (d : Dev) :
    d.setHold k on = if on && d.isTwin && d.twinState == 2 then d.agree k on else (d.agree k on).driveHold k on := rfl

theorem Dev.setHold_off (k : Contactor) (d : Dev) : d.setHold k false = (d.agree k false).driveHold k false := rfl

theorem Dev.setHold_drives {d : Dev} (h : d.isTwin = false ∨ d.twinState ≠ 2) (k : Contactor) (on : Bool) :
    d.setHold k on = (d.agree k on).driveHold k on := by
  rw [Dev.setHold_eq, if_neg]
  simp only [Bool.and_eq_true, beq_iff_eq]
  rintro ⟨⟨-, htwin⟩, hstate⟩
  exact h.elim (fun hf => by rw [hf] at htwin; cases htwin) fun hne => hne hstate

theorem Dev.rbit_setHold_off (k : Contactor) (d : Dev) {i : Nat} (hi : i ∈ contactBits) :
    (d.setHold k false).rbit A.ctlStat i = if i = holdBit k then false else d.rbit A.ctlStat i := by
  rw [Dev.setHold_off, Dev.rbit_driveHold k false _ hi]
  rfl

theorem Dev.rbit_setHold_on {d : Dev} (h : d.isTwin = false ∨ d.twinState ≠ 2) (k : Contactor) :
    (d.setHold k true).rbit A.ctlStat (holdBit k) = true := by
  rw [Dev.setHold_drives h, Dev.rbit_driveHold k true _ (holdBit_mem k), if_pos rfl]

theorem Dev.setHold_kept (k : Contactor) (on : Bool) (d : Dev) :
    (d.setHold k on).ctl.beside = d.ctl.beside ∧ (d.setHold k on).ctl.agrPos = (d.agree k on).ctl.agrPos ∧
      PlantKept d (d.setHold k on) ∧ PendKept d (d.setHold k on) := by
  have agreed : (d.agree k on).ctl.beside = d.ctl.beside := by cases k <;> rfl
  rw [Dev.setHold_eq]
  split
  · exact ⟨agreed, rfl, .refl d, .of_regs rfl⟩
  · obtain ⟨hbeside, hagr, hplant, hpend⟩ := Dev.driveHold_kept k on (d.agree k on)
    exact ⟨hbeside.trans agreed, hagr, hplant, hpend⟩

/-! What opens contactors. -/

/-- Feedbacks and WELD are as before, no hold turned on, in CTL.STAT or in the agreed sequence state, and no pending event was lost. -/
structure OpensOnly (d e : Dev) : Prop where
  fb : ∀ k, e.rbit A.ctlStat (fbBit k) = d.rbit A.ctlStat (fbBit k)
  weld : e.rbit A.ctlStat 29 = d.rbit A.ctlStat 29
  hold : ∀ k, d.rbit A.ctlStat (holdBit k) = false → e.rbit A.ctlStat (holdBit k) = false
  agreed : d.ctl.agrPos = false → e.ctl.agrPos = false
  pend : PendKept d e

namespace OpensOnly

theorem of_kept {d e : Dev} (h : ContactsKept d e) : OpensOnly d e :=
  ⟨fun k => h.stat _ (fbBit_mem k), h.stat 29 (by decide), fun k hk => (h.stat _ (holdBit_mem k)).trans hk, h.agreed.trans, h.pend⟩

theorem refl (d : Dev) : OpensOnly d d := of_kept (.refl d)

theorem trans {d e f : Dev} (h : OpensOnly d e) (k : OpensOnly e f) : OpensOnly d f :=
  ⟨fun c => (k.fb c).trans (h.fb c), k.weld.trans h.weld, fun c hc => k.hold c (h.hold c hc), fun ha => k.agreed (h.agreed ha),
    h.pend.trans k.pend⟩

theorem ite {d e f : Dev} {p : Prop} [Decidable p] (h : OpensOnly d e) (k : OpensOnly d f) : OpensOnly d (if p then e else f) := by
  split
  · exact h
  · exact k

section
variable (d : Dev)

theorem setHold (k : Contactor) : OpensOnly d (d.setHold k false) := by
  obtain ⟨-, hagr, -, hpend⟩ := d.setHold_kept k false
  refine ⟨fun c => ?_, ?_, fun c hc => ?_, fun ha => ?_, hpend⟩
  · rw [Dev.rbit_setHold_off k d (fbBit_mem c), if_neg (by cases k <;> cases c <;> decide)]
  · rw [Dev.rbit_setHold_off k d (by decide), if_neg (by cases k <;> decide)]
  · rw [Dev.rbit_setHold_off k d (holdBit_mem c), hc, ite_self]
  · rw [hagr]
    cases k with
    | pos => rfl
    | neg => exact ha

theorem bothOff : OpensOnly d ((d.setHold .pos false).setHold .neg false) := (setHold d _).trans (setHold _ _)

theorem blkStep (step : Nat) : OpensOnly d (d.blkStep step) := of_kept (.setBlk d _)

theorem openBoth : OpensOnly d d.openBoth := by
  have off : OpensOnly d (((d.setHold .pos false).setHold .neg false).blkStep 3) := (bothOff d).trans (blkStep _ _)
  unfold Dev.openBoth
  exact ite (off.trans (of_kept (.openDone _))) off

theorem failBlk (res : Nat) : OpensOnly d (d.failBlk res) := ((of_kept (.gatesOff d)).trans (bothOff _)).trans (of_kept (.endBlk _ _))

theorem fbErr (k : Contactor) : OpensOnly d (d.fbErr k) := by
  have raised : OpensOnly d ((d.setRbit A.ctlStat 28 true).raise 226 0) :=
    of_kept ((ContactsKept.setStatBit d true (by decide) (by decide)).trans (.raise _ (by decide) _))
  unfold Dev.fbErr
  exact ite (raised.trans (failBlk _ _)) raised

/-! The orderly shutdown (10 R356-R357). -/

theorem outputsOff : OpensOnly d d.outputsOff := by
  have low : OpensOnly d ((d.gatesOff.setHold .pos false).setHold .neg false) := (of_kept (.gatesOff d)).trans (bothOff _)
  unfold Dev.outputsOff
  extract_lets e src f
  have quiet : ContactsKept e f := .trans (e := { e with ctl := { e.ctl with pwm := [] } }) (.of_same rfl rfl) (.allChansOff _)
  exact (low.trans (of_kept quiet)).trans (of_kept (.trans (.setReg _ _ (by decide) (by decide)) (.of_same rfl rfl)))

theorem enterStorage : OpensOnly d d.enterStorage := by
  unfold Dev.enterStorage
  extract_lets _ e f
  have marked : ContactsKept d e := .of_same rfl rfl
  have off : OpensOnly e f := ((of_kept (.settleNow e 1)).trans (outputsOff _)).trans (of_kept (.lhReset _))
  exact ((of_kept marked).trans off).trans (of_kept (.of_same rfl rfl))

theorem goReset (cause rail : Nat) : OpensOnly d (d.goReset cause rail) :=
  ((outputsOff d).trans (of_kept (.lhReset _))).trans (of_kept (.of_same rfl rfl))

theorem shutEnd (res : Nat) : OpensOnly d (d.shutEnd res) := by
  unfold Dev.shutEnd
  extract_lets e _ f
  have ended : ContactsKept d e := (ContactsKept.setStatBit d false (by decide) (by decide)).trans (.endBlk _ _)
  have done : ContactsKept d f := ended.trans (.of_same rfl rfl)
  exact ite (of_kept (done.trans (.settleState _ _))) (of_kept done)

theorem shutStop : OpensOnly d d.shutStop := by
  have raised : ∀ e : Dev, OpensOnly e (e.raise 232 0) := fun e => of_kept (.raise e (by decide) 0)
  unfold Dev.shutStop
  exact (shutEnd d 0).trans (trans (ite (of_kept (.settleState _ _)) (refl _)) (raised _))

theorem shutS5 : OpensOnly d d.shutS5 := by
  have saved : ContactsKept d ((d.blkStep 5).snapAll.blkStep 6) := ((ContactsKept.setBlk d _).trans (.snapAll _)).trans (.setBlk _ _)
  have ended : OpensOnly d (((d.blkStep 5).snapAll.blkStep 6).shutEnd 0) := (of_kept saved).trans (shutEnd _ 0)
  unfold Dev.shutS5
  exact ite (ended.trans (enterStorage _)) (ite (ended.trans (goReset _ 5 0)) ended)

theorem shutS4 : OpensOnly d d.shutS4 := by
  unfold Dev.shutS4
  extract_lets l e
  have opened : ContactsKept d e := (ContactsKept.setBlk d _).trans (.foldMem _ _ _ fun n hn f =>
    have hn := List.mem_range.1 (List.mem_filter.1 hn).1
    (ContactsKept.endStr f hn 18).trans (.sendOpen _ hn 0x08))
  exact ite (shutStop d) (ite ((of_kept opened).trans (shutS5 _)) (of_kept opened))

theorem shutNeg : OpensOnly d d.shutNeg := by
  have off : OpensOnly d ((d.setBlk (fun b => { b with negWait := true })).setHold .neg false) := (of_kept (.setBlk d _)).trans (setHold _ _)
  unfold Dev.shutNeg
  exact ite off (off.trans (shutS4 _))

/-! Feedbacks (10 R343, R350, R355-R356). -/

theorem advanceBlk (k : Contactor) (closed : Bool) : OpensOnly d (d.advanceBlk k closed) := by
  unfold Dev.advanceBlk
  refine ite (ite (of_kept (.closeStep3 d)) (ite (of_kept (.closeDone d)) (refl d)))
    (ite (openBoth d) (ite (of_kept (.openDone d)) (ite (ite (refl d) ?_) (refl d))))
  exact ite (ite (shutS4 d) (refl d)) (ite (shutNeg d) (refl d))

theorem openStuck (k : Contactor) : OpensOnly d (d.openStuck k) := by
  have ended : ∀ e : Dev, OpensOnly e (e.endBlk 11) := fun e => of_kept (.endBlk e 11)
  have raised : OpensOnly d (d.raise 226 0) := of_kept (.raise d (by decide) 0)
  unfold Dev.openStuck
  refine ite (((bothOff d).trans (ended _)).trans (of_kept (.of_same rfl rfl))) (ite (raised.trans ?_) (refl d))
  cases k with
  | pos => exact ite (refl _) (shutNeg _)
  | neg => exact ite (shutS4 _) (refl _)

end
end OpensOnly
end Sys2Proof.Machine
end

section
/-! A close that fails, and the match of the link (10 R350-R352). -/

namespace Sys2Proof.Machine
open Sys2Proof

theorem Dev.code_of_closing {d : Dev} (h : d.closing = true) : d.ctl.blk.code = 1 ∨ d.ctl.blk.code = 2 := by
  simpa [Dev.closing] using h

theorem Dev.code_ne_zero_of_closing {d : Dev} (h : d.closing = true) : d.ctl.blk.code ≠ 0 := by
  have := Dev.code_of_closing h
  omega

/-! What the parts of a failed step leave. -/

theorem Dev.gatesOff_beside (d : Dev) : d.gatesOff.ctl.beside = (d.ctl.blk, true, d.ctl.fltN, d.ctl.strs) := by
  unfold Dev.gatesOff
  dsimp only
  split <;> rfl

theorem PlantKept.gatesOff (d : Dev) : PlantKept d d.gatesOff := by
  unfold Dev.gatesOff
  dsimp only
  split
  · exact .refl d
  · exact .refl d

theorem PlantKept.endBlk (res : Nat) (d : Dev) : PlantKept d (d.endBlk res) := by
  by_cases h : d.ctl.blk.code = 0
  · rw [Dev.endBlk_none h]
    exact .refl d
  · exact PlantKept.trans (e := d.setBlk fun _ => {}) (.refl d) (Told.endBlk h res).plant

/-- Gates low and both holds off, before the sequence ends. -/
def Dev.dropped (d : Dev) : Dev := (d.gatesOff.setHold .pos false).setHold .neg false

theorem Dev.dropped_beside (d : Dev) : d.dropped.ctl.beside = (d.ctl.blk, true, d.ctl.fltN, d.ctl.strs) := by
  obtain ⟨hneg, -⟩ := Dev.setHold_kept .neg false (d.gatesOff.setHold .pos false)
  obtain ⟨hpos, -⟩ := Dev.setHold_kept .pos false d.gatesOff
  exact (hneg.trans hpos).trans d.gatesOff_beside

theorem Dev.dropped_blk (d : Dev) : d.dropped.ctl.blk = d.ctl.blk := congrArg Prod.fst d.dropped_beside

theorem Dev.rbit_bothOff (k : Contactor) (d : Dev) : ((d.setHold .pos false).setHold .neg false).rbit A.ctlStat (holdBit k) = false := by
  rw [Dev.rbit_setHold_off .neg _ (holdBit_mem k), Dev.rbit_setHold_off .pos d (holdBit_mem k)]
  cases k <;> rfl

theorem PlantKept.failBlk (res : Nat) (d : Dev) : PlantKept d (d.failBlk res) := by
  obtain ⟨-, -, hneg, -⟩ := Dev.setHold_kept .neg false (d.gatesOff.setHold .pos false)
  obtain ⟨-, -, hpos, -⟩ := Dev.setHold_kept .pos false d.gatesOff
  exact (((PlantKept.gatesOff d).trans hpos).trans hneg).trans (.endBlk res _)

theorem Dev.rbit_failBlk (k : Contactor) (res : Nat) (d : Dev) : (d.failBlk res).rbit A.ctlStat (holdBit k) = false :=
  ((ContactsKept.endBlk d.dropped res).stat _ (holdBit_mem k)).trans (Dev.rbit_bothOff k d.gatesOff)

/-- The sequence ends once the gates are low, and nothing else of the contactor state moves (10 R350). -/
theorem Dev.failBlk_ctl {d : Dev} (h : d.ctl.blk.code ≠ 0) (res : Nat) :
    (d.failBlk res).ctl.blk = {} ∧ (d.failBlk res).ctl.gateLow = true ∧ (d.failBlk res).ctl.fltN = d.ctl.fltN := by
  have ended : (d.failBlk res).ctl = { d.dropped.ctl with blk := {} } := Dev.endBlk_ctl (d := d.dropped) (d.dropped_blk ▸ h) res
  have hgate : d.dropped.ctl.gateLow = true := congrArg (fun x => x.2.1) d.dropped_beside
  have hflt : d.dropped.ctl.fltN = d.ctl.fltN := congrArg (fun x => x.2.2.1) d.dropped_beside
  rw [ended]
  exact ⟨rfl, hgate, hflt⟩

theorem Dev.failBlk_result {d : Dev} (h : d.ctl.blk.code ≠ 0) (res : Nat) :
    (d.failBlk res).reg A.ctlSeqres = resWord d.ctl.blk.code d.ctl.blk.tag d.ctl.blk.src res ∧ (d.failBlk res).eventPending 224 = true := by
  have ended := Dev.endBlk_result (d := d.dropped) (d.dropped_blk ▸ h) res
  rwa [d.dropped_blk] at ended

/-! A close that fails. -/

/-- The close that ran in `s` ended with `res` (10 R348, R350): both holds are off, the gates are low, and the result stands. -/
def CloseFailed (res : Nat) (s t : State) : Prop :=
  t.dev.rbit A.ctlStat 26 = false ∧ t.dev.rbit A.ctlStat 25 = false ∧ t.dev.ctl.gateLow = true ∧ t.dev.ctl.blk.code = 0 ∧
    t.dev.reg A.ctlSeqres = resWord s.dev.ctl.blk.code s.dev.ctl.blk.tag s.dev.ctl.blk.src res ∧ t.dev.eventPending 224 = true ∧ PlantOnly s t

theorem CloseFailed.failBlk {s : State} {d : Dev} (hblk : d.ctl.blk = s.dev.ctl.blk) (hplant : PlantKept s.dev d) (h : s.dev.closing = true)
    (res : Nat) : CloseFailed res s { s with dev := d.failBlk res } := by
  have hcode : d.ctl.blk.code ≠ 0 := hblk ▸ Dev.code_ne_zero_of_closing h
  obtain ⟨hended, hgate, -⟩ := Dev.failBlk_ctl hcode res
  obtain ⟨hres, hpend⟩ := Dev.failBlk_result hcode res
  rw [hblk] at hres
  exact ⟨Dev.rbit_failBlk .pos res d, Dev.rbit_failBlk .neg res d, hgate, congrArg BlkSeq.code hended, hres, hpend,
    PlantKept.plantOnly (hplant.trans (.failBlk res d))⟩

section
variable (s : State)

theorem exec_tlinkExpiry :
    exec .tlinkExpiry s = .next { s with dev := if s.dev.closing ∧ s.dev.ctl.blk.step = 1 then s.dev.failBlk 12 else s.dev } := rfl

theorem exec_rampTimeout : exec .rampTimeout s = .next { s with dev :=
    if s.dev.closing ∧ (s.dev.ctl.blk.step = 3 ∨ s.dev.ctl.blk.step = 4) ∧ s.dev.ctl.blk.hold = false then s.dev.failBlk 15 else s.dev } := rfl

theorem exec_tholdExpiry :
    exec .tholdExpiry s = .next { s with dev := if s.dev.closing ∧ s.dev.ctl.blk.hold = true then s.dev.failBlk 15 else s.dev } := rfl

/-- The link has matched: a PRELINK holds there, a CLOSE goes on (10 R350-R351). -/
def Dev.linkMatched (d : Dev) : Dev :=
  if d.ctl.blk.pre then (d.blkStep 4).setBlk (fun b => { b with hold := true }) else (d.blkStep 4).closeStep5

theorem exec_linkMatch : exec .linkMatch s = .next { s with dev :=
    if s.dev.closing ∧ (s.dev.ctl.blk.step = 3 ∨ s.dev.ctl.blk.step = 4) ∧ s.dev.ctl.blk.hold = false then s.dev.linkMatched else s.dev } := rfl

/-- PC_FLT_N is low. -/
def Dev.gateFaulted (d : Dev) : Dev := { d with ctl := { d.ctl with fltN := false } }

theorem exec_gateFault_low : exec (.gateFault true) s =
    .next { s with dev := if s.dev.gateFaulted.closing then s.dev.gateFaulted.failBlk 14 else s.dev.gateFaulted.gatesOff } := rfl

end

section
variable {s : State} (h : s.dev.closing = true)
include h

theorem tlinkExpiry_fails (hstep : s.dev.ctl.blk.step = 1) : ∃ t, exec .tlinkExpiry s = .next t ∧ CloseFailed 12 s t :=
  ⟨_, (exec_tlinkExpiry s).trans (next_dev_congr (if_pos ⟨h, hstep⟩)), .failBlk rfl (.refl _) h 12⟩

theorem rampTimeout_fails (hstep : s.dev.ctl.blk.step = 3 ∨ s.dev.ctl.blk.step = 4) (hhold : s.dev.ctl.blk.hold = false) :
    ∃ t, exec .rampTimeout s = .next t ∧ CloseFailed 15 s t :=
  ⟨_, (exec_rampTimeout s).trans (next_dev_congr (if_pos ⟨h, hstep, hhold⟩)), .failBlk rfl (.refl _) h 15⟩

theorem tholdExpiry_fails (hhold : s.dev.ctl.blk.hold = true) : ∃ t, exec .tholdExpiry s = .next t ∧ CloseFailed 15 s t :=
  ⟨_, (exec_tholdExpiry s).trans (next_dev_congr (if_pos ⟨h, hhold⟩)), .failBlk rfl (.refl _) h 15⟩

theorem gateFault_fails : ∃ t, exec (.gateFault true) s = .next t ∧ t.dev.ctl.fltN = false ∧ CloseFailed 14 s t :=
  ⟨_, (exec_gateFault_low s).trans (next_dev_congr (if_pos h)),
    (Dev.failBlk_ctl (d := s.dev.gateFaulted) (Dev.code_ne_zero_of_closing h) 14).2.2,
    .failBlk (d := s.dev.gateFaulted) rfl (.refl _) h 14⟩

end

/-- With no close running its timers and the link's match change nothing. -/
theorem closeTimers_idle {s : State} (h : s.dev.closing = false) :
    exec .tlinkExpiry s = .next s ∧ exec .rampTimeout s = .next s ∧ exec .tholdExpiry s = .next s ∧ exec .linkMatch s = .next s := by
  have idle : ∀ p : Prop, ¬ (s.dev.closing = true ∧ p) := fun p hp => by simp [h] at hp
  exact ⟨(exec_tlinkExpiry s).trans (next_dev_congr (if_neg (idle _))), (exec_rampTimeout s).trans (next_dev_congr (if_neg (idle _))),
    (exec_tholdExpiry s).trans (next_dev_congr (if_neg (idle _))), (exec_linkMatch s).trans (next_dev_congr (if_neg (idle _)))⟩

/-! The match of the link. -/

theorem Dev.reg_setBlk (f : BlkSeq → BlkSeq) (d : Dev) {a : Nat} (h : a ≠ A.ctlStat) : (d.setBlk f).reg a = d.reg a := by
  unfold Dev.setBlk Dev.showBlk
  rw [Dev.reg_setRbit_other _ _ _ h, Dev.reg_setFld_other _ _ _ _ h, Dev.reg_setFld_other _ _ _ _ h]
  rfl

/-- No block sequence moves a twin's role. -/
theorem Dev.setBlk_role (f : BlkSeq → BlkSeq) (d : Dev) : (d.setBlk f).isTwin = d.isTwin ∧ (d.setBlk f).twinState = d.twinState :=
  ⟨Dev.isTwin_congr (d.reg_setBlk f (by decide)) (d.reg_setBlk f (by decide)), Dev.fld_congr (d.reg_setBlk f (by decide)) _ _⟩

theorem Dev.blkStep_role (step : Nat) (d : Dev) : (d.blkStep step).isTwin = d.isTwin ∧ (d.blkStep step).twinState = d.twinState :=
  d.setBlk_role fun b => { b with step := step, stepT := d.time.now }

/-- Step 5 before it turns the positive hold on. -/
def Dev.enteredStep5 (d : Dev) : Dev := (d.setBlk (fun b => { b with hold := false })).blkStep 5

theorem Dev.enteredStep5_role (d : Dev) : d.enteredStep5.isTwin = d.isTwin ∧ d.enteredStep5.twinState = d.twinState := by
  obtain ⟨htwin, hstate⟩ := d.setBlk_role fun b => { b with hold := false }
  obtain ⟨htwin5, hstate5⟩ := (d.setBlk fun b => { b with hold := false }).blkStep_role 5
  exact ⟨htwin5.trans htwin, hstate5.trans hstate⟩

/-- What follows the positive hold moves no contactor. -/
theorem ContactsKept.closeStep5 (d : Dev) : ContactsKept (d.enteredStep5.setHold .pos true) d.closeStep5 :=
  .ite (.closeDone _) (.refl _)

theorem Dev.closeStep5_agreed (d : Dev) : d.closeStep5.ctl.agrPos = true := by
  obtain ⟨-, hagr, -⟩ := Dev.setHold_kept .pos true d.enteredStep5
  exact (ContactsKept.closeStep5 d).agreed.trans hagr

theorem Dev.closeStep5_hold {d : Dev} (h : d.isTwin = false ∨ d.twinState ≠ 2) : d.closeStep5.rbit A.ctlStat 26 = true := by
  obtain ⟨htwin, hstate⟩ := d.enteredStep5_role
  refine ((ContactsKept.closeStep5 d).stat 26 (by decide)).trans (Dev.rbit_setHold_on ?_ .pos)
  rwa [htwin, hstate]

theorem Dev.linkMatched_closes {d : Dev} (hpre : d.ctl.blk.pre = false) : d.linkMatched.ctl.agrPos = true ∧
    (d.isTwin = false ∨ d.twinState ≠ 2 → d.linkMatched.rbit A.ctlStat 26 = true) := by
  have closes : d.linkMatched = (d.blkStep 4).closeStep5 := if_neg (by simp [hpre])
  obtain ⟨htwin, hstate⟩ := d.blkStep_role 4
  rw [closes]
  exact ⟨Dev.closeStep5_agreed _, fun hrole => Dev.closeStep5_hold (by rwa [htwin, hstate])⟩

theorem Dev.linkMatched_holds {d : Dev} (hpre : d.ctl.blk.pre = true) :
    d.linkMatched.ctl.blk.hold = true ∧ d.linkMatched.rbit A.ctlStat 26 = d.rbit A.ctlStat 26 := by
  have holds : d.linkMatched = (d.blkStep 4).setBlk (fun b => { b with hold := true }) := if_pos hpre
  rw [holds]
  exact ⟨rfl, ((ContactsKept.setBlk d _).trans (.setBlk _ _)).stat 26 (by decide)⟩

section
variable {s : State} (h : s.dev.closing = true) (hstep : s.dev.ctl.blk.step = 3 ∨ s.dev.ctl.blk.step = 4) (hhold : s.dev.ctl.blk.hold = false)
include h hstep hhold

theorem exec_linkMatch_waiting : exec .linkMatch s = .next { s with dev := s.dev.linkMatched } :=
  (exec_linkMatch s).trans (next_dev_congr (if_pos ⟨h, hstep, hhold⟩))

theorem linkMatch_closes (hpre : s.dev.ctl.blk.pre = false) : ∃ t, exec .linkMatch s = .next t ∧ t.dev.ctl.agrPos = true ∧
    (s.dev.isTwin = false ∨ s.dev.twinState ≠ 2 → t.dev.rbit A.ctlStat 26 = true) ∧ DevOnly s t := by
  obtain ⟨hagr, hon⟩ := Dev.linkMatched_closes hpre
  exact ⟨_, exec_linkMatch_waiting h hstep hhold, hagr, hon, rfl, rfl⟩

theorem linkMatch_holds (hpre : s.dev.ctl.blk.pre = true) : ∃ t, exec .linkMatch s = .next t ∧ t.dev.ctl.blk.hold = true ∧
    t.dev.rbit A.ctlStat 26 = s.dev.rbit A.ctlStat 26 ∧ DevOnly s t := by
  obtain ⟨hheld, hkept⟩ := Dev.linkMatched_holds hpre
  exact ⟨_, exec_linkMatch_waiting h hstep hhold, hheld, hkept, rfl, rfl⟩

end

/-- Settles O48: each end of a close is a failed step (`CloseFailed`); the match of the link turns the positive hold on or starts the hold. -/
theorem failedClose : Obligations.FailedClose :=
  ⟨fun _ h _ => ⟨tlinkExpiry_fails h, rampTimeout_fails h, tholdExpiry_fails h, gateFault_fails h⟩, fun _ => closeTimers_idle, fun _ => rfl,
    fun _ => linkMatch_closes, fun _ => linkMatch_holds⟩

end Sys2Proof.Machine
end

section
/-! Block sequence requests of tasks (10 R345-R351, R355-R356): taken, refused, or without action. -/

namespace Sys2Proof.Machine
open Sys2Proof

/-! A task's request is taken at once (10 R346). -/

theorem exec_seqTask {i : Instr} {s : State} {tgt code arg tag : Nat} (h : exec i s = .next (s.seqCmd .task tgt code arg tag))
    (harg : arg < 65536) (htag : tag < 256) : exec i s = .next { s with dev := s.dev.takeSeq tgt code arg tag 0 } := by
  rw [h]
  unfold State.seqCmd
  rw [Nat.mod_eq_of_lt harg, Nat.mod_eq_of_lt htag]

theorem exec_blkTask {i : Instr} {s : State} {code arg tag : Nat} (h : exec i s = .next (s.seqCmd .task 0 code arg tag))
    (harg : arg < 65536) (htag : tag < 256) : exec i s = .next { s with dev := s.dev.takeBlk code arg tag 0 } :=
  (exec_seqTask h harg htag).trans (next_dev_congr (if_pos rfl))

theorem Dev.takeBlk_none (tag src : Nat) (d : Dev) : d.takeBlk 0 0 tag src = d.putResult 0 tag src 0 false := if_pos (by decide)

theorem Dev.takeBlk_close {code : Nat} (h : code = 1 ∨ code = 2) (arg tag src : Nat) (d : Dev) :
    d.takeBlk code arg tag src = d.takeClose code arg tag src := by
  unfold Dev.takeBlk
  rw [if_neg (by omega), if_pos h]

theorem Dev.takeBlk_open {code : Nat} (h : code = 3 ∨ code = 4) (tag src : Nat) (d : Dev) :
    d.takeBlk code 0 tag src = d.takeOpen code tag src := by
  unfold Dev.takeBlk
  rw [if_neg (by omega), if_neg (by omega), if_neg (by omega), if_neg (by omega)]

theorem Dev.takeBlk_shutdown (tag src : Nat) (d : Dev) : d.takeBlk 5 0 tag src = d.takeShutdown tag src := by
  unfold Dev.takeBlk
  rw [if_neg (by decide), if_neg (by decide), if_neg (by decide), if_pos rfl]

theorem Dev.wake_awake {d : Dev} (h : d.pstate ≠ 2) : d.wake = d := if_neg h

/-! Refused requests (10 R348). -/

theorem Dev.takeBlk_badArg {code arg : Nat} (hcode : 3 ≤ code) (harg : 0 < arg) (tag src : Nat) (d : Dev) :
    d.takeBlk code arg tag src = d.blkResult code tag src 8 true := by
  unfold Dev.takeBlk
  rw [if_neg (by omega), if_neg (by omega), if_pos (by omega)]

theorem Dev.takeClose_badArg {arg : Nat} (h : 0 < arg) (hout : arg < 10 ∨ 6000 < arg) (code tag src : Nat) (d : Dev) :
    d.takeClose code arg tag src = d.wake.blkResult code tag src 8 true := by
  have none : d.wake.rampTime arg = none := by
    unfold Dev.rampTime
    rw [if_neg (by omega), if_neg (by omega)]
  unfold Dev.takeClose
  dsimp only
  rw [none]

theorem Dev.takeOpen_busy {d : Dev} (h : d.ctl.blk.code ≠ 0) (hc : d.closing = false) (code tag src : Nat) :
    d.takeOpen code tag src = d.blkResult code tag src 1 true := if_neg (by simp [h, hc])

theorem Dev.takeShutdown_busy {d : Dev} (h : d.shutting = true) (tag src : Nat) : d.takeShutdown tag src = d.blkResult 5 tag src 1 true := if_pos h

/-- A task's request is refused: its result stands, and event 225 is pending. -/
theorem blkRefused {s : State} {o : Out} {d : Dev} {code tag res : Nat} (h : o = .next { s with dev := d.blkResult code tag 0 res true }) :
    ∃ t, o = .next t ∧ t.dev.reg A.ctlSeqres = resWord code tag 0 res ∧ t.dev.eventPending 225 = true :=
  ⟨_, h, Dev.reg_blkResult code tag 0 res true d, Dev.blkResult_pending code tag 0 res true d⟩

/-- The refusal of a task's request writes its result and raises event 225. -/
theorem Dev.blkResult_eventsOnly (code tag res : Nat) (d : Dev) :
    EventsOnly (d.setReg A.ctlSeqres (resWord code tag 0 res)) (d.blkResult code tag 0 res true) :=
  ⟨Dev.sameBut_raise _ 225 0, (Dev.raise_regsRaised _ (by decide) 0).kept⟩

/-! OPEN and OPENNOW (10 R355). -/

theorem Dev.takeOpen_taken {d : Dev} (h : d.ctl.blk.code = 0 ∨ d.closing = true) (code tag src : Nat) :
    d.takeOpen code tag src = d.startOpen code tag src := if_pos h

/-- An open in its first step; it ends a close. -/
def Dev.openAsked (code tag src : Nat) (d : Dev) : Dev :=
  let e := if d.closing then (d.gatesOff).endBlk 18 else d
  ({ e with rep := { e.rep with openZero := true } }).setBlk
    fun _ => { code := code, step := 1, tag := tag, src := src, stepT := e.time.now, waiting := code == 3 }

theorem Dev.startOpen_eq (code tag src : Nat) (d : Dev) :
    d.startOpen code tag src = if code = 4 then (d.openAsked code tag src).openBoth else d.openAsked code tag src := rfl

theorem Dev.startOpen_blk (tag src : Nat) (d : Dev) : ∃ now, (d.startOpen 3 tag src).ctl.blk =
    { code := 3, step := 1, tag := tag, src := src, stepT := now, waiting := true } := by
  rw [Dev.startOpen_eq, if_neg (by decide)]
  exact ⟨_, rfl⟩

theorem Dev.rbit_openBoth (k : Contactor) (d : Dev) : d.openBoth.rbit A.ctlStat (holdBit k) = false := by
  have off : ContactsKept ((d.setHold .pos false).setHold .neg false) d.openBoth :=
    (ContactsKept.setBlk _ _).trans (.ite (.openDone _) (.refl _))
  rw [off.stat _ (holdBit_mem k), Dev.rbit_bothOff]

/-- OPENNOW turns both holds off at once, whatever ran. -/
theorem Dev.rbit_startOpenNow (k : Contactor) (tag src : Nat) (d : Dev) : (d.startOpen 4 tag src).rbit A.ctlStat (holdBit k) = false := by
  rw [Dev.startOpen_eq, if_pos rfl, Dev.rbit_openBoth]

/-! SHUTDOWN (10 R356). -/

theorem Dev.rbit_setBlk (f : BlkSeq → BlkSeq) (d : Dev) {i : Nat} (hlo : 16 ≤ i) (hhi : i < 32) (h : i ≠ 30) :
    (d.setBlk f).rbit A.ctlStat i = d.rbit A.ctlStat i := by
  unfold Dev.setBlk Dev.showBlk
  rw [Dev.rbit_setRbit _ _ _ _ _ (by decide) hhi, if_neg h, Dev.rbit_setFld _ _ _ (by decide) (by decide) hhi, if_neg (by omega),
    Dev.rbit_setFld _ _ _ (by decide) (by decide) hhi, if_neg (by omega)]
  rfl

theorem Dev.startShut_blk (tag src : Nat) (vaux store reset : Bool) (d : Dev) :
    (d.startShut tag src vaux store reset).ctl.blk.code = 5 ∧ (d.startShut tag src vaux store reset).ctl.blk.step = 2 := ⟨rfl, rfl⟩

theorem Dev.startShut_shown (tag src : Nat) (vaux store reset : Bool) (d : Dev) :
    (d.startShut tag src vaux store reset).rbit A.ctlStat 27 = true := by
  have raised : ∀ e : Dev, ((e.setRbit A.ctlStat 27 true).raise 231 0).rbit A.ctlStat 27 = true := fun e => by
    rw [Dev.rbit_congr (Dev.reg_raise _ (by decide) (by decide) 0), Dev.rbit_setRbit _ _ _ _ _ (by decide) (by decide), if_pos rfl]
  unfold Dev.startShut
  rw [Dev.rbit_setBlk _ _ (by decide) (by decide) (by decide)]
  exact raised _

/-! CLOSE and PRELINK (10 R350-R351). -/

/-- What a block sequence was asked for. -/
def BlkSeq.request (b : BlkSeq) : Nat × Nat × Bool := (b.code, b.tag, b.pre)

theorem Dev.closeStep3_request (d : Dev) : d.closeStep3.ctl.blk.request = d.ctl.blk.request := by
  unfold Dev.closeStep3
  split
  · rfl
  · split <;> rfl

theorem Dev.closeStep2_request (d : Dev) : d.closeStep2.ctl.blk.request = d.ctl.blk.request := by
  obtain ⟨hbeside, -⟩ := Dev.setHold_kept .neg true (d.blkStep 2)
  have turned : ((d.blkStep 2).setHold .neg true).ctl.blk.request = d.ctl.blk.request := congrArg (fun x => BlkSeq.request x.1) hbeside
  unfold Dev.closeStep2
  dsimp only
  split
  · rw [Dev.closeStep3_request, turned]
  · exact turned

theorem Dev.closeWait_request (d : Dev) : d.closeWait.ctl.blk.request = d.ctl.blk.request := by
  unfold Dev.closeWait
  split
  · exact d.closeStep2_request
  · rfl

/-- A close that starts at step 1. -/
def Dev.closeStarted (code tag src : Nat) (d : Dev) : Dev :=
  d.setBlk fun _ => { code := code, step := 1, tag := tag, src := src, rampMs := d.topo.tramp, stepT := d.time.now, pre := code == 2 }

theorem Dev.takeClose_starts {d : Dev} (hawake : d.pstate ≠ 2) (hrest : d.ctl.blk.code = 0) (hok : d.refuseBlock = none) (code tag src : Nat) :
    d.takeClose code 0 tag src = (d.closeStarted code tag src).closeWait := by
  have hshut : d.shutting = false := by simp [Dev.shutting, hrest]
  have hclose : d.closing = false := by simp [Dev.closing, hrest]
  have hramp : d.rampTime 0 = some d.topo.tramp := rfl
  unfold Dev.takeClose
  rw [Dev.wake_awake hawake]
  dsimp only
  rw [hramp]
  dsimp only
  rw [if_neg (by simp [hshut]), if_neg (by simp [hclose]), if_neg (by simp [hrest]), hok]
  rfl

theorem Dev.takeClose_request {d : Dev} (hawake : d.pstate ≠ 2) (hrest : d.ctl.blk.code = 0) (hok : d.refuseBlock = none) (code tag src : Nat) :
    (d.takeClose code 0 tag src).ctl.blk.code = code ∧ (d.takeClose code 0 tag src).ctl.blk.tag = tag ∧
      (d.takeClose code 0 tag src).ctl.blk.pre = (code == 2) := by
  have asked : (d.takeClose code 0 tag src).ctl.blk.request = (code, tag, code == 2) := by
    rw [Dev.takeClose_starts hawake hrest hok, Dev.closeWait_request]
    rfl
  exact ⟨congrArg Prod.fst asked, congrArg (fun x => x.2.1) asked, congrArg (fun x => x.2.2) asked⟩

/-! The statement. -/

section
variable {tag : Nat} (htag : tag < 256) (s : State)
include htag

theorem exec_seqNone_blk : exec (.seqNone 0 tag .task) s = .next { s with dev := s.dev.setReg A.ctlSeqres (resWord 0 tag 0 0) } :=
  (exec_blkTask (i := .seqNone 0 tag .task) rfl (by decide) htag).trans (next_dev_congr ((Dev.takeBlk_none tag 0 s.dev).trans rfl))

theorem exec_seqNone_str (n : Nat) : exec (.seqNone (n + 1) tag .task) s =
    .next (if s.dev.portEn n then { s with dev := s.dev.setReg (A.ctlSres n) (resWord 0 tag 0 0) } else s) := by
  have taken : s.dev.takeSeq (n + 1) 0 0 tag 0 = if s.dev.portEn n then s.dev.setReg (A.ctlSres n) (resWord 0 tag 0 0) else s.dev := rfl
  rw [exec_seqTask (i := .seqNone (n + 1) tag .task) rfl (by decide) htag, taken]
  split <;> rfl

theorem exec_seqOpen : exec (.seqOpen 0 tag .task) s = .next { s with dev := s.dev.takeOpen 3 tag 0 } :=
  (exec_blkTask (i := .seqOpen 0 tag .task) rfl (by decide) htag).trans (next_dev_congr (Dev.takeBlk_open (by decide) tag 0 s.dev))

theorem exec_seqOpenNow : exec (.seqOpenNow 0 tag .task) s = .next { s with dev := s.dev.takeOpen 4 tag 0 } :=
  (exec_blkTask (i := .seqOpenNow 0 tag .task) rfl (by decide) htag).trans (next_dev_congr (Dev.takeBlk_open (by decide) tag 0 s.dev))

theorem exec_seqShutdown : exec (.seqShutdown 0 tag .task) s = .next { s with dev := s.dev.takeShutdown tag 0 } :=
  (exec_blkTask (i := .seqShutdown 0 tag .task) rfl (by decide) htag).trans (next_dev_congr (Dev.takeBlk_shutdown tag 0 s.dev))

theorem exec_seqClose {arg : Nat} (harg : arg < 65536) : exec (.seqClose arg tag .task) s = .next { s with dev := s.dev.takeClose 1 arg tag 0 } :=
  (exec_blkTask (i := .seqClose arg tag .task) rfl harg htag).trans (next_dev_congr (Dev.takeBlk_close (by decide) arg tag 0 s.dev))

theorem exec_seqPrelink {arg : Nat} (harg : arg < 65536) :
    exec (.seqPrelink arg tag .task) s = .next { s with dev := s.dev.takeClose 2 arg tag 0 } :=
  (exec_blkTask (i := .seqPrelink arg tag .task) rfl harg htag).trans (next_dev_congr (Dev.takeBlk_close (by decide) arg tag 0 s.dev))

/-- OPEN, OPENNOW and SHUTDOWN have no ARG (10 R345). -/
theorem exec_blk_badArg {i : Instr} {code arg : Nat} (h : exec i s = .next (s.seqCmd .task 0 code arg tag)) (hcode : 3 ≤ code) (hpos : 0 < arg)
    (harg : arg < 65536) : exec i s = .next { s with dev := s.dev.blkResult code tag 0 8 true } :=
  (exec_blkTask h harg htag).trans (next_dev_congr (Dev.takeBlk_badArg hcode hpos tag 0 s.dev))

variable {s}

theorem seqOpen_starts (h : s.dev.ctl.blk.code = 0) : ∃ t, exec (.seqOpen 0 tag .task) s = .next t ∧ t.dev.ctl.blk.code = 3 ∧
    t.dev.ctl.blk.tag = tag ∧ t.dev.ctl.blk.step = 1 ∧ t.dev.ctl.blk.waiting = true ∧ DevOnly s t := by
  obtain ⟨_, hblk⟩ := s.dev.startOpen_blk tag 0
  exact ⟨_, (exec_seqOpen htag s).trans (next_dev_congr (Dev.takeOpen_taken (.inl h) 3 tag 0)), congrArg BlkSeq.code hblk,
    congrArg BlkSeq.tag hblk, congrArg BlkSeq.step hblk, congrArg BlkSeq.waiting hblk, rfl, rfl⟩

theorem seqOpenNow_opens (h : s.dev.ctl.blk.code = 0 ∨ s.dev.closing = true) : ∃ t, exec (.seqOpenNow 0 tag .task) s = .next t ∧
    t.dev.rbit A.ctlStat 26 = false ∧ t.dev.rbit A.ctlStat 25 = false ∧ DevOnly s t :=
  ⟨_, (exec_seqOpenNow htag s).trans (next_dev_congr (Dev.takeOpen_taken h 4 tag 0)), Dev.rbit_startOpenNow .pos tag 0 s.dev,
    Dev.rbit_startOpenNow .neg tag 0 s.dev, rfl, rfl⟩

theorem seqOpen_busy (h : s.dev.ctl.blk.code ≠ 0) (hc : s.dev.closing = false) : ∃ t, exec (.seqOpen 0 tag .task) s = .next t ∧
    t.dev.reg A.ctlSeqres = resWord 3 tag 0 1 ∧ EventsOnly (s.dev.setReg A.ctlSeqres (resWord 3 tag 0 1)) t.dev :=
  ⟨_, (exec_seqOpen htag s).trans (next_dev_congr (Dev.takeOpen_busy h hc 3 tag 0)), Dev.reg_blkResult 3 tag 0 1 true s.dev,
    s.dev.blkResult_eventsOnly 3 tag 1⟩

theorem seqOpenNow_busy (h : s.dev.ctl.blk.code ≠ 0) (hc : s.dev.closing = false) : ∃ t, exec (.seqOpenNow 0 tag .task) s = .next t ∧
    t.dev.reg A.ctlSeqres = resWord 4 tag 0 1 ∧ t.dev.eventPending 225 = true :=
  blkRefused ((exec_seqOpenNow htag s).trans (next_dev_congr (Dev.takeOpen_busy h hc 4 tag 0)))

theorem seqShutdown_starts (h : s.dev.shutting = false) : ∃ t, exec (.seqShutdown 0 tag .task) s = .next t ∧ t.dev.ctl.blk.code = 5 ∧
    t.dev.ctl.blk.step = 2 ∧ t.dev.rbit A.ctlStat 27 = true ∧ DevOnly s t := by
  have taken : s.dev.takeShutdown tag 0 = s.dev.startShut tag 0 false false false := if_neg (by simp [h])
  obtain ⟨hcode, hstep⟩ := s.dev.startShut_blk tag 0 false false false
  exact ⟨_, (exec_seqShutdown htag s).trans (next_dev_congr taken), hcode, hstep, s.dev.startShut_shown tag 0 false false false, rfl, rfl⟩

theorem seqShutdown_busy (h : s.dev.shutting = true) : ∃ t, exec (.seqShutdown 0 tag .task) s = .next t ∧
    t.dev.reg A.ctlSeqres = resWord 5 tag 0 1 ∧ DevOnly s t :=
  ⟨_, (exec_seqShutdown htag s).trans (next_dev_congr (Dev.takeShutdown_busy h tag 0)), Dev.reg_blkResult 5 tag 0 1 true s.dev, rfl, rfl⟩

theorem seqClose_starts (hawake : s.dev.pstate ≠ 2) (hrest : s.dev.ctl.blk.code = 0) (hok : s.dev.refuseBlock = none) :
    ∃ t, exec (.seqClose 0 tag .task) s = .next t ∧ t.dev.ctl.blk.code = 1 ∧ t.dev.ctl.blk.tag = tag ∧ t.dev.ctl.blk.pre = false ∧ DevOnly s t := by
  obtain ⟨hcode, htags, hpre⟩ := Dev.takeClose_request hawake hrest hok 1 tag 0
  exact ⟨_, exec_seqClose htag s (by decide), hcode, htags, hpre, rfl, rfl⟩

theorem seqPrelink_starts (hawake : s.dev.pstate ≠ 2) (hrest : s.dev.ctl.blk.code = 0) (hok : s.dev.refuseBlock = none) :
    ∃ t, exec (.seqPrelink 0 tag .task) s = .next t ∧ t.dev.ctl.blk.code = 2 ∧ t.dev.ctl.blk.tag = tag ∧ t.dev.ctl.blk.pre = true ∧ DevOnly s t := by
  obtain ⟨hcode, htags, hpre⟩ := Dev.takeClose_request hawake hrest hok 2 tag 0
  exact ⟨_, exec_seqPrelink htag s (by decide), hcode, htags, hpre, rfl, rfl⟩

end

/-- Settles O49: each request by whether it is taken (`Dev.takeOpen`, `Dev.takeShutdown`, `Dev.takeClose`) or refused (`blkRefused`). -/
theorem blockSequences : Obligations.BlockSequences := fun tag s htag =>
  ⟨exec_seqNone_blk htag s, exec_seqNone_str htag s, seqOpen_starts htag, seqOpenNow_opens htag,
    fun h hc => ⟨seqOpen_busy htag h hc, seqOpenNow_busy htag h hc⟩, seqShutdown_starts htag, seqShutdown_busy htag,
    fun arg hpos harg =>
      ⟨blkRefused (exec_blk_badArg htag s (i := .seqOpen arg tag .task) (code := 3) rfl (by decide) hpos harg),
        blkRefused (exec_blk_badArg htag s (i := .seqOpenNow arg tag .task) (code := 4) rfl (by decide) hpos harg),
        blkRefused (exec_blk_badArg htag s (i := .seqShutdown arg tag .task) (code := 5) rfl (by decide) hpos harg),
        fun hout => ⟨blkRefused ((exec_seqClose htag s harg).trans (next_dev_congr (Dev.takeClose_badArg hpos hout 1 tag 0 s.dev))),
          blkRefused ((exec_seqPrelink htag s harg).trans (next_dev_congr (Dev.takeClose_badArg hpos hout 2 tag 0 s.dev)))⟩⟩,
    fun hawake hrest hok => ⟨seqClose_starts htag hawake hrest hok, seqPrelink_starts htag hawake hrest hok⟩⟩

end Sys2Proof.Machine
end

section
/-! String sequence requests of tasks (10 R345-R348, R360-R361). -/

namespace Sys2Proof.Machine
open Sys2Proof

/-! The sequence of a string. -/

@[simp] theorem Dev.strSeq_setStrSeq (n : Nat) (x : StrSeq) (d : Dev) : (d.setStrSeq n x).strSeq n = x := by
  simp [Dev.strSeq, Dev.setStrSeq]

theorem Dev.strSeq_setStrSeq_other {n k : Nat} (x : StrSeq) (d : Dev) (h : k ≠ n) : (d.setStrSeq n x).strSeq k = d.strSeq k :=
  FMap.get_set_other _ _ _ h

theorem Dev.strSeq_congr {d e : Dev} (h : e.ctl = d.ctl) (k : Nat) : e.strSeq k = d.strSeq k := by
  unfold Dev.strSeq
  rw [h]

theorem Dev.port_congr {d e : Dev} (h : e.ports = d.ports) (k : Nat) : e.port k = d.port k := by
  unfold Dev.port
  rw [h]

theorem Port.QueueOnly.headSeq {p q : Port} (h : p.QueueOnly q) : q.headSeq = p.headSeq := by
  rw [show q = { p with txns := q.txns, backlog := q.backlog } from h]

/-! A head command queued (10 R361). -/

/-- A head command was numbered and queued for string `n`, and no sequence and no string's state moved. -/
structure HeadTold (n : Nat) (d e : Dev) : Prop where
  ctl : e.ctl = d.ctl
  rep : e.rep = d.rep
  headSeq : (e.port n).headSeq = ((d.port n).headSeq + 1) % 256

theorem Dev.headCmd_told (n cmd : Nat) (d : Dev) : HeadTold n d (d.headCmd n cmd) := by
  obtain ⟨honly, hport, -⟩ := d.headCmd_asked n cmd
  exact ⟨by rw [honly.1], by rw [honly.1], hport.headSeq⟩

theorem Told.strArc (n : Nat) (d : Dev) : Told [A.ctlLarc (n + 2)] d (d.strArc n) := by
  unfold Dev.strArc
  exact .ite (.refl d) ((Told.setReg d _ (by simp) (by unfold A.ctlLarc; omega)).trans (.raiseIf _ _ _ (by decide) _))

theorem Dev.sendOpen_told (n cmd : Nat) (d : Dev) : HeadTold n d (d.sendOpen n cmd) := by
  have counted := Told.strArc n d
  obtain ⟨hctl, hrep, hseq⟩ := (d.strArc n).headCmd_told n cmd
  rw [Dev.port_congr counted.ports] at hseq
  exact ⟨hctl.trans counted.ctl, hrep.trans counted.rep, hseq⟩

/-- A step of a string's sequence sends its head command (10 R360). -/
theorem Dev.strStep_told (n step cmd : Nat) (d : Dev) :
    HeadTold n (d.setStrSeq n { d.strSeq n with step := step, stepT := d.time.now, sent := none }) (d.strStep n step cmd) := Dev.headCmd_told n cmd _

theorem Dev.strSeq_strStep (n step cmd : Nat) (d : Dev) :
    (d.strStep n step cmd).strSeq n = { d.strSeq n with step := step, stepT := d.time.now, sent := none } := by
  rw [Dev.strSeq_congr (d.strStep_told n step cmd).ctl, Dev.strSeq_setStrSeq]

theorem Dev.strSeq_strStep_other {n k : Nat} (h : k ≠ n) (step cmd : Nat) (d : Dev) : (d.strStep n step cmd).strSeq k = d.strSeq k := by
  rw [Dev.strSeq_congr (d.strStep_told n step cmd).ctl, Dev.strSeq_setStrSeq_other _ _ h]

/-! The end of a string's sequence (10 R348). -/

/-- A string whose sequence has ended. -/
def Dev.strFreed (n : Nat) (d : Dev) : Dev := (d.setStr n fun x => { x with discon := false }).setStrSeq n {}

theorem Told.endStr {n : Nat} {d : Dev} (h : (d.strSeq n).code ≠ 0) (res : Nat) : Told [A.ctlSres n] (d.strFreed n) (d.endStr n res) := by
  unfold Dev.endStr
  dsimp only
  rw [if_neg h]
  exact .strResult _ n _ _ _ _ _

theorem Dev.endStr_none {n : Nat} {d : Dev} (h : (d.strSeq n).code = 0) (res : Nat) : d.endStr n res = d := if_pos h

theorem Dev.strSeq_endStr {n : Nat} {d : Dev} (h : (d.strSeq n).code ≠ 0) (res : Nat) : (d.endStr n res).strSeq n = {} := by
  rw [Dev.strSeq_congr (Told.endStr h res).ctl]
  exact Dev.strSeq_setStrSeq n {} _

/-- The end of a string's sequence leaves the other strings and every port. -/
theorem Dev.endStr_kept (n res : Nat) (d : Dev) :
    (∀ k, k ≠ n → (d.endStr n res).strSeq k = d.strSeq k) ∧ (d.endStr n res).ports = d.ports := by
  by_cases h : (d.strSeq n).code = 0
  · rw [Dev.endStr_none h]
    exact ⟨fun _ _ => rfl, rfl⟩
  · have ended := Told.endStr h res
    refine ⟨fun k hk => ?_, ended.ports⟩
    rw [Dev.strSeq_congr ended.ctl]
    exact Dev.strSeq_setStrSeq_other {} _ hk

theorem Dev.strSeq_failStr {n : Nat} {d : Dev} (h : (d.strSeq n).code ≠ 0) (res : Nat) : (d.failStr n res).strSeq n = {} := by
  unfold Dev.failStr
  rw [if_neg h, Dev.strSeq_congr ((d.endStr n res).sendOpen_told n 0x08).ctl, Dev.strSeq_endStr h]

/-! Requests refused. -/

/-- Waking the device writes no register but PWR.STAT (16 R548). -/
theorem RegsKept.wake (d : Dev) : RegsKept [A.pwrStat] d d.wake := by
  have settled := (Told.settleState d 3).regs
  unfold Dev.wake
  exact .ite (.ite settled (settled.trans (.fold _ _ _ fun _ _ => .of_regs _ rfl))) (.refl _ d)

theorem Dev.portEn_wake {n : Nat} (hn : n < 48) (d : Dev) : d.wake.portEn n = d.portEn n :=
  Dev.rbit_congr (RegsKept.wake d _ (evtArea_between (by unfold A.ringCfg; omega) (by unfold A.ringCfg; omega))
    (by rw [List.mem_singleton]; unfold A.ringCfg A.pwrStat; omega)) 31

theorem exec_strTask {i : Instr} {s : State} {n code arg tag : Nat} (h : exec i s = .next (s.seqCmd .task (n + 1) code arg tag))
    (harg : arg < 65536) (htag : tag < 256) : exec i s = .next { s with dev := s.dev.takeStr n code arg tag 0 } :=
  (exec_seqTask h harg htag).trans (next_dev_congr (if_neg (Nat.succ_ne_zero n)))

theorem Dev.takeStr_connect (n arg tag src : Nat) (d : Dev) : d.takeStr n 1 arg tag src = d.takeConnect n arg tag src := by
  unfold Dev.takeStr
  rw [if_neg (by omega), if_pos rfl]

theorem Dev.takeStr_disconnect {code : Nat} (h : code = 2 ∨ code = 3) (n arg tag src : Nat) (d : Dev) :
    d.takeStr n code arg tag src = d.takeDisconnect n code arg tag src := by
  unfold Dev.takeStr
  rw [if_neg (by omega), if_neg (by omega), if_pos h]

theorem Dev.takeConnect_badArg {arg : Nat} (h : 0 < arg) (n tag src : Nat) (d : Dev) :
    d.takeConnect n arg tag src = d.wake.strResult n 1 tag src 8 true := if_pos (by omega)

theorem Dev.takeConnect_busy {n : Nat} {d : Dev} (hawake : d.pstate ≠ 2) (h : (d.strSeq n).code ≠ 0) (tag src : Nat) :
    d.takeConnect n 0 tag src = d.strResult n 1 tag src 1 true := by
  unfold Dev.takeConnect
  rw [Dev.wake_awake hawake]
  dsimp only
  rw [if_neg (by decide), if_pos h]

theorem Dev.takeDisconnect_badArg {arg : Nat} (h : 0 < arg) (n code tag src : Nat) (d : Dev) :
    d.takeDisconnect n code arg tag src = d.strResult n code tag src 8 true := if_pos (by omega)

theorem Dev.takeDisconnect_busy {n : Nat} {d : Dev} (h : (d.strSeq n).code = 2 ∨ (d.strSeq n).code = 3) (code tag src : Nat) :
    d.takeDisconnect n code 0 tag src = d.strResult n code tag src 1 true := by
  unfold Dev.takeDisconnect
  dsimp only
  rw [if_neg (by decide), if_pos h]

/-! Requests taken. -/

/-- The head of a string is asked to clear KAEXP where it shows it. -/
def Dev.kaexpAsked (n : Nat) (d : Dev) : Dev := if (d.port n).head.kaexp then d.queueClrst n 1 55 else d

theorem Dev.kaexpAsked_queue (n : Nat) (d : Dev) : QueueRun n d (d.kaexpAsked n) := by
  unfold Dev.kaexpAsked
  split
  · exact Dev.queueDev_run _ _ _ _ _ _ _
  · exact .refl n d

theorem Dev.takeConnect_starts {n : Nat} {d : Dev} (hawake : d.pstate ≠ 2) (hrest : (d.strSeq n).code = 0) (hok : d.refuseStr n = none)
    (tag src : Nat) : d.takeConnect n 0 tag src = ((d.kaexpAsked n).setStrSeq n { code := 1, tag := tag, src := src }).strStep n 2 1 := by
  unfold Dev.takeConnect
  rw [Dev.wake_awake hawake]
  dsimp only
  rw [if_neg (by decide), if_neg (by simp [hrest]), hok]
  rfl

theorem Dev.takeConnect_started {n : Nat} {d : Dev} (hawake : d.pstate ≠ 2) (hrest : (d.strSeq n).code = 0) (hok : d.refuseStr n = none)
    (tag src : Nat) : (∃ now, (d.takeConnect n 0 tag src).strSeq n = { code := 1, step := 2, tag := tag, src := src, stepT := now }) ∧
      ((d.takeConnect n 0 tag src).port n).headSeq = ((d.port n).headSeq + 1) % 256 ∧
      ∀ k, k ≠ n → (d.takeConnect n 0 tag src).strSeq k = d.strSeq k := by
  obtain ⟨honly, hport⟩ := d.kaexpAsked_queue n
  have hctl : (d.kaexpAsked n).ctl = d.ctl := by rw [honly.1]
  have hseq : ((d.kaexpAsked n).port n).headSeq = (d.port n).headSeq := hport.headSeq
  rw [Dev.takeConnect_starts hawake hrest hok]
  refine ⟨⟨(d.kaexpAsked n).time.now, ?_⟩, ?_, fun k hk => ?_⟩
  · rw [Dev.strSeq_strStep, Dev.strSeq_setStrSeq]
    rfl
  · exact (Dev.strStep_told n 2 1 _).headSeq.trans (congrArg (fun x => (x + 1) % 256) hseq)
  · rw [Dev.strSeq_strStep_other hk, Dev.strSeq_setStrSeq_other _ _ hk, Dev.strSeq_congr hctl]

/-- The string is being disconnected; its sequence, if one ran, was aborted (10 R361). -/
def Dev.disconAsked (n : Nat) (d : Dev) : Dev := (d.endStr n 18).setStr n fun x => { x with discon := true }

theorem Dev.disconAsked_kept (n : Nat) (d : Dev) : ((d.disconAsked n).str n).discon = true ∧ (d.disconAsked n).ports = d.ports ∧
    ∀ k, k ≠ n → (d.disconAsked n).strSeq k = d.strSeq k := by
  obtain ⟨hseqs, hports⟩ := d.endStr_kept n 18
  exact ⟨congrArg StrSt.discon (Dev.str_setStr _ n _), hports, hseqs⟩

/-- A disconnection in step `step`. -/
def Dev.disconAt (n code step tag src : Nat) (d : Dev) : Dev :=
  (d.disconAsked n).setStrSeq n { code := code, step := step, tag := tag, src := src, stepT := (d.disconAsked n).time.now }

theorem Dev.takeDisconnect_starts {n : Nat} {d : Dev} (h : (d.strSeq n).code = 0 ∨ (d.strSeq n).code = 1) (tag src : Nat) :
    d.takeDisconnect n 2 0 tag src = d.disconAt n 2 2 tag src := by
  unfold Dev.takeDisconnect
  dsimp only
  rw [if_neg (by decide), if_neg (by omega), if_neg (by decide)]
  rfl

theorem Dev.takeDisconnow_starts {n : Nat} {d : Dev} (h : (d.strSeq n).code = 0 ∨ (d.strSeq n).code = 1) (tag src : Nat) :
    d.takeDisconnect n 3 0 tag src = (d.disconAt n 3 3 tag src).sendOpen n 0x08 := by
  unfold Dev.takeDisconnect
  dsimp only
  rw [if_neg (by decide), if_neg (by omega), if_pos rfl]
  rfl

theorem Dev.takeDisconnow_started {n : Nat} {d : Dev} (h : (d.strSeq n).code = 0 ∨ (d.strSeq n).code = 1) (tag src : Nat) :
    ((d.takeDisconnect n 3 0 tag src).strSeq n).code = 3 ∧ ((d.takeDisconnect n 3 0 tag src).strSeq n).step = 3 ∧
      ((d.takeDisconnect n 3 0 tag src).str n).discon = true ∧
      ((d.takeDisconnect n 3 0 tag src).port n).headSeq = ((d.port n).headSeq + 1) % 256 := by
  obtain ⟨hdiscon, hports, -⟩ := d.disconAsked_kept n
  obtain ⟨hctl, hrep, hhead⟩ := (d.disconAt n 3 3 tag src).sendOpen_told n 0x08
  have hport : (d.disconAt n 3 3 tag src).port n = d.port n := Dev.port_congr hports n
  have hseq : (d.disconAt n 3 3 tag src).strSeq n = _ := Dev.strSeq_setStrSeq n _ _
  have hstr : (d.disconAt n 3 3 tag src).str n = (d.disconAsked n).str n := rfl
  rw [Dev.takeDisconnow_starts h, Dev.strSeq_congr hctl, Dev.str_congr hrep, hseq, hstr, hhead, hport]
  exact ⟨rfl, rfl, hdiscon, rfl⟩

/-- The end of the current wait of a disconnection opens the string (10 R361). -/
theorem Dev.waitEnd_opens {n : Nat} {d : Dev} (hcode : (d.strSeq n).code = 2) (hstep : (d.strSeq n).step = 2) :
    ((d.waitEnd (n + 1)).strSeq n).step = 3 := by
  have told := (d.setStrSeq n { d.strSeq n with step := 3, stepT := d.time.now }).sendOpen_told n 0x08
  unfold Dev.waitEnd
  rw [Nat.add_sub_cancel]
  dsimp only
  rw [if_neg (Nat.succ_ne_zero n), if_pos ⟨hcode, hstep⟩, Dev.strSeq_congr told.ctl, Dev.strSeq_setStrSeq]

/-! The statement. -/

/-- A task's request to a string is refused: the result stands where the string is in the topology. -/
theorem strRefused {s : State} {o : Out} {d : Dev} {n code tag res : Nat} (hn : n < 48) (hd : d.portEn n = s.dev.portEn n)
    (h : o = .next { s with dev := d.strResult n code tag 0 res true }) :
    ∃ t, o = .next t ∧ (s.dev.portEn n = true → t.dev.reg (A.ctlSres n) = resWord code tag 0 res) ∧ DevOnly s t :=
  ⟨_, h, fun hen => Dev.reg_strResult hn code tag 0 res true (hd.trans hen), rfl, rfl⟩

section
variable {tag arg : Nat} (htag : tag < 256) (harg : arg < 65536) (n : Nat) (s : State)
include htag harg

theorem exec_strConnect : exec (.strConnect n arg tag .task) s = .next { s with dev := s.dev.takeConnect n arg tag 0 } :=
  (exec_strTask (i := .strConnect n arg tag .task) rfl harg htag).trans (next_dev_congr (Dev.takeStr_connect n arg tag 0 s.dev))

theorem exec_strDisconnect : exec (.strDisconnect n arg tag .task) s = .next { s with dev := s.dev.takeDisconnect n 2 arg tag 0 } :=
  (exec_strTask (i := .strDisconnect n arg tag .task) rfl harg htag).trans (next_dev_congr (Dev.takeStr_disconnect (by decide) n arg tag 0 s.dev))

theorem exec_strDisconnow : exec (.strDisconnow n arg tag .task) s = .next { s with dev := s.dev.takeDisconnect n 3 arg tag 0 } :=
  (exec_strTask (i := .strDisconnow n arg tag .task) rfl harg htag).trans (next_dev_congr (Dev.takeStr_disconnect (by decide) n arg tag 0 s.dev))

end

section
variable {tag : Nat} (htag : tag < 256) {n : Nat} {s : State}

section
include htag

theorem strConnect_starts (hawake : s.dev.pstate ≠ 2) (hrest : (s.dev.strSeq n).code = 0) (hok : s.dev.refuseStr n = none) :
    ∃ t, exec (.strConnect n 0 tag .task) s = .next t ∧ (t.dev.strSeq n).code = 1 ∧ (t.dev.strSeq n).step = 2 ∧ (t.dev.strSeq n).tag = tag ∧
      (t.dev.port n).headSeq = ((s.dev.port n).headSeq + 1) % 256 ∧ (∀ k, k ≠ n → t.dev.strSeq k = s.dev.strSeq k) ∧ DevOnly s t := by
  obtain ⟨⟨_, hseq⟩, hhead, hother⟩ := Dev.takeConnect_started hawake hrest hok tag 0
  exact ⟨_, exec_strConnect htag (by decide) n s, congrArg StrSeq.code hseq, congrArg StrSeq.step hseq, congrArg StrSeq.tag hseq, hhead, hother,
    rfl, rfl⟩

theorem strConnect_busy (hn : n < 48) (hawake : s.dev.pstate ≠ 2) (h : (s.dev.strSeq n).code ≠ 0) :
    ∃ t, exec (.strConnect n 0 tag .task) s = .next t ∧ (s.dev.portEn n = true → t.dev.reg (A.ctlSres n) = resWord 1 tag 0 1) ∧
      t.dev.eventPending 225 = true ∧ DevOnly s t :=
  ⟨_, (exec_strConnect htag (by decide) n s).trans (next_dev_congr (Dev.takeConnect_busy hawake h tag 0)),
    fun hen => Dev.reg_strResult hn 1 tag 0 1 true hen, Dev.strResult_pending n 1 tag 0 1 true s.dev, rfl, rfl⟩

theorem strDisconnect_starts (h : (s.dev.strSeq n).code = 0 ∨ (s.dev.strSeq n).code = 1) :
    ∃ t, exec (.strDisconnect n 0 tag .task) s = .next t ∧ (t.dev.strSeq n).code = 2 ∧ (t.dev.strSeq n).step = 2 ∧ (t.dev.str n).discon = true ∧
      (∀ k, k ≠ n → t.dev.strSeq k = s.dev.strSeq k) ∧ DevOnly s t := by
  obtain ⟨hdiscon, -, hother⟩ := s.dev.disconAsked_kept n
  have hseq := Dev.strSeq_setStrSeq n { code := 2, step := 2, tag := tag, stepT := (s.dev.disconAsked n).time.now } (s.dev.disconAsked n)
  exact ⟨_, (exec_strDisconnect htag (by decide) n s).trans (next_dev_congr (Dev.takeDisconnect_starts h tag 0)), congrArg StrSeq.code hseq,
    congrArg StrSeq.step hseq, hdiscon, fun k hk => (Dev.strSeq_setStrSeq_other _ _ hk).trans (hother k hk), rfl, rfl⟩

theorem strDisconnow_starts (h : (s.dev.strSeq n).code = 0 ∨ (s.dev.strSeq n).code = 1) :
    ∃ t, exec (.strDisconnow n 0 tag .task) s = .next t ∧ (t.dev.strSeq n).code = 3 ∧ (t.dev.strSeq n).step = 3 ∧ (t.dev.str n).discon = true ∧
      (t.dev.port n).headSeq = ((s.dev.port n).headSeq + 1) % 256 ∧ DevOnly s t := by
  obtain ⟨hcode, hstep, hdiscon, hhead⟩ := Dev.takeDisconnow_started h tag 0
  exact ⟨_, exec_strDisconnow htag (by decide) n s, hcode, hstep, hdiscon, hhead, rfl, rfl⟩

end

theorem exec_currentWaitEnd (tgt : Nat) (s : State) : exec (.currentWaitEnd tgt) s = .next { s with dev := s.dev.waitEnd tgt } := rfl

theorem currentWaitEnd_opens (hcode : (s.dev.strSeq n).code = 2) (hstep : (s.dev.strSeq n).step = 2) :
    ∃ t, exec (.currentWaitEnd (n + 1)) s = .next t ∧ (t.dev.strSeq n).step = 3 ∧ DevOnly s t :=
  ⟨_, exec_currentWaitEnd (n + 1) s, Dev.waitEnd_opens hcode hstep, rfl, rfl⟩

end

/-- Settles O50: requests taken by the step they start, refused ones by `strRefused`, and the end of the current wait. -/
theorem stringSequences : Obligations.StringSequences := fun n tag s hn htag =>
  ⟨strConnect_starts htag, strConnect_busy htag hn, fun h => ⟨strDisconnect_starts htag h, strDisconnow_starts htag h⟩,
    fun h =>
      ⟨strRefused hn rfl ((exec_strDisconnect htag (by decide) n s).trans (next_dev_congr (Dev.takeDisconnect_busy h 2 tag 0))),
        strRefused hn rfl ((exec_strDisconnow htag (by decide) n s).trans (next_dev_congr (Dev.takeDisconnect_busy h 3 tag 0)))⟩,
    fun arg hpos harg =>
      ⟨strRefused hn (s.dev.portEn_wake hn) ((exec_strConnect htag harg n s).trans (next_dev_congr (Dev.takeConnect_badArg hpos n tag 0 s.dev))),
        strRefused hn rfl ((exec_strDisconnect htag harg n s).trans (next_dev_congr (Dev.takeDisconnect_badArg hpos n 2 tag 0 s.dev))),
        strRefused hn rfl ((exec_strDisconnow htag harg n s).trans (next_dev_congr (Dev.takeDisconnect_badArg hpos n 3 tag 0 s.dev)))⟩,
    currentWaitEnd_opens⟩

end Sys2Proof.Machine
end

section
/-! Feedbacks, holds, waits and the timers of contactors (10 R342-R343, R355-R356, R360, 18 R585). -/

namespace Sys2Proof.Machine
open Sys2Proof

/-! Feedback changes and time-outs (10 R343). -/

theorem ContactsKept.setLimited (k : Contactor) (b : Bool) (d : Dev) : ContactsKept d (d.setLimited k b) := by
  cases k with
  | pos => exact .of_same rfl rfl
  | neg => exact .of_same rfl rfl

theorem ContactsKept.lateOpen (d : Dev) : ContactsKept d d.lateOpen := .ite (.settleState d 3) (.refl d)

theorem exec_feedbackChange (k : Contactor) (b : Bool) (s : State) :
    ∃ e, exec (.feedbackChange k b) s = .next { s with dev := e } ∧ OpensOnly (s.dev.setRbit A.ctlStat (fbBit k) b) e := by
  have opened : ∀ (p : Prop) [Decidable p] (e : Dev), OpensOnly e (if p then e.opened k else e) := fun _ _ e =>
    .ite (.of_kept (.opened e k)) (.refl e)
  have limited : ∀ (p : Prop) [Decidable p] (e : Dev), OpensOnly e (if p then (e.setLimited k false).fbErr k else e) := fun _ _ e =>
    .ite ((OpensOnly.of_kept (.setLimited k false e)).trans (.fbErr _ k)) (.refl e)
  refine ⟨_, rfl, ?_⟩
  exact (OpensOnly.of_kept (.fbAgree _)).trans <| (opened _ _).trans <| (limited _ _).trans <|
    (OpensOnly.advanceBlk _ k b).trans (.of_kept (.lateOpen _))

theorem feedbackChange_recorded (k : Contactor) (b : Bool) (s : State) :
    ∃ t, exec (.feedbackChange k b) s = .next t ∧ t.dev.rbit A.ctlStat (fbBit k) = b ∧ DevOnly s t := by
  obtain ⟨e, hexec, hopens⟩ := exec_feedbackChange k b s
  refine ⟨_, hexec, (hopens.fb k).trans ?_, rfl, rfl⟩
  rw [Dev.rbit_setRbit _ _ _ _ _ (by cases k <;> decide) (by cases k <;> decide), if_pos rfl]

/-- A contactor has disagreed with its hold for too long, or agrees after all. -/
def Dev.feedbackLate (k : Contactor) (d : Dev) : Dev :=
  if d.rbit A.ctlStat (holdBit k) ∧ d.rbit A.ctlStat (fbBit k) = false then d.fbErr k
  else if d.rbit A.ctlStat (holdBit k) = false ∧ d.rbit A.ctlStat (fbBit k) then ((d.setRbit A.ctlStat 29 true).raise 227 0).openStuck k
  else d

theorem exec_feedbackTimeout (k : Contactor) (s : State) : exec (.feedbackTimeout k) s = .next { s with dev := s.dev.feedbackLate k } := rfl

theorem Dev.fbErr_pending (k : Contactor) (d : Dev) : (d.fbErr k).eventPending 226 = true := by
  have raised : ((d.setRbit A.ctlStat 28 true).raise 226 0).eventPending 226 = true := Dev.raise_pending _ (by decide) 0
  unfold Dev.fbErr
  dsimp only
  split
  · exact (OpensOnly.failBlk _ 11).pend.eventPending (by decide) raised
  · exact raised

/-- FBERR stands unless the close that waited for the contactor failed. -/
theorem Dev.fbErr_shown {k : Contactor} {d : Dev} (h : (d.fbErr k).rbit A.ctlStat (holdBit k) = true) : (d.fbErr k).rbit A.ctlStat 28 = true := by
  unfold Dev.fbErr at h ⊢
  dsimp only at h ⊢
  split at h
  case isTrue => rw [Dev.rbit_failBlk] at h; cases h
  case isFalse hopen =>
    rw [if_neg hopen, Dev.rbit_congr (Dev.reg_raise _ (by decide) (by decide) 0), Dev.rbit_setRbit _ _ _ _ _ (by decide) (by decide), if_pos rfl]

section
variable {k : Contactor} {s : State}

theorem feedbackTimeout_errs (hhold : s.dev.rbit A.ctlStat (holdBit k) = true) (hfb : s.dev.rbit A.ctlStat (fbBit k) = false) :
    ∃ t, exec (.feedbackTimeout k) s = .next t ∧ (t.dev.rbit A.ctlStat (holdBit k) = true → t.dev.rbit A.ctlStat 28 = true) ∧
      t.dev.eventPending 226 = true ∧ DevOnly s t :=
  ⟨_, (exec_feedbackTimeout k s).trans (next_dev_congr (if_pos ⟨hhold, hfb⟩)), Dev.fbErr_shown, s.dev.fbErr_pending k, rfl, rfl⟩

theorem feedbackTimeout_welds (hhold : s.dev.rbit A.ctlStat (holdBit k) = false) (hfb : s.dev.rbit A.ctlStat (fbBit k) = true) :
    ∃ t, exec (.feedbackTimeout k) s = .next t ∧ t.dev.rbit A.ctlStat 29 = true ∧ t.dev.eventPending 227 = true ∧ DevOnly s t := by
  have stuck := OpensOnly.openStuck ((s.dev.setRbit A.ctlStat 29 true).raise 227 0) k
  refine ⟨_, (exec_feedbackTimeout k s).trans (next_dev_congr ((if_neg (by simp [hhold])).trans (if_pos ⟨hhold, hfb⟩))),
    stuck.weld.trans ?_, stuck.pend.eventPending (by decide) (Dev.raise_pending _ (by decide) 0), rfl, rfl⟩
  rw [Dev.rbit_congr (Dev.reg_raise _ (by decide) (by decide) 0), Dev.rbit_setRbit _ _ _ _ _ (by decide) (by decide), if_pos rfl]

theorem feedbackTimeout_agrees (h : s.dev.rbit A.ctlStat (holdBit k) = s.dev.rbit A.ctlStat (fbBit k)) :
    exec (.feedbackTimeout k) s = .next s := by
  refine (exec_feedbackTimeout k s).trans (next_dev_congr (e := s.dev) ((if_neg ?_).trans (if_neg ?_)))
  · rw [h]
    simp
  · rw [h]
    simp

/-! Current limit of a hold (18 R585). -/

/-- A hold in current limit turns off; without feedback that is an error, with it the feedback is awaited. -/
def Dev.holdLimited (k : Contactor) (d : Dev) : Dev :=
  if d.rbit A.ctlStat (fbBit k) then (d.setHold k false).setLimited k true else (d.setHold k false).fbErr k

theorem exec_holdCurrentLimit (k : Contactor) (s : State) : exec (.holdCurrentLimit k) s =
    .next { s with dev := if s.dev.rbit A.ctlStat (holdBit k) then s.dev.holdLimited k else s.dev } := rfl

theorem Dev.rbit_holdLimited (k : Contactor) (d : Dev) : (d.holdLimited k).rbit A.ctlStat (holdBit k) = false := by
  have follows : OpensOnly (d.setHold k false) (d.holdLimited k) := .ite (.of_kept (.setLimited k true _)) (.fbErr _ k)
  exact follows.hold k (by rw [Dev.rbit_setHold_off k d (holdBit_mem k), if_pos rfl])

theorem holdCurrentLimit_off (h : s.dev.rbit A.ctlStat (holdBit k) = true) :
    ∃ t, exec (.holdCurrentLimit k) s = .next t ∧ t.dev.rbit A.ctlStat (holdBit k) = false ∧ DevOnly s t :=
  ⟨_, (exec_holdCurrentLimit k s).trans (next_dev_congr (if_pos h)), s.dev.rbit_holdLimited k, rfl, rfl⟩

theorem holdCurrentLimit_idle (h : s.dev.rbit A.ctlStat (holdBit k) = false) : exec (.holdCurrentLimit k) s = .next s :=
  (exec_holdCurrentLimit k s).trans (next_dev_congr (if_neg (by simp [h])))

end

/-! TVSD (10 R356). -/

theorem Dev.reg_gatesOff (d : Dev) {a : Nat} (h : a < 0x40070000 ∨ 0x40080000 ≤ a) : d.gatesOff.reg a = d.reg a := by
  have hstat : a ≠ A.ctlStat := by unfold A.ctlStat; omega
  have hloop : ∀ j, j < 16 → a ≠ A.ctlLstat j ∧ a ≠ A.ctlLout j := fun j hj => by unfold A.ctlLstat A.ctlLout; omega
  have hlow : ∀ e : Dev, (e.setRbit A.ctlStat 31 false).reg a = e.reg a := fun e => Dev.reg_setRbit_other e _ _ hstat
  unfold Dev.gatesOff
  dsimp only
  split
  · exact hlow _
  · rw [Dev.reg_setReg_other _ _ (hloop 15 (by decide)).2, Dev.reg_setReg_other _ _ (hloop 14 (by decide)).2,
      Dev.reg_setFld_other _ _ _ _ (hloop 15 (by decide)).1, Dev.reg_setFld_other _ _ _ _ (hloop 14 (by decide)).1]
    exact hlow _

theorem Dev.reg_endBlk (res : Nat) (d : Dev) {a : Nat} (hevt : evtArea a = false) (h : a < 0x40070000 ∨ 0x40080000 ≤ a) :
    (d.endBlk res).reg a = d.reg a := by
  by_cases hcode : d.ctl.blk.code = 0
  · rw [Dev.endBlk_none hcode]
  · rw [(Told.endBlk hcode res).reg hevt (by rw [List.mem_singleton]; unfold A.ctlSeqres; omega),
      Dev.reg_setBlk _ _ (by unfold A.ctlStat; omega)]

theorem Dev.reg_startShut (tag src : Nat) (vaux store reset : Bool) (d : Dev) {a : Nat} (hevt : evtArea a = false)
    (h : a < 0x40070000 ∨ 0x40080000 ≤ a) : (d.startShut tag src vaux store reset).reg a = d.reg a := by
  have hstat : a ≠ A.ctlStat := by unfold A.ctlStat; omega
  have raised : ∀ e : Dev, ((e.setRbit A.ctlStat 27 true).raise 231 0).reg a = e.reg a := fun e => by
    rw [Dev.reg_raise _ hevt (by decide), Dev.reg_setRbit_other _ _ _ hstat]
  unfold Dev.startShut
  rw [Dev.reg_setBlk _ _ hstat]
  refine (raised _).trans ?_
  split
  · rfl
  · rw [Dev.reg_endBlk _ _ hevt h, Dev.reg_gatesOff _ h]

/-- TVSD has run out: a shutdown for VAUX runs, if none did. -/
def Dev.tvsdEnded (d : Dev) : Dev :=
  let e := d.setRbit A.pwrStat 21 false
  if e.shutting then e else e.startShut 0 2 true false false

theorem exec_tvsdExpiry (s : State) :
    exec .tvsdExpiry s = .next { s with dev := if s.dev.rbit A.pwrStat 21 then s.dev.tvsdEnded else s.dev } := rfl

theorem Dev.tvsdEnded_shuts (d : Dev) : d.tvsdEnded.shutting = true ∧ d.tvsdEnded.rbit A.pwrStat 21 = false := by
  have stopped : (d.setRbit A.pwrStat 21 false).rbit A.pwrStat 21 = false := by
    rw [Dev.rbit_setRbit _ _ _ _ _ (by decide) (by decide), if_pos rfl]
  unfold Dev.tvsdEnded
  dsimp only
  split
  case isTrue h => exact ⟨h, stopped⟩
  case isFalse =>
    refine ⟨?_, (Dev.rbit_congr (Dev.reg_startShut 0 2 true false false _ (by decide) (by decide)) 21).trans stopped⟩
    unfold Dev.shutting
    rw [(Dev.startShut_blk 0 2 true false false _).1]
    rfl

theorem tvsdExpiry_shuts {s : State} (h : s.dev.rbit A.pwrStat 21 = true) :
    ∃ t, exec .tvsdExpiry s = .next t ∧ t.dev.shutting = true ∧ t.dev.rbit A.pwrStat 21 = false ∧ DevOnly s t := by
  obtain ⟨hshut, hstopped⟩ := s.dev.tvsdEnded_shuts
  exact ⟨_, (exec_tvsdExpiry s).trans (next_dev_congr (if_pos h)), hshut, hstopped, rfl, rfl⟩

theorem tvsdExpiry_idle {s : State} (h : s.dev.rbit A.pwrStat 21 = false) : exec .tvsdExpiry s = .next s :=
  (exec_tvsdExpiry s).trans (next_dev_congr (if_neg (by simp [h])))

/-! The end of the block's current wait (10 R355-R356). -/

/-- The positive hold is off, in CTL.STAT and in the agreed sequence state. -/
def PosOff (d : Dev) : Prop := d.rbit A.ctlStat 26 = false ∧ d.ctl.agrPos = false

theorem PosOff.setHold (d : Dev) : PosOff (d.setHold .pos false) :=
  ⟨(Dev.rbit_setHold_off .pos d (by decide)).trans (if_pos rfl), (Dev.setHold_kept .pos false d).2.1⟩

theorem PosOff.opens {d e : Dev} (h : PosOff d) (k : OpensOnly d e) : PosOff e := ⟨k.hold .pos h.1, k.agreed h.2⟩

theorem PosOff.openStep2 (d : Dev) : PosOff d.openStep2 := (PosOff.setHold _).opens (.ite (.refl _) (.openBoth _))

theorem PosOff.shutS3 (d : Dev) : PosOff d.shutS3 := (PosOff.setHold _).opens (.ite (.refl _) (.shutNeg _))

/-- The block waits for the current no more. -/
def Dev.unwaited (d : Dev) : Dev := d.setBlk fun b => { b with waiting := false }

theorem Dev.waitEnd_blk (d : Dev) : d.waitEnd 0 =
    if d.ctl.blk.code = 3 ∧ d.ctl.blk.step = 1 then d.openStep2
    else if d.ctl.blk.code = 5 ∧ d.ctl.blk.step = 2 then d.unwaited.shutS3 else d := rfl

section
variable {s : State}

theorem currentWaitEnd_idle (h3 : s.dev.ctl.blk.code ≠ 3) (h5 : s.dev.ctl.blk.code ≠ 5) : exec (.currentWaitEnd 0) s = .next s :=
  (exec_currentWaitEnd 0 s).trans (next_dev_congr
    (s.dev.waitEnd_blk.trans ((if_neg fun h => h3 h.1).trans (if_neg fun h => h5 h.1))))

theorem currentWaitEnd_open (hcode : s.dev.ctl.blk.code = 3) (hstep : s.dev.ctl.blk.step = 1) :
    ∃ t, exec (.currentWaitEnd 0) s = .next t ∧ t.dev.rbit A.ctlStat 26 = false ∧ t.dev.ctl.agrPos = false ∧ DevOnly s t := by
  obtain ⟨hbit, hagr⟩ := PosOff.openStep2 s.dev
  exact ⟨_, (exec_currentWaitEnd 0 s).trans (next_dev_congr (s.dev.waitEnd_blk.trans (if_pos ⟨hcode, hstep⟩))), hbit, hagr, rfl, rfl⟩

theorem currentWaitEnd_shutdown (hcode : s.dev.ctl.blk.code = 5) (hstep : s.dev.ctl.blk.step = 2) :
    ∃ t, exec (.currentWaitEnd 0) s = .next t ∧ t.dev.rbit A.ctlStat 26 = false ∧ t.dev.ctl.agrPos = false ∧ DevOnly s t := by
  obtain ⟨hbit, hagr⟩ := PosOff.shutS3 s.dev.unwaited
  exact ⟨_, (exec_currentWaitEnd 0 s).trans (next_dev_congr
    (s.dev.waitEnd_blk.trans ((if_neg fun h => by omega).trans (if_pos ⟨hcode, hstep⟩)))), hbit, hagr, rfl, rfl⟩

/-! A string's pre-charge timer (10 R360). -/

theorem exec_tspreExpiry (n : Nat) (s : State) : exec (.tspreExpiry n) s = .next { s with dev :=
    if (s.dev.strSeq n).code = 1 ∧ (s.dev.strSeq n).step = 3 ∧ (s.dev.port n).head.conPre = true then s.dev.strMatch n else s.dev } := rfl

/-- A match goes on to step 5, and every failure ends the sequence. -/
theorem Dev.strMatch_ends {n : Nat} {d : Dev} (h : (d.strSeq n).code ≠ 0) :
    ((d.strMatch n).strSeq n).code = 0 ∨ ((d.strMatch n).strSeq n).step = 5 := by
  have fails : ∀ r, ((d.failStr n r).strSeq n).code = 0 := fun r => by rw [Dev.strSeq_failStr h]
  unfold Dev.strMatch
  split
  · split
    · exact .inr (by rw [Dev.strSeq_strStep])
    · exact .inl (fails 16)
  · exact .inl (fails 17)

theorem tspreExpiry_idle {n : Nat} (h : (s.dev.strSeq n).code ≠ 1 ∨ (s.dev.strSeq n).step ≠ 3 ∨ (s.dev.port n).head.conPre = false) :
    exec (.tspreExpiry n) s = .next s := by
  refine (exec_tspreExpiry n s).trans (next_dev_congr (if_neg ?_))
  rintro ⟨hcode, hstep, hpre⟩
  simp [hcode, hstep, hpre] at h

theorem tspreExpiry_ends {n : Nat} (hcode : (s.dev.strSeq n).code = 1) (hstep : (s.dev.strSeq n).step = 3)
    (hpre : (s.dev.port n).head.conPre = true) :
    ∃ t, exec (.tspreExpiry n) s = .next t ∧ DevOnly s t ∧ ((t.dev.strSeq n).code = 0 ∨ (t.dev.strSeq n).step = 5) :=
  ⟨_, (exec_tspreExpiry n s).trans (next_dev_congr (if_pos ⟨hcode, hstep, hpre⟩)), ⟨rfl, rfl⟩, Dev.strMatch_ends (by omega)⟩

end

end Sys2Proof.Machine
end

section
/-! The control loops (10 R362-R367). -/

namespace Sys2Proof.Machine
open Sys2Proof

/-! Configurations, which the topology gives. -/

theorem Dev.seqLoop_congr {d e : Dev} (h : e.img = d.img) (n : Nat) : e.seqLoop n = d.seqLoop n := by
  unfold Dev.seqLoop Dev.topo
  rw [h]

theorem Dev.loopCfg_congr {d e : Dev} (h : e.img = d.img) (n : Nat) : e.loopCfg n = d.loopCfg n := by
  unfold Dev.loopCfg Dev.topo
  rw [Dev.seqLoop_congr h, h]

/-! Driving an output (10 R362, R364). -/

theorem Dev.drive_regs (n : Nat) (u : Int) (d : Dev) : (d.drive n u).regs = (d.setReg (A.ctlLout n) (Word.ofInt u)).regs := by
  unfold Dev.drive
  dsimp only
  split
  · rfl
  · split
    · rfl
    · split <;> rfl

theorem Dev.drive_img (n : Nat) (u : Int) (d : Dev) : (d.drive n u).img = d.img := by
  unfold Dev.drive
  dsimp only
  split
  · rfl
  · split
    · rfl
    · split <;> rfl

/-- A loop in mode run drives the output of its law (10 R363). -/
theorem Dev.lawStep_run {n : Nat} {d : Dev} (h : (d.loop n).mode = 1) (sp ff y : Int) :
    (d.lawStep n sp ff y).reg (A.ctlLout n) = Word.ofInt ((d.loop n).law (d.loopCfg n) sp ff y).2 ∧ (d.lawStep n sp ff y).img = d.img := by
  unfold Dev.lawStep
  rw [if_pos h]
  refine ⟨?_, Dev.drive_img _ _ _⟩
  rw [Dev.reg_congr (Dev.drive_regs _ _ _), Dev.reg_setReg]

/-! The following error (10 R366). -/

theorem RegsKept.loopMode {n m : Nat} (h : m ≠ 0) (d : Dev) : RegsKept [A.ctlLstat n] d (d.loopMode n m) := by
  have moded : ∀ f : LoopSt → LoopSt, RegsKept [A.ctlLstat n] d ((d.setLoop n f).setFld (A.ctlLstat n) 27 26 m) := fun f =>
    (RegsKept.of_regs _ rfl).trans (.setReg (d.setLoop n f) _ (by simp))
  unfold Dev.loopMode
  dsimp only
  rw [if_neg h]
  exact moded _

/-- The following error of a loop that is not the sequencer's, and is not turned off for it, writes the loop's status alone. -/
theorem RegsKept.followErr {n : Nat} (hn : n < 16) {d : Dev} (hseq : d.seqLoop n = false) (hact : (d.loopCfg n).feact ≠ 2) (sp y : Int) :
    RegsKept [A.ctlLstat n] d (d.followErr n sp y) := by
  unfold Dev.followErr
  extract_lets c k cnt was is e f
  have shown : RegsKept [A.ctlLstat n] d e := (RegsKept.setReg d _ (by simp)).trans (.setReg _ _ (by simp))
  have raised : ∀ g : Dev, RegsKept [A.ctlLstat n] g (g.raise (240 + n) n) := fun g => .raise _ g (by omega) n
  have failed : RegsKept [A.ctlLstat n] e f := (RegsKept.setReg e _ (by simp)).trans (raised _)
  have himg : f.img = d.img := (Told.raise [] _ (by omega : 240 + n < 384) n).plant.2.2.2.1
  rw [Dev.seqLoop_congr himg, hseq, if_neg hact, if_neg Bool.false_ne_true]
  exact .ite shown (.ite (shown.trans (raised e)) (.ite ((shown.trans failed).trans (.loopMode (by decide) f)) (shown.trans failed)))

/-! A missed evaluation (10 R365). -/

theorem A.ctlLmiss_ne_ctlLstat (n : Nat) : A.ctlLmiss n ≠ A.ctlLstat n := by
  unfold A.ctlLmiss A.ctlLstat
  omega

theorem evtArea_loop {n : Nat} (h : n < 16) : evtArea (A.ctlLstat n) = false ∧ evtArea (A.ctlLmiss n) = false ∧ evtArea (A.ctlLout n) = false :=
  ⟨evtArea_between (by unfold A.ctlLstat; omega) (by unfold A.ctlLstat; omega),
    evtArea_between (by unfold A.ctlLmiss; omega) (by unfold A.ctlLmiss; omega),
    evtArea_between (by unfold A.ctlLout; omega) (by unfold A.ctlLout; omega)⟩

@[simp] theorem Dev.loop_setLoop (n : Nat) (f : LoopSt → LoopSt) (d : Dev) : (d.setLoop n f).loop n = f (d.loop n) := by
  simp [Dev.loop, Dev.setLoop, FMap.upd]

theorem Dev.loop_congr {d e : Dev} (h : e.ctl = d.ctl) (n : Nat) : e.loop n = d.loop n := by
  unfold Dev.loop
  rw [h]

/-- The flag and the count of a missed evaluation. -/
def Dev.missCounted (n : Nat) (d : Dev) : Dev := (d.setRbit (A.ctlLstat n) 31 true).bump (A.ctlLmiss n) (A.ctlLstat n) 28

theorem Dev.missCounted_shown (n : Nat) (d : Dev) :
    (d.missCounted n).rbit (A.ctlLstat n) 31 = true ∧ (d.missCounted n).reg (A.ctlLmiss n) = satInc (d.reg (A.ctlLmiss n)) := by
  have hne := A.ctlLmiss_ne_ctlLstat n
  refine ⟨?_, ?_⟩
  · unfold Dev.missCounted
    rw [Dev.rbit_bump_ovf _ hne.symm (by decide) (by decide) (by decide), Dev.rbit_setRbit _ _ _ _ _ (by decide) (by decide), if_pos rfl]
  · unfold Dev.missCounted
    rw [Dev.reg_bump _ _ hne, Dev.reg_setRbit_other _ _ _ hne]

/-- The loop has missed an evaluation in this scan. -/
def Dev.missNoted (n : Nat) (d : Dev) : Dev := d.setLoop n fun l => { l with missed := true }

theorem Dev.missNoted_kept (n : Nat) (d : Dev) : (d.missNoted n).regs = d.regs ∧ PlantKept d (d.missNoted n) := ⟨rfl, .refl d⟩

theorem Dev.loopMiss_eq (n : Nat) (d : Dev) :
    d.loopMiss n = ((d.missCounted n).missNoted n).raiseIf (!(d.loop n).missed) (240 + n) n := rfl

theorem Dev.loopMiss_counts {n : Nat} (hn : n < 16) (d : Dev) : (d.loopMiss n).rbit (A.ctlLstat n) 31 = true ∧
    (d.loopMiss n).reg (A.ctlLmiss n) = satInc (d.reg (A.ctlLmiss n)) ∧ ((d.loopMiss n).loop n).missed = true ∧ PlantKept d (d.loopMiss n) := by
  have told : Told [] ((d.missCounted n).missNoted n) (d.loopMiss n) := by
    rw [Dev.loopMiss_eq]
    exact .raiseIf _ _ _ (by omega) n
  obtain ⟨hstat, hmiss, -⟩ := evtArea_loop hn
  obtain ⟨hflag, hcount⟩ := d.missCounted_shown n
  obtain ⟨hregs, hplant⟩ := (d.missCounted n).missNoted_kept n
  have shown : ∀ a, evtArea a = false → (d.loopMiss n).reg a = (d.missCounted n).reg a := fun a ha =>
    (told.reg ha List.not_mem_nil).trans (Dev.reg_congr hregs a)
  refine ⟨(Dev.rbit_congr (shown _ hstat) 31).trans hflag, (shown _ hmiss).trans hcount, ?_, ?_⟩
  · rw [Dev.loop_congr told.ctl]
    exact congrArg LoopSt.missed (Dev.loop_setLoop n _ _)
  · have counted : PlantKept d (d.missCounted n) := by
      unfold Dev.missCounted
      rw [Dev.bump_regs]
      exact .refl d
    exact (counted.trans hplant).trans told.plant

/-! The evaluation, case by case. -/

theorem exec_controlLoopEval {n : Nat} (hn : n < 16) (y : Option Int) (s : State) :
    exec (.controlLoopEval n y) s = .next { s with dev := s.dev.evalLoop n y } := present_next _ (decide_eq_true hn)

theorem exec_controlLoopEval_absent {n : Nat} (hn : 16 ≤ n) (y : Option Int) (s : State) :
    exec (.controlLoopEval n y) s = .fault .noSuchUnit := present_absent _ (decide_eq_false (by omega))

theorem Dev.evalLoop_off {n : Nat} {d : Dev} (h : (d.loopCfg n).en = false ∨ (d.loop n).mode = 0) (y : Option Int) : d.evalLoop n y = d :=
  if_pos (by simpa using h)

/-- Without authority only the ramp reference of the sequencer's current loop advances (10 R342, R352). -/
theorem Dev.evalLoop_follower {n : Nat} {d : Dev} (h : d.authority = false) (y : Option Int) :
    d.evalLoop n y = d ∨ (d.seqLoop n = true ∧ n = 14 ∧ d.evalLoop n y = d.advanceRamp) := by
  unfold Dev.evalLoop
  dsimp only
  split
  · exact .inl rfl
  · rw [if_pos (by simp [h])]
    split
    case isTrue hramp =>
      rw [Bool.and_eq_true, beq_iff_eq] at hramp
      exact .inr ⟨hramp.1, hramp.2, rfl⟩
    case isFalse => exact .inl rfl

/-- The ramp reference is sequence state: its step is shown, and nothing else moves. -/
theorem Dev.advanceRamp_only (d : Dev) :
    d.advanceRamp = { d with regs := d.advanceRamp.regs, ctl := { d.ctl with blk := { d.ctl.blk with r := d.advanceRamp.ctl.blk.r } } } ∧
      ∀ a, a ≠ A.ctlStat → d.advanceRamp.reg a = d.reg a := by
  unfold Dev.advanceRamp
  split
  · exact ⟨rfl, fun _ _ => rfl⟩
  · exact ⟨rfl, fun _ ha => Dev.reg_setBlk _ d ha⟩

section
variable {n : Nat} {d : Dev} (hen : (d.loopCfg n).en = true) (hauth : d.authority = true) (hmode : (d.loop n).mode ≠ 0)
  (hsrc : (d.loopCfg n).src ≠ 9)
include hen hauth hmode hsrc

/-- A loop that runs here and has a source of its own is evaluated with its sample, and counts a miss without one. -/
theorem Dev.evalLoop_missed : d.evalLoop n none = d.loopMiss n := by
  unfold Dev.evalLoop
  dsimp only
  rw [if_neg (by simp [hen, hmode]), if_neg (by simp [hauth]), if_neg hsrc]

theorem Dev.evalLoop_sampled (v : Int) : d.evalLoop n (some v) =
    let e := if d.seqLoop n && n == 14 then d.advanceRamp else d
    (e.lawStep n (e.loopIn n).1 (e.loopIn n).2 v).followErr n (e.loopIn n).1 v := by
  unfold Dev.evalLoop
  dsimp only
  rw [if_neg (by simp [hen, hmode]), if_neg (by simp [hauth]), if_neg hsrc]

theorem Dev.evalLoop_drives (hn : n < 16) (hrun : (d.loop n).mode = 1) (hseq : d.seqLoop n = false) (hact : (d.loopCfg n).feact ≠ 2) (v : Int) :
    (d.evalLoop n (some v)).reg (A.ctlLout n) = Word.ofInt ((d.loop n).law (d.loopCfg n) (d.loop n).sp (d.loop n).ff v).2 := by
  have own : (if d.seqLoop n && n == 14 then d.advanceRamp else d) = d := if_neg (by simp [hseq])
  have input : d.loopIn n = ((d.loop n).sp, (d.loop n).ff) := if_pos (by simp [hseq])
  obtain ⟨hout, himg⟩ := Dev.lawStep_run hrun (d.loop n).sp (d.loop n).ff v
  have kept := RegsKept.followErr hn ((Dev.seqLoop_congr himg n).trans hseq) (Dev.loopCfg_congr himg n ▸ hact) (d.loop n).sp v
  obtain ⟨-, -, hevt⟩ := evtArea_loop hn
  rw [Dev.evalLoop_sampled hen hauth hmode hsrc]
  dsimp only
  rw [own, input, kept _ hevt (by rw [List.mem_singleton]; unfold A.ctlLout A.ctlLstat; omega)]
  exact hout

end

/-! The statement. -/

section
variable {n : Nat} (hn : n < 16) {s : State}
include hn

theorem controlLoopEval_off (y : Option Int) (h : (s.dev.loopCfg n).en = false ∨ (s.dev.loop n).mode = 0) :
    exec (.controlLoopEval n y) s = .next s := (exec_controlLoopEval hn y s).trans (next_dev_congr (Dev.evalLoop_off h y))

theorem controlLoopEval_follower_idle (y : Option Int) (h : s.dev.authority = false) (hout : s.dev.seqLoop n = false ∨ n ≠ 14) :
    exec (.controlLoopEval n y) s = .next s := by
  refine (exec_controlLoopEval hn y s).trans (next_dev_congr (e := s.dev) ?_)
  obtain hsame | ⟨hseq, h14, -⟩ := Dev.evalLoop_follower (n := n) h y
  · exact hsame
  · exact hout.elim (fun hf => by rw [hf] at hseq; cases hseq) fun hne => absurd h14 hne

theorem controlLoopEval_follower (y : Option Int) (h : s.dev.authority = false) : ∃ t, exec (.controlLoopEval n y) s = .next t ∧
    t.dev = { s.dev with regs := t.dev.regs, ctl := { s.dev.ctl with blk := { s.dev.ctl.blk with r := t.dev.ctl.blk.r } } } ∧
    (∀ a, a ≠ A.ctlStat → t.dev.reg a = s.dev.reg a) ∧ DevOnly s t := by
  obtain hsame | ⟨-, -, hramp⟩ := Dev.evalLoop_follower (n := n) h y
  · exact ⟨s, (exec_controlLoopEval hn y s).trans (next_dev_congr hsame), rfl, fun _ _ => rfl, rfl, rfl⟩
  · obtain ⟨honly, hregs⟩ := s.dev.advanceRamp_only
    exact ⟨_, (exec_controlLoopEval hn y s).trans (next_dev_congr hramp), honly, hregs, rfl, rfl⟩

theorem controlLoopEval_misses (hen : (s.dev.loopCfg n).en = true) (hauth : s.dev.authority = true) (hmode : (s.dev.loop n).mode ≠ 0)
    (hsrc : (s.dev.loopCfg n).src ≠ 9) : ∃ t, exec (.controlLoopEval n none) s = .next t ∧ t.dev.rbit (A.ctlLstat n) 31 = true ∧
      t.dev.reg (A.ctlLmiss n) = satInc (s.dev.reg (A.ctlLmiss n)) ∧ (t.dev.loop n).missed = true ∧ PlantOnly s t := by
  obtain ⟨hflag, hcount, hmissed, hplant⟩ := s.dev.loopMiss_counts hn
  exact ⟨_, (exec_controlLoopEval hn none s).trans (next_dev_congr (Dev.evalLoop_missed hen hauth hmode hsrc)), hflag, hcount, hmissed,
    PlantKept.plantOnly hplant⟩

end

/-- Settles O51: feedbacks, holds and waits by what opens contactors (`OpensOnly`), control loops by the cases of their evaluation. -/
theorem contactorInputs : Obligations.ContactorInputs := fun k s =>
  ⟨rfl, rfl, fun b => feedbackChange_recorded k b s, feedbackTimeout_errs, feedbackTimeout_welds, feedbackTimeout_agrees, holdCurrentLimit_off,
    holdCurrentLimit_idle, tvsdExpiry_idle, tvsdExpiry_shuts, currentWaitEnd_idle, currentWaitEnd_open, currentWaitEnd_shutdown,
    fun _ => tspreExpiry_idle, fun _ => tspreExpiry_ends, fun _ y hn => exec_controlLoopEval_absent hn y s,
    fun _ y hn => ⟨controlLoopEval_off hn y, controlLoopEval_follower_idle hn y, controlLoopEval_follower hn y,
      fun hen hauth hmode => ⟨⟨_, exec_controlLoopEval hn y s, rfl, rfl⟩,
        fun v hy hsrc hrun hseq hact => ⟨_, exec_controlLoopEval hn y s, ⟨rfl, rfl⟩, by
          rw [hy]
          exact Dev.evalLoop_drives hen hauth hmode hsrc hn hrun hseq hact v⟩,
        controlLoopEval_misses hn hen hauth hmode⟩⟩⟩

end Sys2Proof.Machine
end

section
/-! Load switch channels (11 R379-R387): what the step of one channel changes and leaves. -/

namespace Sys2Proof.Machine
open Sys2Proof

/-- Events and load switch channels apart, the two devices agree. -/
def LswOnly (d e : Dev) : Prop := e = { d with regs := e.regs, log := e.log, hwd := { d.hwd with sessions := e.hwd.sessions }, lsw := e.lsw }

namespace LswOnly

theorem refl (d : Dev) : LswOnly d d := rfl

theorem trans {d e f : Dev} (h : LswOnly d e) (k : LswOnly e f) : LswOnly d f := by
  unfold LswOnly at *
  rw [k, h]

theorem of_sameBut {d e : Dev} (h : Dev.sameBut d e) : LswOnly d e := by
  unfold LswOnly
  rw [h]

theorem setChan (d : Dev) (n : Nat) (f : Lsw → Lsw) : LswOnly d (d.setChan n f) := rfl

theorem fold {α : Type} (l : List α) (f : α → Dev → Dev) (d : Dev) (h : ∀ a e, LswOnly e (f a e)) : LswOnly d (foldOver l f d) :=
  foldOver_keeps (LswOnly d) l f d (fun a e he => he.trans (h a e)) (refl d)

theorem plantKept {d e : Dev} (h : LswOnly d e) : PlantKept d e := by
  rw [h]
  exact .refl d

theorem lh {d e : Dev} (h : LswOnly d e) : e.lh = d.lh := by
  rw [h]

theorem lswEvent (n : Nat) (b : Bool) (d : Dev) : LswOnly d (d.lswEvent n b) := by
  unfold Dev.lswEvent
  split
  · exact trans (setChan d n _) (of_sameBut (Dev.sameBut_raise _ _ _))
  · exact refl d

theorem lswStep (n t : Nat) (f : Lsw → Lsw) (d : Dev) : LswOnly d (d.lswStep n t f) := by
  unfold Dev.lswStep
  split
  · exact trans (setChan d n _) (lswEvent n _ _)
  · exact setChan d n _

end LswOnly

theorem Dev.chan_raise (d : Dev) (e i m : Nat) : (d.raise e i).chan m = d.chan m := by
  rw [d.sameBut_raise e i]
  rfl

/-- Only channel `n`, and events, differ. -/
structure ChanKept (n : Nat) (d e : Dev) : Prop where
  only : LswOnly d e
  regs : RegsKept [] d e
  others : ∀ k, k ≠ n → e.chan k = d.chan k

namespace ChanKept

theorem refl (n : Nat) (d : Dev) : ChanKept n d d := ⟨.refl d, .of_regs [] rfl, fun _ _ => rfl⟩

theorem trans {n : Nat} {d e f : Dev} (h : ChanKept n d e) (k : ChanKept n e f) : ChanKept n d f :=
  ⟨h.only.trans k.only, h.regs.trans k.regs, fun m hm => (k.others m hm).trans (h.others m hm)⟩

theorem setChan (n : Nat) (f : Lsw → Lsw) (d : Dev) : ChanKept n d (d.setChan n f) :=
  ⟨.setChan d n f, .of_regs [] rfl, fun _ hm => d.chan_setChan_other f hm⟩

theorem raise (n : Nat) {e : Nat} (he : e < 384) (i : Nat) (d : Dev) : ChanKept n d (d.raise e i) :=
  ⟨.of_sameBut (d.sameBut_raise e i), .raise [] d he i, fun m _ => d.chan_raise e i m⟩

theorem lswEvent {n : Nat} (hn : n < 32) (b : Bool) (d : Dev) : ChanKept n d (d.lswEvent n b) := by
  unfold Dev.lswEvent
  split
  · exact (setChan n _ d).trans (raise n (by omega) n _)
  · exact refl n d

theorem lswStep {n : Nat} (hn : n < 32) (t : Nat) (f : Lsw → Lsw) (d : Dev) : ChanKept n d (d.lswStep n t f) := by
  unfold Dev.lswStep
  split
  · exact (setChan n _ d).trans (lswEvent hn _ _)
  · exact setChan n _ d

/-- A command that moves the clock to `now`, and besides changes channel `n`. -/
theorem chanOnly {n : Nat} {s : State} {d : Dev} (now : Nat) (h : ChanKept n { s.dev with time := { s.dev.time with now := now } } d) :
    ChanOnly n s { s with dev := d } := by
  refine ⟨⟨rfl, rfl⟩, h.others, h.regs, ?_⟩
  dsimp only
  rw [h.only]

end ChanKept

/-! The channel itself. -/

theorem Dev.chan_lswEvent (n : Nat) (b : Bool) (d : Dev) : ∃ v, (d.lswEvent n b).chan n = { d.chan n with evt := v } := by
  unfold Dev.lswEvent
  split
  · exact ⟨true, by rw [Dev.chan_raise, Dev.chan_setChan]⟩
  · exact ⟨_, rfl⟩

/-- Channel `x` with its demands, and in a group with its members released and selected (11 R379, R387). -/
def Dev.chanAsked (n : Nat) (d : Dev) (x : Lsw) : Lsw :=
  let x := { x with lh := d.lhUnder n, demA := (d.lswDemand n).1, demB := (d.lswDemand n).2 }
  if d.rbit (A.lswCfg n) 30 then x.release.select (d.bothFit n) else x

/-- Channel `x` as it follows its demand, before its event (11 R380); `t` is the time at which it may turn on. -/
def Dev.chanFollow (n t : Nat) (d : Dev) (x : Lsw) : Lsw :=
  ((d.chanAsked n x).drive d.lswPower (d.rbit (A.lswCfg n) 30) t).served d.time.now

/-- The step of a channel that this device switches. -/
theorem Dev.chan_lswStep {n : Nat} {d : Dev} (h : d.switches n = true) (t : Nat) (f : Lsw → Lsw) :
    ∃ v, (d.lswStep n t f).chan n = { d.chanFollow n t (f (d.chan n)) with evt := v } := by
  have step : ∃ b, d.lswStep n t f = (d.setChan n fun _ => d.chanFollow n t (f (d.chan n))).lswEvent n b := ⟨_, if_pos h⟩
  obtain ⟨b, hb⟩ := step
  rw [hb]
  obtain ⟨v, hv⟩ := Dev.chan_lswEvent n b (d.setChan n fun _ => d.chanFollow n t (f (d.chan n)))
  exact ⟨v, by rw [hv, Dev.chan_setChan]⟩

/-- `y` has the faults of `x`, and its clamp budget (11 R382-R386). -/
structure Lsw.SameFaults (x y : Lsw) : Prop where
  rcnt : y.rcnt = x.rcnt
  oc : y.oc = x.oc
  ot : y.ot = x.ot
  otHot : y.otHot = x.otHot
  ol : y.ol = x.ol
  retry : y.retry = x.retry
  clamp : y.clamp = x.clamp
  fwfail : y.fwfail = x.fwfail
  pause : y.pause = x.pause
  b : y.b = x.b

/-- `y` has the faults of `x`, and is off where they hold it off (11 R380). -/
structure Lsw.Heeds (x y : Lsw) : Prop extends Lsw.SameFaults x y where
  off : x.held = true → y.on = false

theorem Lsw.Heeds.setEvt {x y : Lsw} (h : Lsw.Heeds x y) (v : Bool) : Lsw.Heeds x { y with evt := v } :=
  ⟨⟨h.rcnt, h.oc, h.ot, h.otHot, h.ol, h.retry, h.clamp, h.fwfail, h.pause, h.b⟩, h.off⟩

theorem Lsw.SameFaults.held {x y : Lsw} (h : Lsw.SameFaults x y) : y.held = x.held := by
  unfold Lsw.held
  rw [h.pause, h.retry, h.clamp, h.ot]

theorem Dev.chanAsked_sameFaults (n : Nat) (d : Dev) (x : Lsw) : Lsw.SameFaults x (d.chanAsked n x) := by
  unfold Dev.chanAsked
  dsimp only
  split
  · exact ⟨rfl, rfl, rfl, rfl, rfl, rfl, rfl, rfl, rfl, rfl⟩
  · exact ⟨rfl, rfl, rfl, rfl, rfl, rfl, rfl, rfl, rfl, rfl⟩

theorem Lsw.drive_held {x : Lsw} (h : x.held = true) (power group : Bool) (t : Nat) : (x.drive power group t).on = false := by
  unfold Lsw.drive
  dsimp only
  rw [h, Bool.not_true, Bool.and_false]

theorem Dev.chanFollow_heeds (n t : Nat) (d : Dev) (x : Lsw) : Lsw.Heeds x (d.chanFollow n t x) :=
  have h := d.chanAsked_sameFaults n x
  ⟨⟨h.rcnt, h.oc, h.ot, h.otHot, h.ol, h.retry, h.clamp, h.fwfail, h.pause, h.b⟩, fun hx => Lsw.drive_held (h.held.trans hx) _ _ t⟩

theorem Dev.lswStep_heeds {n : Nat} {d : Dev} (h : d.switches n = true) (t : Nat) (f : Lsw → Lsw) :
    Lsw.Heeds (f (d.chan n)) ((d.lswStep n t f).chan n) := by
  obtain ⟨v, hv⟩ := Dev.chan_lswStep h t f
  rw [hv]
  exact (d.chanFollow_heeds n t _).setEvt v

/-- The event of a channel leaves its faults. -/
theorem Lsw.Heeds.lswEvent {n : Nat} {x : Lsw} {d : Dev} (h : Lsw.Heeds x (d.chan n)) (b : Bool) : Lsw.Heeds x ((d.lswEvent n b).chan n) := by
  obtain ⟨v, hv⟩ := Dev.chan_lswEvent n b d
  rw [hv]
  exact h.setEvt v

end Sys2Proof.Machine
end

section
/-! The selects of a group's members as it follows its demand (11 R387). -/

namespace Sys2Proof.Machine
open Sys2Proof

/-! A member without demand. -/

theorem Lsw.select_release_openA {x : Lsw} (both : Bool) (hdem : x.demA = false) (hsel : x.selA = false) :
    (x.release.select both).selA = false := by
  simp [Lsw.select, Lsw.release, hdem, hsel]

theorem Lsw.select_release_openB {x : Lsw} (both : Bool) (hdem : x.demB = false) (hsel : x.selB = false) :
    (x.release.select both).selB = false := by
  simp [Lsw.select, Lsw.release, hdem, hsel]

section
variable {n : Nat} {d : Dev} {x : Lsw}

theorem Dev.chanAsked_openA (hdem : (d.lswDemand n).1 = false) (hsel : x.selA = false) : (d.chanAsked n x).selA = false := by
  unfold Dev.chanAsked
  dsimp only
  split
  · exact Lsw.select_release_openA _ hdem hsel
  · exact hsel

theorem Dev.chanAsked_openB (hdem : (d.lswDemand n).2 = false) (hsel : x.selB = false) : (d.chanAsked n x).selB = false := by
  unfold Dev.chanAsked
  dsimp only
  split
  · exact Lsw.select_release_openB _ hdem hsel
  · exact hsel

end

/-! A demanded member that is selected while it waits, the other not selected. -/

theorem Lsw.select_release_aloneA {x : Lsw} (both : Bool) (hdem : x.demA = true) (hsel : x.selA = true) (hwait : x.waitA = true)
    (hselB : x.selB = false) : (x.release.select both).selA = true ∧ (x.release.select both).waitA = true := by
  simp [Lsw.select, Lsw.release, hdem, hsel, hwait, hselB]

theorem Lsw.select_release_aloneB {x : Lsw} (both : Bool) (hdem : x.demB = true) (hsel : x.selB = true) (hwait : x.waitB = true)
    (hselA : x.selA = false) : (x.release.select both).selB = true ∧ (x.release.select both).waitB = true := by
  simp [Lsw.select, Lsw.release, hdem, hsel, hwait, hselA]

section
variable {n : Nat} {d : Dev} {x : Lsw}

theorem Dev.chanAsked_on : (d.chanAsked n x).on = x.on := by
  unfold Dev.chanAsked
  dsimp only
  split <;> rfl

theorem Dev.chanAsked_aloneA (hdem : (d.lswDemand n).1 = true) (hsel : x.selA = true) (hwait : x.waitA = true) (hselB : x.selB = false) :
    (d.chanAsked n x).selA = true ∧ (d.chanAsked n x).waitA = true := by
  unfold Dev.chanAsked
  dsimp only
  split
  · exact Lsw.select_release_aloneA _ hdem hsel hwait hselB
  · exact ⟨hsel, hwait⟩

theorem Dev.chanAsked_aloneB (hdem : (d.lswDemand n).2 = true) (hsel : x.selB = true) (hwait : x.waitB = true) (hselA : x.selA = false) :
    (d.chanAsked n x).selB = true ∧ (d.chanAsked n x).waitB = true := by
  unfold Dev.chanAsked
  dsimp only
  split
  · exact Lsw.select_release_aloneB _ hdem hsel hwait hselA
  · exact ⟨hsel, hwait⟩

end

/-! WAIT stays until the high side is on. -/

theorem Lsw.drive_turnOnAt {x : Lsw} (hoff : x.on = false) (power group : Bool) (t : Nat) (hon : (x.drive power group t).on = true) :
    (x.drive power group t).turnOnAt = t := by
  show (if (x.drive power group t).on && !x.on then t else x.turnOnAt) = t
  rw [hon, hoff]
  rfl

/-- A channel that turns on later serves no member yet. -/
theorem Lsw.served_later {now : Nat} {x : Lsw} (h : x.on = true → now < x.turnOnAt) : x.served now = x := by
  have hlive : (x.on && decide (x.turnOnAt ≤ now)) = false := by simpa using h
  unfold Lsw.served
  simp [hlive]

theorem Dev.chanFollow_off {n t : Nat} {d : Dev} {x : Lsw} (ht : d.time.now < t) (hoff : x.on = false) :
    d.chanFollow n t x = (d.chanAsked n x).drive d.lswPower (d.rbit (A.lswCfg n) 30) t :=
  Lsw.served_later fun hon => (Lsw.drive_turnOnAt (Dev.chanAsked_on.trans hoff) _ _ t hon).symm ▸ ht

theorem Dev.chanFollow_turnOnAt {n t : Nat} {d : Dev} {x : Lsw} (ht : d.time.now < t) (hoff : x.on = false) (hon : (d.chanFollow n t x).on = true) :
    (d.chanFollow n t x).turnOnAt = t := by
  rw [Dev.chanFollow_off ht hoff] at *
  exact Lsw.drive_turnOnAt (Dev.chanAsked_on.trans hoff) _ _ t hon

/-! The select that closes (11 R387). -/

theorem Lsw.closeSelect_aloneA {x : Lsw} (both : Bool) (hwait : x.waitA = true) (hselB : x.selB = false) (hwaitB : x.waitB = false) :
    x.closeSelect both = { x with selA := true } := by
  unfold Lsw.closeSelect
  dsimp only
  split <;> simp [hwait, hselB, hwaitB]

theorem Lsw.closeSelect_aloneB {x : Lsw} (both : Bool) (hwait : x.waitB = true) (hselA : x.selA = false) (hwaitA : x.waitA = false) :
    x.closeSelect both = { x with selB := true } := by
  unfold Lsw.closeSelect
  dsimp only
  split <;> simp [hwait, hselA, hwaitA]

/-- What SELECT_CLOSE makes of a channel whose member A waits alone: its select closes, and WAIT stays until the high side is on, at `t`. -/
theorem Dev.chanFollow_closesA {n t : Nat} {d : Dev} {x : Lsw} (both : Bool) (ht : d.time.now < t) (hdem : (d.lswDemand n).1 = true)
    (hwait : x.waitA = true) (hselB : x.selB = false) (hwaitB : x.waitB = false) :
    let y := d.chanFollow n t (x.closeSelect both)
    y.selA = true ∧ (x.on = false → y.waitA = true ∧ (y.on = true → y.turnOnAt = t)) := by
  rw [Lsw.closeSelect_aloneA both hwait hselB hwaitB]
  obtain ⟨hsel, hstays⟩ := Dev.chanAsked_aloneA (x := { x with selA := true }) hdem rfl hwait hselB
  refine ⟨hsel, fun hoff => ⟨?_, Dev.chanFollow_turnOnAt ht hoff⟩⟩
  rwa [Dev.chanFollow_off (by exact ht) (by exact hoff)]

theorem Dev.chanFollow_closesB {n t : Nat} {d : Dev} {x : Lsw} (both : Bool) (ht : d.time.now < t) (hdem : (d.lswDemand n).2 = true)
    (hwait : x.waitB = true) (hselA : x.selA = false) (hwaitA : x.waitA = false) :
    let y := d.chanFollow n t (x.closeSelect both)
    y.selB = true ∧ (x.on = false → y.waitB = true ∧ (y.on = true → y.turnOnAt = t)) := by
  rw [Lsw.closeSelect_aloneB both hwait hselA hwaitA]
  obtain ⟨hsel, hstays⟩ := Dev.chanAsked_aloneB (x := { x with selB := true }) hdem rfl hwait hselA
  refine ⟨hsel, fun hoff => ⟨?_, Dev.chanFollow_turnOnAt ht hoff⟩⟩
  rwa [Dev.chanFollow_off (by exact ht) (by exact hoff)]

end Sys2Proof.Machine
end

section
/-! The commands of load switch channels (11 R382-R387). -/

namespace Sys2Proof.Machine
open Sys2Proof

theorem Dev.hasLsw_lt {n : Nat} {d : Dev} (h : d.hasLsw n = true) : n < 32 := of_decide_eq_true (Bool.and_eq_true_iff.1 h).1

section
variable {n : Nat} {s : State}

theorem lswCmd_switched (hfit : s.dev.hasLsw n = true) (hsw : s.dev.switches n = true) (g : Dev → Dev) :
    lswCmd n g s = .next { s with dev := g s.dev } := (present_next _ hfit).trans (next_dev_congr (if_pos hsw))

theorem lswCmd_unused (hfit : s.dev.hasLsw n = true) (hsw : s.dev.switches n = false) (g : Dev → Dev) : lswCmd n g s = .next s :=
  (present_next _ hfit).trans (next_dev_congr (if_neg (by rw [hsw]; decide)))

theorem lswCmd_absent (hfit : s.dev.hasLsw n = false) (g : Dev → Dev) : lswCmd n g s = .fault .noSuchUnit := present_absent _ hfit

end

section
variable {n : Nat} {s : State} (hfit : s.dev.hasLsw n = true) (hsw : s.dev.switches n = true)
include hfit hsw

/-- A command that changes the channel by `f` and lets it follow its demand. -/
theorem lswStep_command_chan {i : Instr} {at_ : Dev → Nat} {f : Dev → Lsw → Lsw}
    (hi : exec i s = lswCmd n (fun d => d.lswStep n (at_ d) (f d)) s) :
    ∃ t, exec i s = .next t ∧ ChanOnly n s t ∧
      ∃ v, t.dev.chan n = { s.dev.chanFollow n (at_ s.dev) (f s.dev (s.dev.chan n)) with evt := v } :=
  ⟨_, hi.trans (lswCmd_switched hfit hsw _), (ChanKept.lswStep (Dev.hasLsw_lt hfit) _ _ _).chanOnly s.dev.time.now, Dev.chan_lswStep hsw _ _⟩

theorem lswStep_command {i : Instr} {at_ : Dev → Nat} {f : Dev → Lsw → Lsw}
    (hi : exec i s = lswCmd n (fun d => d.lswStep n (at_ d) (f d)) s) :
    ∃ t, exec i s = .next t ∧ ChanOnly n s t ∧ Lsw.Heeds (f s.dev (s.dev.chan n)) (t.dev.chan n) := by
  obtain ⟨t, ht, honly, v, hchan⟩ := lswStep_command_chan hfit hsw hi
  exact ⟨t, ht, honly, hchan ▸ (s.dev.chanFollow_heeds n _ _).setEvt v⟩

/-! Current limit and over-temperature (11 R382-R383). -/

theorem currentLimitExpiry_counts : ∃ t, exec (.currentLimitExpiry n) s = .next t ∧ ChanOnly n s t ∧ ((s.dev.chan n).on = true →
    (t.dev.chan n).on = false ∧ (t.dev.chan n).oc = true ∧ (t.dev.chan n).rcnt = min ((s.dev.chan n).rcnt + 1) 15) := by
  obtain ⟨t, ht, honly, h⟩ := lswStep_command (i := .currentLimitExpiry n) hfit hsw rfl
  refine ⟨t, ht, honly, fun hon => ?_⟩
  simp only [hon, if_true] at h
  have pausesOrLatches : ∀ p r c o : Bool, (!p || (r || p) || c || o) = true := by decide
  exact ⟨h.off (pausesOrLatches _ _ _ _), h.oc, h.rcnt⟩

theorem retryPauseEnd_ends : ∃ t, exec (.retryPauseEnd n) s = .next t ∧ ChanOnly n s t ∧ (t.dev.chan n).pause = false := by
  obtain ⟨t, ht, honly, h⟩ := lswStep_command (i := .retryPauseEnd n) hfit hsw rfl
  exact ⟨t, ht, honly, h.pause⟩

theorem conductionClear_clears : ∃ t, exec (.conductionClear n) s = .next t ∧ ChanOnly n s t ∧
    ((s.dev.chan n).on = true → (t.dev.chan n).rcnt = 0 ∧ (t.dev.chan n).oc = false) := by
  obtain ⟨t, ht, honly, h⟩ := lswStep_command (i := .conductionClear n) hfit hsw rfl
  refine ⟨t, ht, honly, fun hon => ?_⟩
  simp only [hon, if_true] at h
  exact ⟨h.rcnt, h.oc⟩

theorem currentLimitSumReached_latches : ∃ t, exec (.currentLimitSumReached n) s = .next t ∧ ChanOnly n s t ∧
    (t.dev.chan n).retry = true ∧ (t.dev.chan n).on = false := by
  have hn := Dev.hasLsw_lt hfit
  have h := (Dev.lswStep_heeds hsw s.dev.time.now fun x => { x with retry := true }).lswEvent true
  refine ⟨_, lswCmd_switched hfit hsw _, ((ChanKept.lswStep hn _ _ _).trans (.lswEvent hn true _)).chanOnly s.dev.time.now, h.retry, h.off ?_⟩
  simp [Lsw.held]

theorem powerStageOvertemp_latches : ∃ t, exec (.powerStageOvertemp n) s = .next t ∧ ChanOnly n s t ∧
    (t.dev.chan n).ot = true ∧ (t.dev.chan n).on = false := by
  obtain ⟨t, ht, honly, h⟩ := lswStep_command (i := .powerStageOvertemp n) hfit hsw rfl
  exact ⟨t, ht, honly, h.ot, h.off (by simp [Lsw.held])⟩

theorem powerStageRestart_clears : ∃ t, exec (.powerStageRestart n) s = .next t ∧ ChanOnly n s t ∧ (t.dev.chan n).otHot = false ∧
    (t.dev.chan n).ot = ((s.dev.chan n).ot && s.dev.rbit (A.lswCfg n) 26) := by
  obtain ⟨t, ht, honly, h⟩ := lswStep_command (i := .powerStageRestart n) hfit hsw rfl
  exact ⟨t, ht, honly, h.otHot, h.ot⟩

/-! Open load, clamp pulses and the free-wheel path (11 R384-R386). -/

theorem openLoadChange_shown (b : Bool) : ∃ t, exec (.openLoadChange n b) s = .next t ∧ ChanOnly n s t ∧
    (t.dev.chan n).ol = (if (s.dev.chan n).on then b else (s.dev.chan n).ol) := by
  obtain ⟨t, ht, honly, h⟩ := lswStep_command (i := .openLoadChange n b) hfit hsw rfl
  exact ⟨t, ht, honly, h.ol.trans (apply_ite Lsw.ol _ _ _)⟩

theorem clampPulse_counts (e u : Nat) : ∃ t, exec (.clampPulse n e u) s = .next t ∧ ChanOnly n s t ∧
    (s.dev.rbit (A.lswCfg n) 27 = true → t.dev.chan n = s.dev.chan n) ∧
    (s.dev.rbit (A.lswCfg n) 27 = false → (t.dev.chan n).b = (Lsw.pulse e u (s.dev.chan n)).b ∧
      (t.dev.chan n).clamp = (Lsw.pulse e u (s.dev.chan n)).clamp ∧ ((t.dev.chan n).clamp = true → (t.dev.chan n).on = false)) := by
  have run := lswCmd_switched hfit hsw fun d =>
    if (d.at u).rbit (A.lswCfg n) 27 then d.at u else (d.at u).lswStep n (d.at u).time.now (Lsw.pulse e u)
  cases hfw : s.dev.rbit (A.lswCfg n) 27 with
  | true =>
    exact ⟨_, run.trans (next_dev_congr (if_pos hfw)), (ChanKept.refl n (s.dev.at u)).chanOnly _, fun _ => rfl, fun h => absurd h (by decide)⟩
  | false =>
    have h := Dev.lswStep_heeds (d := s.dev.at u) hsw (s.dev.at u).time.now (Lsw.pulse e u)
    refine ⟨_, run.trans (next_dev_congr (if_neg (ne_true_of_eq_false hfw))), (ChanKept.lswStep (Dev.hasLsw_lt hfit) _ _ (s.dev.at u)).chanOnly _,
      fun h => absurd h (by decide), fun _ => ⟨h.b, h.clamp, fun hlock => h.off ?_⟩⟩
    have hpulse : (Lsw.pulse e u (s.dev.chan n)).clamp = true := h.clamp.symm.trans hlock
    show (Lsw.pulse e u (s.dev.chan n)).held = true
    simp [Lsw.held, hpulse]

theorem freewheelCheck_locks : ∃ t, exec (.freewheelCheck n) s = .next t ∧ ChanOnly n s t ∧
    (s.dev.rbit (A.lswCfg n) 27 = true → (t.dev.chan n).clamp = true ∧ (t.dev.chan n).fwfail = true ∧ (t.dev.chan n).on = false) ∧
    (s.dev.rbit (A.lswCfg n) 27 = false → t = s) := by
  have run := lswCmd_switched hfit hsw fun d =>
    if d.rbit (A.lswCfg n) 27 then d.lswStep n d.time.now (fun x => { x with clamp := true, fwfail := true }) else d
  cases hfw : s.dev.rbit (A.lswCfg n) 27 with
  | true =>
    have h := Dev.lswStep_heeds hsw s.dev.time.now fun x => { x with clamp := true, fwfail := true }
    exact ⟨_, run.trans (next_dev_congr (if_pos hfw)), (ChanKept.lswStep (Dev.hasLsw_lt hfit) _ _ _).chanOnly s.dev.time.now,
      fun _ => ⟨h.clamp, h.fwfail, h.off (by simp [Lsw.held])⟩, fun h => absurd h (by decide)⟩
  | false =>
    exact ⟨_, run.trans (next_dev_congr (if_neg (ne_true_of_eq_false hfw))), (ChanKept.refl n s.dev).chanOnly s.dev.time.now,
      fun h => absurd h (by decide), fun _ => rfl⟩

/-! Selects (11 R387). -/

theorem selectOpen_opens : ∃ t, exec (.selectOpen n) s = .next t ∧ ChanOnly n s t ∧
    (s.dev.lswDemand n = ((s.dev.chan n).demA, (s.dev.chan n).demB) →
      ((s.dev.chan n).demA = false → (t.dev.chan n).selA = false) ∧ ((s.dev.chan n).demB = false → (t.dev.chan n).selB = false)) := by
  obtain ⟨t, ht, honly, v, hchan⟩ := lswStep_command_chan (i := .selectOpen n) hfit hsw rfl
  refine ⟨t, ht, honly, fun hdem => ⟨fun hA => ?_, fun hB => ?_⟩⟩
  · rw [hchan]
    exact Dev.chanAsked_openA ((congrArg Prod.fst hdem).trans hA) (by rw [hA, Bool.and_false])
  · rw [hchan]
    exact Dev.chanAsked_openB ((congrArg Prod.snd hdem).trans hB) (by rw [hB, Bool.and_false])

theorem selectClose_closes : ∃ t, exec (.selectClose n) s = .next t ∧ ChanOnly n s t ∧
    (s.dev.lswDemand n = (true, false) → (s.dev.chan n).waitA = true → (s.dev.chan n).selB = false → (s.dev.chan n).waitB = false →
      (t.dev.chan n).selA = true ∧
      ((s.dev.chan n).on = false → (t.dev.chan n).waitA = true ∧ ((t.dev.chan n).on = true → (t.dev.chan n).turnOnAt = s.dev.time.now + 100000))) ∧
    (s.dev.lswDemand n = (false, true) → (s.dev.chan n).waitB = true → s.dev.rbit (A.lswCfg n) 30 = true →
      (s.dev.chan n).selA = false → (s.dev.chan n).waitA = false → (t.dev.chan n).selB = true ∧
      ((s.dev.chan n).on = false → (t.dev.chan n).waitB = true ∧ ((t.dev.chan n).on = true → (t.dev.chan n).turnOnAt = s.dev.time.now + 100000))) := by
  obtain ⟨t, ht, honly, v, hchan⟩ := lswStep_command_chan (i := .selectClose n) hfit hsw rfl
  have later : s.dev.time.now < s.dev.time.now + 100000 := by omega
  refine ⟨t, ht, honly, fun hdem hwait hselB hwaitB => ?_, fun hdem hwait _ hselA hwaitA => ?_⟩
  · rw [hchan]
    exact Dev.chanFollow_closesA (s.dev.bothFit n) later (congrArg Prod.fst hdem) hwait hselB hwaitB
  · rw [hchan]
    exact Dev.chanFollow_closesB (s.dev.bothFit n) later (congrArg Prod.snd hdem) hwait hselA hwaitA

end

/-- The commands of a load switch channel are of one form. -/
theorem exec_lswCmd {n : Nat} {i : Instr} (h : i ∈ [Instr.currentLimitExpiry n, .retryPauseEnd n, .conductionClear n, .currentLimitSumReached n,
    .powerStageOvertemp n, .powerStageRestart n, .openLoadChange n true, .openLoadChange n false, .freewheelCheck n, .selectOpen n,
    .selectClose n] ∨ ∃ e u, i = .clampPulse n e u) (s : State) : ∃ g, exec i s = lswCmd n g s := by
  simp only [List.mem_cons, List.not_mem_nil, or_false] at h
  rcases h with (rfl | rfl | rfl | rfl | rfl | rfl | rfl | rfl | rfl | rfl | rfl) | ⟨e, u, rfl⟩ <;> exact ⟨_, rfl⟩

/-- Settles O46: on a channel that this device switches each command is a step of that channel, which heeds its faults and its demand. -/
theorem loadSwitchCommands : Obligations.LoadSwitchCommands :=
  ⟨fun _ _ hfit hsw => ⟨currentLimitExpiry_counts hfit hsw, retryPauseEnd_ends hfit hsw, conductionClear_clears hfit hsw,
      currentLimitSumReached_latches hfit hsw, powerStageOvertemp_latches hfit hsw, powerStageRestart_clears hfit hsw,
      openLoadChange_shown hfit hsw, clampPulse_counts hfit hsw, freewheelCheck_locks hfit hsw, selectOpen_opens hfit hsw,
      selectClose_closes hfit hsw⟩,
    fun _ _ s hi => by
      obtain ⟨g, hg⟩ := exec_lswCmd hi s
      exact ⟨fun hfit => hg.trans (lswCmd_absent hfit g), fun hfit hsw => hg.trans (lswCmd_unused hfit hsw g)⟩⟩

end Sys2Proof.Machine
end

section
/-! Limp-home (11 R390-R393). -/

namespace Sys2Proof.Machine
open Sys2Proof

/-! Every channel follows demand and map. -/

theorem Dev.lhSync_lswOnly (d : Dev) :
    LswOnly { d with lh := { d.lh with waiting := if d.lhDead then d.lh.map.map (fun p => (p.1, true)) else d.lh.waiting } } d.lhSync :=
  LswOnly.fold _ _ _ fun n e => .lswStep n e.time.now id e

theorem Dev.lhSync_lh (d : Dev) :
    d.lhSync.lh = { d.lh with waiting := if d.lhDead then d.lh.map.map (fun p => (p.1, true)) else d.lh.waiting } := d.lhSync_lswOnly.lh

/-- The limp-home unit changes to `l`, and every channel follows. -/
theorem PlantKept.setLh_lhSync (d : Dev) (l : LhSt) : PlantKept d ({ d with lh := l } : Dev).lhSync :=
  (Dev.lhSync_lswOnly { d with lh := l }).plantKept

theorem Dev.lhDead_of_wdog {d : Dev} (h : d.lh.wdog = true) : d.lhDead = true := by
  unfold Dev.lhDead
  rw [h]
  rfl

/-! The map (11 R390). -/

/-- The plant is as before, and the map as loaded as before. -/
structure LoadedKept (d e : Dev) : Prop where
  plant : PlantKept d e
  loaded : e.lh.loaded = d.lh.loaded

namespace LoadedKept

theorem trans {d e f : Dev} (h : LoadedKept d e) (k : LoadedKept e f) : LoadedKept d f := ⟨h.plant.trans k.plant, k.loaded.trans h.loaded⟩

theorem setReg (d : Dev) (a : Nat) (v : Word) : LoadedKept d (d.setReg a v) := ⟨.refl d, rfl⟩

theorem fold {α : Type} (l : List α) (f : α → Dev → Dev) (d : Dev) (h : ∀ a e, LoadedKept e (f a e)) : LoadedKept d (foldOver l f d) :=
  foldOver_keeps (LoadedKept d) l f d (fun a e he => he.trans (h a e)) ⟨.refl d, rfl⟩

theorem loadLsw (t : Topo) (d : Dev) : LoadedKept d (d.loadLsw t) := by
  unfold Dev.loadLsw
  extract_lets m _ a b c
  have mapped : LoadedKept d a := ⟨.refl d, rfl⟩
  have timed : LoadedKept a b := setReg a _ _
  have routed : LoadedKept b c := fold _ _ b fun _ e => setReg e _ _
  exact ((mapped.trans timed).trans routed).trans (fold _ _ c fun _ e => setReg e _ _)

theorem lhSync (d : Dev) : LoadedKept d d.lhSync := ⟨.setLh_lhSync d d.lh, (congrArg LhSt.loaded d.lhSync_lh :)⟩

end LoadedKept

theorem lhMapLoad_loads (s : State) : ∃ t, exec .lhMapLoad s = .next t ∧ t.dev.lh.loaded = true ∧ PlantOnly s t := by
  have marked : PlantKept s.dev { s.dev with lh := { s.dev.lh with loaded := true } } := .refl s.dev
  have h : LoadedKept { s.dev with lh := { s.dev.lh with loaded := true } } _ :=
    (LoadedKept.loadLsw (s.dev.img.bootTopo.getD s.dev.topo) _).trans (.lhSync _)
  exact ⟨_, rfl, h.loaded, (marked.trans h.plant).plantOnly⟩

/-! The watchdog (11 R391). -/

theorem lhWatchdogExpiry_dead (s : State) :
    ∃ t, exec .lhWatchdogExpiry s = .next t ∧ t.dev.lh.wdog = true ∧ t.dev.lhDead = true ∧ PlantOnly s t := by
  have hwdog : ({ s.dev with lh := { s.dev.lh with wdog := true } } : Dev).lhSync.lh.wdog = true := congrArg LhSt.wdog (Dev.lhSync_lh _)
  exact ⟨_, rfl, hwdog, Dev.lhDead_of_wdog hwdog, (PlantKept.setLh_lhSync s.dev _).plantOnly⟩

/-! The inputs (11 R392). -/

/-- Three equal samples change bit `i`. -/
def LhSt.sampled (v i : Nat) (l : LhSt) : Bool :=
  if v.testBit i ≠ l.ins.testBit i ∧ 2 ≤ FMap.get (fun _ => 0) l.insCand i then v.testBit i else l.ins.testBit i

theorem LhSt.sample_own (v i : Nat) (l : LhSt) : (l.sample v i).ins.testBit i = l.sampled v i := by
  unfold LhSt.sample LhSt.sampled
  dsimp only
  by_cases heq : v.testBit i = l.ins.testBit i
  · rw [if_pos heq, if_neg fun h => h.1 heq]
  rw [if_neg heq]
  by_cases hk : 2 ≤ FMap.get (fun _ => 0) l.insCand i
  · rw [if_neg (by omega), if_pos ⟨heq, hk⟩, Nat.testBit_xor, Nat.testBit_two_pow_self, Bool.xor_true]
    exact (Bool.eq_not_of_ne heq).symm
  · rw [if_pos (by omega), if_neg fun h => hk h.2]

theorem LhSt.sample_other {i j : Nat} (h : i ≠ j) (v : Nat) (l : LhSt) :
    (l.sample v j).ins.testBit i = l.ins.testBit i ∧ FMap.get (fun _ => 0) (l.sample v j).insCand i = FMap.get (fun _ => 0) l.insCand i := by
  have counted : ∀ k : Nat, FMap.get (fun _ => 0) (FMap.set (fun _ => 0) l.insCand j k) i = FMap.get (fun _ => 0) l.insCand i :=
    fun k => FMap.get_set_other _ _ k h
  unfold LhSt.sample
  dsimp only
  split
  · exact ⟨rfl, counted 0⟩
  split
  · exact ⟨rfl, counted (FMap.get (fun _ => 0) l.insCand j + 1)⟩
  · exact ⟨by rw [Nat.testBit_xor, Nat.testBit_two_pow_of_ne h.symm, Bool.xor_false], counted 0⟩

theorem foldOver_range_succ {σ : Type} (k : Nat) (f : Nat → σ → σ) (x : σ) :
    foldOver (List.range (k + 1)) f x = f k (foldOver (List.range k) f x) := by
  unfold foldOver
  rw [List.range_succ, List.foldl_append]
  rfl

/-- The samples of the first `k` bits leave a later bit and its count. -/
theorem LhSt.samples_later (v : Nat) (l : LhSt) {i k : Nat} (h : k ≤ i) :
    (foldOver (List.range k) (LhSt.sample v) l).ins.testBit i = l.ins.testBit i ∧
    FMap.get (fun _ => 0) (foldOver (List.range k) (LhSt.sample v) l).insCand i = FMap.get (fun _ => 0) l.insCand i := by
  induction k with
  | zero => exact ⟨rfl, rfl⟩
  | succ k ih =>
    obtain ⟨hins, hcand⟩ := ih (by omega)
    obtain ⟨hins', hcand'⟩ := LhSt.sample_other (i := i) (j := k) (by omega) v (foldOver (List.range k) (LhSt.sample v) l)
    rw [foldOver_range_succ]
    exact ⟨hins'.trans hins, hcand'.trans hcand⟩

theorem LhSt.samples_bit (v : Nat) (l : LhSt) {i k : Nat} (h : i < k) :
    (foldOver (List.range k) (LhSt.sample v) l).ins.testBit i = l.sampled v i := by
  induction k with
  | zero => omega
  | succ k ih =>
    rw [foldOver_range_succ]
    by_cases hi : i = k
    · obtain ⟨hins, hcand⟩ := LhSt.samples_later v l hi.ge
      subst hi
      rw [LhSt.sample_own, LhSt.sampled, hins, hcand, LhSt.sampled]
    · exact (LhSt.sample_other hi v _).1.trans (ih (by omega))

theorem lhInSample_debounced (v : Nat) (s : State) : ∃ t, exec (.lhInSample v) s = .next t ∧ PlantOnly s t ∧
    (s.dev.pstate ≠ 1 → ∀ i, i < 8 → t.dev.lh.ins.testBit i = s.dev.lh.sampled v i) := by
  have run : exec (.lhInSample v) s = .next { s with dev := if s.dev.pstate = 1 then s.dev else
      ({ s.dev with lh := foldOver (List.range 8) (LhSt.sample v) s.dev.lh } : Dev).lhSync } := rfl
  by_cases hstorage : s.dev.pstate = 1
  · exact ⟨_, run.trans (next_dev_congr (if_pos hstorage)), (PlantKept.refl s.dev).plantOnly, fun h => absurd hstorage h⟩
  · refine ⟨_, run.trans (next_dev_congr (if_neg hstorage)), (PlantKept.setLh_lhSync s.dev _).plantOnly, fun _ i hi => ?_⟩
    dsimp only
    rw [Dev.lhSync_lh]
    exact LhSt.samples_bit v s.dev.lh hi

/-! In STORAGE nothing happens (11 R377). -/

theorem lhInSample_storage (v : Nat) {s : State} (h : s.dev.pstate = 1) : exec (.lhInSample v) s = .next s := next_dev_congr (if_pos h)

theorem lhEnLow_storage {s : State} (h : s.dev.pstate = 1) : exec .lhEnLow s = .next s := next_dev_congr (if_pos h)

theorem lhEnReturn_storage {s : State} (h : s.dev.pstate = 1) : exec .lhEnReturn s = .next s := next_dev_congr (if_pos h)

/-! The enable line (11 R392-R393). -/

theorem lhEnLow_activates {s : State} (h : s.dev.pstate ≠ 1) :
    ∃ t, exec .lhEnLow s = .next t ∧ t.dev.lh.enLow = true ∧ t.dev.lhActive = true ∧ PlantOnly s t := by
  have hlow : ({ s.dev with lh := { s.dev.lh with enLow := true } } : Dev).lhSync.lh.enLow = true := congrArg LhSt.enLow (Dev.lhSync_lh _)
  refine ⟨_, next_dev_congr (if_neg h), hlow, ?_, (PlantKept.setLh_lhSync s.dev _).plantOnly⟩
  unfold Dev.lhActive
  rw [hlow, Bool.or_true]

theorem lhEnReturn_releases {s : State} (h : s.dev.pstate ≠ 1) :
    ∃ t, exec .lhEnReturn s = .next t ∧ t.dev.lh.enLow = false ∧ (s.dev.lhDead = false → t.dev.lh.waiting = []) ∧ PlantOnly s t := by
  have run : exec .lhEnReturn s = _ := next_dev_congr (if_neg h)
  cases hdead : s.dev.lhDead with
  | true =>
    refine ⟨_, run.trans (next_dev_congr (congrArg Dev.lhSync (if_pos hdead))), congrArg LhSt.enLow (Dev.lhSync_lh _), fun h => absurd h (by decide),
      (PlantKept.setLh_lhSync s.dev _).plantOnly⟩
  | false =>
    refine ⟨_, run.trans (next_dev_congr (congrArg Dev.lhSync (if_neg (ne_true_of_eq_false hdead)))), congrArg LhSt.enLow (Dev.lhSync_lh _),
      fun _ => (congrArg LhSt.waiting (Dev.lhSync_lh _)).trans (if_neg (ne_true_of_eq_false hdead)), (PlantKept.setLh_lhSync s.dev _).plantOnly⟩

/-- Settles O47: each command changes the limp-home unit, then every channel follows (`Dev.lhSync_lswOnly`). -/
theorem limpHome : Obligations.LimpHome :=
  ⟨lhMapLoad_loads, lhWatchdogExpiry_dead, fun v s => ⟨lhInSample_debounced v s, fun h => ⟨lhInSample_storage v h, lhEnLow_storage h⟩⟩,
    fun _ => lhEnLow_activates, fun _ => lhEnReturn_storage, fun _ => lhEnReturn_releases⟩

end Sys2Proof.Machine
end

section
/-! Captured reads (19 R604, 05 R200, 14 R502): a read of a low half holds the whole 64 bits for the reading master alone. -/

namespace Sys2Proof.Machine
open Sys2Proof

@[simp] theorem TimeSt.caps_setCaps (m : Master) (f : Caps → Caps) (t : TimeSt) : (t.setCaps m f).caps m = f (t.caps m) := by
  cases m <;> rfl

theorem TimeSt.caps_setCaps_other {m k : Master} (h : k ≠ m) (f : Caps → Caps) (t : TimeSt) : (t.setCaps m f).caps k = t.caps k := by
  revert h
  cases m <;> cases k <;> simp [TimeSt.caps, TimeSt.setCaps]

@[simp] theorem TimeSt.now_setCaps (m : Master) (f : Caps → Caps) (t : TimeSt) : (t.setCaps m f).now = t.now := by
  cases m <;> rfl

/-- Of the time, a register shows the clock and the reading master's captures; of the rest, nothing that a read may leave. -/
theorem Dev.regView_congr_time (d : Dev) {x : TimeSt} (v : Word) {k : Master} (hnow : x.now = d.time.now) (hcaps : x.caps k = d.time.caps k)
    (a : Nat) : ({ d with time := x, readData := v } : Dev).regView k a = d.regView k a := by
  have hstat : ({ d with time := x, readData := v } : Dev).lswStatWord = d.lswStatWord := by
    unfold Dev.lswStatWord Dev.chansOn
    rw [show ({ d with time := x, readData := v } : Dev).time.now = d.time.now from hnow]
    rfl
  unfold Dev.regView
  rw [show ({ d with time := x, readData := v } : Dev).time.now = d.time.now from hnow,
    show ({ d with time := x, readData := v } : Dev).time.caps k = d.time.caps k from hcaps, hstat]
  rfl

/-- A read by `m` that captures: only the clock's captures of `m` and the data read differ. -/
theorem Dev.setCaps_private (d : Dev) (m : Master) (f : Caps → Caps) (v : Word) :
    (∀ k, k ≠ m → ∀ a, ({ d.setCaps m f with readData := v } : Dev).regView k a = d.regView k a) ∧
      ({ d.setCaps m f with readData := v } : Dev) = { d with time := d.time.setCaps m f, readData := v } ∧
      (d.setCaps m f).time.now = d.time.now :=
  ⟨fun _ hk => d.regView_congr_time v (TimeSt.now_setCaps m f _) (TimeSt.caps_setCaps_other hk f _), rfl, TimeSt.now_setCaps m f _⟩

/-! The three low halves are present on every device and clear nothing. -/

theorem Dev.clearRead_plain {a : Nat} (d : Dev) (m : Master) (h : (regRow a).all (fun r => r.ctl == 0) = true) : d.clearRead m a = d := by
  unfold Dev.clearRead
  split
  · rfl
  next r hr =>
    rw [hr, Option.all_some, beq_iff_eq] at h
    exact if_neg fun hc => hc.1 h

theorem Dev.absentAt_acqQcntl (d : Dev) : d.absentAt A.acqQcntl = false := by
  simp [Dev.absentAt, A.acqQcntl, A.cnpyImpctl, A.cnpyImpstat, A.lswCh, A.lswCfg, A.lswLhmap, A.ethStat]

theorem Dev.absentAt_ethUtcl (d : Dev) : d.absentAt A.ethUtcl = false := by
  simp [Dev.absentAt, A.ethUtcl, A.cnpyImpctl, A.cnpyImpstat, A.lswCh, A.lswCfg, A.lswLhmap, A.ethStat]

theorem Dev.readReg_plain {a : Nat} {d : Dev} (m : Master) (habs : d.absentAt a = false) (hcan : ¬ (0x400A0000 ≤ a ∧ a < 0x400E0000 ∧ 0x2000 ≤ a % 0x10000))
    (hrow : (regRow a).all (fun r => r.ctl == 0) = true) : d.readReg m none a = { d.captureRead m a with readData := d.regView m a } := by
  unfold Dev.readReg Dev.ctlRead
  rw [habs, if_neg Bool.false_ne_true, if_neg hcan, Dev.clearRead_plain _ m hrow]

theorem Dev.readReg_timel (d : Dev) (m : Master) :
    d.readReg m none A.sysTimel = { d.setCaps m (fun c => { c with time := d.time.now }) with readData := BitVec.ofNat 32 (d.time.now % 2 ^ 32) } :=
  Dev.readReg_plain m (d.absentAt_below (by decide)) (by decide) (by decide)

theorem Dev.readReg_qcntl (d : Dev) (m : Master) :
    d.readReg m none A.acqQcntl = { d.setCaps m (fun c => { c with qcnt := d.qcnt }) with readData := BitVec.ofNat 32 (d.qcnt % 2 ^ 32) } :=
  Dev.readReg_plain m d.absentAt_acqQcntl (by decide) (by decide)

theorem Dev.readReg_utcl (d : Dev) (m : Master) :
    d.readReg m none A.ethUtcl = { d.setCaps m (fun c => { c with utc := d.utcOfs }) with readData := BitVec.ofNat 32 (d.utcOfs % 2 ^ 32) } :=
  Dev.readReg_plain m d.absentAt_ethUtcl (by decide) (by decide)

theorem Dev.regView_timeh (d : Dev) (m : Master) : d.regView m A.sysTimeh = BitVec.ofNat 32 ((d.time.caps m).time / 2 ^ 32) := rfl

/-- The high word of a number is that of its low 64 bits. -/
theorem ofNat_high_word (n : Nat) : BitVec.ofNat 32 (n / 2 ^ 32) = BitVec.ofNat 32 (n % 2 ^ 64 / 2 ^ 32) :=
  BitVec.eq_of_toNat_eq (by rw [BitVec.toNat_ofNat, BitVec.toNat_ofNat]; omega)

/-- Settles O36: each read captures for its master (`Dev.setCaps_private`), and the high half shows the capture. -/
theorem capturedReads : Obligations.CapturedReads := by
  refine ⟨fun m s => ?_, fun m s => ?_, fun m s => ?_⟩
  · obtain ⟨others, rest, now⟩ := s.dev.setCaps_private m (fun c => { c with time := s.dev.time.now }) (BitVec.ofNat 32 (s.dev.time.now % 2 ^ 32))
    have high : ({ s.dev.setCaps m (fun c => { c with time := s.dev.time.now }) with readData := BitVec.ofNat 32 (s.dev.time.now % 2 ^ 32) } : Dev).regView m A.sysTimeh =
        BitVec.ofNat 32 (s.dev.time.now % 2 ^ 64 / 2 ^ 32) := by
      rw [Dev.regView_timeh, ← ofNat_high_word]
      exact congrArg (fun c : Caps => BitVec.ofNat 32 (c.time / 2 ^ 32)) (TimeSt.caps_setCaps m _ _)
    exact ⟨_, next_dev_congr (s.dev.readReg_timel m), congrArg (BitVec.ofNat 32) (by omega), high, others, rest, now, rfl, rfl⟩
  · obtain ⟨others, rest, now⟩ := s.dev.setCaps_private m (fun c => { c with qcnt := s.dev.qcnt }) (BitVec.ofNat 32 (s.dev.qcnt % 2 ^ 32))
    exact ⟨_, next_dev_congr (s.dev.readReg_qcntl m), rfl,
      congrArg (fun c : Caps => BitVec.ofNat 32 (c.qcnt / 2 ^ 32)) (TimeSt.caps_setCaps m _ _), others, rest, now, rfl, rfl⟩
  · obtain ⟨others, rest, now⟩ := s.dev.setCaps_private m (fun c => { c with utc := s.dev.utcOfs }) (BitVec.ofNat 32 (s.dev.utcOfs % 2 ^ 32))
    exact ⟨_, next_dev_congr (s.dev.readReg_utcl m), rfl,
      congrArg (fun c : Caps => BitVec.ofNat 32 (c.utc / 2 ^ 32)) (TimeSt.caps_setCaps m _ _), others, rest, now, rfl, rfl⟩

end Sys2Proof.Machine
end

section
/-! Where the statement on the twin signals fails: a ring of a number past the ring ports (00 R5, 04 R140, 07 R251-R257, 10 R371). -/

namespace Sys2Proof.Machine
open Sys2Proof

/-! The statement sets no bound on the ring that the authority's message names. Ring ports have numbers 0 to 47 (00 R5); the addresses of the
registers of ring 256 are those of CTL.STAT and CTL.SEQRES. -/

/-- A twin without authority whose gates are enabled, which is bit 31 of CTL.STAT and so reads as CFG.EN of ring 256. ISOTRIP is set, zone 0 is
the block's and that of string 256, and the latches are restored. -/
def strayRing : State :=
  { dev := ((((({ prot := { restored := true } } : Dev).setFld A.sysStrap 1 0 1).setRbit (A.ringCfg 256) 31 true).setReg A.protBlkz 0x01000001).setReg
      (A.protStrz 64) 1) }

/-- The ring's isolation latches zone 0 and opens the block, whose result word falls on the ring's state. -/
theorem strayRing_state : (match exec (.mooringMessageRx true 0 (.ringState 256 4 0 0)) strayRing with | .next t => t.dev.ringState 256 | _ => 4) = 0 := by
  decide +kernel

/-- Refutes O54: the state ISOLATED that the authority tells of ring 256 is not the one that the register of that number shows afterwards. -/
theorem not_twinSignals : ¬ Obligations.TwinSignals := by
  intro h
  obtain ⟨-, -, -, ringState, -⟩ := (h strayRing).2 (by decide +kernel)
  obtain ⟨t, ht, hst, -⟩ := ringState (by decide +kernel) 0 256 4 0 0 (by decide +kernel) (by decide)
  have hzero := strayRing_state
  rw [ht] at hzero
  exact absurd (hst.symm.trans hzero) (by decide)

end Sys2Proof.Machine
end

section
/-! Where the statement on power fails: a register table that is not in rising order (00 R8, 16 R540). -/

namespace Sys2Proof.Machine
open Sys2Proof

/-! A table is read in rising order of its keys (Machine/Map.lean), and the statement does not ask that the register table is in that order. A
reset removes the volatile registers from the table; where one of them stood before SYS.UNITMAP and hid it, the entry behind it then shows. -/

/-- A device in reset whose table lists SYS.KSTAT0 before SYS.UNITMAP. -/
def unsortedRegs : State := { dev := { regs := [(A.sysKstat 0, 1), (A.sysUnitmap, 0)] } }

/-- Before the release SYS.UNITMAP reads as manufactured. -/
theorem unsortedRegs_unitmap : unsortedRegs.dev.reg A.sysUnitmap = 0x1c207fb := by decide +kernel

/-- After it, SYS.UNITMAP reads the entry that was hidden. -/
theorem unsortedRegs_released : (match exec (.resetRelease 0 false) unsortedRegs with | .next t => t.dev.reg A.sysUnitmap | _ => 0x1c207fb) = 0 := by
  decide +kernel

/-- Refutes O60: the release of a device whose register table is not in rising order changes SYS.UNITMAP. -/
theorem not_powerCommands : ¬ Obligations.PowerCommands := by
  intro h
  obtain ⟨-, release, -⟩ := h unsortedRegs
  obtain ⟨t, ht, -, -, -, hmap, -⟩ := release rfl rfl rfl 0 false
  have hzero := unsortedRegs_released
  rw [ht] at hzero
  exact absurd (unsortedRegs_unitmap.symm.trans (hmap.symm.trans hzero)) (by decide)

end Sys2Proof.Machine
end

section
/-! The role of a twin (12 R425) under what changes other registers, and what waking leaves (16 R550). -/

namespace Sys2Proof.Machine
open Sys2Proof

theorem Dev.authority_congr {d e : Dev} (hunit : e.reg A.sysUnitmap = d.reg A.sysUnitmap) (hstrap : e.reg A.sysStrap = d.reg A.sysStrap)
    (htwin : e.reg A.twinStat = d.reg A.twinStat) : e.authority = d.authority := by
  unfold Dev.authority
  rw [Dev.isTwin_congr hunit hstrap, Dev.rbit_congr htwin]

theorem Dev.follows_congr {d e : Dev} (hunit : e.reg A.sysUnitmap = d.reg A.sysUnitmap) (hstrap : e.reg A.sysStrap = d.reg A.sysStrap)
    (htwin : e.reg A.twinStat = d.reg A.twinStat) : e.follows = d.follows := by
  unfold Dev.follows
  rw [Dev.authority_congr hunit hstrap htwin, Dev.isTwin_congr hunit hstrap]

/-- A twin with authority does not follow. -/
theorem Dev.follows_of_authority {d : Dev} (h : d.authority = true) : d.follows = false := by
  unfold Dev.follows
  rw [h, Bool.not_true, Bool.and_false]

/-- The registers that tell which units are fitted and which role a twin has. -/
def roleRegs : List Nat := [A.sysUnitmap, A.sysStrap, A.twinStat]

theorem Told.authority {l : List Nat} {d e : Dev} (h : Told l d e) (hl : ∀ a ∈ roleRegs, a ∉ l) : e.authority = d.authority :=
  Dev.authority_congr (h.reg (by decide) (hl _ (by simp [roleRegs]))) (h.reg (by decide) (hl _ (by simp [roleRegs])))
    (h.reg (by decide) (hl _ (by simp [roleRegs])))

theorem Told.follows {l : List Nat} {d e : Dev} (h : Told l d e) (hl : ∀ a ∈ roleRegs, a ∉ l) : e.follows = d.follows :=
  Dev.follows_congr (h.reg (by decide) (hl _ (by simp [roleRegs]))) (h.reg (by decide) (hl _ (by simp [roleRegs])))
    (h.reg (by decide) (hl _ (by simp [roleRegs])))

theorem Told.img {l : List Nat} {d e : Dev} (h : Told l d e) : e.img = d.img := by rw [h.same]

theorem Told.cans {l : List Nat} {d e : Dev} (h : Told l d e) : e.cans = d.cans := by rw [h.same]

theorem Told.time {l : List Nat} {d e : Dev} (h : Told l d e) : e.time = d.time := by rw [h.same]

theorem Told.disp {l : List Nat} {d e : Dev} (h : Told l d e) : e.disp = d.disp := by rw [h.same]

theorem Told.eth {l : List Nat} {d e : Dev} (h : Told l d e) : e.eth = d.eth := by rw [h.same]

theorem Told.plantOnly {l : List Nat} {s : State} {d : Dev} (h : Told l s.dev d) : PlantOnly s { s with dev := d } := h.plant.plantOnly

/-- An event that a condition raises. -/
theorem Dev.raiseIf_pending (d : Dev) {b : Bool} (hb : b = true) {e : Nat} (he : e < 384) (i : Nat) : (d.raiseIf b e i).eventPending e = true := by
  rw [Dev.raiseIf, if_pos hb]
  exact d.raise_pending he i

/-! A change of PWR.STAT wakes the device from WATCH, and the own values settle (16 R550, 05 R177). -/

/-- Beside what is told, only the acquisition unit differs, and of the registers only PWR.STAT and those of EVT and LOG. -/
structure Woken (d e : Dev) : Prop where
  same : e = { d with regs := e.regs, log := e.log, hwd := e.hwd, pwr := e.pwr, twin := e.twin, acq := e.acq }
  regs : RegsKept [A.pwrStat] d e
  pend : PendKept d e

namespace Woken

theorem of_told {d e : Dev} (h : Told [A.pwrStat] d e) : Woken d e := ⟨by rw [h.same], h.regs, h.pend⟩

theorem refl (d : Dev) : Woken d d := of_told (.refl d)

theorem trans {d e f : Dev} (h : Woken d e) (k : Woken e f) : Woken d f := ⟨by rw [k.same, h.same], h.regs.trans k.regs, h.pend.trans k.pend⟩

theorem wake (d : Dev) : Woken d d.wake := by
  have settled : Woken d (d.settleState 3) := of_told (.settleState d 3)
  have own : Woken d (foldOver (List.range 30) (fun j e => e.settleOwn j 2) (d.settleState 3)) :=
    foldOver_keeps (Woken d) _ _ _ (fun _ e h => h.trans ⟨rfl, .of_regs _ rfl, .of_regs rfl⟩) settled
  unfold Dev.wake
  split
  · split
    · exact settled
    · exact own
  · exact refl d

section
variable {d e : Dev} (h : Woken d e)
include h

theorem reg {a : Nat} (ha : evtArea a = false) (hne : a ≠ A.pwrStat) : e.reg a = d.reg a := h.regs a ha (by simpa using hne)

theorem authority : e.authority = d.authority :=
  Dev.authority_congr (h.reg (by decide) (by decide)) (h.reg (by decide) (by decide)) (h.reg (by decide) (by decide))

theorem time : e.time = d.time := by rw [h.same]

theorem disp : e.disp = d.disp := by rw [h.same]

theorem rep : e.rep = d.rep := by rw [h.same]

theorem cnpy : e.cnpy = d.cnpy := by rw [h.same]

theorem img : e.img = d.img := by rw [h.same]

/-- The scan that a report computation names does not depend on the device state (09 R331). -/
theorem reportDue : e.reportDue = d.reportDue := by
  unfold Dev.reportDue Dev.scan
  rw [h.time, h.cnpy, h.reg (a := A.cnpyConf) (by decide) (by decide), h.reg (a := A.acqScan) (by decide) (by decide)]

end
end Woken

end Sys2Proof.Machine
end

section
/-! CAN.STAT of a controller and its frames (14 R471-R480, R497). -/

namespace Sys2Proof.Machine
open Sys2Proof

theorem A.canStat_area {c : Nat} (h : c < 4) : 0x400A0000 ≤ A.canStat c ∧ A.canStat c < 0x400E0000 := by
  unfold A.canStat
  omega

theorem evtArea_canStat {c : Nat} (h : c < 4) : evtArea (A.canStat c) = false := by
  obtain ⟨hlo, hhi⟩ := A.canStat_area h
  exact evtArea_between (by omega) (by omega)

/-- No register that tells fitted units and roles is a CAN.STAT. -/
theorem roleRegs_canStat (c : Nat) : ∀ a ∈ roleRegs, a ∉ [A.canStat c] := by
  intro a ha hc
  rw [List.mem_singleton.1 hc] at ha
  simp only [roleRegs, A.sysUnitmap, A.sysStrap, A.twinStat, A.canStat, List.mem_cons, List.not_mem_nil, or_false] at ha
  omega

theorem Dev.can_congr {d e : Dev} (h : e.cans = d.cans) (c : Nat) : e.can c = d.can c := by
  unfold Dev.can
  rw [h]

@[simp] theorem CanSt.obj_setObj (x : CanSt) (m : Nat) (f : CanObj → CanObj) : (x.setObj m f).obj m = f (x.obj m) := by
  simp [CanSt.obj, CanSt.setObj, FMap.upd]

theorem CanSt.obj_setObj_other (x : CanSt) {m k : Nat} (f : CanObj → CanObj) (h : k ≠ m) : (x.setObj m f).obj k = x.obj k :=
  FMap.get_set_other _ _ _ h

/-! CAN.STAT becomes a value (14 R479). -/

section
variable {c : Nat} (hc : c < 4) (v : Word) (d : Dev)
include hc

theorem Told.canStatTo_shown : Told [] (d.setReg (A.canStat c) v) (d.canStatTo c v) :=
  (Told.raiseIf _ _ _ (by omega) c).trans (.raiseIf _ _ _ (by omega) c)

theorem Told.canStatTo : Told [A.canStat c] d (d.canStatTo c v) :=
  (Told.setReg d v (by simp) (by unfold A.canStat; omega)).trans ((Told.raiseIf _ _ _ (by omega) c).trans (.raiseIf _ _ _ (by omega) c))

theorem Dev.reg_canStatTo : (d.canStatTo c v).reg (A.canStat c) = v := by
  rw [(Told.canStatTo_shown hc v d).reg (evtArea_canStat hc) List.not_mem_nil, Dev.reg_setReg]

theorem Told.canGo : Told [A.canStat c] d (d.canGo c v) := ite (refl d) ((canStatTo hc v d).trans (moorSend _ _ _))

theorem Told.canDelay (delay : Nat) (fd : Bool) : Told [A.canStat c] d (d.canDelay c delay fd) :=
  ite (refl d) (ite (raise _ d (by omega) c) (canGo hc _ d))

theorem Told.canHeard : Told [A.canStat c] d (d.canHeard c) := ite (canGo hc _ d) (refl d)

end

theorem Dev.canGo_follower {d : Dev} (h : d.follows = true) (c : Nat) (v : Word) : d.canGo c v = d := if_pos (by rw [h, Bool.true_or])

theorem Dev.canHeard_follower {d : Dev} (h : d.follows = true) (c : Nat) : d.canHeard c = d := by
  unfold Dev.canHeard
  dsimp only
  rw [Dev.canGo_follower h, ite_self]

section
variable {c : Nat} {d : Dev} (hc : c < 4) (hf : d.follows = false)
include hc hf

/-- A twin with authority, like a single device, shows what its controller goes to. -/
theorem Dev.reg_canGo (v : Word) : (d.canGo c v).reg (A.canStat c) = v := by
  unfold Dev.canGo
  rw [hf, Bool.false_or]
  split
  · next h => exact (beq_iff_eq.1 h).symm
  · rw [Dev.reg_congr (Dev.moorSend_regs _ _), Dev.reg_canStatTo hc]

omit hc in
/-- A change of state is told, with the events of bus-off and error-passive. -/
theorem Dev.canGo_changes {v : Word} (h : d.canState c ≠ v.field 31 30) : d.canGo c v = (d.canStatTo c v).moorSend (.canStat c v) := by
  refine if_neg ?_
  rw [hf, Bool.false_or, beq_iff_eq]
  rintro rfl
  exact h rfl

theorem Dev.canGo_busOff_pending {v : Word} (h : d.canState c ≠ v.field 31 30) (hev : v.field 31 30 = 2 ∨ d.canState c = 3) :
    (d.canGo c v).eventPending (320 + 8 * c) = true := by
  rw [Dev.canGo_changes hf h]
  have raised := (d.setReg (A.canStat c) v).raiseIf_pending (b := !(d.canState c == v.field 31 30) && (v.field 31 30 == 2 || d.canState c == 3))
    (by simp [h, hev]) (e := 320 + 8 * c) (by omega) c
  have kept := (Told.raiseIf [] ((d.setReg (A.canStat c) v).raiseIf (!(d.canState c == v.field 31 30) && (v.field 31 30 == 2 || d.canState c == 3)) (320 + 8 * c) c)
    (!(d.canState c == v.field 31 30) && (v.field 31 30 == 1 || d.canState c == 1)) (e := 321 + 8 * c) (by omega) c).trans (.moorSend _ _ (.canStat c v))
  exact kept.pend.eventPending (by omega) raised

theorem Dev.canGo_passive_pending {v : Word} (h : d.canState c ≠ v.field 31 30) (hev : v.field 31 30 = 1 ∨ d.canState c = 1) :
    (d.canGo c v).eventPending (321 + 8 * c) = true := by
  rw [Dev.canGo_changes hf h]
  have raised := ((d.setReg (A.canStat c) v).raiseIf (!(d.canState c == v.field 31 30) && (v.field 31 30 == 2 || d.canState c == 3)) (320 + 8 * c) c).raiseIf_pending
    (b := !(d.canState c == v.field 31 30) && (v.field 31 30 == 1 || d.canState c == 1)) (by simp [h, hev]) (e := 321 + 8 * c) (by omega) c
  exact (Told.moorSend [] _ (.canStat c v)).pend.eventPending (by omega) raised

theorem Dev.canState_canGo (v : Word) : (d.canGo c v).canState c = v.field 31 30 := by
  unfold Dev.canState Dev.fld
  rw [Dev.reg_canGo hc hf]

/-- A frame heard lowers the receive error counter, up to 127 (log entry 180). -/
theorem Dev.rec_canHeard : (d.canHeard c).fld (A.canStat c) 15 8 =
    if d.fld (A.canStat c) 15 8 ≤ 127 then d.fld (A.canStat c) 15 8 - 1 else d.fld (A.canStat c) 15 8 := by
  unfold Dev.canHeard
  dsimp only
  split
  · unfold Dev.fld at *
    rw [Dev.reg_canGo hc hf, Word.field_setField_same _ _ (by decide) (by decide)]
    omega
  · rfl

end

/-! Frames received (14 R474-R475, R481, R496). -/

/-- What tells a profile frame is the topology and the fitted controllers. -/
theorem Dev.profileFrame_congr {d e : Dev} (himg : e.img = d.img) (hunit : e.reg A.sysUnitmap = d.reg A.sysUnitmap) (c : Nat) (f : CanFrame) :
    e.profileFrame c f = d.profileFrame c f := by
  unfold Dev.profileFrame Dev.dispatches Dev.topo Dev.hasCan
  rw [himg, Dev.rbit_congr hunit]

/-- The device once it has heard a frame. -/
def Dev.heard (c : Nat) (f : CanFrame) (d : Dev) : Dev := (d.at f.t).canHeard c

section
variable {c : Nat} {s : State} (hc : s.dev.hasCan c = true) (f : CanFrame)
include hc

theorem Told.heard : Told [A.canStat c] (s.dev.at f.t) (s.dev.heard c f) := .canHeard (Dev.hasCan_lt hc) _

theorem Dev.heard_regs : RegsKept [A.canStat c] s.dev (s.dev.heard c f) := (Told.heard hc f).regs

theorem Dev.profileFrame_heard : (s.dev.heard c f).profileFrame c f = s.dev.profileFrame c f := by
  have told := Told.heard hc f
  exact Dev.profileFrame_congr told.img (told.reg (by decide) (roleRegs_canStat c _ (by simp [roleRegs]))) c f

theorem Dev.authority_heard : (s.dev.heard c f).authority = s.dev.authority := (Told.heard hc f).authority (roleRegs_canStat c)

theorem Dev.heard_can : (s.dev.heard c f).can c = s.dev.can c := Dev.can_congr (Told.heard hc f).cans c

/-- A protocol exception raises an event, and nothing is received (14 R496). -/
theorem canFrameRx_exception : ∃ t, exec (.canFrameRx c true f) s = .next t ∧ t.dev.eventPending (326 + 8 * c) = true ∧
    t.dev.cans = s.dev.cans ∧ RegsKept [] s.dev t.dev ∧ DevOnly s t := by
  have hlt := Dev.hasCan_lt hc
  have told : Told [] (s.dev.at f.t) ((s.dev.at f.t).canEvent c 6) := .raise _ _ (by omega) c
  have pending := (s.dev.at f.t).raise_pending (e := 320 + 8 * c + 6) (by omega) c
  refine ⟨_, present_next _ hc, ?_, told.cans, told.regs, rfl, rfl⟩
  rw [show 326 + 8 * c = 320 + 8 * c + 6 by omega]
  exact pending

/-- A frame that is no profile frame waits for its tick at the authority, and is remembered at a mirror. -/
theorem exec_canFrameRx_plant (h : s.dev.profileFrame c f = none) : exec (.canFrameRx c false f) s = .next { s with dev :=
    (if (s.dev.heard c f).authority then
      ((s.dev.heard c f).setCan c (fun x => { x with waiting := x.waiting ++ [(f, (s.dev.heard c f).time.now)] })).moorSend (.canFrame c f)
    else (s.dev.heard c f).setCan c (fun x => { x with seen := x.seen ++ [(f, (s.dev.heard c f).time.now)] })) } := by
  have hp := (Dev.profileFrame_heard hc f).trans h
  refine (present_next _ hc).trans (next_dev_congr ?_)
  unfold Dev.heard at *
  simp only [Bool.false_eq_true, if_false, hp]

theorem exec_canFrameRx_profile {ok : Bool} (h : s.dev.profileFrame c f = some ok) : exec (.canFrameRx c false f) s = .next { s with dev :=
    (if ok || (s.dev.heard c f).follows then s.dev.heard c f
    else ((s.dev.heard c f).bump (A.canRxlost c) (A.canOvf c) 0).moorSend (.canLost c)) } := by
  have hp := (Dev.profileFrame_heard hc f).trans h
  refine (present_next _ hc).trans (next_dev_congr ?_)
  unfold Dev.heard at *
  simp only [Bool.false_eq_true, if_false, hp]

/-- Whatever frame it is, CAN.STAT shows what was heard. -/
theorem canFrameRx_rec (hf : s.dev.follows = false) : ∃ t, exec (.canFrameRx c false f) s = .next t ∧ t.dev.fld (A.canStat c) 15 8 =
    if s.dev.fld (A.canStat c) 15 8 ≤ 127 then s.dev.fld (A.canStat c) 15 8 - 1 else s.dev.fld (A.canStat c) 15 8 := by
  have hrec : (s.dev.heard c f).fld (A.canStat c) 15 8 = _ := Dev.rec_canHeard (d := s.dev.at f.t) (Dev.hasCan_lt hc) hf
  cases hp : s.dev.profileFrame c f with
  | none =>
    refine ⟨_, exec_canFrameRx_plant hc f hp, (Dev.fld_congr (Dev.reg_congr ?_ _) 15 8).trans hrec⟩
    dsimp only
    split
    · exact Dev.moorSend_regs _ _
    · rfl
  | some ok =>
    refine ⟨_, exec_canFrameRx_profile hc f hp, (Dev.fld_congr ?_ 15 8).trans hrec⟩
    dsimp only
    split
    · rfl
    · rw [Dev.reg_congr (Dev.moorSend_regs _ _)]
      exact Dev.reg_bump_other _ 0 (by unfold A.canStat A.canRxlost; omega) (by unfold A.canStat A.canOvf; omega)

theorem canFrameRx_plant (h : s.dev.profileFrame c f = none) : ∃ t, exec (.canFrameRx c false f) s = .next t ∧ RegsKept [A.canStat c] s.dev t.dev ∧
    DevOnly s t ∧ (s.dev.authority = true → (t.dev.can c).waiting = (s.dev.can c).waiting ++ [(f, max s.dev.time.now f.t)]) ∧
    (s.dev.authority = false → (t.dev.can c).seen = (s.dev.can c).seen ++ [(f, max s.dev.time.now f.t)]) := by
  have regs := Dev.heard_regs hc f
  have now : (s.dev.heard c f).time.now = max s.dev.time.now f.t := congrArg TimeSt.now (Told.heard hc f).time
  have hexec := exec_canFrameRx_plant hc f h
  rw [Dev.authority_heard hc f, now] at hexec
  cases hauth : s.dev.authority with
  | true =>
    rw [hauth, if_pos rfl] at hexec
    refine ⟨_, hexec, fun a ha hl => (Dev.reg_congr (Dev.moorSend_regs _ _) a).trans (regs a ha hl), ⟨rfl, rfl⟩, fun _ => ?_, fun h => absurd h (by decide)⟩
    rw [Dev.can_congr (Dev.moorSend_cans _ _)]
    exact (congrArg CanSt.waiting (Dev.can_setCan _ c _)).trans (congrArg (fun x : CanSt => x.waiting ++ _) (Dev.heard_can hc f))
  | false =>
    rw [hauth, if_neg Bool.false_ne_true] at hexec
    refine ⟨_, hexec, regs, ⟨rfl, rfl⟩, fun h => absurd h (by decide), fun _ => ?_⟩
    exact (congrArg CanSt.seen (Dev.can_setCan _ c _)).trans (congrArg (fun x : CanSt => x.seen ++ _) (Dev.heard_can hc f))

theorem canFrameRx_good (h : s.dev.profileFrame c f = some true) : ∃ t, exec (.canFrameRx c false f) s = .next t ∧
    RegsKept [A.canStat c] s.dev t.dev ∧ t.dev.cans = s.dev.cans ∧ DevOnly s t :=
  ⟨_, exec_canFrameRx_profile hc f h, Dev.heard_regs hc f, (Told.heard hc f).cans, rfl, rfl⟩

theorem canFrameRx_bad_follower (h : s.dev.profileFrame c f = some false) (hf : s.dev.follows = true) :
    exec (.canFrameRx c false f) s = .next { s with dev := s.dev.at f.t } := by
  have heard : s.dev.heard c f = s.dev.at f.t := Dev.canHeard_follower (d := s.dev.at f.t) hf c
  have hexec := exec_canFrameRx_profile hc f h
  rwa [heard, if_pos (by exact hf)] at hexec

theorem canFrameRx_bad (h : s.dev.profileFrame c f = some false) (hf : s.dev.follows = false) : ∃ t, exec (.canFrameRx c false f) s = .next t ∧
    t.dev.reg (A.canRxlost c) = satInc (s.dev.reg (A.canRxlost c)) ∧ t.dev.cans = s.dev.cans ∧ DevOnly s t := by
  have hlt := Dev.hasCan_lt hc
  have told := Told.heard hc f
  have hfollows : (s.dev.heard c f).follows = false := (told.follows (roleRegs_canStat c)).trans hf
  have lost : (s.dev.heard c f).reg (A.canRxlost c) = s.dev.reg (A.canRxlost c) :=
    told.reg (evtArea_between (by unfold A.canRxlost; omega) (by unfold A.canRxlost; omega)) (by rw [List.mem_singleton]; unfold A.canRxlost A.canStat; omega)
  have hexec := exec_canFrameRx_profile hc f h
  rw [hfollows, if_neg (by decide)] at hexec
  refine ⟨_, hexec, ?_, ?_, rfl, rfl⟩
  · rw [Dev.reg_congr (Dev.moorSend_regs _ _), Dev.reg_bump _ 0 (by unfold A.canRxlost A.canOvf; omega), lost]
  · rw [Dev.moorSend_cans, Dev.bump_regs]
    exact told.cans

/-! Frames sent (14 R472, R477). -/

theorem canFrameSent_idle {o u : Nat} (v : Nat) (h : 2 ≤ s.dev.canState c ∨ s.dev.follows = true ∨ (s.dev.can c).ropMode = true ∨
    ((s.dev.can c).obj o).pend = none ∨ (s.dev.can c).outranked o u = true) : exec (.canFrameSent c o u v) s = .next s := by
  refine (present_next _ hc).trans (next_dev_congr (if_pos ?_))
  simp only [Bool.or_eq_true, decide_eq_true_eq, Option.isNone_iff_eq_none, or_assoc]
  exact h

theorem canFrameSent_completes {o u : Nat} (v : Nat) (hst : s.dev.canState c < 2) (hf : s.dev.follows = false) (hrop : (s.dev.can c).ropMode = false)
    (hpend : ((s.dev.can c).obj o).pend ≠ none) (hout : (s.dev.can c).outranked o u = false) : ∃ t, exec (.canFrameSent c o u v) s = .next t ∧
    (t.dev.can c).obj o = CanObj.complete u ((s.dev.can c).obj o) ∧ (∀ k, k ≠ o → (t.dev.can c).obj k = (s.dev.can c).obj k) ∧
    RegsKept [A.canStat c] s.dev t.dev ∧ DevOnly s t := by
  have hlt := Dev.hasCan_lt hc
  have told := (Told.canGo hlt ((s.dev.reg (A.canStat c)).setField 7 0 (s.dev.fld (A.canStat c) 7 0 - 1)) s.dev).trans
    (.canDelay hlt _ v (((s.dev.can c).obj o).fdf && ((s.dev.can c).obj o).brs))
  have hgo : (decide (2 ≤ s.dev.canState c) || s.dev.follows || (s.dev.can c).ropMode || ((s.dev.can c).obj o).pend.isNone ||
      (s.dev.can c).outranked o u) = false := by
    simp [hst, hf, hrop, hout, Option.isSome_iff_ne_none.2 hpend]
  have completed : ∀ e : Dev, e.cans = s.dev.cans →
      ((e.setCan c (fun x => x.setObj o (CanObj.complete u))).moorSend (.canSent c o u)).can c = (s.dev.can c).setObj o (CanObj.complete u) := by
    intro e he
    rw [Dev.can_congr (Dev.moorSend_cans _ _), Dev.can_setCan, Dev.can_congr he]
  replace completed := completed _ told.cans
  refine ⟨_, (present_next _ hc).trans (next_dev_congr (if_neg (ne_true_of_eq_false hgo))), ?_, fun k hk => ?_, fun a ha hl => ?_, rfl, rfl⟩
  · rw [completed, CanSt.obj_setObj]
  · rw [completed, CanSt.obj_setObj_other _ _ hk]
  · exact (Dev.reg_congr (Dev.moorSend_regs _ _) a).trans (told.regs a ha hl)

end
end Sys2Proof.Machine
end

section
/-! Bus-off, error-passive, recovery and restricted operation of a CAN controller (14 R471, R478-R480). -/

namespace Sys2Proof.Machine
open Sys2Proof

section
variable {c : Nat} {s : State} (hc : s.dev.hasCan c = true)
include hc

theorem canBusOff_idle (h : s.dev.canState c = 2 ∨ s.dev.follows = true) : exec (.canBusOff c) s = .next s := by
  refine (present_next _ hc).trans (next_dev_congr ?_)
  dsimp only
  split
  · rfl
  · next hst => exact Dev.canGo_follower (h.resolve_left hst) c _

theorem canBusOff_enters (h : s.dev.canState c ≠ 2) (hf : s.dev.follows = false) : ∃ t, exec (.canBusOff c) s = .next t ∧ t.dev.canState c = 2 ∧
    t.dev.eventPending (320 + 8 * c) = true ∧ RegsKept [A.canStat c] s.dev t.dev ∧ DevOnly s t := by
  have hlt := Dev.hasCan_lt hc
  have hv : ((s.dev.reg (A.canStat c)).setField 31 30 2).field 31 30 = 2 := Word.field_setField_same _ 2 (by decide) (by decide)
  exact ⟨_, (present_next _ hc).trans (next_dev_congr (if_neg h)), (Dev.canState_canGo hlt hf _).trans hv,
    Dev.canGo_busOff_pending hlt hf (by rwa [hv]) (.inl hv), (Told.canGo hlt _ _).regs, rfl, rfl⟩

theorem canErrorPassive_idle {b : Bool} (u v : Nat) (h : s.dev.canState c ≠ 1 - b2n b ∨ s.dev.follows = true) :
    exec (.canErrorPassive c b u v) s = .next s := by
  refine (present_next _ hc).trans (next_dev_congr ?_)
  dsimp only
  split
  · next hst => exact Dev.canGo_follower (h.resolve_left fun hne => hne hst) c _
  · rfl

theorem canErrorPassive_moves {b : Bool} (u v : Nat) (h : s.dev.canState c = 1 - b2n b) (hf : s.dev.follows = false) :
    ∃ t, exec (.canErrorPassive c b u v) s = .next t ∧ t.dev.canState c = b2n b ∧ t.dev.fld (A.canStat c) 15 8 = u % 256 ∧
      t.dev.fld (A.canStat c) 7 0 = v % 256 ∧ t.dev.eventPending (321 + 8 * c) = true ∧ RegsKept [A.canStat c] s.dev t.dev ∧ DevOnly s t := by
  have hlt := Dev.hasCan_lt hc
  have hstate : ((((s.dev.reg (A.canStat c)).setField 31 30 (b2n b)).setField 15 8 u).setField 7 0 v).field 31 30 = b2n b := by
    rw [Word.field_setField_apart _ v (by decide) (by decide) (by decide) (by decide),
      Word.field_setField_apart _ u (by decide) (by decide) (by decide) (by decide), Word.field_setField_same _ _ (by decide) (by decide)]
    cases b <;> rfl
  have hrec : ((((s.dev.reg (A.canStat c)).setField 31 30 (b2n b)).setField 15 8 u).setField 7 0 v).field 15 8 = u % 256 := by
    exact (Word.field_setField_apart _ v (by decide) (by decide) (by decide) (by decide)).trans (Word.field_setField_same _ u (by decide) (by decide))
  have hreg := Dev.reg_canGo hlt hf ((((s.dev.reg (A.canStat c)).setField 31 30 (b2n b)).setField 15 8 u).setField 7 0 v)
  have hpending : (s.dev.canGo c ((((s.dev.reg (A.canStat c)).setField 31 30 (b2n b)).setField 15 8 u).setField 7 0 v)).eventPending (321 + 8 * c) = true := by
    refine Dev.canGo_passive_pending hlt hf ?_ ?_
    · rw [hstate, h]
      cases b <;> decide
    · rw [hstate, h]
      cases b <;> decide
  refine ⟨_, (present_next _ hc).trans (next_dev_congr (if_pos h)), (Dev.canState_canGo hlt hf _).trans hstate, ?_, ?_, hpending,
    (Told.canGo hlt _ _).regs, rfl, rfl⟩
  · exact (congrArg (fun w : Word => w.field 15 8) hreg).trans hrec
  · exact (congrArg (fun w : Word => w.field 7 0) hreg).trans (Word.field_setField_same _ v (by decide) (by decide))

theorem busOffRecovery_idle (h : s.dev.canState c ≠ 2) : exec (.busOffRecovery c) s = .next s :=
  (present_next _ hc).trans (next_dev_congr (if_neg h))

theorem busOffRecovery_starts (h : s.dev.canState c = 2) : ∃ t, exec (.busOffRecovery c) s = .next t ∧ t.dev.canState c = 3 ∧
    (∀ a, a ≠ A.canStat c → t.dev.reg a = s.dev.reg a) ∧ PlantOnly s t :=
  ⟨_, (present_next _ hc).trans (next_dev_congr (if_pos h)), Dev.fld_setFld_same _ _ 3 (by decide) (by decide),
    fun _ ha => Dev.reg_setFld_other _ 31 30 3 ha, (PlantKept.refl s.dev).plantOnly⟩

theorem busOffRecovered_idle (h : s.dev.canState c ≠ 3 ∨ s.dev.follows = true) : exec (.busOffRecovered c) s = .next s := by
  refine (present_next _ hc).trans (next_dev_congr ?_)
  dsimp only
  split
  · next hst => exact Dev.canGo_follower (h.resolve_left fun hne => hne hst) c _
  · rfl

theorem busOffRecovered_ends (h : s.dev.canState c = 3) (hf : s.dev.follows = false) : ∃ t, exec (.busOffRecovered c) s = .next t ∧ t.dev.canState c = 0 ∧
    t.dev.fld (A.canStat c) 15 0 = 0 ∧ t.dev.eventPending (320 + 8 * c) = true ∧ DevOnly s t := by
  have hlt := Dev.hasCan_lt hc
  have hstate : (((s.dev.reg (A.canStat c)).setField 31 30 0).setField 15 0 0).field 31 30 = 0 := by
    exact (Word.field_setField_apart _ 0 (by decide) (by decide) (by decide) (by decide)).trans (Word.field_setField_same _ 0 (by decide) (by decide))
  refine ⟨_, (present_next _ hc).trans (next_dev_congr (if_pos h)), (Dev.canState_canGo hlt hf _).trans hstate, ?_,
    Dev.canGo_busOff_pending hlt hf (by rw [hstate, h]; decide) (.inr h), rfl, rfl⟩
  exact (congrArg (fun w : Word => w.field 15 0) (Dev.reg_canGo hlt hf _)).trans (Word.field_setField_same _ 0 (by decide) (by decide))

end

/-- The agreed mode and CAN.STAT.ROP (log entry 30). -/
theorem Dev.setRop_shows (c : Nat) (b : Bool) (d : Dev) : (d.setRop c b).rbit (A.canStat c) 29 = b ∧ ((d.setRop c b).can c).ropMode = b :=
  ⟨by unfold Dev.setRop; rw [Dev.rbit_setRbit _ _ _ _ _ (by decide) (by decide), if_pos rfl], 
    congrArg CanSt.ropMode (Dev.can_setCan d c fun x => { x with ropMode := b })⟩

theorem restrictedEnter_enters {c : Nat} {s : State} (hc : s.dev.hasCan c = true) : ∃ t, exec (.restrictedEnter c) s = .next t ∧
    t.dev.rbit (A.canStat c) 29 = true ∧ (t.dev.can c).ropMode = true ∧ DevOnly s t := by
  obtain ⟨hbit, hmode⟩ := s.dev.setRop_shows c true
  exact ⟨_, present_next _ hc, hbit, hmode, rfl, rfl⟩

theorem restrictedLeave_leaves {c : Nat} {s : State} (hc : s.dev.hasCan c = true) : ∃ t, exec (.restrictedLeave c) s = .next t ∧
    t.dev.rbit (A.canStat c) 29 = false ∧ (t.dev.can c).ropMode = false ∧ DevOnly s t := by
  obtain ⟨hbit, hmode⟩ := s.dev.setRop_shows c false
  exact ⟨_, present_next _ hc, hbit, hmode, rfl, rfl⟩

theorem exec_can_absent {c : Nat} {s : State} (h : s.dev.hasCan c = false) (f : CanFrame) (o : Nat) (b : Bool) (u v : Nat) :
    ∀ i ∈ [Instr.canFrameRx c b f, .canFrameSent c o u v, .canBusOff c, .canErrorPassive c b u v, .busOffRecovery c, .busOffRecovered c,
      .restrictedEnter c, .restrictedLeave c], exec i s = .fault .noSuchUnit := by
  simp only [List.forall_mem_cons, List.not_mem_nil, IsEmpty.forall_iff, implies_true, and_true]
  exact ⟨present_absent _ h, present_absent _ h, present_absent _ h, present_absent _ h, present_absent _ h, present_absent _ h,
    present_absent _ h, present_absent _ h⟩

end Sys2Proof.Machine
end

section
/-! The CAN dispatch profile (14 R481-R483, 09 R329-R331). -/

namespace Sys2Proof.Machine
open Sys2Proof

theorem Dev.dispCtl_lt {d : Dev} (h : d.dispatches d.topo.dispCtl = true) : d.topo.dispCtl < 4 := by
  unfold Dev.dispatches at h
  rw [Bool.and_eq_true] at h
  exact Dev.hasCan_lt h.2

theorem profileCmd_without {s : State} (h : s.dev.dispatches s.dev.topo.dispCtl = false) (f : Dev → Dev) : profileCmd f s = .next s :=
  congrArg Host.Outcome.next (if_neg (ne_true_of_eq_false h))

theorem exec_profile_without {s : State} (h : s.dev.dispatches s.dev.topo.dispCtl = false) (m : Nat) (r : PcsReq) :
    ∀ i ∈ [Instr.profileHello m, .heartbeat, .profileRequest r, .profileWithdraw r, .profileReportSend, .ptoExpiry], exec i s = .next s := by
  simp only [List.forall_mem_cons, List.not_mem_nil, IsEmpty.forall_iff, implies_true, and_true]
  exact ⟨profileCmd_without h _, profileCmd_without h _, profileCmd_without h _, profileCmd_without h _, profileCmd_without h _, profileCmd_without h _⟩

theorem Dev.profileReq_follower {d : Dev} (h : d.follows = true) (r : PcsReq) : d.profileReq r = d.wake := if_pos h

theorem Told.topo {l : List Nat} {d e : Dev} (h : Told l d e) : e.topo = d.topo := by
  unfold Dev.topo
  rw [h.img]

theorem Woken.topo {d e : Dev} (h : Woken d e) : e.topo = d.topo := by
  unfold Dev.topo
  rw [h.img]

/-! What the profile's parts leave. -/

theorem Told.tellProfile (l : List Nat) (d : Dev) : Told l d d.tellProfile := ite (moorSend l d _) (refl d)

/-- A good frame restarts the timeout, and of the device changes nothing else but events (14 R483). -/
theorem Told.pcsAlive {d : Dev} (h : d.topo.dispCtl < 4) (l : List Nat) :
    Told l { d with disp := { d.disp with ptoOut := false, lastT := d.time.now } } d.pcsAlive := by
  have hlt : 320 + 8 * ({ d with disp := { d.disp with ptoOut := false, lastT := d.time.now } } : Dev).topo.dispCtl + 7 < 384 := by
    have : ({ d with disp := { d.disp with ptoOut := false, lastT := d.time.now } } : Dev).topo.dispCtl = d.topo.dispCtl := rfl
    omega
  exact ite (raise l _ hlt _) (refl _)

section
variable {s : State} (hd : s.dev.dispatches s.dev.topo.dispCtl = true)
include hd

theorem profileCmd_with (f : Dev → Dev) : profileCmd f s = .next (s.onDev f) := congrArg Host.Outcome.next (if_pos hd)

theorem heartbeat_follower (hf : s.dev.follows = true) : exec .heartbeat s = .next s :=
  (profileCmd_with hd _).trans (next_dev_congr (if_pos hf))

theorem exec_profile_follower (hf : s.dev.follows = true) (hawake : s.dev.pstate ≠ 2) (m : Nat) (r : PcsReq) :
    ∀ i ∈ [Instr.profileHello m, .profileRequest r, .profileWithdraw r], exec i s = .next s := by
  have asleep := Dev.wake_awake hawake
  simp only [List.forall_mem_cons, List.not_mem_nil, IsEmpty.forall_iff, implies_true, and_true]
  exact ⟨(profileCmd_with hd _).trans (next_dev_congr ((if_pos hf).trans asleep)),
    (profileCmd_with hd _).trans (next_dev_congr ((Dev.profileReq_follower hf _).trans asleep)),
    (profileCmd_with hd _).trans (next_dev_congr ((Dev.profileReq_follower hf _).trans asleep))⟩

theorem heartbeat_restarts (hf : s.dev.follows = false) : ∃ t, exec .heartbeat s = .next t ∧ t.dev.disp.ptoOut = false ∧
    t.dev.disp.lastT = s.dev.time.now ∧ RegsKept [] s.dev t.dev ∧ DevOnly s t := by
  have told := (Told.pcsAlive (Dev.dispCtl_lt hd) []).trans (.tellProfile [] _)
  exact ⟨_, (profileCmd_with hd _).trans (next_dev_congr (if_neg (ne_true_of_eq_false hf))), congrArg DispSt.ptoOut told.disp,
    congrArg DispSt.lastT told.disp, told.regs, rfl, rfl⟩

theorem profileHello_chooses (m : Nat) (hf : s.dev.follows = false) : ∃ t, exec (.profileHello m) s = .next t ∧
    t.dev.disp.ver = chooseVer m s.dev.topo.pmax ∧ t.dev.disp.ptoOut = false ∧ t.dev.disp.lastT = s.dev.time.now ∧ DevOnly s t := by
  have alive := Told.pcsAlive (Dev.dispCtl_lt hd) []
  have woken := Woken.wake s.dev.pcsAlive
  have hdisp : s.dev.pcsAlive.wake.disp = { s.dev.disp with ptoOut := false, lastT := s.dev.time.now } := woken.disp.trans alive.disp
  have htopo : s.dev.pcsAlive.wake.topo = s.dev.topo := woken.topo.trans alive.topo
  have told : ∀ e : Dev, e.topo = s.dev.topo → Told [] e (if chooseVer m s.dev.topo.pmax = 0 then e else e.canEvent e.topo.dispCtl 7).tellProfile := by
    intro e he
    have hlt : 320 + 8 * e.topo.dispCtl + 7 < 384 := by
      have := Dev.dispCtl_lt hd
      rw [he]
      omega
    exact (Told.ite (.refl e) (.raise [] e hlt _)).trans (.tellProfile [] _)
  replace told := told (({ s.dev.pcsAlive.wake with disp := { s.dev.pcsAlive.wake.disp with ver := chooseVer m s.dev.topo.pmax } } : Dev).sendProfile 1
    [chooseVer m s.dev.topo.pmax, 0, 0, 0, 0, 0]) htopo
  refine ⟨_, (profileCmd_with hd _).trans (next_dev_congr (if_neg (ne_true_of_eq_false hf))), congrArg DispSt.ver told.disp,
    (congrArg DispSt.ptoOut told.disp).trans (congrArg DispSt.ptoOut hdisp), (congrArg DispSt.lastT told.disp).trans (congrArg DispSt.lastT hdisp), rfl, rfl⟩

end

/-- A good frame of the PCS leaves what a report computation's scan is told by. -/
theorem Dev.reportDue_pcsAlive {d : Dev} (h : d.topo.dispCtl < 4) : d.pcsAlive.reportDue = d.reportDue := by
  have alive := Told.pcsAlive h []
  have hcnpy : d.pcsAlive.cnpy = d.cnpy := by rw [alive.same]
  unfold Dev.reportDue Dev.scan
  rw [alive.time, hcnpy, alive.reg (a := A.cnpyConf) (by decide) (by simp), alive.reg (a := A.acqScan) (by decide) (by simp)]
  rfl

/-- A request that is acceptable and new is queued for the scan of its report computation, and acknowledged (14 R482, 09 R331). -/
theorem Dev.profileReq_accepts {d : Dev} (hctl : d.topo.dispCtl < 4) {r : PcsReq} (hver : d.disp.ver ≠ 0) (hauth : d.authority = true)
    (hnew : d.disp.lastSeq ≠ some r.seq) (hgood : badPcs r = false) :
    (d.profileReq r).disp.lastSeq = some r.seq ∧ (d.profileReq r).rep.pcsQ = d.rep.pcsQ ++ [(d.reportDue, r)] := by
  have alive := Told.pcsAlive hctl []
  have woken := Woken.wake d.pcsAlive
  have hdisp : d.pcsAlive.wake.disp = { d.disp with ptoOut := false, lastT := d.time.now } := woken.disp.trans alive.disp
  have hauth' : d.pcsAlive.wake.authority = true := by
    rw [woken.authority, alive.authority (by simp)]
    exact hauth
  have hrep : d.pcsAlive.wake.rep = d.rep := woken.rep.trans alive.rep
  have hdue : d.pcsAlive.wake.reportDue = d.reportDue := woken.reportDue.trans (Dev.reportDue_pcsAlive hctl)
  have accepted : d.profileReq r = ((({ d.pcsAlive.wake with disp := { d.pcsAlive.wake.disp with lastSeq := some r.seq } } : Dev).acceptPcs r d.reportDue).sendProfile 9
      (reqAck r.seq 0 d.reportDue)).tellProfile := by
    have hanswers : ¬(d.pcsAlive.wake.disp.ver = 0 ∨ d.pcsAlive.wake.authority = false) := by
      rw [hdisp, hauth']
      simpa using hver
    have hunseen : d.pcsAlive.wake.disp.lastSeq ≠ some r.seq := by
      rw [hdisp]
      exact hnew
    unfold Dev.profileReq
    rw [if_neg (ne_true_of_eq_false (Dev.follows_of_authority hauth))]
    dsimp only
    rw [if_neg hanswers, if_neg (ne_true_of_eq_false hgood), if_neg hunseen, hdue]
  have queued : Told [] ({ ({ d.pcsAlive.wake with disp := { d.pcsAlive.wake.disp with lastSeq := some r.seq } } : Dev) with
      rep := { d.pcsAlive.wake.rep with pcsQ := d.pcsAlive.wake.rep.pcsQ ++ [(d.reportDue, r)] } })
      (({ d.pcsAlive.wake with disp := { d.pcsAlive.wake.disp with lastSeq := some r.seq } } : Dev).acceptPcs r d.reportDue) := .ite (.moorSend _ _ _) (.refl _)
  have told := Told.tellProfile [] ((({ d.pcsAlive.wake with disp := { d.pcsAlive.wake.disp with lastSeq := some r.seq } } : Dev).acceptPcs r d.reportDue).sendProfile 9
      (reqAck r.seq 0 d.reportDue))
  rw [accepted]
  constructor
  · exact (congrArg DispSt.lastSeq told.disp).trans (congrArg DispSt.lastSeq queued.disp)
  · refine (congrArg RepSt.pcsQ (told.rep.trans queued.rep)).trans ?_
    rw [hrep]

/-- The frames of a report (14 R483). -/
def Dev.sendReports (d : Dev) : Dev :=
  let d := d.sendProfile 0x10 d.grantFrame
  let d := d.sendProfile 0x11 d.stateFrame
  if d.disp.ver = 2 then d.sendProfile 0x12 d.limitsFrame else d

/-- Frames sent leave the registers and the count of scans to the next report. -/
theorem Dev.sendReports_kept (d : Dev) : d.sendReports.regs = d.regs ∧ d.sendReports.disp.scansTo = d.disp.scansTo := by
  unfold Dev.sendReports
  dsimp only
  split
  · exact ⟨rfl, rfl⟩
  · exact ⟨rfl, rfl⟩

/-- The scan counted toward the next report. -/
def Dev.countReport (d : Dev) : Dev :=
  { d with disp := { d.disp with scansTo := if decide (d.topo.pdiv ≤ d.disp.scansTo + 1) then 0 else d.disp.scansTo + 1 } }

theorem profileReportSend_counts {s : State} (hd : s.dev.dispatches s.dev.topo.dispCtl = true) : ∃ t, exec .profileReportSend s = .next t ∧
    t.dev.disp.scansTo = (if s.dev.topo.pdiv ≤ s.dev.disp.scansTo + 1 then 0 else s.dev.disp.scansTo + 1) ∧ t.dev.regs = s.dev.regs ∧ DevOnly s t := by
  have counted : exec .profileReportSend s = .next { s with dev := (if decide (s.dev.topo.pdiv ≤ s.dev.disp.scansTo + 1) = true ∧
      1 ≤ s.dev.countReport.disp.ver then s.dev.countReport.sendReports else s.dev.countReport) } := profileCmd_with hd _
  have hscans : s.dev.countReport.disp.scansTo = if s.dev.topo.pdiv ≤ s.dev.disp.scansTo + 1 then 0 else s.dev.disp.scansTo + 1 := by
    simp only [Dev.countReport, decide_eq_true_eq]
  obtain ⟨hregs, hcount⟩ := s.dev.countReport.sendReports_kept
  refine ⟨_, counted, ?_, ?_, rfl, rfl⟩
  · dsimp only
    split
    · exact hcount.trans hscans
    · exact hscans
  · dsimp only
    split
    · exact hregs
    · rfl

section
variable {s : State} (hd : s.dev.dispatches s.dev.topo.dispCtl = true)
include hd

theorem profileRequest_queued {r : PcsReq} (hver : s.dev.disp.ver ≠ 0) (hauth : s.dev.authority = true) (hnew : s.dev.disp.lastSeq ≠ some r.seq)
    (hgood : badPcs { r with withdraw := false } = false) : ∃ t, exec (.profileRequest r) s = .next t ∧ t.dev.disp.lastSeq = some r.seq ∧
      t.dev.rep.pcsQ = s.dev.rep.pcsQ ++ [(s.dev.reportDue, { r with withdraw := false })] ∧ DevOnly s t := by
  obtain ⟨hseq, hqueue⟩ := Dev.profileReq_accepts (r := { r with withdraw := false }) (Dev.dispCtl_lt hd) hver hauth hnew hgood
  exact ⟨_, profileCmd_with hd _, hseq, hqueue, rfl, rfl⟩

theorem profileWithdraw_queued {r : PcsReq} (hver : s.dev.disp.ver ≠ 0) (hauth : s.dev.authority = true) (hnew : s.dev.disp.lastSeq ≠ some r.seq)
    (hgood : badPcs { r with withdraw := true } = false) : ∃ t, exec (.profileWithdraw r) s = .next t ∧ t.dev.disp.lastSeq = some r.seq ∧
      t.dev.rep.pcsQ = s.dev.rep.pcsQ ++ [(s.dev.reportDue, { r with withdraw := true })] ∧ DevOnly s t := by
  obtain ⟨hseq, hqueue⟩ := Dev.profileReq_accepts (r := { r with withdraw := true }) (Dev.dispCtl_lt hd) hver hauth hnew hgood
  exact ⟨_, profileCmd_with hd _, hseq, hqueue, rfl, rfl⟩

theorem ptoExpiry_out (h : s.dev.disp.ptoOut = true) : exec .ptoExpiry s = .next s :=
  (profileCmd_with hd _).trans (next_dev_congr (if_pos h))

/-- The timeout drops the requests of both directions (14 R483). -/
theorem ptoExpiry_drops (h : s.dev.disp.ptoOut = false) : ∃ t, exec .ptoExpiry s = .next t ∧ t.dev.disp.ptoOut = true ∧ t.dev.rep.chg = none ∧
    t.dev.rep.dis = none ∧ t.dev.eventPending (327 + 8 * s.dev.topo.dispCtl) = true ∧ DevOnly s t := by
  have hlt : 320 + 8 * s.dev.topo.dispCtl + 7 < 384 := by
    have := Dev.dispCtl_lt hd
    omega
  have told := fun d : Dev => Told.raise [] d hlt s.dev.topo.dispCtl
  rw [show 327 + 8 * s.dev.topo.dispCtl = 320 + 8 * s.dev.topo.dispCtl + 7 by omega]
  exact ⟨_, (profileCmd_with hd _).trans (next_dev_congr (if_neg (ne_true_of_eq_false h))), congrArg DispSt.ptoOut (told _).disp,
    congrArg RepSt.chg (told _).rep, congrArg RepSt.dis (told _).rep, Dev.raise_pending _ hlt _, rfl, rfl⟩

end

end Sys2Proof.Machine
end

section
/-! The Ethernet ports and 802.1AS time (14 R484-R487, R501-R503). -/

namespace Sys2Proof.Machine
open Sys2Proof

theorem Told.setFld (l : List Nat) (d : Dev) {a : Nat} (hi lo v : Nat) (ha : a ∈ l) (hp : a < 0x40010000 ∨ 0x40010030 ≤ a) :
    Told l d (d.setFld a hi lo v) := .setReg d _ ha hp

theorem Told.setRbit (l : List Nat) (d : Dev) {a : Nat} (i : Nat) (b : Bool) (ha : a ∈ l) (hp : a < 0x40010000 ∨ 0x40010030 ≤ a) :
    Told l d (d.setRbit a i b) := .setReg d _ ha hp

/-- What is told outside `l` shows no other bits. -/
theorem Told.rbit {l : List Nat} {d e : Dev} (h : Told l d e) {a : Nat} (ha : evtArea a = false) (hl : a ∉ l) (i : Nat) : e.rbit a i = d.rbit a i :=
  Dev.rbit_congr (h.reg ha hl) i

theorem Told.fld {l : List Nat} {d e : Dev} (h : Told l d e) {a : Nat} (ha : evtArea a = false) (hl : a ∉ l) (hi lo : Nat) : e.fld a hi lo = d.fld a hi lo :=
  congrArg (fun w : Word => w.field hi lo) (h.reg ha hl)

theorem exec_eth_absent {p : Nat} {s : State} (h : s.dev.hasEth p = false) (a : Bool) (b : Nat) (k : EthKind) :
    ∀ i ∈ [Instr.ethLinkChange p a b, .ethFrameRx p k, .addressConflict p], exec i s = .fault .noSuchUnit := by
  simp only [List.forall_mem_cons, List.not_mem_nil, IsEmpty.forall_iff, implies_true, and_true]
  exact ⟨present_absent _ h, present_absent _ h, present_absent _ h⟩

theorem Dev.hasEth_lt {d : Dev} {p : Nat} (h : d.hasEth p = true) : p < 2 := by
  unfold Dev.hasEth at h
  rw [Bool.and_eq_true, decide_eq_true_eq] at h
  exact h.1

theorem ethStat_above (p : Nat) : A.ethStat p < 0x40010000 ∨ 0x40010030 ≤ A.ethStat p := by
  unfold A.ethStat
  omega

theorem evtArea_ethStat {p : Nat} (h : p < 2) : evtArea (A.ethStat p) = false := by
  interval_cases p <;> decide

section
variable {p : Nat} {s : State} (hp : s.dev.hasEth p = true)
include hp

theorem ethLinkChange_shows (b : Bool) (k : Nat) : ∃ t, exec (.ethLinkChange p b k) s = .next t ∧ t.dev.rbit (A.ethStat p) 31 = b ∧
    (s.dev.rbit (A.ethStat p) 31 ≠ b → t.dev.eventPending (352 + p) = true) ∧ RegsKept [A.ethStat p] s.dev t.dev ∧ DevOnly s t := by
  have hlt := Dev.hasEth_lt hp
  have hev : 352 + p < 384 := by omega
  have linked : ∃ d : Dev, Told [A.ethStat p] s.dev d ∧ d.rbit (A.ethStat p) 31 = b ∧
      exec (.ethLinkChange p b k) s = .next { s with dev := d.raiseIf (!(s.dev.rbit (A.ethStat p) 31 == b)) (352 + p) p } := by
    refine ⟨_, .ite (.trans (.setRbit _ _ 31 b (by simp) (ethStat_above p)) (.setFld _ _ _ _ _ (by simp) (ethStat_above p)))
      (.setRbit _ _ 31 b (by simp) (ethStat_above p)), ?_, present_next _ hp⟩
    have hbit : (s.dev.setRbit (A.ethStat p) 31 b).rbit (A.ethStat p) 31 = b := by
      rw [Dev.rbit_setRbit _ _ _ _ _ (by decide) (by decide), if_pos rfl]
    split
    · rw [Dev.rbit_setFld _ _ _ (by decide) (by decide) (by decide), if_neg (by decide), hbit]
    · exact hbit
  obtain ⟨d, told, hbit, hexec⟩ := linked
  have raised := Told.raiseIf [] d (!(s.dev.rbit (A.ethStat p) 31 == b)) hev p
  refine ⟨_, hexec, (raised.rbit (evtArea_ethStat hlt) (by simp) 31).trans hbit, fun hne => ?_, told.regs.trans ?_, rfl, rfl⟩
  · exact d.raiseIf_pending (by simpa using hne) hev p
  · exact (Told.raiseIf _ d _ hev p).regs

theorem ethFrameRx_answered (k : EthKind) (h : k ∈ [EthKind.arp, .icmp4Echo, .icmp6, .ptp]) : exec (.ethFrameRx p k) s = .next s := by
  simp only [List.mem_cons, List.not_mem_nil, or_false] at h
  obtain rfl | rfl | rfl | rfl := h
  · exact present_next _ hp
  · exact present_next _ hp
  · exact present_next _ hp
  · exact present_next _ hp

theorem ethFrameRx_dhcp : ∃ t, exec (.ethFrameRx p .dhcpLease) s = .next t ∧ t.dev.rbit (A.ethStat p) 27 = true ∧ PlantOnly s t :=
  ⟨_, present_next _ hp, (s.dev.rbit_setRbit _ _ _ _ (by decide) (by decide)).trans (if_pos rfl), (PlantKept.refl s.dev).plantOnly⟩

theorem ethFrameRx_tcpClose : ∃ t, exec (.ethFrameRx p .tcpClose) s = .next t ∧ t.dev.fld (A.ethStat p) 6 0 = s.dev.fld (A.ethStat p) 6 0 - 1 ∧
    PlantOnly s t := by
  have hlt : s.dev.fld (A.ethStat p) 6 0 < 128 := Nat.mod_lt _ (by decide)
  refine ⟨_, present_next _ hp, (s.dev.fld_setFld_same _ _ (by decide) (by decide)).trans (Nat.mod_eq_of_lt ?_), (PlantKept.refl s.dev).plantOnly⟩
  exact lt_of_le_of_lt (Nat.sub_le _ _) hlt

/-- A connection beyond the 72nd of both ports is reset (14 R486). -/
theorem ethFrameRx_tcpOpen_full (h : 72 ≤ s.dev.fld (A.ethStat 0) 6 0 + s.dev.fld (A.ethStat 1) 6 0) : exec (.ethFrameRx p .tcpOpen) s = .next s :=
  (present_next _ hp).trans (next_dev_congr (if_neg (by omega)))

theorem ethFrameRx_tcpOpen (h : s.dev.fld (A.ethStat 0) 6 0 + s.dev.fld (A.ethStat 1) 6 0 < 72) : ∃ t, exec (.ethFrameRx p .tcpOpen) s = .next t ∧
    t.dev.fld (A.ethStat p) 6 0 = s.dev.fld (A.ethStat p) 6 0 + 1 ∧ PlantOnly s t := by
  have hlt : s.dev.fld (A.ethStat p) 6 0 < 72 := by
    obtain rfl | rfl : p = 0 ∨ p = 1 := by have := Dev.hasEth_lt hp; omega
    · omega
    · omega
  refine ⟨_, (present_next _ hp).trans (next_dev_congr (if_pos h)), (s.dev.fld_setFld_same _ _ (by decide) (by decide)).trans (Nat.mod_eq_of_lt ?_),
    (PlantKept.refl s.dev).plantOnly⟩
  show s.dev.fld (A.ethStat p) 6 0 + 1 < 128
  omega

theorem ethFrameRx_other : ∃ t, exec (.ethFrameRx p .other) s = .next t ∧ t.dev.reg A.ethDrop = satInc (s.dev.reg A.ethDrop) ∧ DevOnly s t :=
  ⟨_, present_next _ hp, s.dev.reg_bump 0 (by decide), rfl, rfl⟩

theorem addressConflict_shows : ∃ t, exec (.addressConflict p) s = .next t ∧ t.dev.rbit (A.ethStat p) 26 = true ∧ t.dev.eventPending 356 = true ∧
    RegsKept [A.ethStat p] s.dev t.dev ∧ DevOnly s t := by
  have raised := fun l => Told.raise l (s.dev.setRbit (A.ethStat p) 26 true) (e := 356) (by decide) p
  refine ⟨_, present_next _ hp, ((raised []).rbit (evtArea_ethStat (Dev.hasEth_lt hp)) (by simp) 26).trans ?_, Dev.raise_pending _ (by decide) _,
    (Told.trans (.setRbit _ _ 26 true (by simp) (ethStat_above p)) (raised _)).regs, rfl, rfl⟩
  rw [Dev.rbit_setRbit _ _ _ _ _ (by decide) (by decide), if_pos rfl]

end

/-! 802.1AS time (14 R487). -/

theorem Told.setSync (b : Bool) (d : Dev) : Told [A.ethPtp] d (d.setSync b) :=
  trans (.setRbit _ _ 31 b (by simp) (by decide)) (.raiseIf _ _ _ (by decide) _)

theorem Told.setUtcOk (b : Bool) (d : Dev) : Told [A.ethPtp] d (d.setUtcOk b) :=
  trans (.setRbit _ _ 30 b (by simp) (by decide)) (.raiseIf _ _ _ (by decide) _)

theorem Told.tellUtc (l : List Nat) (d : Dev) : Told l d d.tellUtc := ite (moorSend l d _) (refl d)

theorem Dev.rbit_setSync (b : Bool) (d : Dev) {i : Nat} (hi : i < 32) : (d.setSync b).rbit A.ethPtp i = if i = 31 then b else d.rbit A.ethPtp i :=
  ((Told.raiseIf [] _ _ (by decide) _).rbit (by decide) (by simp) i).trans (d.rbit_setRbit _ _ _ _ (by decide) hi)

theorem Dev.rbit_setUtcOk (b : Bool) (d : Dev) {i : Nat} (hi : i < 32) : (d.setUtcOk b).rbit A.ethPtp i = if i = 30 then b else d.rbit A.ethPtp i :=
  ((Told.raiseIf [] _ _ (by decide) _).rbit (by decide) (by simp) i).trans (d.rbit_setRbit _ _ _ _ (by decide) hi)

theorem Dev.fld_setSync (b : Bool) (d : Dev) : (d.setSync b).fld A.ethPtp 15 0 = d.fld A.ethPtp 15 0 :=
  ((Told.raiseIf [] _ _ (by decide) _).fld (by decide) (by simp) 15 0).trans (d.fld_setRbit_apart _ _ (by decide) (by decide) (by decide))

theorem Dev.fld_setUtcOk (b : Bool) (d : Dev) : (d.setUtcOk b).fld A.ethPtp 15 0 = d.fld A.ethPtp 15 0 :=
  ((Told.raiseIf [] _ _ (by decide) _).fld (by decide) (by simp) 15 0).trans (d.fld_setRbit_apart _ _ (by decide) (by decide) (by decide))

theorem ptp_follower {s : State} (h : s.dev.follows = true) : (∀ g u, exec (.ptpSyncRx g u) s = .next s) ∧ exec .ptpSyncLoss s = .next s :=
  ⟨fun _ _ => next_dev_congr (if_pos h), next_dev_congr (if_pos h)⟩

theorem ptpSyncRx_sets {s : State} (h : s.dev.follows = false) (g u : Nat) : ∃ t, exec (.ptpSyncRx g u) s = .next t ∧ t.dev.rbit A.ethPtp 31 = true ∧
    t.dev.rbit A.ethPtp 30 = true ∧ t.dev.fld A.ethPtp 15 0 = u % 65536 ∧ t.dev.eth.offset = (g : Int) - u * 1000000000 - s.dev.time.now ∧
    RegsKept [A.ethPtp] s.dev t.dev ∧ DevOnly s t := by
  obtain ⟨d, hd⟩ : ∃ d : Dev, d = { s.dev with eth :=
    { offset := (g : Int) - u * 1000000000 - s.dev.time.now, offsetOk := true, lastSync := s.dev.time.now } } := ⟨_, rfl⟩
  have hexec : exec (.ptpSyncRx g u) s = .next { s with dev := (((d.setFld A.ethPtp 15 0 u).setSync true).setUtcOk true).tellUtc } := by
    rw [hd]
    exact next_dev_congr (if_neg (ne_true_of_eq_false h))
  have shown : Told [A.ethPtp] d (((d.setFld A.ethPtp 15 0 u).setSync true).setUtcOk true) :=
    ((Told.setFld _ d 15 0 u (by simp) (by decide)).trans (.setSync true _)).trans (.setUtcOk true _)
  have told := fun l => Told.tellUtc l (((d.setFld A.ethPtp 15 0 u).setSync true).setUtcOk true)
  have hoffset : d.eth.offset = (g : Int) - u * 1000000000 - s.dev.time.now := by rw [hd]
  have hregs : RegsKept [A.ethPtp] s.dev d := .of_regs _ (by rw [hd])
  refine ⟨_, hexec, ((told []).rbit (by decide) (by simp) 31).trans ?_, ((told []).rbit (by decide) (by simp) 30).trans ?_,
    ((told []).fld (by decide) (by simp) 15 0).trans ?_, (congrArg EthSt.offset (shown.trans (told _)).eth).trans hoffset,
    hregs.trans (shown.trans (told _)).regs, rfl, rfl⟩
  · rw [Dev.rbit_setUtcOk _ _ (by decide), if_neg (by decide), Dev.rbit_setSync _ _ (by decide), if_pos rfl]
  · rw [Dev.rbit_setUtcOk _ _ (by decide), if_pos rfl]
  · rw [Dev.fld_setUtcOk, Dev.fld_setSync]
    exact Dev.fld_setFld_same _ _ u (by decide) (by decide)

theorem utcTimeout_idle {s : State} (h : s.dev.eth.offsetOk = false) : exec .utcTimeout s = .next s :=
  next_dev_congr (if_neg (ne_true_of_eq_false h))

theorem utcTimeout_ends {s : State} (h : s.dev.eth.offsetOk = true) : ∃ t, exec .utcTimeout s = .next t ∧ t.dev.eth.offsetOk = false ∧
    t.dev.rbit A.ethPtp 30 = false ∧ DevOnly s t := by
  have told := fun l d => Told.tellUtc l (Dev.setUtcOk false d)
  refine ⟨_, next_dev_congr (if_pos h), congrArg EthSt.offsetOk ((Told.setUtcOk false _).trans (told _ _)).eth,
    ((told [] _).rbit (by decide) (by simp) 30).trans ?_, rfl, rfl⟩
  rw [Dev.rbit_setUtcOk _ _ (by decide), if_pos rfl]

theorem ptpSyncLoss_ends {s : State} (h : s.dev.follows = false) : ∃ t, exec .ptpSyncLoss s = .next t ∧ t.dev.rbit A.ethPtp 31 = false ∧
    (s.dev.rbit A.ethPtp 31 = true → t.dev.eventPending 354 = true) ∧ RegsKept [A.ethPtp] s.dev t.dev ∧ DevOnly s t := by
  have told := Told.tellUtc [A.ethPtp] (s.dev.setSync false)
  refine ⟨_, next_dev_congr (if_neg (ne_true_of_eq_false h)), ((Told.tellUtc [] _).rbit (by decide) (by simp) 31).trans ?_, fun hsync => ?_,
    ((Told.setSync false _).trans told).regs, rfl, rfl⟩
  · rw [Dev.rbit_setSync _ _ (by decide), if_pos rfl]
  · exact told.pend.eventPending (by decide) (Dev.raiseIf_pending _ (by rw [hsync]; rfl) (by decide) _)

end Sys2Proof.Machine
end

section
/-! The network commands together (14 R470-R487). -/

namespace Sys2Proof.Machine
open Sys2Proof

/-- Settles O58: clause by clause, each command by its own lemma. -/
theorem networkCommands : Obligations.NetworkCommands := by
  unfold Obligations.NetworkCommands
  intro s
  refine ⟨fun c f o b u v h => exec_can_absent h f o b u v, fun p a b k h => exec_eth_absent h a b k, fun c hc => ?_,
    fun h => exec_profile_without h, fun hd hf => ⟨heartbeat_follower hd hf, exec_profile_follower hd hf⟩, fun hd => ?_, fun p hp => ?_,
    ptp_follower, fun g u h => ptpSyncRx_sets h g u, utcTimeout_idle, utcTimeout_ends, ptpSyncLoss_ends⟩
  · exact ⟨canFrameRx_exception hc, canFrameRx_rec hc, canFrameRx_plant hc, canFrameRx_good hc, canFrameRx_bad_follower hc, canFrameRx_bad hc,
      fun o u v hst hf hrop hpend hout => canFrameSent_completes hc v hst hf hrop hpend hout, fun o u v h => canFrameSent_idle hc v h, canBusOff_idle hc,
      canBusOff_enters hc, fun b u v h hf => canErrorPassive_moves hc u v h hf, fun b u v h => canErrorPassive_idle hc u v h, busOffRecovery_starts hc,
      busOffRecovery_idle hc, busOffRecovered_ends hc, busOffRecovered_idle hc, restrictedEnter_enters hc, restrictedLeave_leaves hc⟩
  · exact ⟨profileHello_chooses hd, heartbeat_restarts hd, fun r hver hauth hnew => ⟨profileRequest_queued hd hver hauth hnew,
      profileWithdraw_queued hd hver hauth hnew⟩, profileReportSend_counts hd, ptoExpiry_out hd, ptoExpiry_drops hd⟩
  · exact ⟨ethLinkChange_shows hp, ethFrameRx_answered hp, ethFrameRx_dhcp hp, ethFrameRx_tcpClose hp, ethFrameRx_tcpOpen_full hp, ethFrameRx_other hp,
      ethFrameRx_tcpOpen hp, addressConflict_shows hp⟩

end Sys2Proof.Machine
end

section
/-! What raising events, results and a yielding twin leave of the memory unit (15 R504-R515, 12 R422-R423). -/

namespace Sys2Proof.Machine
open Sys2Proof

theorem Told.ram {l : List Nat} {d e : Dev} (h : Told l d e) : e.ram = d.ram := by rw [h.same]

theorem Dev.sameBut_ram {d e : Dev} (h : Dev.sameBut d e) : e.ram = d.ram := by rw [h]

theorem Told.raiseNoLog (l : List Nat) (d : Dev) {e : Nat} (he : e < 384) : Told l d (d.raiseNoLog e) :=
  .of_raised (d.sameBut_raiseBase e) (d.raiseBase_regsRaised he)

theorem Told.logRec (l : List Nat) (d : Dev) (ty e : Nat) (b : List Nat) (m : List (List Nat)) : Told l d (d.logRec ty e b m) :=
  .of_raised (d.sameBut_logRec ty e b m) (d.logRec_regsRaised ty e b m)

theorem Told.memRec (l : List Nat) (d : Dev) (kind bank row addr e : Nat) : Told l d (d.memRec kind bank row addr e) := .logRec l d _ _ _ _

/-- The banks, ARINGS and the pending events are as before. -/
structure BanksKept (d e : Dev) : Prop where
  ram : e.ram = d.ram
  memStat : e.reg A.memStat = d.reg A.memStat
  pend : PendKept d e

namespace BanksKept

theorem refl (d : Dev) : BanksKept d d := ⟨rfl, rfl, .of_regs rfl⟩

theorem trans {d e f : Dev} (h : BanksKept d e) (k : BanksKept e f) : BanksKept d f :=
  ⟨k.ram.trans h.ram, k.memStat.trans h.memStat, h.pend.trans k.pend⟩

theorem ite {d e f : Dev} {p : Prop} [Decidable p] (h : BanksKept d e) (k : BanksKept d f) : BanksKept d (if p then e else f) := by
  split
  · exact h
  · exact k

theorem fold {α : Type} (l : List α) (f : α → Dev → Dev) (d : Dev) (h : ∀ a e, BanksKept e (f a e)) : BanksKept d (foldOver l f d) :=
  foldOver_keeps (BanksKept d) l f d (fun a e he => he.trans (h a e)) (refl d)

theorem of_told {l : List Nat} {d e : Dev} (h : Told l d e) (hl : A.memStat ∉ l) : BanksKept d e := ⟨h.ram, h.reg (by decide) hl, h.pend⟩

/-- A change outside the registers and the memory unit. -/
theorem of_same {d e : Dev} (hregs : e.regs = d.regs) (hram : e.ram = d.ram) : BanksKept d e := ⟨hram, Dev.reg_congr hregs _, .of_regs hregs⟩

theorem ctlSres (n : Nat) : A.memStat ∉ [A.ctlSres n] := by
  rw [List.mem_singleton]
  unfold A.memStat A.ctlSres
  omega

theorem endStr (n res : Nat) (d : Dev) : BanksKept d (d.endStr n res) := by
  by_cases h : (d.strSeq n).code = 0
  · rw [Dev.endStr_none h]
    exact refl d
  · exact trans (e := d.strFreed n) (of_same rfl rfl) (of_told (Told.endStr h res) (ctlSres n))

/-- A disconnection of a string (10 R361). -/
theorem takeDisconnect (n tag src : Nat) (d : Dev) : BanksKept d (d.takeDisconnect n 2 0 tag src) := by
  by_cases h : (d.strSeq n).code = 2 ∨ (d.strSeq n).code = 3
  · rw [Dev.takeDisconnect_busy h]
    exact of_told (.strResult d n _ _ _ _ _) (ctlSres n)
  · have ended := endStr n 18 d
    unfold Dev.takeDisconnect
    dsimp only
    rw [if_neg (by decide), if_neg h, if_neg (by decide)]
    exact ended.trans (of_same rfl rfl)

theorem bleedStop (n : Nat) (d : Dev) : BanksKept d (d.bleedStop n) := by
  have sent : ∀ e : Dev, BanksKept e (e.sendZero n 1 (d.ringL n)) := fun e => by
    unfold Dev.sendZero
    rw [Dev.queueDev_ports]
    exact of_same rfl rfl
  unfold Dev.bleedStop
  exact ite (trans (e := d.setStr n _) (of_same rfl rfl) ((sent _).trans (of_told (.raise [] _ (by decide) n) (by simp)))) (refl d)

theorem dropRings (d : Dev) : BanksKept d d.dropRings :=
  fold _ _ d fun n e => (takeDisconnect n 0 2 e).trans (bleedStop n _)

end BanksKept

/-! A twin that yields has the memory that it had (12 R422-R423). -/

theorem Dev.ram_gatesOff (d : Dev) : d.gatesOff.ram = d.ram := by
  unfold Dev.gatesOff
  extract_lets
  split
  · rfl
  · rfl

theorem Dev.ram_driveHold (k : Contactor) (on : Bool) (d : Dev) : (d.driveHold k on).ram = d.ram := by
  have agreed : ∀ i, (d.setRbit A.ctlStat i on).fbAgree.ram = d.ram := fun i => (Told.fbAgree _).ram
  unfold Dev.driveHold
  cases k
  case pos =>
    dsimp only
    split
    · rfl
    · exact agreed 26
  case neg =>
    dsimp only
    split
    · rfl
    · exact agreed 25

theorem Dev.ram_giveUp (d : Dev) : d.giveUp.ram = d.ram := by
  unfold Dev.giveUp
  split
  · exact (Told.moorSend [] _ _).ram.trans d.ram_gatesOff
  · rfl

theorem Dev.ram_holdsOff (d : Dev) : d.holdsOff.ram = d.ram :=
  (Dev.ram_driveHold _ _ _).trans ((Dev.ram_driveHold _ _ _).trans d.ram_gatesOff)

theorem Dev.ram_stopCores (d : Dev) : d.stopCores.ram = d.ram :=
  foldOver_reads Dev.ram _ _ d fun c e => by
    unfold Dev.stopCore
    rw [Dev.setCore_ram]
    exact foldOver_reads Dev.ram _ _ e fun _ _ => rfl

theorem Dev.ram_setTwin (st : Nat) (d : Dev) : (d.setTwin st).ram = d.ram := by
  unfold Dev.setTwin
  split
  · rfl
  · exact Dev.sameBut_ram ((d.setFld A.twinStat 31 28 st).sameBut_raise 288 st)

theorem LswOnly.ram {d e : Dev} (h : LswOnly d e) : e.ram = d.ram := by rw [h]

theorem Dev.ram_lhSync (d : Dev) : d.lhSync.ram = d.ram := d.lhSync_lswOnly.ram

theorem Dev.ram_yield (d : Dev) : d.yield_.ram = d.ram := by
  unfold Dev.yield_
  rw [Dev.ram_lhSync, Dev.sameBut_ram (Dev.sameBut_raise _ _ _), Dev.ram_setTwin, Dev.ram_stopCores, Dev.ram_holdsOff, Dev.ram_giveUp]

end Sys2Proof.Machine
end

section
/-! Row repair, retirement and ARINGS (15 R510-R515). -/

namespace Sys2Proof.Machine
open Sys2Proof

theorem exec_bank_absent {s : State} {b : Nat} (r : Nat) (h : 43 ≤ b) :
    exec (.rowRepairSwitch b r) s = .fault .noSuchUnit ∧ exec (.bankRetire b) s = .fault .noSuchUnit :=
  ⟨present_absent _ (decide_eq_false (by omega)), present_absent _ (decide_eq_false (by omega))⟩

theorem Dev.bank_congr {d e : Dev} (hram : e.ram = d.ram) (hunit : e.reg A.sysUnitmap = d.reg A.sysUnitmap) (k : Nat) : e.bank k = d.bank k := by
  unfold Dev.bank Dev.bank0 Dev.rings Dev.fld
  rw [hram, hunit]

theorem Told.bank {l : List Nat} {d e : Dev} (h : Told l d e) (hl : A.sysUnitmap ∉ l) (k : Nat) : e.bank k = d.bank k :=
  Dev.bank_congr h.ram (h.reg (by decide) hl) k

theorem Dev.bank_setBank (b k : Nat) (x : Bank) (d : Dev) : (d.setBank b x).bank k = if k = b then x else d.bank k :=
  FMap.get_set d.bank0 d.ram.banks b k x

theorem rowRepairSwitch_idle {s : State} {b : Nat} (r : Nat) (hb : b < 43) (h : (s.dev.bank b).st = 4 ∨ 8 ≤ (s.dev.bank b).rows) :
    exec (.rowRepairSwitch b r) s = .next s :=
  (present_next _ (decide_eq_true hb)).trans (next_dev_congr (if_pos h))

theorem rowRepairSwitch_repairs {s : State} {b : Nat} (r : Nat) (hb : b < 43) (hst : (s.dev.bank b).st ≠ 4) (hrows : (s.dev.bank b).rows < 8) :
    ∃ t, exec (.rowRepairSwitch b r) s = .next t ∧ (t.dev.bank b).rows = (s.dev.bank b).rows + 1 ∧ (t.dev.bank b).st = (s.dev.bank b).st ∧
      (∀ k, k ≠ b → t.dev.bank k = s.dev.bank k) ∧ t.dev.eventPending 361 = true ∧ RegsKept [] s.dev t.dev ∧ DevOnly s t := by
  have raised := Told.raiseNoLog [] (s.dev.setBank b { s.dev.bank b with rows := (s.dev.bank b).rows + 1 }) (e := 361) (by decide)
  have told := fun e addr => Told.memRec [] e 0 b r addr 361
  have hbank : ∀ k, _ = (s.dev.setBank b { s.dev.bank b with rows := (s.dev.bank b).rows + 1 }).bank k :=
    (raised.trans (told _ (s.dev.rowAddr b r))).bank (by simp)
  refine ⟨_, (present_next _ (decide_eq_true hb)).trans (next_dev_congr (if_neg (by omega))), ?_, ?_, fun k hk => ?_, ?_,
    (raised.trans (told _ _)).regs, rfl, rfl⟩
  · exact (congrArg Bank.rows (hbank b)).trans (by rw [Dev.bank_setBank, if_pos rfl])
  · exact (congrArg Bank.st (hbank b)).trans (by rw [Dev.bank_setBank, if_pos rfl])
  · exact (hbank k).trans (by rw [Dev.bank_setBank, if_neg hk])
  · exact (told _ _).pend.eventPending (by decide) (Dev.raiseBase_pending _ (by decide))

/-! A retired bank stays retired. -/

/-- Bank `b` is retired, whatever the device had fitted as manufactured. -/
def Dev.Retired (b : Nat) (d : Dev) : Prop := ∀ f, (FMap.get f d.ram.banks b).st = 4

theorem Dev.Retired.bank {b : Nat} {d : Dev} (h : d.Retired b) : (d.bank b).st = 4 := h _

theorem Dev.Retired.congr {b : Nat} {d e : Dev} (h : d.Retired b) (hram : e.ram = d.ram) : e.Retired b := by
  unfold Dev.Retired
  rw [hram]
  exact h

theorem Dev.bank0_usable (d : Dev) (b : Nat) : (d.bank0 b).st ≠ 4 := by
  unfold Dev.bank0
  split
  · dsimp only
    split <;> decide
  · split <;> decide

theorem Dev.retired_setBank (b : Nat) {x : Bank} (h : x.st = 4) (d : Dev) : (d.setBank b x).Retired b := by
  intro f
  have hx : x ≠ d.bank0 b := fun heq => d.bank0_usable b (heq ▸ h)
  unfold Dev.setBank FMap.set
  rw [if_neg hx, FMap.get_put_same]
  exact h

theorem Dev.Retired.setBank {b k : Nat} {d : Dev} (h : d.Retired b) (hk : k ≠ b) (x : Bank) : (d.setBank k x).Retired b := by
  intro f
  unfold Dev.setBank FMap.set
  dsimp only
  split
  · rw [FMap.get_del_other f _ hk.symm]
    exact h f
  · rw [FMap.get_put_other f _ x hk.symm]
    exact h f

/-- A bank found in another state is not the retired one. -/
theorem Dev.Retired.ne_found {b k st : Nat} {d : Dev} (h : d.Retired b) (hst : st ≠ 4) {l : List Nat}
    (hk : l.find? (fun j => (d.bank j).st == st) = some k) : k ≠ b := by
  rintro rfl
  have : (d.bank k).st = st := by simpa using List.find?_some hk
  exact hst (this.symm.trans h.bank)

theorem Dev.Retired.ne_backer {b k l : Nat} {d : Dev} (h : d.Retired b) (hk : d.backer l = some k) : k ≠ b := by
  rintro rfl
  unfold Dev.backer at hk
  have found := List.find?_some hk
  rw [Bool.and_eq_true, beq_iff_eq] at found
  exact absurd (found.1.symm.trans h.bank) (by decide)

theorem Dev.Retired.setBanks {b : Nat} {d : Dev} (h : d.Retired b) {l : List Nat} (hl : b ∉ l) (x : Nat → Dev → Bank) :
    (foldOver l (fun k d => d.setBank k (x k d)) d).Retired b :=
  List.foldlRecOn l _ h fun _ he _ hk => he.setBank (fun hkb => hl (hkb ▸ hk)) _

theorem Dev.Retired.giveBacking {b : Nat} {d : Dev} (h : d.Retired b) (l : Nat) : (d.giveBacking l).Retired b := by
  unfold Dev.giveBacking
  dsimp only
  split
  · next k hk => exact h.setBank (h.ne_found (by decide) hk) _
  · split
    · next k hk => exact h.setBank (h.ne_found (by decide) hk) _
    · split
      · exact h
      · next k _ =>
        have hfree : b ∉ ([d.backer (16 + k), d.backer (28 + k)]).filterMap id := by
          intro hb
          simp only [List.mem_filterMap, List.mem_cons, List.not_mem_nil, or_false, id] at hb
          obtain ⟨o, ho | ho, hsome⟩ := hb
          · exact h.ne_backer (ho ▸ hsome) rfl
          · exact h.ne_backer (ho ▸ hsome) rfl
        split
        · exact h.setBanks hfree _
        · split
          · exact h
          · next c rest hc =>
            rw [hc, List.mem_cons, not_or] at hfree
            exact (h.setBanks hfree.2 _).setBank (Ne.symm hfree.1) _

theorem bankRetire_idle {s : State} {b : Nat} (hb : b < 43) (h : (s.dev.bank b).st = 4) : exec (.bankRetire b) s = .next s := by
  refine (present_next _ (decide_eq_true hb)).trans (next_dev_congr ?_)
  exact if_pos h

/-! ARINGS (15 R512-R514). -/

theorem Dev.ram_setArings (n : Nat) (d : Dev) : (d.setArings n).ram = d.ram := by
  unfold Dev.setArings
  extract_lets e f g
  have noted : e.ram = d.ram := (Told.memRec [] (d.setFld A.memStat 23 18 n) _ _ _ _ _).ram
  have shown : f.ram = e.ram := (Told.raiseNoLog [] (e.setRbit A.memStat 31 _) (by decide)).ram
  have settled : g.ram = f.ram := (Told.ite (.settleState f f.base) (.refl f)).ram
  split
  · rfl
  · exact (BanksKept.dropRings g).ram.trans (settled.trans (shown.trans noted))

theorem Dev.pend_setArings (n : Nat) (d : Dev) : PendKept d (d.setArings n) := by
  unfold Dev.setArings
  extract_lets e f g
  have noted : PendKept d e := (PendKept.setReg d _ (by decide)).trans (Told.memRec [] (d.setFld A.memStat 23 18 n) _ _ _ _ _).pend
  have shown : PendKept e f := (PendKept.setReg e _ (by decide)).trans (Told.raiseNoLog [] (e.setRbit A.memStat 31 _) (by decide)).pend
  have settled : PendKept f g := (Told.ite (.settleState f f.base) (.refl f)).pend
  split
  · exact .of_regs rfl
  · exact (noted.trans shown).trans (settled.trans (BanksKept.dropRings g).pend)

theorem Dev.arings_setArings (n : Nat) (d : Dev) : (d.setArings n).arings = n % 64 := by
  unfold Dev.setArings
  extract_lets e f g
  split
  · next h =>
    have : d.arings < 64 := Nat.mod_lt _ (by decide)
    rw [h] at this ⊢
    exact (Nat.mod_eq_of_lt this).symm
  · have settled : g.reg A.memStat = f.reg A.memStat := (Told.ite (.settleState f f.base) (.refl f)).reg (by decide) (by decide)
    have shown : f.arings = e.arings :=
      (Dev.fld_congr ((Told.raiseNoLog [] (e.setRbit A.memStat 31 _) (by decide)).reg (by decide) (by simp)) 23 18).trans
        (e.fld_setRbit_apart _ _ (by decide) (by decide) (by decide))
    have noted : e.arings = n % 64 :=
      (Dev.fld_congr ((Told.memRec [] (d.setFld A.memStat 23 18 n) _ _ _ _ _).reg (by decide) (by simp)) 23 18).trans
        (d.fld_setFld_same _ n (by decide) (by decide))
    exact (Dev.fld_congr ((BanksKept.dropRings g).memStat.trans settled) 23 18).trans (shown.trans noted)

theorem aringsApply_takes (n : Nat) (s : State) : ∃ t, exec (.aringsApply n) s = .next t ∧
    t.dev.arings = (min n (min s.dev.ownArings s.dev.twin.arings)) % 64 ∧ DevOnly s t :=
  ⟨_, rfl, s.dev.arings_setArings _, rfl, rfl⟩

/-- Too few banks end RUN, and a twin yields (15 R515). -/
theorem Dev.fewBanks_kept (d : Dev) : d.fewBanks.ram = d.ram ∧ PendKept d d.fewBanks := by
  have refused : ∀ e : Dev, (if e.isTwin && !e.yielded then e.yield_ else e).ram = e.ram ∧
      PendKept e (if e.isTwin && !e.yielded then e.yield_ else e) := by
    intro e
    split
    · exact ⟨e.ram_yield, (ImagesKept.yield_ e).pend⟩
    · exact ⟨rfl, .of_regs rfl⟩
  unfold Dev.fewBanks
  split
  · obtain ⟨hram, hpend⟩ := refused { d with pwr := { d.pwr with noRun := true } }
    exact ⟨hram, PendKept.trans (.of_regs rfl) hpend⟩
  · exact ⟨rfl, .of_regs rfl⟩

theorem bankRetire_retires {s : State} {b : Nat} (hb : b < 43) (h : (s.dev.bank b).st ≠ 4) : ∃ t, exec (.bankRetire b) s = .next t ∧
    (t.dev.bank b).st = 4 ∧ t.dev.eventPending 363 = true ∧ DevOnly s t := by
  have retired : (s.dev.retireBank b).Retired b ∧ (s.dev.retireBank b).eventPending 363 = true := by
    unfold Dev.retireBank
    extract_lets x e f g k
    rw [if_neg h]
    have he : e.Retired b := s.dev.retired_setBank b rfl
    have hf : f.Retired b := by
      by_cases hx : x.st = 0
      · rw [show f = e.giveBacking x.logical from if_pos hx]
        exact he.giveBacking _
      · rw [show f = e from if_neg hx]
        exact he
    have noted := Told.memRec [] (f.showBanks.raiseNoLog 363) 1 b 0 (s.dev.rowAddr b 0) 363
    have raised := Told.raiseNoLog [] f.showBanks (e := 363) (by decide)
    have hg : g.ram = f.ram := noted.ram.trans (raised.ram)
    have hpend : g.eventPending 363 = true := noted.pend.eventPending (by decide) (Dev.raiseBase_pending _ (by decide))
    have hk : k.ram = g.ram ∧ PendKept g k := by
      by_cases ha : g.agreed = true
      · rw [show k = g.moorSend (.aringsValue g.ownArings) from if_pos ha]
        exact ⟨(Told.moorSend [] _ _).ram, (Told.moorSend [] _ _).pend⟩
      · rw [show k = g.setArings g.ownArings from if_neg ha]
        exact ⟨g.ram_setArings _, g.pend_setArings _⟩
    have warned := Told.raiseIf [] k (decide (36 ≤ s.dev.healthy) && decide (k.healthy < 36)) (e := 364) (by decide) 0
    obtain ⟨hram, hkept⟩ := Dev.fewBanks_kept (k.raiseIf (decide (36 ≤ s.dev.healthy) && decide (k.healthy < 36)) 364 0)
    exact ⟨hf.congr (hram.trans (warned.ram.trans (hk.1.trans hg))),
      hkept.eventPending (by decide) (warned.pend.eventPending (by decide) (hk.2.eventPending (by decide) hpend))⟩
  exact ⟨_, present_next _ (decide_eq_true hb), retired.1.bank, retired.2, rfl, rfl⟩

end Sys2Proof.Machine
end

section
/-! Scrubbing and the march engine (15 R508-R509, R517). -/

namespace Sys2Proof.Machine
open Sys2Proof

theorem Dev.reg_addCtr (k : Nat) {ctr ovf : Nat} (bit : Nat) (h : ctr ≠ ovf) (d : Dev) :
    (d.addCtr k ctr ovf bit).reg ctr = BitVec.ofNat 32 (min ((d.reg ctr).toNat + k) 0xFFFFFFFF) := by
  unfold Dev.addCtr
  dsimp only
  split
  · rw [Dev.reg_setRbit_other _ _ _ h, Dev.reg_setReg]
  · exact Dev.reg_setReg _ _ _

theorem Dev.reg_scrubError (d : Dev) : d.scrubError.reg A.memCecnt = d.reg A.memCecnt := by
  have raised := Told.raiseNoLog [] (d.takeFree.bump A.memUecnt A.memOvf 13) (e := 360) (by decide)
  exact ((Told.memRec [] _ _ _ _ _ _).reg (by decide) (by simp)).trans
    ((raised.reg (by decide) (by simp)).trans (Dev.reg_bump_other d.takeFree 13 (by decide) (by decide)))

theorem Dev.scrubError_pending (d : Dev) : d.scrubError.eventPending 360 = true :=
  (Told.memRec [] _ _ _ _ _ _).pend.eventPending (by decide) ((d.takeFree.bump A.memUecnt A.memOvf 13).raiseBase_pending (by decide))

theorem scrubPassEnd_paused {s : State} (h : s.dev.rbit A.thermStat 31 = true) (c u : Nat) : exec (.scrubPassEnd c u) s = .next s :=
  next_dev_congr (if_pos h)

theorem scrubPassEnd_counts {s : State} (h : s.dev.rbit A.thermStat 31 = false) (c u : Nat) : ∃ t, exec (.scrubPassEnd c u) s = .next t ∧
    t.dev.reg A.memCecnt = BitVec.ofNat 32 (min ((s.dev.reg A.memCecnt).toNat + c) 0xFFFFFFFF) ∧ (0 < u → t.dev.eventPending 360 = true) ∧
    t.dev.eventPending 368 = true ∧ DevOnly s t := by
  obtain ⟨d, hd⟩ : ∃ d, d = foldOver (List.range u) (fun _ d => d.scrubError) (s.dev.addCtr c A.memCecnt A.memOvf 12) := ⟨_, rfl⟩
  have hexec : exec (.scrubPassEnd c u) s = .next { s with dev := d.raise 368 0 } := by
    rw [hd]
    exact next_dev_congr (if_neg (ne_true_of_eq_false h))
  have raised := Told.raise [] d (e := 368) (by decide) 0
  have counted : d.reg A.memCecnt = (s.dev.addCtr c A.memCecnt A.memOvf 12).reg A.memCecnt := by
    rw [hd]
    exact foldOver_reads (fun e : Dev => e.reg A.memCecnt) _ _ _ fun _ e => Dev.reg_scrubError e
  refine ⟨_, hexec, (raised.reg (by decide) (by simp)).trans (counted.trans (Dev.reg_addCtr c 12 (by decide) s.dev)),
    fun hu => raised.pend.eventPending (by decide) ?_, d.raise_pending (by decide) 0, rfl, rfl⟩
  rw [hd]
  exact foldOver_brings (P := fun e : Dev => e.eventPending 360 = true) (by simpa using Nat.ne_of_gt hu) (fun _ e => e.scrubError_pending) _

theorem preservingRedirect_idle {s : State} (h : s.dev.ram.running = false ∨ s.dev.ram.destructive = true ∨ (s.dev.bank 42).st = 4) :
    exec .preservingRedirect s = .next s := next_dev_congr (if_pos h)

theorem preservingRedirect_redirects {s : State} (hrun : s.dev.ram.running = true) (hmode : s.dev.ram.destructive = false) (hswap : (s.dev.bank 42).st ≠ 4) :
    ∃ t, exec .preservingRedirect s = .next t ∧ t.dev = { s.dev with ram := { s.dev.ram with redirected := true } } ∧ DevOnly s t :=
  ⟨_, next_dev_congr (if_neg (by simp [hrun, hmode, hswap])), rfl, rfl, rfl⟩

theorem Dev.ram_showTest (st bank faults : Nat) (d : Dev) : (d.showTest st bank faults).ram = d.ram := Dev.setReg_ram d _ _

/-- The next test of the queue starts or waits: MEM.TSTAT shows it, and the queue stays. -/
theorem Dev.startMarch_kept (d : Dev) : d.startMarch.ram.queue = d.ram.queue ∧ d.startMarch.ram.redirected = d.ram.redirected ∧
    RegsKept [A.memTstat] d d.startMarch := by
  have shown : ∀ (e : Dev) (st b f : Nat), RegsKept [A.memTstat] e (e.showTest st b f) := fun e st b f => .setReg e _ (by simp)
  unfold Dev.startMarch
  extract_lets b faults
  split
  · exact ⟨rfl, rfl, .refl _ d⟩
  · split
    · exact ⟨congrArg MemSt.queue (Dev.ram_showTest _ _ _ _), congrArg MemSt.redirected (Dev.ram_showTest _ _ _ _), shown d _ _ _⟩
    · have hram := Dev.ram_showTest 1 b faults { d with ram := { d.ram with running := true } }
      exact ⟨(congrArg MemSt.queue hram).trans rfl, (congrArg MemSt.redirected hram).trans rfl,
        RegsKept.trans (e := { d with ram := { d.ram with running := true } }) (.of_regs _ rfl) (shown _ _ _ _)⟩

theorem marchTestEnd_idle {s : State} (h : s.dev.ram.queue = [] ∨ s.dev.ram.running = false) (f : List Nat) : exec (.marchTestEnd f) s = .next s := by
  refine next_dev_congr ?_
  dsimp only
  split
  · rfl
  · next b l hq =>
    have hrun : s.dev.ram.running = false := h.resolve_left (by rw [hq]; exact List.cons_ne_nil b l)
    rw [hrun]
    rfl

theorem marchTestEnd_moves {s : State} {b : Nat} {l : List Nat} (f : List Nat) (hq : s.dev.ram.queue = b :: l) (hrun : s.dev.ram.running = true) :
    ∃ t, exec (.marchTestEnd f) s = .next t ∧ t.dev.ram.queue = l ∧ t.dev.ram.redirected = false ∧ t.dev.eventPending 362 = true ∧
      RegsKept [A.memTstat] s.dev t.dev ∧ DevOnly s t := by
  obtain ⟨e, he⟩ : ∃ e : Dev, e = (({ s.dev with ram := { s.dev.ram with queue := l, running := false } } : Dev).redirect false).showTest
    (if s.dev.fld A.memTstat 15 0 + f.length = 0 then 2 else 3) b (s.dev.fld A.memTstat 15 0 + f.length) := ⟨_, rfl⟩
  have hexec : exec (.marchTestEnd f) s = .next { s with dev := e.startMarch.raise 362 b } := by
    rw [he]
    refine next_dev_congr ?_
    dsimp only
    rw [hq]
    dsimp only
    rw [hrun]
    rfl
  have shown : RegsKept [A.memTstat] s.dev e := by
    rw [he]
    exact RegsKept.trans (e := ({ s.dev with ram := { s.dev.ram with queue := l, running := false } } : Dev).redirect false) (.of_regs _ rfl)
      (.setReg _ _ (by simp))
  have hram : e.ram.queue = l ∧ e.ram.redirected = false := by
    rw [he]
    exact ⟨rfl, rfl⟩
  obtain ⟨hqueue, hredir, hregs⟩ := e.startMarch_kept
  have raised := Told.raise [A.memTstat] e.startMarch (e := 362) (by decide) b
  exact ⟨_, hexec, (congrArg MemSt.queue raised.ram).trans (hqueue.trans hram.1), (congrArg MemSt.redirected raised.ram).trans (hredir.trans hram.2),
    Dev.raise_pending _ (by decide) b, (shown.trans hregs).trans raised.regs, rfl, rfl⟩

end Sys2Proof.Machine
end

section
/-! The Growth log's writer (15 R530-R532). -/

namespace Sys2Proof.Machine
open Sys2Proof

theorem length_logEntry (bs : List Nat) : (logEntry bs).length = 32 := by
  simp [logEntry, padTo, leBytes]

theorem LogRec.length_of_mem_entryBytes {r : LogRec} {e : List Nat} (h : e ∈ r.entryBytes) : e.length = 32 := by
  unfold LogRec.entryBytes at h
  simp only [List.mem_cons, List.mem_map] at h
  obtain rfl | ⟨i, -, rfl⟩ := h
  · exact length_logEntry _
  · exact length_logEntry _

/-- The log's area of MRAM (15 R519) holds every entry whole. -/
theorem logAddr_within (k : Nat) : 0x20400000 ≤ logAddr k ∧ logAddr k + 32 ≤ 0x20400000 + 0x400000 := by
  unfold logAddr
  omega

/-- Bytes outside the log's area. -/
def OutsideLog (k : Nat) : Prop := k < 0x20400000 ∨ 0x20400000 + 0x400000 ≤ k

theorem get_writeBytes_outsideLog {k : Nat} (hk : OutsideLog k) {a : Nat} {bs : List Byte} (ha : 0x20400000 ≤ a)
    (hb : a + bs.length ≤ 0x20400000 + 0x400000) (m : FMap Byte) : FMap.get memReset (writeBytes a bs m) k = FMap.get memReset m k := by
  unfold OutsideLog at hk
  exact get_writeBytes_other bs m (by omega)

theorem get_writeEntries_outsideLog {k : Nat} (hk : OutsideLog k) (p : Nat) {l : List (List Nat)} (hl : ∀ e ∈ l, e.length = 32) (m : FMap Byte) :
    FMap.get memReset (writeEntries p l m) k = FMap.get memReset m k := by
  induction l generalizing p m with
  | nil => rfl
  | cons e l ih =>
    obtain ⟨hlo, hhi⟩ := logAddr_within p
    have hlen : (toBytes e).length = 32 := (List.length_map _).trans (hl e List.mem_cons_self)
    exact (ih (p + 1) (fun x hx => hl x (List.mem_cons_of_mem _ hx)) _).trans (get_writeBytes_outsideLog hk hlo (by rw [hlen]; exact hhi) m)

/-- A record without continuations is one entry. -/
theorem LogRec.entryBytes_single {r : LogRec} (h : r.conts = []) : ∃ e, r.entryBytes = [e] ∧ e.length = 32 := by
  have hone : r.entryBytes.length = 1 := by simp [LogRec.entryBytes, h]
  obtain ⟨e, he⟩ := List.length_eq_one_iff.1 hone
  exact ⟨e, he, LogRec.length_of_mem_entryBytes (by rw [he]; exact List.mem_cons_self)⟩

theorem get_toBytes (l : List Nat) (j : Nat) : (toBytes l).getD j 0 = BitVec.ofNat 8 (l.getD j 0) := List.getD_map l 0 fun b => BitVec.ofNat 8 b

/-- The bytes of a single entry in the log. -/
theorem get_writeEntries_single {e : List Nat} (he : e.length = 32) (p : Nat) (m : FMap Byte) {j : Nat} (hj : j < 32) :
    FMap.get memReset (writeEntries p [e] m) (logAddr p + j) = BitVec.ofNat 8 (e.getD j 0) := by
  have hlen : (toBytes e).length = 32 := (List.length_map _).trans he
  refine (get_writeBytes (logAddr p) (logAddr p + j) (toBytes e) m).trans ?_
  rw [if_pos ⟨by omega, by omega⟩, Nat.add_sub_cancel_left]
  exact get_toBytes e j

theorem logRecordWrite_empty {s : State} (h : s.dev.log.queue = []) (k : Option Nat) : exec (.logRecordWrite k) s = .next s := by
  show execLogRecordWrite k s = _
  unfold execLogRecordWrite
  dsimp only
  rw [h]

/-- The oldest queued record is written (15 R530). -/
def Dev.logWritten (r : LogRec) (l : List LogRec) (bad : Bool) (d : Dev) : Dev :=
  { d with
    log := { d.log with
      queue := l
      recs := trimLog 131072 (d.log.recs ++ [{ r with seq := d.log.nextSeq, bad := bad }])
      nextSeq := seqAfter d.log.nextSeq
      pos := d.log.pos + r.entries } }

theorem logRecordWrite_writes {s : State} {r : LogRec} {l : List LogRec} (h : s.dev.log.queue = r :: l) : ∃ t, exec (.logRecordWrite none) s = .next t ∧
    t.dev.log.queue = l ∧ t.dev.log.nextSeq = seqAfter s.dev.log.nextSeq ∧
    t.dev.log.recs = trimLog 131072 (s.dev.log.recs ++ [{ r with seq := s.dev.log.nextSeq, bad := false }]) ∧ t.dev.regs = s.dev.regs ∧
    t.pending = s.pending ∧ BytesKept 0x20400000 0x400000 s t ∧
    (r.conts = [] → ∀ j, j < 32 → t.byte (logAddr s.dev.log.pos + j) =
      BitVec.ofNat 8 ((LogRec.entryBytes { r with seq := s.dev.log.nextSeq }).flatten.getD j 0)) := by
  have hexec : exec (.logRecordWrite none) s = .next { s with
      dev := s.dev.logWritten r l false
      mem := writeEntries s.dev.log.pos (LogRec.entryBytes { r with seq := s.dev.log.nextSeq }) s.mem } := by
    show execLogRecordWrite none s = _
    unfold execLogRecordWrite
    dsimp only
    rw [h]
    rfl
  refine ⟨_, hexec, rfl, rfl, rfl, rfl, rfl, fun k hk => ?_, fun hsingle j hj => ?_⟩
  · exact get_writeEntries_outsideLog hk _ (fun _ => LogRec.length_of_mem_entryBytes) _
  · obtain ⟨e, he, hlen⟩ := LogRec.entryBytes_single (r := { r with seq := s.dev.log.nextSeq }) hsingle
    rw [he, List.flatten_singleton]
    exact get_writeEntries_single hlen _ _ hj

/-! Events and records queued leave the records written. -/

/-- The written records and the next SEQ are as before. -/
def WrittenKept (d e : Dev) : Prop := e.log.recs = d.log.recs ∧ e.log.nextSeq = d.log.nextSeq

namespace WrittenKept

theorem trans {d e f : Dev} (h : WrittenKept d e) (k : WrittenKept e f) : WrittenKept d f := ⟨k.1.trans h.1, k.2.trans h.2⟩

theorem bump (d : Dev) (c o b : Nat) : WrittenKept d (d.bump c o b) := by
  rw [d.bump_regs]
  exact ⟨rfl, rfl⟩

theorem logTry (r : LogRec) (d : Dev) : WrittenKept d (d.logTry r).1 := by
  unfold Dev.logTry
  extract_lets room
  split
  · exact ⟨rfl, rfl⟩
  · exact trans (e := { d with log := { d.log with gap := true } }) ⟨rfl, rfl⟩ (bump _ _ _ _)

theorem raiseBase (e : Nat) (d : Dev) : WrittenKept d (d.raiseBase e) := by
  have counted := ((d.setRbit (A.evtPend (e / 32)) (e % 32) true).bump_log (A.evtCnt e) (A.evtOvf (e / 32)) (e % 32)).trans (d.setRbit_log _ _ _)
  have routed : ∀ (p : Prop) [Decidable p] (x y : LogSt), x.recs = y.recs ∧ x.nextSeq = y.nextSeq →
      (if p then x else y).recs = y.recs ∧ (if p then x else y).nextSeq = y.nextSeq := by
    intro p _ x y hxy
    split
    · exact hxy
    · exact ⟨rfl, rfl⟩
  unfold Dev.raiseBase
  extract_lets r f g l l1 l2 l3 h
  have hl : l = d.log := counted
  obtain ⟨recs1, seq1⟩ : l1.recs = l.recs ∧ l1.nextSeq = l.nextSeq := routed _ _ _ ⟨rfl, rfl⟩
  obtain ⟨recs2, seq2⟩ : l2.recs = l1.recs ∧ l2.nextSeq = l1.nextSeq := routed _ _ _ ⟨rfl, rfl⟩
  obtain ⟨recs3, seq3⟩ : l3.recs = l2.recs ∧ l3.nextSeq = l2.nextSeq := routed _ _ _ ⟨rfl, rfl⟩
  have noted : h.log.recs = d.log.recs ∧ h.log.nextSeq = d.log.nextSeq :=
    ⟨recs3.trans (recs2.trans (recs1.trans (congrArg LogSt.recs hl))), seq3.trans (seq2.trans (seq1.trans (congrArg LogSt.nextSeq hl)))⟩
  clear_value h
  split
  · exact noted
  · exact noted

theorem logEvent (e i : Nat) (d : Dev) : WrittenKept d (d.logEvent e i).1 := by
  unfold Dev.logEvent
  split
  · split
    · exact trans (e := { d with log := { d.log with wins := _ } }) ⟨rfl, rfl⟩ (logTry _ _)
    · exact ⟨rfl, rfl⟩
  · exact ⟨rfl, rfl⟩

theorem dropEvent (d : Dev) : WrittenKept d d.dropEvent := by
  unfold Dev.dropEvent
  extract_lets due _ e
  split
  · exact trans (e := e) ⟨rfl, rfl⟩ ((raiseBase 367 e).trans (logEvent 367 0 _))
  · exact ⟨rfl, rfl⟩

theorem logRec (ty e : Nat) (b : List Nat) (m : List (List Nat)) (d : Dev) : WrittenKept d (d.logRec ty e b m) := by
  unfold Dev.logRec
  extract_lets r
  split
  · exact logTry _ d
  · exact (logTry _ d).trans (dropEvent _)

end WrittenKept

theorem logRecordWrite_fails {s : State} {r : LogRec} {l : List LogRec} (k : Nat) (h : s.dev.log.queue = r :: l) :
    ∃ t, exec (.logRecordWrite (some k)) s = .next t ∧ t.dev.log.nextSeq = seqAfter s.dev.log.nextSeq ∧ t.dev.eventPending 365 = true ∧
      t.dev.log.recs = trimLog 131072 (s.dev.log.recs ++ [{ r with seq := s.dev.log.nextSeq, bad := true }]) ∧ RegsKept [] s.dev t.dev ∧
      t.pending = s.pending ∧ BytesKept 0x20400000 0x400000 s t := by
  obtain ⟨p, hp⟩ : ∃ p, p = s.dev.log.pos + k / 8 % r.entries := ⟨_, rfl⟩
  obtain ⟨d, hd⟩ : ∃ d, d = (s.dev.logWritten r l true).takeFree := ⟨_, rfl⟩
  have hexec : exec (.logRecordWrite (some k)) s = .next { s with
      dev := (d.raiseNoLog 365).logRec 6 365 ([4, 0, 0, 0] ++ leBytes 4 (logAddr p + 4 * (k % 8))) []
      mem := writeBytes (logAddr p + 4 * (k % 8)) (toBytes (leBytes 4 (Config.freeWord s.dev.freeCnt).toNat))
        (writeEntries s.dev.log.pos (LogRec.entryBytes { r with seq := s.dev.log.nextSeq, bad := true }) s.mem) } := by
    rw [hd, hp]
    show execLogRecordWrite (some k) s = _
    unfold execLogRecordWrite
    dsimp only
    rw [h]
    rfl
  have noted := Told.logRec [] (d.raiseNoLog 365) 6 365 ([4, 0, 0, 0] ++ leBytes 4 (logAddr p + 4 * (k % 8))) []
  have written := (WrittenKept.raiseBase 365 d).trans
    (.logRec 6 365 ([4, 0, 0, 0] ++ leBytes 4 (logAddr p + 4 * (k % 8))) [] (d.raiseNoLog 365))
  have hregs : RegsKept [] s.dev d := .of_regs _ (by rw [hd]; rfl)
  refine ⟨_, hexec, written.2.trans ?_, noted.pend.eventPending (by decide) (d.raiseBase_pending (by decide)), written.1.trans ?_,
    hregs.trans ((Told.raiseNoLog [] d (by decide)).regs.trans noted.regs), rfl, fun j hj => ?_⟩
  · rw [hd]
    rfl
  · rw [hd]
    rfl
  · obtain ⟨hlo, hhi⟩ := logAddr_within p
    have hlen : (toBytes (leBytes 4 (Config.freeWord s.dev.freeCnt).toNat)).length = 4 := by simp [toBytes, leBytes]
    exact (get_writeBytes_outsideLog hj (by omega) (by rw [hlen]; omega) _).trans
      (get_writeEntries_outsideLog hj _ (fun _ => LogRec.length_of_mem_entryBytes) _)

/-! Windows and time records (15 R530, R532). -/

/-- A record for which 224 entries leave room is queued, whatever its type. -/
theorem Dev.logTry_room {d : Dev} {r : LogRec} (h : d.log.used + r.entries ≤ 224) :
    (d.logTry r).2 = true ∧ (d.logTry r).1.log.queue.length = d.log.queue.length + 1 ∧ (d.logTry r).1.regs = d.regs := by
  have hroom : d.log.used + r.entries ≤ if r.mandatory then 256 else 224 := by
    split
    · omega
    · exact h
  unfold Dev.logTry
  dsimp only
  rw [if_pos hroom]
  exact ⟨rfl, List.length_append, rfl⟩

theorem eventWindowEnd_none {s : State} {e : Nat} (h : FMap.get (fun _ => none) s.dev.log.wins e = none) : exec (.eventWindowEnd e) s = .next s := by
  refine next_dev_congr ?_
  dsimp only
  rw [h]

/-- A window of `e` after its second. -/
def Dev.windowEnded (e : Nat) (w : EvtWin) (next : Option EvtWin) (d : Dev) : Dev :=
  { d.at (w.opened + 1000000000) with log := { d.log with wins := FMap.set (fun _ => none) d.log.wins e next } }

theorem eventWindowEnd_ends {s : State} {e : Nat} {w : EvtWin} (h : FMap.get (fun _ => none) s.dev.log.wins e = some w) (hcount : w.count = 0) :
    ∃ t, exec (.eventWindowEnd e) s = .next t ∧ FMap.get (fun _ => none) t.dev.log.wins e = none ∧ t.dev.regs = s.dev.regs ∧ DevOnly s t := by
  have hexec : exec (.eventWindowEnd e) s = .next { s with dev := s.dev.windowEnded e w none } := by
    refine next_dev_congr ?_
    dsimp only
    rw [h]
    dsimp only
    rw [if_pos hcount, if_pos hcount]
    rfl
  exact ⟨_, hexec, FMap.get_set_same (fun _ => none) s.dev.log.wins e none, rfl, rfl, rfl⟩

theorem eventWindowEnd_goes_on {s : State} {e : Nat} {w : EvtWin} (h : FMap.get (fun _ => none) s.dev.log.wins e = some w) (hcount : w.count ≠ 0)
    (hroom : s.dev.log.used + 1 ≤ 224) : ∃ t, exec (.eventWindowEnd e) s = .next t ∧ t.dev.log.queue.length = s.dev.log.queue.length + 1 ∧
      t.dev.regs = s.dev.regs ∧ DevOnly s t := by
  obtain ⟨d, hd⟩ : ∃ d, d = s.dev.windowEnded e w (some { opened := (s.dev.at (w.opened + 1000000000)).time.now }) := ⟨_, rfl⟩
  obtain ⟨hqueued, hlen, hregs⟩ := Dev.logTry_room (d := d) (r := eventRec e w.count w.inst w.time w.scan) (by rw [hd]; exact hroom)
  have hexec : exec (.eventWindowEnd e) s = .next { s with dev := (d.logTry (eventRec e w.count w.inst w.time w.scan)).1 } := by
    refine next_dev_congr ?_
    dsimp only
    rw [h]
    dsimp only
    rw [if_neg hcount, if_neg hcount]
    rw [hd] at hqueued ⊢
    exact if_pos hqueued
  exact ⟨_, hexec, hlen.trans (by rw [hd]; rfl), hregs.trans (by rw [hd]; rfl), rfl, rfl⟩

theorem timeRecord_idle {s : State} (h : s.dev.rbit A.ethPtp 30 = false) : exec .timeRecord s = .next s :=
  next_dev_congr (if_neg (ne_true_of_eq_false h))

theorem timeRecord_queues {s : State} (h : s.dev.rbit A.ethPtp 30 = true) (hroom : s.dev.log.used + 1 ≤ 224) : ∃ t, exec .timeRecord s = .next t ∧
    t.dev.log.queue.length = s.dev.log.queue.length + 1 ∧ t.dev.regs = s.dev.regs ∧ DevOnly s t := by
  obtain ⟨hqueued, hlen, hregs⟩ := Dev.logTry_room (d := s.dev)
    (r := { ty := 8, event := 0xFFFF, time := s.dev.time.now, scan := s.dev.scan, detail := leBytes 8 s.dev.utcOfs }) hroom
  exact ⟨_, next_dev_congr ((if_pos h).trans (if_pos hqueued)), hlen, hregs, rfl, rfl⟩

end Sys2Proof.Machine
end

section
/-! The memory and log units together (15 R504-R535). -/

namespace Sys2Proof.Machine
open Sys2Proof

/-- Settles O59: clause by clause, each command by its own lemma. -/
theorem memoryAndLogUnits : Obligations.MemoryAndLogUnits := by
  unfold Obligations.MemoryAndLogUnits
  intro s
  exact ⟨fun _ r => exec_bank_absent r, fun _ r => rowRepairSwitch_idle r, fun _ r => rowRepairSwitch_repairs r, fun _ => bankRetire_idle,
    fun _ => bankRetire_retires, fun n => aringsApply_takes n s, scrubPassEnd_paused, fun c u h => scrubPassEnd_counts h c u, preservingRedirect_idle,
    preservingRedirect_redirects, ⟨_, rfl, rfl, rfl, rfl⟩, marchTestEnd_idle, fun _ _ f => marchTestEnd_moves f, logRecordWrite_empty,
    fun _ _ => logRecordWrite_writes, fun _ _ k => logRecordWrite_fails k, fun _ => eventWindowEnd_none, fun _ _ => eventWindowEnd_ends,
    fun _ _ => eventWindowEnd_goes_on, timeRecord_idle, timeRecord_queues⟩

end Sys2Proof.Machine
end

section
/-! What events leave of the sessions: their notifications apart, everything (13 R457, 14 R495). -/

namespace Sys2Proof.Machine
open Sys2Proof

/-- A session without what events queue for it. -/
def Session.core (x : Session) : Session := { x with notifyQ := [], notifyDrop := 0 }

theorem notifyOne_core (h : HwdSt) (e scan t : Nat) (x : Session) : (notifyOne h e scan t x).core = x.core := by
  unfold notifyOne
  split
  · rfl
  · split
    · split
      · rfl
      · rfl
    · rfl

theorem FMap.get_mapSome {α : Type} (f : α → α) (m : FMap (Option α)) (n : Nat) :
    FMap.get (fun _ => none) (m.map fun p => (p.1, p.2.map f)) n = (FMap.get (fun _ => none) m n).map f := by
  induction m with
  | nil => rfl
  | cons p m ih =>
    simp only [List.map_cons, FMap.get, ih]
    split
    · rfl
    · split
      · rfl
      · rfl

theorem FMap.mem_of_get {α : Type} {m : FMap (Option α)} {n : Nat} {x : α} (h : FMap.get (fun _ => none) m n = some x) : (n, some x) ∈ m := by
  induction m with
  | nil => exact absurd h (by simp [FMap.get])
  | cons p m ih =>
    unfold FMap.get at h
    split at h
    · next hp =>
      rw [← hp, ← h]
      exact List.mem_cons_self
    · split at h
      · exact absurd h (by simp)
      · exact List.mem_cons_of_mem _ (ih h)

/-- The same sessions are open, and only what events queue for them differs. -/
def SessionsKept (d e : Dev) : Prop := ∀ n, (e.session n).map Session.core = (d.session n).map Session.core

namespace SessionsKept

theorem refl (d : Dev) : SessionsKept d d := fun _ => rfl

theorem trans {d e f : Dev} (h : SessionsKept d e) (k : SessionsKept e f) : SessionsKept d f := fun n => (k n).trans (h n)

theorem ite {d e f : Dev} {p : Prop} [Decidable p] (h : SessionsKept d e) (k : SessionsKept d f) : SessionsKept d (if p then e else f) := by
  split
  · exact h
  · exact k

theorem of_sessions {d e : Dev} (h : e.hwd.sessions = d.hwd.sessions) : SessionsKept d e := by
  intro n
  unfold Dev.session
  rw [h]

theorem closed {d e : Dev} (h : SessionsKept d e) {n : Nat} (hn : d.session n = none) : e.session n = none := by
  have := h n
  rw [hn] at this
  exact Option.map_eq_none_iff.1 this

theorem opened {d e : Dev} (h : SessionsKept d e) {n : Nat} {x : Session} (hn : d.session n = some x) :
    ∃ y, e.session n = some y ∧ y.core = x.core := by
  have := h n
  rw [hn] at this
  exact Option.map_eq_some_iff.1 this

theorem bump (c o b : Nat) (d : Dev) : SessionsKept d (d.bump c o b) := of_sessions (by rw [d.bump_regs])

theorem mapSessions (f : Session → Session) (hf : ∀ x, (f x).core = x.core) (d : Dev) : SessionsKept d { d with hwd := d.hwd.mapSessions f } := by
  intro n
  have hget : ({ d with hwd := d.hwd.mapSessions f } : Dev).session n = (d.session n).map f := FMap.get_mapSome f d.hwd.sessions n
  rw [hget, Option.map_map]
  exact congrArg (fun g => (d.session n).map g) (funext hf)

theorem raiseBase (e : Nat) (d : Dev) : SessionsKept d (d.raiseBase e) := by
  have counted : SessionsKept d ((d.setRbit (A.evtPend (e / 32)) (e % 32) true).bump (A.evtCnt e) (A.evtOvf (e / 32)) (e % 32)) :=
    trans (e := d.setRbit (A.evtPend (e / 32)) (e % 32) true) (of_sessions rfl) (bump _ _ _ _)
  unfold Dev.raiseBase
  extract_lets r f g l l1 l2 l3 h
  have noted : SessionsKept d h := counted.trans (of_sessions rfl)
  clear_value h
  exact ite (noted.trans (mapSessions _ (notifyOne_core _ _ _ _) h)) noted

theorem logTry (r : LogRec) (d : Dev) : SessionsKept d (d.logTry r).1 := by
  unfold Dev.logTry
  extract_lets room
  split
  · exact of_sessions rfl
  · exact trans (e := { d with log := { d.log with gap := true } }) (of_sessions rfl) (bump _ _ _ _)

theorem logEvent (e i : Nat) (d : Dev) : SessionsKept d (d.logEvent e i).1 := by
  unfold Dev.logEvent
  split
  · split
    · exact trans (e := { d with log := { d.log with wins := _ } }) (of_sessions rfl) (logTry _ _)
    · exact of_sessions rfl
  · exact refl d

theorem dropEvent (d : Dev) : SessionsKept d d.dropEvent := by
  obtain h | ⟨l, h⟩ := d.dropEvent_cases
  · rw [h]
    exact refl d
  · rw [h]
    exact trans (e := { d with log := l }) (of_sessions rfl) ((raiseBase _ _).trans (logEvent _ _ _))

theorem raise (e i : Nat) (d : Dev) : SessionsKept d (d.raise e i) := by
  have raised := (raiseBase e d).trans (logEvent e i _)
  unfold Dev.raise
  exact ite raised (raised.trans (dropEvent _))

theorem logRec (ty e : Nat) (b : List Nat) (m : List (List Nat)) (d : Dev) : SessionsKept d (d.logRec ty e b m) := by
  unfold Dev.logRec
  exact ite (logTry _ d) ((logTry _ d).trans (dropEvent _))

theorem moorSend (m : Mooring) (d : Dev) : SessionsKept d (d.moorSend m) := by
  unfold Dev.moorSend
  exact ite (of_sessions rfl) (refl d)

theorem settleState (base : Nat) (d : Dev) : SessionsKept d (d.settleState base) := by
  have settled : SessionsKept d (d.settleNow base) := by
    unfold Dev.settleNow
    extract_lets old st b e
    have shown : SessionsKept d e := of_sessions rfl
    exact ite shown (shown.trans ((raiseBase 0 e).trans (logRec _ _ _ _ _)))
  unfold Dev.settleState
  refine ite (ite ?_ (refl d)) settled
  exact trans (e := { d with pwr := { d.pwr with stDue := some (d.stampDue, base) } }) (of_sessions rfl) (moorSend _ _)

theorem wake (d : Dev) : SessionsKept d d.wake := by
  unfold Dev.wake
  have own : SessionsKept (d.settleState 3) (foldOver (List.range 30) (fun j d => d.settleOwn j 2) (d.settleState 3)) :=
    foldOver_keeps (SessionsKept (d.settleState 3)) _ _ _ (fun _ _ h => h.trans (of_sessions rfl)) (refl _)
  exact ite (ite (settleState 3 d) ((settleState 3 d).trans own)) (refl d)

end SessionsKept
end Sys2Proof.Machine
end

section
/-! Sessions that close, and secrets told to the partner (13 R442, R457, R460). -/

namespace Sys2Proof.Machine
open Sys2Proof

theorem Dev.session_setSession_other {n k : Nat} (h : k ≠ n) (x : Option Session) (d : Dev) : (d.setSession n x).session k = d.session k :=
  FMap.get_set_other _ _ x h

/-- Only sessions closed, events apart: of Heartwood nothing else changed, and what was closed stays so. -/
structure Closings (s t : State) : Prop where
  hwd : t.dev.hwd = { s.dev.hwd with sessions := t.dev.hwd.sessions }
  regs : RegsKept [] s.dev t.dev
  pend : PendKept s.dev t.dev
  pending : t.pending = s.pending
  closed : ∀ n, s.dev.session n = none → t.dev.session n = none

theorem Closings.refl (s : State) : Closings s s := ⟨rfl, .refl _ _, .of_regs rfl, rfl, fun _ h => h⟩

theorem Closings.trans {s t u : State} (h : Closings s t) (k : Closings t u) : Closings s u :=
  ⟨by rw [k.hwd, h.hwd], h.regs.trans k.regs, h.pend.trans k.pend, k.pending.trans h.pending, fun n hn => k.closed n (h.closed n hn)⟩

theorem State.closeSession_none {n : Nat} {s : State} (h : s.dev.session n = none) : s.closeSession n = s := by
  unfold State.closeSession
  rw [h]

/-- A session that closes is gone, with event 305. -/
theorem State.closeSession_some {n : Nat} {s : State} {x : Session} (h : s.dev.session n = some x) :
    Closings s (s.closeSession n) ∧ (s.closeSession n).dev.session n = none ∧ (s.closeSession n).dev.eventPending 305 = true := by
  obtain ⟨d, hd, told⟩ : ∃ d : Dev, s.closeSession n = { s with dev := (d.setSession n none).raise 305 n, mem := zeroWindow n s.mem } ∧
      Told [] s.dev d ∧ d.hwd = s.dev.hwd := by
    unfold State.closeSession
    rw [h]
    refine ⟨_, rfl, .ite (.moorSend _ _ _) (.refl _), ?_⟩
    split
    · exact Dev.moorSend_hwd _ _
    · rfl
  obtain ⟨told, hhwd⟩ := told
  rw [hd]
  have raised := Told.raise [] (d.setSession n none) (e := 305) (by decide) n
  have sessions := SessionsKept.raise 305 n (d.setSession n none)
  have hsame : ((d.setSession n none).raise 305 n).hwd =
      { (d.setSession n none).hwd with sessions := ((d.setSession n none).raise 305 n).hwd.sessions } := by
    rw [Dev.sameBut_raise (d.setSession n none) 305 n]
  have hset : (d.setSession n none).hwd = { s.dev.hwd with sessions := (d.setSession n none).hwd.sessions } := by
    rw [← hhwd]
    rfl
  refine ⟨⟨?_, told.regs.trans (.trans (.of_regs _ rfl) raised.regs), told.pend.trans (.trans (.of_regs rfl) raised.pend), rfl, fun k hk => ?_⟩,
    sessions.closed (Dev.session_setSession d n none), Dev.raise_pending _ (by decide) n⟩
  · dsimp only
    rw [hsame, hset]
  · refine sessions.closed ?_
    by_cases hkn : k = n
    · rw [hkn]
      exact Dev.session_setSession d n none
    · rw [Dev.session_setSession_other hkn]
      unfold Dev.session at hk ⊢
      rwa [hhwd]

theorem State.closeSession_closes (n : Nat) (s : State) : (s.closeSession n).dev.session n = none := by
  cases h : s.dev.session n with
  | none => rwa [State.closeSession_none h]
  | some x => exact (State.closeSession_some h).2.1

theorem Closings.closeSession (n : Nat) (s : State) : Closings s (s.closeSession n) := by
  cases h : s.dev.session n with
  | none =>
    rw [State.closeSession_none h]
    exact refl s
  | some x => exact (State.closeSession_some h).1

/-- One session of the list that closing goes through (13 R442). -/
def State.closeOne (p : Session → Bool) (x : Nat × Option Session) (s : State) : State :=
  match x.2 with
  | some y => if p y then s.closeSession x.1 else s
  | none => s

theorem State.closeWhere_eq (p : Session → Bool) (s : State) : s.closeWhere p = foldOver s.dev.hwd.sessions (State.closeOne p) s := rfl

theorem Closings.closeOne (p : Session → Bool) (x : Nat × Option Session) (s : State) : Closings s (s.closeOne p x) := by
  unfold State.closeOne
  split
  · split
    · exact closeSession _ s
    · exact refl s
  · exact refl s

theorem Closings.closeList (p : Session → Bool) (l : FMap (Option Session)) (s : State) : Closings s (foldOver l (State.closeOne p) s) :=
  foldOver_keeps (Closings s) l _ s (fun x _ h => h.trans (closeOne p x _)) (refl s)

/-- A session in the list that is to close is closed at the end. -/
theorem State.closeList_closes {p : Session → Bool} {l : FMap (Option Session)} {n : Nat} {x : Session} (h : (n, some x) ∈ l) (hp : p x = true) (s : State) :
    (foldOver l (State.closeOne p) s).dev.session n = none := by
  obtain ⟨before, after, rfl⟩ := List.append_of_mem h
  have hfold : foldOver (before ++ (n, some x) :: after) (State.closeOne p) s =
      foldOver after (State.closeOne p) ((foldOver before (State.closeOne p) s).closeOne p (n, some x)) := by
    unfold foldOver
    rw [List.foldl_append]
    rfl
  have hclosed : ((foldOver before (State.closeOne p) s).closeOne p (n, some x)).dev.session n = none := by
    unfold State.closeOne
    dsimp only
    rw [if_pos hp]
    exact State.closeSession_closes n _
  rw [hfold]
  exact (Closings.closeList p after _).closed n hclosed

theorem State.closeWhere_closes {p : Session → Bool} {n : Nat} {x : Session} {s : State} (h : s.dev.session n = some x) (hp : p x = true) :
    (s.closeWhere p).dev.session n = none := by
  rw [State.closeWhere_eq]
  exact State.closeList_closes (FMap.mem_of_get h) hp s

/-- What the partner is told of a session leaves everything but the twin's outbox. -/
theorem Dev.tellSession_told (l : List Nat) (n : Nat) (d : Dev) : Told l d (d.tellSession n) ∧ (d.tellSession n).hwd = d.hwd ∧ (d.tellSession n).regs = d.regs := by
  unfold Dev.tellSession Dev.moorSecret
  split
  · exact ⟨.refl d, rfl, rfl⟩
  · split
    · exact ⟨.refl d, rfl, rfl⟩
    · split
      · exact ⟨.moorSend l d _, Dev.moorSend_hwd _ _, Dev.moorSend_regs _ _⟩
      · exact ⟨.refl d, rfl, rfl⟩

theorem Dev.session_tellSession (n k : Nat) (d : Dev) : (d.tellSession n).session k = d.session k := by
  unfold Dev.session
  rw [(d.tellSession_told [] n).2.1]

end Sys2Proof.Machine
end

section
/-! Heartwood's own tests, ownership and the sessions' first and last messages (13 R442-R445, R457, R464, 14 R488-R489). -/

namespace Sys2Proof.Machine
open Sys2Proof

/-! CLAIM (13 R442). -/

/-- What bars a CLAIM in session `x`. -/
def Dev.ClaimBarred (x : Session) (d : Dev) : Prop :=
  d.rbit A.hwdStat 31 = true ∨ x.unclaimed = false ∨ x.tried = true ∨ d.hwd.recovery = true ∨ 5 ≤ d.claimFails.length

theorem claim_closed {s : State} {n : Nat} (z : Nat) (kb mac : List Nat) (h : s.dev.session n = none) : exec (.claim n z kb mac) s = .next s := by
  show execClaim n z kb mac s = _
  unfold execClaim
  rw [h]

theorem claim_barred {s : State} {n : Nat} {x : Session} (z : Nat) (kb mac : List Nat) (h : s.dev.session n = some x) (hbar : s.dev.ClaimBarred x) :
    ∃ t, exec (.claim n z kb mac) s = .next t ∧ t.dev = { s.dev with hwd := { s.dev.hwd with reply := (8, []) } } ∧ DevOnly s t := by
  refine ⟨s.onDev fun d => d.answer 8 [], ?_, rfl, rfl, rfl⟩
  show execClaim n z kb mac s = _
  unfold execClaim
  rw [h]
  exact congrArg Host.Outcome.next (if_pos hbar)

/-- Owner key 0, KT and CLAIMED as a CLAIM sets them. -/
def Dev.claimed (kb : List Nat) (d : Dev) : Dev :=
  { d.setRbit A.hwdStat 31 true with
    freeCnt := d.takeFree.freeCnt
    hwd := { d.hwd with
      ownerKeys := FMap.set (fun _ => 0) d.hwd.ownerKeys 0 (ofBe (sha256 kb))
      ktGen := d.hwd.ktGen + 1
      kt := Config.trng d.freeCnt } }

/-- What the device shows that takes a CLAIM. -/
theorem Dev.takeClaim_shows (kb : List Nat) (d : Dev) : (d.takeClaim kb).rbit A.hwdStat 31 = true ∧ (d.takeClaim kb).eventPending 312 = true ∧
    FMap.get (fun _ => 0) (d.takeClaim kb).hwd.ownerKeys 0 = ofBe (sha256 kb) ∧ (d.takeClaim kb).hwd.kt = Config.trng d.freeCnt ∧
    (d.takeClaim kb).hwd.reply = (0, []) ∧ SessionsKept d (d.takeClaim kb) := by
  obtain ⟨e, he⟩ : ∃ e, e = d.claimed kb := ⟨_, rfl⟩
  have hclaim : d.takeClaim kb = (e.raise 312 0).answer 0 [] := by rw [he]; rfl
  have raised := Told.raise [] e (e := 312) (by decide) 0
  have hhwd : (e.raise 312 0).hwd = { e.hwd with sessions := (e.raise 312 0).hwd.sessions } := by rw [Dev.sameBut_raise e 312 0]
  have hsame : (d.takeClaim kb).hwd = { e.hwd with sessions := (e.raise 312 0).hwd.sessions, reply := (0, []) } := by
    rw [hclaim]
    exact congrArg (fun h : HwdSt => { h with reply := (0, []) }) hhwd
  have hbit : e.rbit A.hwdStat 31 = true := by
    rw [he]
    exact (d.rbit_setRbit _ _ _ _ (by decide) (by decide)).trans (if_pos rfl)
  have hkey : FMap.get (fun _ => 0) e.hwd.ownerKeys 0 = ofBe (sha256 kb) := by
    rw [he]
    exact FMap.get_set_same (fun _ => 0) d.hwd.ownerKeys 0 _
  have hkt : e.hwd.kt = Config.trng d.freeCnt := by rw [he]; rfl
  have hsessions : SessionsKept d e := .of_sessions (by rw [he]; rfl)
  rw [hsame, hclaim]
  exact ⟨(raised.rbit (by decide) (by simp) 31).trans hbit, e.raise_pending (by decide) 0, hkey, hkt, rfl,
    (hsessions.trans (.raise 312 0 e)).trans (.of_sessions rfl)⟩

theorem claim_takes {s : State} {n z : Nat} {x : Session} {kb mac : List Nat} (h : s.dev.session n = some x) (hfree : ¬s.dev.ClaimBarred x)
    (hunclaimed : x.unclaimed = true) (hmac : mac = claimMac kb) (hlo : 1 ≤ z) (hhi : z ≤ 3) : ∃ t, exec (.claim n z kb mac) s = .next t ∧
      t.dev.rbit A.hwdStat 31 = true ∧ t.dev.eventPending 312 = true ∧ FMap.get (fun _ => 0) t.dev.hwd.ownerKeys 0 = ofBe (sha256 kb) ∧
      t.dev.hwd.kt = Config.trng s.dev.freeCnt ∧ t.dev.session n = none ∧ t.dev.hwd.reply = (0, []) ∧ t.pending = s.pending := by
  have hexec : exec (.claim n z kb mac) s = .next ((s.onDev (Dev.takeClaim kb)).closeWhere fun y => y.unclaimed) := by
    show execClaim n z kb mac s = _
    unfold execClaim
    rw [h]
    exact congrArg Host.Outcome.next ((if_neg hfree).trans (if_pos ⟨hmac, hlo, hhi⟩))
  obtain ⟨hbit, hevent, hkey, hkt, hreply, hsessions⟩ := s.dev.takeClaim_shows kb
  obtain ⟨y, hy, hcore⟩ := hsessions.opened h
  have hpick : y.unclaimed = true := (congrArg Session.unclaimed hcore :).trans hunclaimed
  have closed : ((s.onDev (Dev.takeClaim kb)).closeWhere fun y => y.unclaimed).dev.session n = none :=
    State.closeWhere_closes (s := s.onDev (Dev.takeClaim kb)) hy hpick
  have closings := Closings.closeList (fun y => y.unclaimed) (s.onDev (Dev.takeClaim kb)).dev.hwd.sessions (s.onDev (Dev.takeClaim kb))
  refine ⟨_, hexec, ?_, closings.pend.eventPending (by decide) hevent, ?_, ?_, closed, ?_, closings.pending⟩
  · exact (Dev.rbit_congr (closings.regs _ (by decide) (by simp)) 31).trans hbit
  · exact (congrArg (fun h : HwdSt => FMap.get (fun _ => 0) h.ownerKeys 0) closings.hwd).trans hkey
  · exact (congrArg HwdSt.kt closings.hwd).trans hkt
  · exact (congrArg HwdSt.reply closings.hwd).trans hreply

theorem claim_refused {s : State} {n z : Nat} {x : Session} {kb mac : List Nat} (h : s.dev.session n = some x) (hfree : ¬s.dev.ClaimBarred x)
    (hwrong : mac ≠ claimMac kb ∨ z = 0 ∨ 3 < z) : ∃ t y, exec (.claim n z kb mac) s = .next t ∧ t.dev.hwd.reply = (8, []) ∧
      t.dev.hwd.failT = s.dev.claimFails ++ [s.dev.time.now] ∧ t.dev.session n = some y ∧ y = { x with tried := true } ∧
      t.dev.regs = s.dev.regs ∧ DevOnly s t := by
  have hno : ¬(mac = claimMac kb ∧ 1 ≤ z ∧ z ≤ 3) := by
    rintro ⟨hmac, hlo, hhi⟩
    obtain hne | hz | hz := hwrong
    · exact hne hmac
    · omega
    · omega
  obtain ⟨d, hd⟩ : ∃ d : Dev, d = { s.dev with hwd := { s.dev.hwd with failT := s.dev.claimFails ++ [s.dev.time.now] } } := ⟨_, rfl⟩
  have hregs : d.regs = s.dev.regs := by rw [hd]
  have hfails : d.hwd.failT = s.dev.claimFails ++ [s.dev.time.now] := by rw [hd]
  refine ⟨{ s with dev := (d.setSession n (some { x with tried := true })).answer 8 [] }, { x with tried := true }, ?_, rfl, hfails,
    d.session_setSession n (some { x with tried := true }), rfl, hregs, rfl, rfl⟩
  rw [hd]
  show execClaim n z kb mac s = _
  unfold execClaim
  rw [h]
  exact congrArg Host.Outcome.next ((if_neg hfree).trans (if_neg hno))

/-! The floor and the tests (13 R445, R464). -/

theorem firmwareFloorRaise_raises (s : State) : ∃ t, exec .firmwareFloorRaise s = .next t ∧
    t.dev.fld A.hwdStat 15 8 = max (s.dev.fld A.hwdStat 15 8) (s.dev.fld A.hwdStat 23 16) ∧ (∀ a, a ≠ A.hwdStat → t.dev.reg a = s.dev.reg a) ∧
    PlantOnly s t := by
  have hlt : max (s.dev.fld A.hwdStat 15 8) (s.dev.fld A.hwdStat 23 16) < 256 :=
    max_lt (Nat.mod_lt _ (by decide)) (Nat.mod_lt _ (by decide))
  exact ⟨_, rfl, (s.dev.fld_setFld_same _ _ (by decide) (by decide)).trans (Nat.mod_eq_of_lt hlt), fun _ ha => s.dev.reg_setFld_other 15 8 _ ha,
    (PlantKept.refl s.dev).plantOnly⟩

theorem trngHealthFail_shows (s : State) : ∃ t, exec .trngHealthFail s = .next t ∧ t.dev.rbit A.hwdStat 30 = false ∧ t.dev.eventPending 311 = true ∧
    RegsKept [A.hwdStat] s.dev t.dev ∧ DevOnly s t := by
  have raised := fun l => Told.raise l (s.dev.setRbit A.hwdStat 30 false) (e := 311) (by decide) 0
  refine ⟨_, rfl, ((raised []).rbit (by decide) (by simp) 30).trans ?_, Dev.raise_pending _ (by decide) 0,
    (RegsKept.setReg s.dev _ (by simp)).trans (raised _).regs, rfl, rfl⟩
  rw [Dev.rbit_setRbit _ _ _ _ _ (by decide) (by decide), if_pos rfl]

theorem hwdTestEnd_passes (s : State) : ∃ t, exec (.hwdTestEnd true) s = .next t ∧ t.dev.rbit A.hwdStat 30 = true ∧ t.dev.rbit A.hwdStat 29 = true ∧
    t.dev.hwdOk = s.dev.hwd.ks.isSome ∧ (∀ a, a ≠ A.hwdStat → t.dev.reg a = s.dev.reg a) ∧ PlantOnly s t := by
  have bits : ∀ j, j < 32 → ((s.dev.setRbit A.hwdStat 30 true).setRbit A.hwdStat 29 true).rbit A.hwdStat j =
      if j = 29 then true else if j = 30 then true else s.dev.rbit A.hwdStat j := fun j hj => by
    rw [Dev.rbit_setRbit _ _ _ _ _ (by decide) hj, Dev.rbit_setRbit _ _ _ _ _ (by decide) hj]
  have htrng := bits 30 (by decide)
  have hself := bits 29 (by decide)
  refine ⟨{ s with dev := (s.dev.setRbit A.hwdStat 30 true).setRbit A.hwdStat 29 true }, rfl, htrng, hself, ?_, fun a ha => ?_,
    (PlantKept.refl s.dev).plantOnly⟩
  · show (_ && _ && s.dev.hwd.ks.isSome) = _
    rw [htrng, hself]
    rfl
  · exact (Dev.reg_setRbit_other _ _ _ ha).trans (Dev.reg_setRbit_other _ _ _ ha)

theorem hwdTestEnd_fails (s : State) : ∃ t, exec (.hwdTestEnd false) s = .next t ∧ t.dev.rbit A.hwdStat 29 = false ∧ t.dev.eventPending 311 = true ∧
    DevOnly s t := by
  obtain ⟨d, hd⟩ : ∃ d, d = (s.dev.setRbit A.hwdStat 29 false).raise 311 0 := ⟨_, rfl⟩
  have hexec : exec (.hwdTestEnd false) s = .next { s with dev := if !s.dev.rbit A.hwdStat 29 then d.twinFail else d } := by
    rw [hd]
    exact next_dev_congr (if_neg (by decide))
  have hbit : d.rbit A.hwdStat 29 = false := by
    rw [hd]
    refine ((Told.raise [] _ (by decide) 0).rbit (by decide) (by simp) 29).trans ?_
    rw [Dev.rbit_setRbit _ _ _ _ _ (by decide) (by decide), if_pos rfl]
  have hevent : d.eventPending 311 = true := by
    rw [hd]
    exact Dev.raise_pending _ (by decide) 0
  have kept : ImagesKept d (if !s.dev.rbit A.hwdStat 29 then d.twinFail else d) := .ite (.twinFail d) (.refl d)
  exact ⟨_, hexec, (Dev.rbit_congr kept.hwdStat 29).trans hbit, kept.pend.eventPending (by decide) hevent, rfl, rfl⟩

/-! Keys, the end of a slot, HELLO and BYE (13 R457-R460, 14 R488-R489). -/

theorem keyupdate_moves {s : State} {n : Nat} {x : Session} (h : s.dev.session n = some x) : ∃ t, exec (.keyupdate n) s = .next t ∧
    t.dev.session n = some { x with keyGen := x.keyGen + 1, secret := Config.trng s.dev.freeCnt, recs := 0, rekey := false } ∧
    t.dev.regs = s.dev.regs ∧ DevOnly s t := by
  obtain ⟨d, hd⟩ : ∃ d, d = s.dev.takeFree.setSession n
    (some { x with keyGen := x.keyGen + 1, secret := Config.trng s.dev.freeCnt, recs := 0, rekey := false }) := ⟨_, rfl⟩
  have hon : s.dev.takeFree.onSession n (fun x => { x with keyGen := x.keyGen + 1, secret := Config.trng s.dev.freeCnt, recs := 0, rekey := false }) = d := by
    rw [hd]
    unfold Dev.onSession
    rw [show s.dev.takeFree.session n = some x from h]
  have hexec : exec (.keyupdate n) s = .next { s with dev := d.tellSession n } := by
    rw [← hon]
    exact congrArg Host.Outcome.next (if_neg (by simp [h]))
  refine ⟨_, hexec, (d.session_tellSession n n).trans ?_, (d.tellSession_told [] n).2.2.trans ?_, rfl, rfl⟩
  · rw [hd]
    exact Dev.session_setSession _ n _
  · rw [hd]
    rfl

theorem exec_session_closed {s : State} {n : Nat} (h : s.dev.session n = none) : exec (.keyupdate n) s = .next s ∧ exec (.sessionExpiry n) s = .next s ∧
    (∀ q, exec (.fspBye n q) s = .next s) ∧ ∀ lo hi, exec (.fspHello n lo hi) s = .next s := by
  refine ⟨congrArg Host.Outcome.next (if_pos (by rw [h]; rfl)), ?_, fun q => congrArg Host.Outcome.next (State.closeSession_none h), fun lo hi => ?_⟩
  · show execSessionExpiry n s = _
    unfold execSessionExpiry
    rw [h]
  · show execFspHello n lo hi s = _
    unfold execFspHello
    rw [h]

theorem exec_sessionExpiry {s : State} {n : Nat} {x : Session} (h : s.dev.session n = some x) : exec (.sessionExpiry n) s =
    .next (if s.dev.rbit A.ethPtp 30 && (s.dev.hwd.slotOf x).isSome then s.closeSession n else s) := by
  show execSessionExpiry n s = _
  unfold execSessionExpiry
  rw [h]

theorem sessionExpiry_unchecked {s : State} {n : Nat} {x : Session} (h : s.dev.session n = some x)
    (hno : s.dev.rbit A.ethPtp 30 = false ∨ s.dev.hwd.slotOf x = none) : exec (.sessionExpiry n) s = .next s := by
  refine (exec_sessionExpiry h).trans (congrArg Host.Outcome.next (if_neg ?_))
  obtain hutc | hslot := hno
  · simp [hutc]
  · simp [hslot]

theorem sessionExpiry_closes {s : State} {n : Nat} {x : Session} (h : s.dev.session n = some x) (hutc : s.dev.rbit A.ethPtp 30 = true)
    (hslot : (s.dev.hwd.slotOf x).isSome = true) : ∃ t, exec (.sessionExpiry n) s = .next t ∧ t.dev.session n = none ∧
      t.dev.eventPending 305 = true ∧ t.pending = s.pending := by
  obtain ⟨closings, hnone, hevent⟩ := State.closeSession_some h
  exact ⟨_, (exec_sessionExpiry h).trans (congrArg Host.Outcome.next (if_pos (by rw [hutc, hslot]; rfl))), hnone, hevent, closings.pending⟩

theorem fspBye_closes {s : State} {n : Nat} {x : Session} (q : Nat) (h : s.dev.session n = some x) : ∃ t, exec (.fspBye n q) s = .next t ∧
    t.dev.session n = none ∧ t.dev.eventPending 305 = true ∧ RegsKept [] s.dev t.dev ∧ t.pending = s.pending := by
  obtain ⟨closings, hnone, hevent⟩ := State.closeSession_some h
  exact ⟨_, rfl, hnone, hevent, closings.regs, closings.pending⟩

section
variable {s : State} {n lo hi : Nat} {x : Session} (h : s.dev.session n = some x)
include h

theorem fspHello_chooses {v : Nat} (hver : x.ver = 0) (hv : fspVersion lo hi s.dev.topo.fspmax = some v) : ∃ t, exec (.fspHello n lo hi) s = .next t ∧
    t.dev.session n = some { x with ver := v, idle := s.dev.time.now } ∧ t.dev.hwd.reply = (0, [v]) ∧ t.dev.regs = s.dev.regs ∧ DevOnly s t := by
  obtain ⟨d, hd⟩ : ∃ d, d = s.dev.setSession n (some { x with ver := v, idle := s.dev.time.now }) := ⟨_, rfl⟩
  have hexec : exec (.fspHello n lo hi) s = .next { s with dev := (d.tellSession n).answer 0 [v] } := by
    rw [hd]
    show execFspHello n lo hi s = _
    unfold execFspHello
    rw [h]
    dsimp only
    rw [if_neg (by omega), hv]
    rfl
  refine ⟨_, hexec, (d.session_tellSession n n).trans ?_, rfl, (d.tellSession_told [] n).2.2.trans ?_, rfl, rfl⟩
  · rw [hd]
    exact Dev.session_setSession _ n _
  · rw [hd]
    rfl

theorem fspHello_closes (hver : x.ver = 0) (hv : fspVersion lo hi s.dev.topo.fspmax = none) : ∃ t, exec (.fspHello n lo hi) s = .next t ∧
    t.dev.session n = none ∧ t.dev.hwd.reply = (9, []) ∧ t.pending = s.pending := by
  obtain ⟨closings, hnone, -⟩ := State.closeSession_some h
  refine ⟨(s.closeSession n).onDev fun d => d.answer 9 [], ?_, hnone, rfl, closings.pending⟩
  show execFspHello n lo hi s = _
  unfold execFspHello
  rw [h]
  dsimp only
  rw [if_neg (by omega), hv]

theorem fspHello_again (hver : 0 < x.ver) : ∃ t, exec (.fspHello n lo hi) s = .next t ∧ t.dev.session n = none ∧ t.dev.eventPending 357 = true ∧
    t.pending = s.pending := by
  obtain ⟨closings, hnone, -⟩ := State.closeSession_some h
  refine ⟨s.protoClose n, ?_, (SessionsKept.raise 357 n _).closed hnone, Dev.raise_pending _ (by decide) n, closings.pending⟩
  show execFspHello n lo hi s = _
  unfold execFspHello
  rw [h]
  dsimp only
  rw [if_pos hver]

end
end Sys2Proof.Machine
end

section
/-! The handshake of a session (13 R442, R457-R459, R469). -/

namespace Sys2Proof.Machine
open Sys2Proof

theorem Dev.sameBut_hwd {d e : Dev} (h : Dev.sameBut d e) : e.hwd = { d.hwd with sessions := e.hwd.sessions } := by rw [h]

/-! Refusals. -/

theorem Dev.refuseSession_shows (a : Option Alert) (d : Dev) : (d.refuseSession a).reg A.hwdRefuse = satInc (d.reg A.hwdRefuse) ∧
    (d.refuseSession a).hwd.alert = a.map Alert.code ∧ (d.refuseSession a).eventPending 305 = true ∧
    RegsKept [A.hwdRefuse, A.hwdOvf] d (d.refuseSession a) := by
  obtain ⟨e, he⟩ : ∃ e : Dev, e = { d with hwd := { d.hwd with alert := a.map Alert.code } } := ⟨_, rfl⟩
  have hregs : e.regs = d.regs := by rw [he]
  have halert : e.hwd.alert = a.map Alert.code := by rw [he]
  have hrefuse : d.refuseSession a = (e.bump A.hwdRefuse A.hwdOvf 0).raise 305 0 := by rw [he]; rfl
  have raised := Told.raise [] (e.bump A.hwdRefuse A.hwdOvf 0) (e := 305) (by decide) 0
  have hhwd : (e.bump A.hwdRefuse A.hwdOvf 0).hwd = e.hwd := by rw [e.bump_regs]
  rw [hrefuse]
  refine ⟨(raised.reg (by decide) (by simp)).trans ((e.reg_bump 0 (by decide)).trans (congrArg satInc (Dev.reg_congr hregs _))), ?_,
    Dev.raise_pending _ (by decide) 0, fun b hb hl => ?_⟩
  · exact (congrArg HwdSt.alert (Dev.sameBut_hwd (Dev.sameBut_raise _ 305 0))).trans ((congrArg HwdSt.alert hhwd).trans halert)
  · simp only [List.mem_cons, List.not_mem_nil, or_false, not_or] at hl
    exact (raised.reg hb (by simp)).trans ((e.reg_bump_other 0 hl.1 hl.2).trans (Dev.reg_congr hregs b))

theorem handshakeTimeout_counts (s : State) : ∃ t, exec .handshakeTimeout s = .next t ∧ t.dev.reg A.hwdRefuse = satInc (s.dev.reg A.hwdRefuse) ∧
    t.dev.eventPending 305 = true ∧ RegsKept [A.hwdRefuse, A.hwdOvf] s.dev t.dev ∧ DevOnly s t := by
  obtain ⟨hcount, -, hevent, hregs⟩ := s.dev.refuseSession_shows none
  exact ⟨_, rfl, hcount, hevent, hregs, rfl, rfl⟩

/-- The handshake is refused with alert `a`. -/
def HandshakeRefused (hs : Handshake) (a : Option Nat) (s : State) : Prop :=
  ∃ t, exec (.sessionHandshake hs) s = .next t ∧ t.dev.reg A.hwdRefuse = satInc (s.dev.reg A.hwdRefuse) ∧ t.dev.hwd.alert = a ∧
    t.dev.eventPending 305 = true ∧ DevOnly s t

theorem sessionHandshake_tmode {s : State} (h : s.dev.rbit A.sysStrap 2 = true) (hs : Handshake) : exec (.sessionHandshake hs) s = .next s :=
  congrArg Host.Outcome.next (if_pos h)

theorem State.handshake_recovery {hs : Handshake} {s : State} (hrec : s.dev.hwd.recovery = true) (hport : hs.port ≠ 0) : s.handshake hs = s :=
  if_pos (by rw [hrec, Bool.true_and, Bool.not_eq_true', beq_eq_false_iff_ne]; exact hport)

theorem sessionHandshake_recovery {hs : Handshake} {s : State} (hrec : s.dev.hwd.recovery = true) (hport : hs.port ≠ 0) :
    exec (.sessionHandshake hs) s = .next s := by
  refine congrArg Host.Outcome.next ?_
  split
  · rfl
  · exact State.handshake_recovery hrec hport

/-! The profile and the signature (13 R458-R459). -/

/-- The suites, groups and schemes of the profile are offered. -/
def ProfileOffered (hs : Handshake) : Prop := (0x1301 ∈ hs.suites ∨ 0x1303 ∈ hs.suites) ∧ (23 ∈ hs.groups ∨ 29 ∈ hs.groups) ∧ 0x0403 ∈ hs.schemes

/-- The client signed with one of the three schemes, and the signature verifies. -/
def SchemeSigned (hs : Handshake) : Prop := hs.verifyOk = true ∧ (hs.scheme = 0x0403 ∨ hs.scheme = 0x0503 ∨ hs.scheme = 0x0807)

theorem profileAlert_version {hs : Handshake} (h : 0x0304 ∉ hs.versions) : profileAlert hs = some .protocolVersion := by
  unfold profileAlert
  rw [if_pos (by simpa using h)]

theorem profileOffered_iff (hs : Handshake) : ((hs.suites.contains 0x1301 || hs.suites.contains 0x1303) &&
    (hs.groups.contains 23 || hs.groups.contains 29) && hs.schemes.contains 0x0403) = true ↔ ProfileOffered hs := by
  unfold ProfileOffered
  simp only [Bool.and_eq_true, Bool.or_eq_true, List.contains_iff_mem, and_assoc]

theorem profileAlert_failure {hs : Handshake} (hv : 0x0304 ∈ hs.versions) (h : ¬ProfileOffered hs) : profileAlert hs = some .handshakeFailure := by
  unfold profileAlert
  rw [if_neg (by simpa using hv), if_neg (fun ho => h ((profileOffered_iff hs).1 ho))]

theorem profileAlert_none {hs : Handshake} (hv : 0x0304 ∈ hs.versions) (h : ProfileOffered hs) : profileAlert hs = none := by
  unfold profileAlert
  rw [if_neg (by simpa using hv), if_pos ((profileOffered_iff hs).2 h)]

theorem clientSigned_iff (hs : Handshake) : clientSigned hs = true ↔ SchemeSigned hs := by
  unfold clientSigned SchemeSigned
  simp only [Bool.and_eq_true, List.contains_iff_mem, List.mem_cons, List.not_mem_nil, or_false]

/-! The steps in their order. -/

/-- The last step: FINISHED verifies, and the session takes its place (13 R459). -/
def State.finish (hs : Handshake) (n : Nat) (emerg : Bool) (x : Session) (s : State) : State :=
  if hs.finishedOk then s.seat n emerg x else s.onDev (Dev.refuseSession (some .decryptError))

section
variable {hs : Handshake} {s : State} (hserved : s.dev.hwd.recovery = false ∨ hs.port = 0)
include hserved

theorem recovery_serves : ¬(s.dev.hwd.recovery && !(hs.port == 0)) = true := by
  obtain h | h := hserved
  · simp [h]
  · simp [h]

theorem State.handshake_untested (h : s.dev.hwdOk = false) : s.handshake hs = s.onDev (Dev.refuseSession none) := by
  unfold State.handshake
  dsimp only
  rw [if_neg (recovery_serves hserved), if_pos (by simp [h])]

section
variable (hok : s.dev.hwdOk = true)
include hok

theorem State.handshake_profile {a : Alert} (h : profileAlert hs = some a) : s.handshake hs = s.onDev (Dev.refuseSession (some a)) := by
  unfold State.handshake
  dsimp only
  rw [if_neg (recovery_serves hserved), if_neg (by simp [hok]), h]
  exact if_pos rfl

theorem State.handshake_unsigned (hprofile : profileAlert hs = none) (h : clientSigned hs = false) :
    s.handshake hs = s.onDev (Dev.refuseSession (some .decryptError)) := by
  unfold State.handshake
  dsimp only
  rw [if_neg (recovery_serves hserved), if_neg (by simp [hok]), hprofile, if_neg (by simp), if_pos (by simp [h])]

section
variable (hprofile : profileAlert hs = none) (hsigned : clientSigned hs = true)
include hprofile hsigned

theorem State.handshake_unclaimed (h : s.dev.rbit A.hwdStat 31 = false) :
    s.handshake hs = s.finish hs s.dev.freeSession false { unclaimed := true, ownAddr := hs.ownAddress } := by
  unfold State.handshake
  dsimp only
  rw [if_neg (recovery_serves hserved), if_neg (by simp [hok]), hprofile, if_neg (by simp), if_neg (by simp [hsigned]), if_pos h]
  rfl

variable (hclaimed : s.dev.rbit A.hwdStat 31 = true) (howner : ∀ p ∈ s.dev.hwd.ownerKeys, p.2 ≠ hs.keyHash)
include hclaimed howner

/-- With a key that is no Owner's, the slot of its hash decides. -/
theorem State.handshake_tenant : s.handshake hs = match s.dev.hwd.slotByKey hs.keyHash with
    | none => s.onDev (Dev.refuseSession (some .certificateUnknown))
    | some p =>
      if s.dev.slotValid p.2 then s.finish hs p.1 p.2.emerg { slot := p.1, ownAddr := hs.ownAddress }
      else s.onDev (Dev.refuseSession (some .certificateExpired)) := by
  have hno : ¬(s.dev.hwd.ownerKeys.any fun p => p.2 == hs.keyHash) = true := by
    rw [List.any_eq_true]
    rintro ⟨p, hp, hkey⟩
    exact howner p hp (eq_of_beq hkey)
  unfold State.handshake
  dsimp only
  rw [if_neg (recovery_serves hserved), if_neg (by simp [hok]), hprofile, if_neg (by simp), if_neg (by simp [hsigned]), if_neg (by simp [hclaimed]),
    if_neg hno]
  rfl

theorem State.handshake_unknown (h : s.dev.hwd.slotByKey hs.keyHash = none) : s.handshake hs = s.onDev (Dev.refuseSession (some .certificateUnknown)) := by
  rw [State.handshake_tenant hserved hok hprofile hsigned hclaimed howner, h]

theorem State.handshake_slot {p : Nat × TenantSlot} (h : s.dev.hwd.slotByKey hs.keyHash = some p) : s.handshake hs =
    if s.dev.slotValid p.2 then s.finish hs p.1 p.2.emerg { slot := p.1, ownAddr := hs.ownAddress }
    else s.onDev (Dev.refuseSession (some .certificateExpired)) := by
  rw [State.handshake_tenant hserved hok hprofile hsigned hclaimed howner, h]

end
end
end

/-! A session opens (13 R457, R459). -/

theorem State.seat_full {n : Nat} {x : Session} {s : State} (h : 64 ≤ s.dev.openSessions) (hn : s.dev.session n = none) :
    s.seat n false x = s.onDev (Dev.refuseSession (some .userCanceled)) := by
  unfold State.seat
  rw [if_neg (by simp [hn]; omega), if_neg (by decide)]

theorem State.seat_room {n : Nat} {x : Session} {s : State} (emerg : Bool) (h : s.dev.openSessions < 64) : s.seat n emerg x = s.openSession n x :=
  if_pos (.inl h)

/-- A session opens as it was asked for, with event 305; of the registers, only what waking the device writes. -/
theorem State.openSession_opens (n : Nat) (x : Session) (s : State) :
    (∃ y, (s.openSession n x).dev.session n = some y ∧ { y.core with idle := x.idle, secret := x.secret } = x.core) ∧
      (s.openSession n x).dev.eventPending 305 = true ∧ RegsKept [A.pwrStat] s.dev (s.openSession n x).dev ∧
      (s.dev.pstate ≠ 2 → RegsKept [] s.dev (s.openSession n x).dev) ∧ (s.openSession n x).pending = s.pending := by
  have closings := Closings.closeSession n s
  obtain ⟨c, hc⟩ : ∃ c, c = s.closeSession n := ⟨_, rfl⟩
  obtain ⟨y, hy⟩ : ∃ y : Session, y = { x with idle := c.dev.time.now, secret := Config.trng c.dev.freeCnt } := ⟨_, rfl⟩
  obtain ⟨d, hd⟩ : ∃ d, d = c.dev.takeFree.setSession n (some y) := ⟨_, rfl⟩
  rw [← hc] at closings
  have hopen : s.openSession n x = { c with dev := ((d.raise 305 n).wake).tellSession n, mem := zeroWindow n c.mem } := by
    rw [hd, hy, hc]
    rfl
  have hset : RegsKept [] s.dev d := closings.regs.trans (.of_regs _ (by rw [hd]; rfl))
  have raised := Told.raise [] d (e := 305) (by decide) n
  have woken := Woken.wake (d.raise 305 n)
  have told := fun l => (Dev.tellSession_told l n (d.raise 305 n).wake).1
  have hasked : d.session n = some y := by
    rw [hd]
    exact Dev.session_setSession _ n _
  obtain ⟨z, hz, hcore⟩ := ((SessionsKept.raise 305 n d).trans (.wake _)).opened hasked
  rw [hopen]
  refine ⟨⟨z, (Dev.session_tellSession n n _).trans hz, ?_⟩, ?_, ?_, fun hawake => ?_, closings.pending⟩
  · rw [hcore, hy]
    rfl
  · exact (told []).pend.eventPending (by decide) (woken.pend.eventPending (by decide) (d.raise_pending (by decide) n))
  · exact RegsKept.trans (fun a ha _ => (hset.trans raised.regs) a ha (by simp)) (woken.regs.trans (told _).regs)
  · have hp : (d.raise 305 n).pstate = s.dev.pstate := Dev.fld_congr ((hset.trans raised.regs) A.pwrStat (by decide) (by simp)) 31 28
    have htold := told []
    rw [Dev.wake_awake (by rwa [hp])] at htold
    have hgoal := (hset.trans raised.regs).trans htold.regs
    dsimp only
    rw [Dev.wake_awake (by rwa [hp])]
    exact hgoal

section
variable {hs : Handshake} {s : State} (htmode : s.dev.rbit A.sysStrap 2 = false)
include htmode

theorem exec_sessionHandshake : exec (.sessionHandshake hs) s = .next (s.handshake hs) :=
  congrArg Host.Outcome.next (if_neg (ne_true_of_eq_false htmode))

theorem handshakeRefused_of {a : Option Alert} (h : s.handshake hs = s.onDev (Dev.refuseSession a)) : HandshakeRefused hs (a.map Alert.code) s := by
  obtain ⟨hcount, halert, hevent, -⟩ := s.dev.refuseSession_shows a
  exact ⟨_, (exec_sessionHandshake htmode).trans (congrArg Host.Outcome.next h), hcount, halert, hevent, rfl, rfl⟩

theorem handshakeRefused_finish {n : Nat} {emerg : Bool} {x : Session} (h : s.handshake hs = s.finish hs n emerg x) (hfin : hs.finishedOk = false) :
    HandshakeRefused hs (some 51) s :=
  handshakeRefused_of htmode (a := some .decryptError) (h.trans (if_neg (ne_true_of_eq_false hfin)))

theorem handshakeRefused_full {n : Nat} {x : Session} (h : s.handshake hs = s.finish hs n false x) (hfin : hs.finishedOk = true)
    (hfull : 64 ≤ s.dev.openSessions) (hn : s.dev.session n = none) : HandshakeRefused hs (some 90) s :=
  handshakeRefused_of htmode (a := some .userCanceled) (h.trans ((if_pos hfin).trans (State.seat_full hfull hn)))

theorem exec_handshake_opens {n : Nat} {emerg : Bool} {x : Session} (h : s.handshake hs = s.finish hs n emerg x) (hfin : hs.finishedOk = true)
    (hroom : s.dev.openSessions < 64) : exec (.sessionHandshake hs) s = .next (s.openSession n x) :=
  (exec_sessionHandshake htmode).trans (congrArg Host.Outcome.next (h.trans ((if_pos hfin).trans (State.seat_room emerg hroom))))

end
end Sys2Proof.Machine
end

section
/-! Owner records in a session (13 R444-R446, R453-R457). -/

namespace Sys2Proof.Machine
open Sys2Proof

theorem Dev.ownActs_raise (e i : Nat) (d : Dev) : (d.raise e i).hwd.ownActs = d.hwd.ownActs := by
  rw [Dev.sameBut_hwd (d.sameBut_raise e i)]

/-- A token is taken from the bucket, or its refusal is counted (13 R455). -/
theorem Dev.takeToken_cases (n : Nat) (x : Session) (d : Dev) :
    (∃ tk, d.takeToken n x = ({ d with hwd := { d.hwd with tokens := tk } }, true)) ∨
      ∃ e, d.takeToken n x = (e, false) ∧ e.hwd.ownActs = d.hwd.ownActs ∧ RegsKept [A.hwdRate, A.hwdOvf] d e := by
  have counted : (d.bump A.hwdRate A.hwdOvf 1).hwd = d.hwd ∧ RegsKept [A.hwdRate, A.hwdOvf] d (d.bump A.hwdRate A.hwdOvf 1) := by
    refine ⟨by rw [d.bump_regs], fun a _ hl => ?_⟩
    simp only [List.mem_cons, List.not_mem_nil, or_false, not_or] at hl
    exact d.reg_bump_other 1 hl.1 hl.2
  obtain ⟨hhwd, hregs⟩ := counted
  have hacts : (d.bump A.hwdRate A.hwdOvf 1).hwd.ownActs = d.hwd.ownActs := congrArg HwdSt.ownActs hhwd
  have noted : ∀ e : Dev, e.hwd.ownActs = d.hwd.ownActs → e.regs = (d.bump A.hwdRate A.hwdOvf 1).regs →
      (e.raise 309 n).hwd.ownActs = d.hwd.ownActs ∧ RegsKept [A.hwdRate, A.hwdOvf] d (e.raise 309 n) := fun e h he =>
    ⟨(e.ownActs_raise 309 n).trans h, hregs.trans ((RegsKept.of_regs _ he).trans (Told.raise _ e (by decide) n).regs)⟩
  unfold Dev.takeToken
  split
  · exact .inl ⟨d.hwd.tokens, rfl⟩
  · extract_lets t miss last due e
    split
    · exact .inl ⟨_, rfl⟩
    · split
      · exact .inr ⟨_, rfl, noted _ hacts rfl⟩
      · exact .inr ⟨_, rfl, hacts, hregs⟩

/-- A token taken is noted in the bucket alone. -/
theorem Dev.takeToken_taken {n : Nat} {x : Session} {d : Dev} (h : (d.takeToken n x).2 = true) :
    ∃ tk, (d.takeToken n x).1 = { d with hwd := { d.hwd with tokens := tk } } := by
  obtain ⟨tk, ht⟩ | ⟨e, ht, -⟩ := d.takeToken_cases n x
  · exact ⟨tk, by rw [ht]⟩
  · rw [ht] at h
    exact absurd h (by simp)

/-- Without a token, the refusal is counted. -/
theorem Dev.takeToken_refused {n : Nat} {x : Session} {d : Dev} (h : (d.takeToken n x).2 = false) :
    (d.takeToken n x).1.hwd.ownActs = d.hwd.ownActs ∧ RegsKept [A.hwdRate, A.hwdOvf] d (d.takeToken n x).1 := by
  obtain ⟨tk, ht⟩ | ⟨e, ht, hkept⟩ := d.takeToken_cases n x
  · rw [ht] at h
    exact absurd h (by simp)
  · rw [ht]
    exact hkept

/-- An Owner record's checks in their order (14 R492). -/
theorem Dev.checkReq_owner (n : Nat) (x : Session) (op : FspOp) (d : Dev) : d.checkReq n 0 25 0 false x op =
    if !(d.takeToken n x).2 then ((d.takeToken n x).1, 2, [])
    else if !d.holds x 25 then ((d.takeToken n x).1, 4, [])
    else if d.suspended x then ((d.takeToken n x).1, 5, [])
    else op (d.takeToken n x).1 := rfl

theorem Dev.takeRecord_refuses {r : OwnRec} {a : OwnAct} {d : Dev} (h : (d.ownRecOk r a && d.ownActOk a) = false) :
    Dev.takeRecord r a d = (d.raise 310 0, 8, [1]) := by
  have judged : d.judgeRecord d.stampDue r a = (d.raise 310 0, false) := if_neg (ne_true_of_eq_false h)
  unfold Dev.takeRecord
  dsimp only
  rw [judged]
  rfl

theorem Dev.takeRecord_accepts {r : OwnRec} {a : OwnAct} {d : Dev} (h : (d.ownRecOk r a && d.ownActOk a) = true) :
    ∃ e, Dev.takeRecord r a d = (e, 0, [0]) ∧ e.hwd.ownActs = d.hwd.ownActs ++ [(d.stampDue, a)] ∧
      e.reg A.hwdOwnseq = BitVec.ofNat 32 (ownSeq r) ∧ e.eventPending 310 = true := by
  obtain ⟨e, he⟩ : ∃ e : Dev, e = { d.raise 310 0 with hwd := { (d.raise 310 0).hwd with ownActs := (d.raise 310 0).hwd.ownActs ++ [(d.stampDue, a)] } } :=
    ⟨_, rfl⟩
  have judged : d.judgeRecord d.stampDue r a = (e.setReg A.hwdOwnseq (BitVec.ofNat 32 (ownSeq r)), true) := by
    rw [he]
    exact if_pos h
  have told : ∃ f, Dev.takeRecord r a d = (f, 0, [0]) ∧ Told [] (e.setReg A.hwdOwnseq (BitVec.ofNat 32 (ownSeq r))) f ∧ f.hwd = e.hwd := by
    unfold Dev.takeRecord
    dsimp only
    rw [judged]
    refine ⟨_, rfl, .ite (.moorSend _ _ _) (.refl _), ?_⟩
    split
    · exact Dev.moorSend_hwd _ _
    · rfl
  obtain ⟨f, hf, htold, hhwd⟩ := told
  have hacts : e.hwd.ownActs = d.hwd.ownActs ++ [(d.stampDue, a)] := by
    rw [he]
    exact congrArg (· ++ [(d.stampDue, a)]) (d.ownActs_raise 310 0)
  have hevent : e.eventPending 310 = true := by
    rw [he]
    exact d.raise_pending (by decide) 0
  exact ⟨f, hf, (congrArg HwdSt.ownActs hhwd).trans hacts, (htold.reg (by decide) (by simp)).trans (Dev.reg_setReg _ _ _),
    htold.pend.eventPending (by decide) ((PendKept.setReg e _ (by decide)).eventPending (by decide) hevent)⟩

/-- A token taken does not change what a record is judged by. -/
theorem Dev.ownOk_tokens (tk : FMap (Nat × Nat)) (r : OwnRec) (a : OwnAct) (d : Dev) :
    (({ d with hwd := { d.hwd with tokens := tk } } : Dev).ownRecOk r a && ({ d with hwd := { d.hwd with tokens := tk } } : Dev).ownActOk a) =
      (d.ownRecOk r a && d.ownActOk a) := by
  have acts : ({ d with hwd := { d.hwd with tokens := tk } } : Dev).ownActOk a = d.ownActOk a := by
    cases a <;> rfl
  rw [acts]
  rfl

section
variable {r : OwnRec} {a : OwnAct} {s : State}

theorem ownCmd_closed (h : s.dev.session r.sess = none) : ownCmd r a s = .next s := by
  unfold ownCmd
  rw [h]

variable {y : Session} (h : s.dev.session r.sess = some y)
include h

/-- The record's checks give the device `d`, the status and the body that are answered. -/
theorem ownCmd_answers {d : Dev} {st : Nat} {body : List Nat} (hcheck : s.dev.checkReq r.sess 0 25 0 false y (Dev.takeRecord r a) = (d, st, body)) :
    ownCmd r a s = .next { s with dev := d.answer st body } := by
  unfold ownCmd
  rw [h]
  refine next_dev_congr ?_
  dsimp only
  rw [hcheck]

theorem ownCmd_rate (htoken : (s.dev.takeToken r.sess y).2 = false) : ∃ t, ownCmd r a s = .next t ∧ t.dev.hwd.ownActs = s.dev.hwd.ownActs ∧
    t.dev.hwd.reply = (2, []) ∧ RegsKept [A.hwdRate, A.hwdOvf] s.dev t.dev ∧ DevOnly s t := by
  obtain ⟨hacts, hregs⟩ := Dev.takeToken_refused htoken
  exact ⟨_, ownCmd_answers h ((Dev.checkReq_owner _ _ _ _).trans (if_pos (by simp [htoken]))), hacts, rfl, hregs, rfl, rfl⟩

section
variable (htoken : (s.dev.takeToken r.sess y).2 = true)
include htoken

theorem ownCmd_denied (hcap : s.dev.holds y 25 = false) : ∃ t, ownCmd r a s = .next t ∧ t.dev.hwd.ownActs = s.dev.hwd.ownActs ∧
    t.dev.hwd.reply = (4, []) ∧ t.dev.regs = s.dev.regs ∧ DevOnly s t := by
  obtain ⟨tk, htk⟩ := Dev.takeToken_taken htoken
  have hacts : (s.dev.takeToken r.sess y).1.hwd.ownActs = s.dev.hwd.ownActs := by rw [htk]
  have hregs : (s.dev.takeToken r.sess y).1.regs = s.dev.regs := by rw [htk]
  exact ⟨_, ownCmd_answers h ((Dev.checkReq_owner _ _ _ _).trans ((if_neg (by simp [htoken])).trans (if_pos (by simp [hcap])))), hacts, rfl, hregs, rfl, rfl⟩

section
variable (hcap : s.dev.holds y 25 = true)
include hcap

theorem ownCmd_suspended (hsusp : s.dev.suspended y = true) : ∃ t, ownCmd r a s = .next t ∧ t.dev.hwd.ownActs = s.dev.hwd.ownActs ∧
    t.dev.hwd.reply = (5, []) ∧ t.dev.regs = s.dev.regs ∧ DevOnly s t := by
  obtain ⟨tk, htk⟩ := Dev.takeToken_taken htoken
  have hacts : (s.dev.takeToken r.sess y).1.hwd.ownActs = s.dev.hwd.ownActs := by rw [htk]
  have hregs : (s.dev.takeToken r.sess y).1.regs = s.dev.regs := by rw [htk]
  exact ⟨_, ownCmd_answers h ((Dev.checkReq_owner _ _ _ _).trans ((if_neg (by simp [htoken])).trans ((if_neg (by simp [hcap])).trans (if_pos hsusp)))),
    hacts, rfl, hregs, rfl, rfl⟩

variable (hserved : s.dev.suspended y = false)
include hserved

omit h in
/-- A record that its session may carry is judged, by what the device was before the token was taken. -/
theorem ownCmd_judged : ∃ d, s.dev.checkReq r.sess 0 25 0 false y (Dev.takeRecord r a) = Dev.takeRecord r a d ∧ d.hwd.ownActs = s.dev.hwd.ownActs ∧
    d.regs = s.dev.regs ∧ d.stampDue = s.dev.stampDue ∧ (d.ownRecOk r a && d.ownActOk a) = (s.dev.ownRecOk r a && s.dev.ownActOk a) := by
  obtain ⟨tk, htk⟩ := Dev.takeToken_taken htoken
  refine ⟨_, (Dev.checkReq_owner _ _ _ _).trans ((if_neg (by simp [htoken])).trans ((if_neg (by simp [hcap])).trans
    (if_neg (ne_true_of_eq_false hserved)))), ?_⟩
  rw [htk]
  exact ⟨rfl, rfl, rfl, s.dev.ownOk_tokens tk r a⟩

theorem ownCmd_accepts (hok : (s.dev.ownRecOk r a && s.dev.ownActOk a) = true) : ∃ t, ownCmd r a s = .next t ∧
    t.dev.hwd.ownActs = s.dev.hwd.ownActs ++ [(s.dev.stampDue, a)] ∧ t.dev.reg A.hwdOwnseq = BitVec.ofNat 32 (ownSeq r) ∧
    t.dev.hwd.reply = (0, [0]) ∧ t.dev.eventPending 310 = true ∧ DevOnly s t := by
  obtain ⟨d, hcheck, hacts, -, hdue, hsame⟩ := ownCmd_judged (r := r) (a := a) htoken hcap hserved
  obtain ⟨e, htaken, hkept, hseq, hevent⟩ := Dev.takeRecord_accepts (hsame.trans hok)
  rw [hacts, hdue] at hkept
  exact ⟨_, ownCmd_answers h (hcheck.trans htaken), hkept, hseq, rfl, hevent, rfl, rfl⟩

theorem ownCmd_refuses (hbad : (s.dev.ownRecOk r a && s.dev.ownActOk a) = false) : ∃ t, ownCmd r a s = .next t ∧
    t.dev.hwd.ownActs = s.dev.hwd.ownActs ∧ t.dev.hwd.reply = (8, [1]) ∧ t.dev.eventPending 310 = true ∧ RegsKept [] s.dev t.dev ∧ DevOnly s t := by
  obtain ⟨d, hcheck, hacts, hregs, -, hsame⟩ := ownCmd_judged (r := r) (a := a) htoken hcap hserved
  exact ⟨_, ownCmd_answers h (hcheck.trans (Dev.takeRecord_refuses (hsame.trans hbad))), (d.ownActs_raise 310 0).trans hacts, rfl,
    d.raise_pending (by decide) 0, (RegsKept.of_regs [] hregs).trans (Told.raise [] d (by decide) 0).regs, rfl, rfl⟩

end
end
end
end Sys2Proof.Machine
end

section
/-! Sessions and ownership together (13 R442-R469, 14 R488-R489). -/

namespace Sys2Proof.Machine
open Sys2Proof

/-- Every Owner record runs as one command of its session. -/
theorem exec_own (r : OwnRec) (n h u x z k : Nat) (w : Option Nat) (c : Option TenantSlot) (s : State) (i : Instr) (a : OwnAct)
    (hi : (i, a) ∈ [(Instr.ownOwnerkey r k x, OwnAct.ownerKey k x), (.ownRolekey r z k x, .roleKey z k x), (.ownTenant r k c, .tenant k c),
      (.ownAccept r n h u w, .accept n h u w), (.ownFloor r k x, .floor k x), (.ownTwinpair r x u, .twinPair x u), (.ownKtrotate r, .ktRotate),
      (.ownRelease r, .release)]) : exec i s = ownCmd r a s := by
  simp only [List.mem_cons, Prod.mk.injEq, List.not_mem_nil, or_false] at hi
  obtain ⟨rfl, rfl⟩ | ⟨rfl, rfl⟩ | ⟨rfl, rfl⟩ | ⟨rfl, rfl⟩ | ⟨rfl, rfl⟩ | ⟨rfl, rfl⟩ | ⟨rfl, rfl⟩ | ⟨rfl, rfl⟩ := hi
  · rfl
  · rfl
  · rfl
  · rfl
  · rfl
  · rfl
  · rfl
  · rfl

section
variable {hs : Handshake} {s : State} (htmode : s.dev.rbit A.sysStrap 2 = false) (hserved : s.dev.hwd.recovery = false ∨ hs.port = 0)
include htmode hserved

theorem handshakeRefused_untested (h : s.dev.hwdOk = false) : HandshakeRefused hs none s :=
  handshakeRefused_of htmode (a := none) (State.handshake_untested hserved h)

variable (hok : s.dev.hwdOk = true)
include hok

theorem handshakeRefused_version (h : 0x0304 ∉ hs.versions) : HandshakeRefused hs (some 70) s :=
  handshakeRefused_of htmode (a := some .protocolVersion) (State.handshake_profile hserved hok (profileAlert_version h))

variable (hv : 0x0304 ∈ hs.versions)
include hv

theorem handshakeRefused_profile (h : ¬ProfileOffered hs) : HandshakeRefused hs (some 40) s :=
  handshakeRefused_of htmode (a := some .handshakeFailure) (State.handshake_profile hserved hok (profileAlert_failure hv h))

variable (hoffer : ProfileOffered hs)
include hoffer

theorem handshakeRefused_unsigned (h : ¬SchemeSigned hs) : HandshakeRefused hs (some 51) s :=
  handshakeRefused_of htmode (a := some .decryptError) (State.handshake_unsigned hserved hok (profileAlert_none hv hoffer)
    (Bool.eq_false_iff.2 fun hsig => h ((clientSigned_iff hs).1 hsig)))

variable (hsig : SchemeSigned hs)
include hsig

section
variable (hun : s.dev.rbit A.hwdStat 31 = false)
include hun

omit htmode in
theorem State.handshake_asUnclaimed : s.handshake hs = s.finish hs s.dev.freeSession false { unclaimed := true, ownAddr := hs.ownAddress } :=
  State.handshake_unclaimed hserved hok (profileAlert_none hv hoffer) ((clientSigned_iff hs).2 hsig) hun

theorem handshake_opens_unclaimed (hfin : hs.finishedOk = true) (hroom : s.dev.openSessions < 64) : ∃ t y, exec (.sessionHandshake hs) s = .next t ∧
    t.dev.session s.dev.freeSession = some y ∧ y.unclaimed = true ∧ y.ver = 0 ∧ y.e = 1 ∧ t.dev.eventPending 305 = true ∧
    RegsKept [A.pwrStat] s.dev t.dev ∧ (s.dev.pstate ≠ 2 → RegsKept [] s.dev t.dev) ∧ t.pending = s.pending := by
  obtain ⟨⟨y, hy, hcore⟩, hevent, hregs, hawake, hpending⟩ :=
    s.openSession_opens s.dev.freeSession { unclaimed := true, ownAddr := hs.ownAddress }
  exact ⟨_, y, exec_handshake_opens htmode (State.handshake_asUnclaimed hserved hok hv hoffer hsig hun) hfin hroom, hy,
    (congrArg Session.unclaimed hcore :), (congrArg Session.ver hcore :), (congrArg Session.e hcore :), hevent, hregs, hawake, hpending⟩

end

variable (hclaimed : s.dev.rbit A.hwdStat 31 = true) (howner : ∀ p ∈ s.dev.hwd.ownerKeys, p.2 ≠ hs.keyHash)
include hclaimed howner

theorem handshakeRefused_unknown (h : s.dev.hwd.slotByKey hs.keyHash = none) : HandshakeRefused hs (some 46) s :=
  handshakeRefused_of htmode (a := some .certificateUnknown)
    (State.handshake_unknown hserved hok (profileAlert_none hv hoffer) ((clientSigned_iff hs).2 hsig) hclaimed howner h)

variable {p : Nat × TenantSlot} (hslot : s.dev.hwd.slotByKey hs.keyHash = some p)
include hslot

theorem handshakeRefused_expired (h : s.dev.slotValid p.2 = false) : HandshakeRefused hs (some 45) s :=
  handshakeRefused_of htmode (a := some .certificateExpired)
    ((State.handshake_slot hserved hok (profileAlert_none hv hoffer) ((clientSigned_iff hs).2 hsig) hclaimed howner hslot).trans
      (if_neg (ne_true_of_eq_false h)))

variable (hvalid : s.dev.slotValid p.2 = true)
include hvalid

omit htmode in
theorem State.handshake_asTenant : s.handshake hs = s.finish hs p.1 p.2.emerg { slot := p.1, ownAddr := hs.ownAddress } :=
  (State.handshake_slot hserved hok (profileAlert_none hv hoffer) ((clientSigned_iff hs).2 hsig) hclaimed howner hslot).trans (if_pos hvalid)

theorem handshake_opens_tenant (hfin : hs.finishedOk = true) (hroom : s.dev.openSessions < 64) : ∃ t y, exec (.sessionHandshake hs) s = .next t ∧
    t.dev.session p.1 = some y ∧ y.slot = p.1 ∧ y.unclaimed = false ∧ y.owner = false ∧ y.ver = 0 ∧ y.e = 1 ∧ t.dev.eventPending 305 = true ∧
    t.pending = s.pending := by
  obtain ⟨⟨y, hy, hcore⟩, hevent, -, -, hpending⟩ := s.openSession_opens p.1 { slot := p.1, ownAddr := hs.ownAddress }
  exact ⟨_, y, exec_handshake_opens htmode (State.handshake_asTenant hserved hok hv hoffer hsig hclaimed howner hslot hvalid) hfin hroom, hy,
    (congrArg Session.slot hcore :), (congrArg Session.unclaimed hcore :), (congrArg Session.owner hcore :), (congrArg Session.ver hcore :),
    (congrArg Session.e hcore :), hevent, hpending⟩

end

/-- A device that is unclaimed and serves: nothing bars the first CLAIM of the session. -/
theorem claim_unbarred {s : State} {x : Session} (hstat : s.dev.rbit A.hwdStat 31 = false) (hun : x.unclaimed = true) (htried : x.tried = false)
    (hrec : s.dev.hwd.recovery = false) (hfails : s.dev.claimFails.length < 5) : ¬s.dev.ClaimBarred x := by
  unfold Dev.ClaimBarred
  rw [hstat, hun, htried, hrec]
  simpa using hfails

/-- Settles O55: clause by clause, each command by its own lemma. -/
theorem sessionsAndOwnership : Obligations.SessionsAndOwnership := by
  unfold Obligations.SessionsAndOwnership
  intro s
  refine ⟨fun _ z kb mac => claim_closed z kb mac, fun _ z kb mac _ => claim_barred z kb mac, fun n z kb mac x h hstat hun htried hrec hfails => ?_,
    sessionHandshake_tmode, fun _ => sessionHandshake_recovery, fun hs htmode hserved => ?_, handshakeTimeout_counts s, fun _ _ => keyupdate_moves,
    fun _ => exec_session_closed, fun _ _ => sessionExpiry_unchecked, fun _ _ => sessionExpiry_closes, fun r n h u x z k w c i a hi => ?_,
    firmwareFloorRaise_raises s, trngHealthFail_shows s, hwdTestEnd_passes s, hwdTestEnd_fails s, fun _ _ _ _ _ h => fspHello_chooses h,
    fun _ _ _ _ h => fspHello_closes h, fun _ _ _ _ h => fspHello_again h, fun _ q _ => fspBye_closes q⟩
  · have hfree := claim_unbarred hstat hun htried hrec hfails
    exact ⟨claim_takes h hfree hun, claim_refused h hfree⟩
  · exact ⟨handshakeRefused_untested htmode hserved, handshakeRefused_version htmode hserved, handshakeRefused_profile htmode hserved,
      handshakeRefused_unsigned htmode hserved, fun hok hv hoffer hsig =>
      ⟨fun hun => ⟨handshakeRefused_finish htmode (State.handshake_asUnclaimed hserved hok hv hoffer hsig hun),
          handshakeRefused_full htmode (State.handshake_asUnclaimed hserved hok hv hoffer hsig hun),
          handshake_opens_unclaimed htmode hserved hok hv hoffer hsig hun⟩,
        fun hclaimed howner => ⟨handshakeRefused_unknown htmode hserved hok hv hoffer hsig hclaimed howner, fun p hslot =>
          ⟨handshakeRefused_expired htmode hserved hok hv hoffer hsig hclaimed howner hslot,
            fun hvalid => handshakeRefused_finish htmode (State.handshake_asTenant hserved hok hv hoffer hsig hclaimed howner hslot hvalid),
            handshake_opens_tenant htmode hserved hok hv hoffer hsig hclaimed howner hslot⟩⟩⟩⟩
  · rw [exec_own r n h u x z k w c s i a hi]
    exact ⟨ownCmd_closed, fun _ => ownCmd_rate, fun _ hy htoken => ⟨ownCmd_denied hy htoken, ownCmd_suspended hy htoken, fun hcap hserved =>
      ⟨ownCmd_accepts hy htoken hcap hserved, ownCmd_refuses hy htoken hcap hserved⟩⟩⟩

end Sys2Proof.Machine
end
